-- ==== Sys2Proof/Word.lean ====
section
/-! DEFINITION. The plain types every other file uses: bytes, and the sparse map. -/
namespace Sys2Proof

/-- A byte of memory, of a frame or of a packet (R4: all multi-byte values are little-endian). -/
abbrev Byte := BitVec 8

/-- A byte string, the byte at the lowest address or offset first. -/
abbrev Bytes := List Byte

/-- A sparse table: what is not listed holds its default record. -/
abbrev AMap (α : Type) := List (Nat × α)

end Sys2Proof
end

