-- ==== Sys2Proof/Syntax.lean ====
section
/-! DEFINITION. The commands and events of a Devik package, one constructor of `Instr` for each row of
spec/opcode_table.json, and the data they carry. -/
namespace Sys2Proof

/-- The two masters of the mailbox (R390). Oagal at level 2 sends at the management network's rank. -/
inductive Master
  | host
  | mgmt
deriving DecidableEq, Repr, Inhabited

/-- A fabric packet: the header fields of R285, R286 and R287, and its payload. Fields that R286 and
R287 lay over the same bits are held apart; `rsvd` is what the reserved header bits carry. Log: 83 DESIGN CHOICE. -/
structure Packet where
  addr : Nat := 0
  opcode : Nat := 0
  srcNode : Nat := 0
  port : Nat := 0
  vc : Nat := 1
  colour : Nat := 0
  part : Nat := 0
  epoch : Bool := false
  len : Nat := 0
  ctr : Nat := 0
  ctrEn : Bool := false
  last : Bool := false
  poison : Bool := false
  fwd : Bool := false
  tag : Nat := 0
  status : Nat := 0
  chk : Bool := false
  aop : Nat := 0
  size : Nat := 0
  term : Bool := false
  chkLen : Nat := 0
  ctrGrp : Nat := 0
  rsvd : Nat := 0
  crc : Nat := 0
  /-- Chunk × 4 + sub-chunk of a collective packet (R287). -/
  chunk : Nat := 0
  /-- Collective group number (R287). -/
  group : Nat := 0
  /-- Operation digest (R250, R287). -/
  digest : Nat := 0
  payload : Bytes := []
  /-- Not a header field: the port through which the packet entered the package, 0x7F for a packet
  that the package originated (R349). -/
  inPort : Nat := 0x7F
  /-- Not a header field: the node that holds the addressed tile, for an access sent by its location (R83, R88); set in a
  completion once it carries its end point's own tag (R293). -/
  holder : Option Nat := none
  /-- Not a header field: the address that an access names, where ADDR is its place in a lend region (R79). -/
  names : Option Nat := none
deriving DecidableEq, Repr, Inhabited

/-- A link frame: 256 payload bytes and the trailer of R359. -/
structure Frame where
  payload : Bytes := []
  crc : Nat := 0
  seq : Nat := 0
  side : Bool := false
  ackSeq : Nat := 0
  nak : Bool := false
  pool : Nat := 0
  part : Nat := 0
  count : Nat := 0
  /-- The frame overlaps an uncorrectable FEC codeword (R362). -/
  fecBad : Bool := false
deriving DecidableEq, Repr, Inhabited

/-- What a package or end point of the manifest is (R458). -/
structure PkgEntry where
  node : Nat := 0          -- tray × 16 + node
  spine : Bool := false
  sideB : Bool := false
deriving DecidableEq, Repr, Inhabited

/-- A port's manifest entry: its neighbour's node and port, and whether that is an end point (R458). -/
structure PortEntry where
  node : Nat := 0
  port : Nat := 0
  endPoint : Bool := false
deriving DecidableEq, Repr, Inhabited

/-- The topology manifest as one package reads it (R458). -/
structure Manifest where
  version : Nat := 0
  own : PkgEntry := {}
  packages : List PkgEntry := []
  ports : AMap PortEntry := []        -- ports listed present
  endPoints : List Nat := []          -- tray × 16 + node
  links : List (Nat × Nat) := []      -- pairs of packages joined by a link
  witnesses : List Nat := []
  timekeeper : Option Nat := none
  alternate : Option Nat := none
  regulators : List Nat := []
  minUp : Nat := 0
  minStacks : Nat := 0
  requiresPartner : Bool := false
deriving DecidableEq, Repr, Inhabited

/-- A credential for OWNER_SET and CRED_SET: the claim code of the label, or a signed object of TYPE 6 (R491). -/
inductive CredAuth
  | claim (code : Bytes)
  | signed (object : Bytes)
deriving DecidableEq, Repr, Inhabited

/-- SPDM 1.3 requests (R492), without GET_MEASUREMENTS, which has a row of its own. -/
inductive SpdmReq
  | getVersion
  | getCapabilities
  | negotiateAlgorithms
  | getDigests
  | getCertificate
  | challenge
  | keyExchange
  | finish (session : Nat)
  | heartbeat (session : Nat)
  | keyUpdate (session : Nat)
  | endSession (session : Nat)
  | other (code : Nat)
deriving DecidableEq, Repr, Inhabited

/-- PCI Express configuration requests that change what this manual reads (R46, R49, R57, R385). -/
inductive ConfigOp
  | read
  | atsEnable (on : Bool)
  | priEnable (on : Bool)
  | functionMask (on : Bool)
deriving DecidableEq, Repr, Inhabited

/-- An inbound lane of a stack or scratchpad (R260). -/
inductive Lane
  | package
  | tray
  | rack
deriving DecidableEq, Repr, Inhabited

/-- What a hub die's lanes lead to: a stack, or a group's scratchpad (R260). -/
inductive Target
  | stack (n : Nat)
  | spad (g : Nat)
deriving DecidableEq, Repr, Inhabited

/-- A notice of the table-change procedure or of pair recovery reports of a witness (R464). -/
structure WitnessReport where
  node : Nat := 0
  /-- The frame in which the witness last heard the partner. -/
  heard : Nat := 0
deriving DecidableEq, Repr, Inhabited

/-- A sequence-context record in migration (R221). -/
structure SeqRecord where
  desc : BitVec 512 := 0
  lens : AMap Nat := []
  fromNode : Nat := 0
  fromCtx : Nat := 0
  stripeBase : Nat := 0
  move : Bool := false
deriving DecidableEq, Repr, Inhabited

/-- A node of a collective group as the apex installs it (R258). -/
structure NodeDesc where
  group : Nat := 0
  part : Nat := 0
  n : Nat := 2
  window : Nat := 128
  apexNode : Nat := 0
  members : List (Nat × BitVec 64) := []   -- the members below this node, with their indices
  childNodes : List Nat := []              -- at the apex: the other level-1 nodes
  die : Option Nat := none
  tmo : Nat := 10
deriving DecidableEq, Repr, Inhabited

/-- The commands and events. Mailbox commands carry the master that sent them and the fields of their
request in the order of their table; commands of a command list carry the queue that holds them; packets are
carried whole; what the physical world decides (a measured power, a self-test's outcome, the erroneous symbols
an access meets) is an operand. Log: 1 DEDUCED, 17 DESIGN CHOICE. -/
inductive Instr
  -- mailbox: identity, partitions and contexts
  | identify (m : Master)
  | mbxInfo (m : Master) (clear : Bool)
  | sensorGet (m : Master) (first count : Nat)
  | logRead (m : Master) (first count : Nat)
  | hostPartsSet (m : Master) (mask : BitVec 64)
  | partStart (m : Master) (part : Nat)
  | partStop (m : Master) (part : Nat)
  | ctxSet (m : Master) (ctx : Nat) (desc : BitVec 64)
  | ctxClear (m : Master) (ctx : Nat)
  | segSet (m : Master) (ctx slot : Nat) (desc : BitVec 128)
  | segClear (m : Master) (ctx slot : Nat)
  | bindSet (m : Master) (node part ctx : Nat)
  | bindClear (m : Master) (node part : Nat)
  | ctxGet (m : Master) (ctx : Nat)
  | xlatFlush (m : Master) (ctx : Nat)
  | listAbortCmd (m : Master) (g listId : Nat)
  -- mailbox: topology and discovery, packets, links, time
  | manifestLoad (m : Master) (index count : Nat) (fragment : Bytes)
  | discoveryGet (m : Master) (first count : Nat)
  | quarantineClear (m : Master) (port : Nat)
  | pairGet (m : Master)
  | pairFailover (m : Master) (solo : Bool)
  | pairRestore (m : Master) (frame : Nat)
  | pktCtrlSet (m : Master) (loadTmo : Nat) (localise : Bool)
  | deadSet (m : Master) (node : Nat)
  | deadClear (m : Master) (node : Nat)
  | pktStats (m : Master) (clear : Bool)
  | linkSet (m : Master) (ports : BitVec 128) (value : BitVec 32)
  | linkRetrain (port : Nat)
  | linkDown (port : Nat)
  | linkGet (m : Master) (first count : Nat)
  | timeSet (m : Master) (role base steerLimit : Nat)
  | timeGet (m : Master)
  | timeAccept (m : Master)
  -- mailbox: placement policy
  | policySet (m : Master) (part : Nat) (block : BitVec 128)
  | policyGet (m : Master) (part : Nat)
  | budgetSet (m : Master) (settings : BitVec 64)
  | parcelSet (m : Master) (first count op owner cls pin : Nat)
  | parcelGet (m : Master) (parcel : Nat)
  | move (m : Master) (parcel : Nat) (dest : BitVec 32)
  | evacuate (m : Master) (stack : Nat) (force : Bool)
  | lendSet (m : Master) (region : Nat) (host : Bool) (holder base count : Nat)
  | lendClear (m : Master) (region : Nat)
  | mirrorReserveSet (m : Master) (perStack : Nat)
  | maintSet (m : Master) (hours : Nat)
  | placeStats (m : Master) (clear : Bool)
  -- mailbox: power
  | powerSet (m : Master) (capFrame : Nat) (cfg : BitVec 64)
  | powerGet (m : Master)
  | powerPlanGet (m : Master)
  | powerHeartbeat (m : Master)
  | powerResume (m : Master)
  | flowReport (m : Master) (loss : Bool)
  -- mailbox: faults
  | faultGet (m : Master) (seq : Nat)
  | faultSet (m : Master) (cls inst reaction : Nat)
  | faultAck (m : Master) (seq : Nat)
  | unitFence (m : Master) (cls inst : Nat)
  | unitReturn (m : Master) (cls inst : Nat) (selfTest : Bool)
  | warmReset (m : Master)
  | faultInject (m : Master) (cls inst cause count : Nat)
  -- mailbox: update, security
  | updateBegin (m : Master) (bytes : Nat)
  | updateData (m : Master) (offset : Nat) (data : Bytes)
  | updateVerify (m : Master)
  | updateCommit (m : Master) (flashOk : Bool)
  | updateActivate (m : Master) (comp : Nat) (mask : Nat) (force : Bool)
  | updateStatus (m : Master)
  | updateAbort (m : Master)
  | ownerSet (m : Master) (auth : CredAuth) (rsaKey slhKey : Bytes)
  | credSet (m : Master) (auth : CredAuth) (anchors : List Bytes)
  | credGet (m : Master)
  | svnRaise (m : Master)
  | keyRevoke (m : Master) (pair : Nat)
  | oagalLock (m : Master)
  | sluiceStart (m : Master) (session : Nat)
  | sluiceRekey (m : Master)
  -- mailbox: sequence contexts, collective groups, routing tables
  | seqRegister (m : Master) (desc : BitVec 512)
  | seqGet (m : Master) (ctx first : Nat)
  | seqRelease (m : Master) (ctx : Nat)
  | seqTruncate (m : Master) (ctx len : Nat)
  | seqMigrate (m : Master) (ctx dest stripeBase : Nat) (move : Bool)
  | seqStats (m : Master) (clear : Bool)
  | collCreate (m : Master) (group part n window tmo : Nat)
  | collMembers (m : Master) (group first : Nat) (entries : List (BitVec 64)) (dies : List (Nat × Nat))
  | collCommit (m : Master) (group : Nat)
  | collDestroy (m : Master) (group : Nat)
  | collReset (m : Master) (group : Nat)
  | collAbort (m : Master) (group : Nat)
  | collGet (m : Master) (group : Nat)
  | collCellsSet (m : Master) (die share : Nat)
  | collStats (m : Master) (clear : Bool)
  | routeStage (m : Master) (version first : Nat) (entries : List (BitVec 1024))
  | routeCommit (m : Master) (version drain drainFrames : Nat) (affected : BitVec 512) (root : Nat)
  | routeGet (m : Master) (bank first count : Nat)
  | shareSet (m : Master) (shares : List Nat)
  | shareGet (m : Master)
  | meterSet (m : Master) (part : Nat) (meter : BitVec 128)
  | dropSet (m : Master) (yellow red : BitVec 64)
  | riffleSet (m : Master) (die index : Nat) (filter : BitVec 64) (events wrap : Bool)
  | riffleRead (m : Master) (die seq : Nat)
  | routeStats (m : Master) (clear : Bool)
  -- mailbox service, management network, SPDM, Oagal
  | mgmtConnectionOpen (tls13 : Bool) (chain : Bytes)
  | mgmtMessage (conn kind slot rsvd length : Nat) (body : Bytes)
  | spdmRequest (transport : Nat) (req : SpdmReq)
  | getMeasurements (transport index : Nat) (nonce : Bytes)
  | oagalUnlock (token : Bytes)
  | oagalRecover (image : Bytes) (flashOk : Bool)
  | oagalRd (addr : Nat)
  | oagalMbx (frame : Bytes)
  | oagalWr (addr : Nat) (value : BitVec 64)
  | configRequest (op : ConfigOp)
  -- command lists
  | listDb (g : Nat) (value : BitVec 64)
  | listLoad (g part : Nat) (value : BitVec 64)
  | listAbort (g part : Nat) (value : BitVec 64)
  | counterAdd (g ctr part : Nat) (amount : BitVec 32)
  | counterIncreaseApply (g : Nat)
  | commandDispatch (g listId : Nat)
  | sliceArbitration (g engine : Nat)
  | nop (g engine queue : Nat)
  | wait (g engine queue : Nat)
  | signal (g engine queue : Nat)
  | fence (g engine queue : Nat)
  | trap (g engine queue : Nat)
  | halt (g engine queue : Nat)
  | mma (g queue : Nat)
  | mmaScaled (g queue : Nat)
  | vop (g queue : Nat)
  | vred (g queue : Nat)
  | loadt (g queue : Nat)
  | storet (g queue : Nat)
  | dmaNd (g queue : Nat)
  | attn (g queue : Nat)
  | kvappend (g queue : Nat)
  | appendLengthAdvance (ctx layer : Nat)
  | collJoin (g queue : Nat)
  | collScheduledStart (g queue : Nat)
  | collWait (g queue : Nat)
  | atomic (g queue : Nat)
  | commandComplete (g engine queue index : Nat)
  | listRelease (g listId : Nat)
  | waitTimeout (g engine queue : Nat)
  | fenceTimeout (g engine queue : Nat)
  | tileDelivered (g queue : Nat)
  | pageRequestResponse (g queue code : Nat)
  -- host memory and the host interface
  | translationCompletion (index : Nat) (readOk writeOk : Bool) (base size taddr : Nat)
  | atsInvalidationRequest (tag pasid base size : Nat)
  | invalidationComplete (tag : Nat)
  | hostReadCompletion (index : Nat) (ok : Bool) (data : Bytes)
  | bar2Read (offset len : Nat)
  | bar2Write (offset : Nat) (data : Bytes)
  | popRead (q : Nat) (whole misdirected : Bool)
  | qcfgWrite (q : Nat) (value : BitVec 64)
  | queueArm (q : Nat)
  | qreset (q : Nat)
  | qstatusFlagClear (q : Nat) (underrun overflow broken : Bool)
  | msixUnmask (vec : Nat)
  | sluiceDb (value : BitVec 64)
  | sluiceRingWrite (value : BitVec 64)
  | sluiceDescriptor (desc : BitVec 512) (segments : List (Bytes × Nat))
  | linkErrClr (port : Nat)
  | registerWrite (offset size value : Nat)
  -- packets
  | inv (p : Packet)
  | ctxFence (p : Packet)
  | rd (p : Packet)
  | rdv (p : Packet)
  | wr (p : Packet)
  | wrp (p : Packet)
  | atom (p : Packet)
  | red (p : Packet)
  | ctrl (p : Packet)
  | cpl (p : Packet)
  | cplData (p : Packet)
  | cplPosted (p : Packet)
  | join (p : Packet)
  | contrib (p : Packet)
  | partialPkt (p : Packet)
  | result (p : Packet)
  | ack (p : Packet)
  | nack (p : Packet)
  | done (p : Packet)
  | abort (p : Packet)
  | reset (p : Packet)
  -- collectives
  | confluenceCombine (die : Nat)
  | resultVerdict (g slot chunk : Nat)
  | collTimeout (group : Nat)
  | collWaitTimeout (g slot : Nat)
  | collNodeInstall (desc : NodeDesc) (install : Bool)
  -- checked chunks, accesses, trackers
  | chunkVerdict (srcNode port block : Nat)
  | chunkOpenTimeout (srcNode port block : Nat)
  | accessPerformed (target : Target) (lane : Lane) (badSymbols : Nat)
  | loadTimeout (index : Nat)
  | tagHoldExpiry (index : Nat)
  | busyRetry (index : Nat)
  -- routing
  | packetRoute (port vc : Nat)
  | outputArbitration (port : Nat)
  | escapeMove (port vc : Nat)
  | redPromotion (port : Nat)
  | packetAged (port vc : Nat)
  | queueCountExchange (die : Nat)
  | reach (port node : Nat) (lost : Bool)
  | drained (node frame : Nat)
  -- links
  | linkFrame (port : Nat) (frame : Frame)
  | replayTimeout (port : Nat)
  | timeBlock (port : Nat) (first second : BitVec 56) (late : Bool)
  | detect (port lane : Nat) (body : BitVec 56)
  | lock (port lane : Nat) (body : BitVec 56)
  | eq (port lane : Nat) (body : BitVec 56)
  | rate (port lane : Nat) (body : BitVec 56)
  | step (port lane : Nat) (body : BitVec 56)
  | ready (port lane : Nat) (body : BitVec 56)
  | idle (port lane : Nat) (body : BitVec 56)
  | wake (port lane : Nat) (body : BitVec 56)
  | retrain (port lane : Nat) (body : BitVec 56)
  | trainingTimeout (port : Nat)
  | rateStepTimeout (port : Nat)
  | retrainTimeout (port : Nat)
  | signalLoss (port lane : Nat)
  | trainingRestart (port : Nat)
  | idleEntry (port : Nat)
  | identityBlock (port partCode node peerPort version : Nat) (object : Bytes)
  | portMissing (port : Nat)
  -- pair recovery
  | heartbeat (node heard mirrorPerStack : Nat)
  | witnessAck (node heard : Nat)
  | promotion (reports : List WitnessReport)
  | failing (node : Nat)
  | seqMigrateRecord (rec : SeqRecord)
  | seqMigrateReply (ctx : Nat) (newCtx : Option Nat)
  -- time
  | frameStart (power : Nat)
  | racksyncEdge (good : Bool)
  -- placement and stacks
  | patrolScrub (stack atom badSymbols : Nat)
  | refreshSlot (index : Nat)
  | tileFlip (parcel : Nat)
  | moveComplete (parcel : Nat)
  -- power, thermal, supply
  | thermalSample (tj : Nat) (stackTemps plates : List Nat)
  | supplyWarning (millivolts : Nat)
  | supplyReset (role side slot : Nat)
  | regulatorPoll (index : Nat) (answer : Option Bool)
  | pmbAlert (index : Nat) (fault : Bool)
  | groupGate (g : Nat)
  -- resets, bring-up, faults
  | powerOn (role side slot : Nat)
  | resetN (role side slot : Nat)
  | headwaterBoot (selfTest : Bool)
  | stackJoin (stack : Nat) (ok : Bool)
  | faultRaise (cls inst cause status addr ctx part node : Nat)
  | mbxDb (slot : Nat)
  | serialiserHardwareWaitEnd (index : Nat)
  | mgmtConnectionClose (conn : Nat)
  | hostLinkStateChange (up flit : Bool) (speed width : Nat)
  -- Lean builds no constructor with fields past the 245th at run time: the rarest come last
  | spdmHeartbeatMiss (session : Nat)
  | oagalNet (sgmii : Bool) (addrs : Bytes)
  | oagalInject (cls inst cause count : Nat)
  | priTimeout (g queue : Nat)
  | interruptModerationExpiry (q : Nat)
  | msErrcntClr (stack : Nat)
  | resultRetainExpiry (group chunk : Nat)
  | tileCopyAbandon (parcel : Nat)
  | blockReturn (cls inst : Nat) (selfTest : Bool)
  | directoryRebuildDone (hd : Nat)
  | noProgressTimeout (g engine : Nat)
  -- without operands
  | mailboxServiceStart
  | oagalStatus
  | oagalChallenge
  | oagalSerialLock
  | oagalSensors
  | oagalLog
  | oagalHist
  | oagalJtag
  | oagalHalt
  | oagalStep
  | oagalNonceExpiry
  | oagalUnlockExpiry
  | priStoppedClear
  | routeHoldStart
  | routeDrainedSend
  | routeSwitch
  | routeFallbackSwitch
  | routeRetire
  | heartbeatSend
  | leaseLapse
  | pairSuspect
  | handback
  | rackclkLoss
  | numberSourceLoss
  | alternateTakeover
  | alternateStop
  | capStep
  | placementInterval
  | thermalTrip
  | supplyThrottleLift
  | safeSet
  | epoAssert
  | epoDeassert
  | d3hot
  | d0
  | standbyReentry
  | perstN
  | calibrationComplete
  | historyEntryWrite
  | wedgeDetect
  | watchdogExpiry
  | lockstepMismatch
  | logWrite
  | faultRecordFlash
  | handoverSwitch
deriving DecidableEq, Repr

end Sys2Proof
end

