-- ==== Sys2Proof/Config.lean ====
section
/-! DEFINITION. What the spec leaves to an implementation, to a published standard that it only names,
or to nobody: uninterpreted constants. Nothing in Lean can evaluate one or prove a value of it. -/
namespace Sys2Proof.Config

/-- The free values: `free n` is the value that the `n`-th choice the spec leaves open takes
(`State.fresh` counts the choices; log entry 3). Log: 3 DESIGN CHOICE. -/
opaque free : Nat → Nat

/-- Units in the last place by which an exponential differs from the rounded reference (R112: within
2 ulp). `Flags.lean` limits it; log entry 4. Log: 4 DEDUCED. -/
opaque expUlp : BitVec 32 → Int

/-- As `expUlp`, for the base-2 exponential (R112). -/
opaque exp2Ulp : BitVec 32 → Int

/-- As `expUlp`, for the reciprocal (R112: within 1 ulp). -/
opaque rcpUlp : BitVec 32 → Int

/-- As `expUlp`, for the reciprocal square root (R112: within 2 ulp). -/
opaque rsqrtUlp : BitVec 32 → Int

/-- Attention outputs are normalised by multiplying with the reciprocal (R112) rather than by dividing (R172, R216);
log entry 10. Log: 10 DEDUCED. -/
opaque normByRcp : Bool

/-- The set of a hub die's far-line cache that an atom falls into (R270: 131,072 copies in 16 ways), and the set of the
translation cache that a hash of the PASID and the address selects (R48); log entry 12. Log: 12 DEDUCED. -/
opaque farSet : (atom : Nat) → Nat
opaque atcSet : (pasid : Option Nat) → (base : Nat) → Nat

/-- SHA-384 (R484, R489, R493, R496), as the standard the manual names defines it; log entry 5. Log: 5 DEDUCED. -/
opaque sha384 : Bytes → Nat

/-- RSASSA-PSS with SHA-384 verifies `sig` over `record` under the key whose identifier is `key` (R485). -/
opaque rsaVerifies : (key record sig : Nat) → Bool

/-- SLH-DSA-SHA2-192s verifies `sig` over `record` under the key whose identifier is `key` (R485). -/
opaque slhVerifies : (key record sig : Nat) → Bool

/-- The signature block the package's identity pair makes over a record (R485, R494). -/
opaque identitySign : (record : Nat) → Bytes

/-- The key identifiers (RSA, SLH-DSA) of the Snival firmware pairs 0–3 and of the Snival service pair, which the fuses
hold (R487); whether a pair is the identity pair of a package with certificates from the Snival device CA. -/
opaque firmwarePair : Nat → Nat × Nat
opaque servicePair : Nat × Nat
opaque identityPair : (rsa slh : Nat) → Bool

/-- The certificate chain `chain` leads to the trust anchor `anchor` (R477). -/
opaque chainsTo : (chain anchor : Bytes) → Bool

/-- HKDF-Expand with SHA-384 of a session's export master secret, for a label and a key generation
(R403); the secret is named by its session. -/
opaque hkdf : (session label generation : Nat) → Nat

/-- AES-256-GCM decryption (R403, R406): the plaintext when the tag passes. -/
opaque gcmOpen : (key nonce aad : Nat) → (cipher : Bytes) → (tag : Nat) → Option Bytes

/-- AES-256-GCM encryption (R403, R406): ciphertext and tag. -/
opaque gcmSeal : (key nonce aad : Nat) → (plain : Bytes) → Bytes × Nat

/-- What the package fuses and its label hold from manufacture (R280, R393, R476, R491): the silicon
stepping, the serial number's 16 bytes, the claim code's 16 bytes. -/
opaque stepping : BitVec 8
opaque serial : Bytes
opaque claimCode : Bytes

/-- The MAC address of the management port, on the label (R476). -/
opaque mac : BitVec 48

/-- SHA-384 of the Headwater ROM (R493, block 1). -/
opaque romDigest : Nat

/-- The DER form of the owner's RSA key and its SLH-DSA key give the key identifiers (R485). -/
opaque keyId : Bytes → Nat

/-- What a manifest body says (R458): the manual lists what the document holds and gives no byte layout;
log entry 6. Log: 6 DEDUCED. -/
opaque manifestOf : Bytes → Manifest

end Sys2Proof.Config
end

