-- ==== Sys2Proof/Machine/Bits.lean ====
section
/-! DEFINITION. Bit fields, byte strings, saturating counts and the sparse map's operations. -/
namespace Sys2Proof.Machine

/-- Field [lo+w-1 : lo] of a word (R3). -/
def bits (x lo w : Nat) : Nat := (x >>> lo) % 2 ^ w

/-- Bit [n] of a word (R3). -/
def bitAt (x n : Nat) : Bool := bits x n 1 == 1

def b2n (b : Bool) : Nat := if b then 1 else 0

/-- A word from its fields, the least significant first: (width, value). -/
def pack : List (Nat × Nat) → Nat
  | [] => 0
  | (w, v) :: fs => v % 2 ^ w + 2 ^ w * pack fs

/-- The `n` bytes of a value, least significant first (R4). -/
def leBytes : Nat → Nat → Bytes
  | 0, _ => []
  | n + 1, v => BitVec.ofNat 8 v :: leBytes n (v / 256)

/-- The value of bytes, least significant first (R4). -/
def leNat : Bytes → Nat
  | [] => 0
  | b :: bs => b.toNat + 256 * leNat bs

/-- A `w`-bit field read as a two's complement number. -/
def signed (w x : Nat) : Int := if x % 2 ^ w < 2 ^ (w - 1) then (x % 2 ^ w : Nat) else (x % 2 ^ w : Nat) - 2 ^ w

/-- The `w`-bit two's complement code of a number. -/
def unsigned (w : Nat) (i : Int) : Nat := (i % (2 ^ w : Nat)).toNat

/-- A count that saturates at the largest value of its `w`-bit field. -/
def satAdd (w a b : Nat) : Nat := min (a + b) (2 ^ w - 1)

def ceilDiv (a b : Nat) : Nat := if b = 0 then 0 else (a + b - 1) / b

/-- The largest k with 2^k ≤ n. -/
def log2 (n : Nat) : Nat := n.log2

/-- Numbers lo, lo+1, …, of which there are n. -/
def range' (lo : Nat) : Nat → List Nat
  | 0 => []
  | n + 1 => lo :: range' (lo + 1) n

/-- The part of a byte string from `off`, `n` bytes, padded with zero bytes. -/
def slice (bs : Bytes) (off n : Nat) : Bytes :=
  let t := (bs.drop off).take n
  t ++ List.replicate (n - t.length) 0

/-- A byte string with `d` written at `off`. -/
def splice (bs : Bytes) (off : Nat) (d : Bytes) : Bytes :=
  slice bs 0 off ++ d ++ bs.drop (off + d.length)

end Sys2Proof.Machine

namespace Sys2Proof

/-- What stays of a set-associative cache listed most recently used first: of each set the first `ways`. -/
def keepWays {α : Type} (set : α → Nat) (ways : Nat) (l : List α) : List α :=
  if l.length ≤ ways then l
  else l.foldl (fun acc x => if acc.countP (fun y => set y == set x) < ways then acc ++ [x] else acc) []

/-- The record a table holds for `k`, or the default. -/
def AMap.get {α : Type} (dflt : α) : AMap α → Nat → α
  | [], _ => dflt
  | (k', v) :: t, k => if k = k' then v else AMap.get dflt t k

/-- Whether a table lists `k`. -/
def AMap.has {α : Type} : AMap α → Nat → Bool
  | [], _ => false
  | (k', _) :: t, k => k == k' || AMap.has t k

/-- What a table lists for `k`. -/
def AMap.find {α : Type} : AMap α → Nat → Option α
  | [], _ => none
  | (k', v) :: t, k => if k = k' then some v else AMap.find t k

/-- A table with the record of `k` replaced, or entered in its place. -/
def AMap.set {α : Type} : AMap α → Nat → α → AMap α
  | [], k, v => [(k, v)]
  | (k', v') :: t, k, v =>
    if k = k' then (k, v) :: t
    else if k < k' then (k, v) :: (k', v') :: t
    else (k', v') :: AMap.set t k v

/-- A table without `k`. -/
def AMap.erase {α : Type} (t : AMap α) (k : Nat) : AMap α := t.filter (fun e => e.1 != k)

/-- A table with the record of `k` changed by `f`. -/
def AMap.modify {α : Type} (dflt : α) (t : AMap α) (k : Nat) (f : α → α) : AMap α :=
  AMap.set t k (f (AMap.get dflt t k))

/-- Every record changed. -/
def AMap.mapVals {α β : Type} (f : Nat → α → β) (t : AMap α) : AMap β := t.map (fun e => (e.1, f e.1 e.2))

end Sys2Proof

namespace Sys2Proof.Machine

/-- The first element that passes a test, and its index. -/
def findIdx {α : Type} (p : α → Bool) (l : List α) : Option Nat := l.findIdx? p

/-- The best element of a list under a strict order, the first among equals. -/
def bestBy {α : Type} (better : α → α → Bool) : List α → Option α
  | [] => none
  | a :: t =>
    match bestBy better t with
    | none => some a
    | some b => if better b a then some b else some a

/-- Sum of a function over a list. -/
def sumBy {α : Type} (f : α → Nat) : List α → Nat
  | [] => 0
  | a :: t => f a + sumBy f t

/-- CRC, least significant bit first: one bit of the shift register. -/
def crcBit (poly c : Nat) : Nat := if c % 2 = 1 then (c / 2) ^^^ poly else c / 2

/-- CRC, least significant bit first: one byte. -/
def crcByte (poly c : Nat) (b : Byte) : Nat :=
  let c := c ^^^ b.toNat
  crcBit poly (crcBit poly (crcBit poly (crcBit poly (crcBit poly (crcBit poly (crcBit poly (crcBit poly c)))))))

/-- CRC-64 of R304. -/
def crc64 (d : Bytes) : Nat :=
  (d.foldl (crcByte 0xC96C5795D7870F42) 0xFFFFFFFFFFFFFFFF) ^^^ 0xFFFFFFFFFFFFFFFF

/-- CRC-32 of R250 and R360. -/
def crc32 (d : Bytes) : Nat := (d.foldl (crcByte 0xEDB88320) 0xFFFFFFFF) ^^^ 0xFFFFFFFF

/-- CRC-8 of R367, most significant bit first: one bit. -/
def crc8Bit (c : Nat) : Nat := if c ≥ 128 then (((c * 2) ^^^ 0x07) % 256) else (c * 2) % 256

/-- CRC-8 of R367 over bytes, polynomial 0x07, initial 0. -/
def crc8 (d : Bytes) : Nat :=
  d.foldl (fun c b =>
    let c := c ^^^ b.toNat
    crc8Bit (crc8Bit (crc8Bit (crc8Bit (crc8Bit (crc8Bit (crc8Bit (crc8Bit c)))))))) 0

end Sys2Proof.Machine
end

