-- ==== Sys2Proof/Machine/Flags.lean ====
section
/-! DEFINITION. Number formats and arithmetic (chapter 6, R112): decoding, exact values, rounding, conversion, FP32
operations, special-value flags, dot products, the vector engine's functions. -/
namespace Sys2Proof.Machine

/-! ## Format codes (R149) -/

def fFP32 : Nat := 1
def fBF16 : Nat := 2
def fFP16 : Nat := 3
def fE5M2 : Nat := 4
def fE4M3 : Nat := 5
def fE3M2 : Nat := 6
def fE2M3 : Nat := 7
def fE2M1 : Nat := 8
def fINT8 : Nat := 9
def fUINT8 : Nat := 10
def fINT4 : Nat := 11
def fUINT4 : Nat := 12
def fINT32 : Nat := 13
def fE8M0 : Nat := 14
def fL4 : Nat := 15

/-- Bits of an element of a format (R149). -/
def fmtBits (f : Nat) : Nat :=
  if f = fFP32 ∨ f = fINT32 then 32
  else if f = fBF16 ∨ f = fFP16 then 16
  else if f = fE3M2 ∨ f = fE2M3 then 6
  else if f = fE2M1 ∨ f = fINT4 ∨ f = fUINT4 ∨ f = fL4 then 4
  else if f = 0 then 0
  else 8

/-- Bytes that `n` elements of a format occupy (R150). -/
def eBytes (f n : Nat) : Nat := ceilDiv (n * fmtBits f) 8

def isFloatFmt (f : Nat) : Bool := decide (1 ≤ f ∧ f ≤ 8)
/-- The narrow output formats of R193. -/
def isNarrow (f : Nat) : Bool := decide ((2 ≤ f ∧ f ≤ 8) ∨ f = fL4)

/-! ## Exact values -/

/-- An exact value: NaN, an infinity, or (−1)^neg × m × 2^e. -/
inductive Num
  | nan
  | inf (neg : Bool)
  | fin (neg : Bool) (m : Nat) (e : Int)
deriving DecidableEq, Repr, Inhabited

/-- How a float format encodes specials: IEEE 754, E4M3's one NaN, or none (R180). -/
inductive Special
  | ieee
  | e4m3
  | none
deriving DecidableEq, Repr

/-- The layout of a float format (R180). -/
structure FFmt where
  eb : Nat
  mb : Nat
  bias : Nat
  sp : Special

/-- The layouts of R180, by format code. -/
def ffmt (f : Nat) : FFmt :=
  if f = fFP32 then ⟨8, 23, 127, .ieee⟩
  else if f = fBF16 then ⟨8, 7, 127, .ieee⟩
  else if f = fFP16 then ⟨5, 10, 15, .ieee⟩
  else if f = fE5M2 then ⟨5, 2, 15, .ieee⟩
  else if f = fE4M3 then ⟨4, 3, 7, .e4m3⟩
  else if f = fE3M2 then ⟨3, 2, 3, .none⟩
  else if f = fE2M3 then ⟨2, 3, 1, .none⟩
  else ⟨2, 1, 1, .none⟩

/-- The exponent of the last place of a subnormal. -/
def FFmt.emin (x : FFmt) : Int := 1 - (x.bias : Int) - (x.mb : Int)

/-- The code of the largest finite magnitude (R180). -/
def FFmt.maxCode (x : FFmt) : Nat :=
  match x.sp with
  | .ieee => (2 ^ x.eb - 1) * 2 ^ x.mb - 1
  | .e4m3 => 2 ^ (x.eb + x.mb) - 2
  | .none => 2 ^ (x.eb + x.mb) - 1

/-- The value of a float code (R180). -/
def decFloat (x : FFmt) (c : Nat) : Num :=
  let f := bits c 0 x.mb
  let e := bits c x.mb x.eb
  let neg := bitAt c (x.eb + x.mb)
  if x.sp = .ieee ∧ e = 2 ^ x.eb - 1 then (if f = 0 then .inf neg else .nan)
  else if x.sp = .e4m3 ∧ e = 2 ^ x.eb - 1 ∧ f = 2 ^ x.mb - 1 then .nan
  else if e = 0 then .fin neg f x.emin
  else .fin neg (f + 2 ^ x.mb) (x.emin + (e : Int) - 1)

/-- The decoded FP32 magnitude of an L4 code (R182). -/
def l4Mag (k : Nat) : Nat :=
  if k = 7 then 0
  else if k % 2 = 0 then 0x3F800000 - (k / 2) * 0x00800000
  else 0x3F3504F3 - (k / 2) * 0x00800000

/-- The value of an element code, without a scale (R180–R182). -/
def decElem (f c : Nat) : Num :=
  if f = fINT32 then let i := signed 32 c; .fin (decide (i < 0)) i.natAbs 0
  else if f = fINT8 then let i := signed 8 c; .fin (decide (i < 0)) i.natAbs 0
  else if f = fUINT8 then .fin false (bits c 0 8) 0
  else if f = fINT4 then let i := signed 4 c; .fin (decide (i < 0)) i.natAbs 0
  else if f = fUINT4 then .fin false (bits c 0 4) 0
  else if f = fL4 then
    (match decFloat (ffmt fFP32) (l4Mag (bits c 0 3)) with
     | .fin _ m e => .fin (bitAt c 3) m e
     | v => v)
  else if f = fE8M0 then (if c % 256 = 255 then .nan else .fin false 1 ((c % 256 : Nat) - 127))
  else decFloat (ffmt f) c

/-! ## Exact arithmetic -/

def Num.neg : Num → Num
  | .nan => .nan
  | .inf n => .inf (! n)
  | .fin n m e => .fin (! n) m e

def Num.abs : Num → Num
  | .nan => .nan
  | .inf _ => .inf false
  | .fin _ m e => .fin false m e

def Num.isSpecial : Num → Bool
  | .fin _ _ _ => false
  | _ => true

def Num.isNan : Num → Bool
  | .nan => true
  | _ => false

/-- The signed integer m × 2^(e − lo) of a finite value, for lo ≤ e. -/
def scaled (n : Bool) (m : Nat) (e lo : Int) : Int :=
  let v : Int := (m * 2 ^ (e - lo).toNat : Nat)
  if n then -v else v

/-- The exact sum, with IEEE 754's sign of zero and invalid operations (R196, R197). -/
def Num.add : Num → Num → Num
  | .nan, _ => .nan
  | _, .nan => .nan
  | .inf a, .inf b => if a = b then .inf a else .nan
  | .inf a, .fin _ _ _ => .inf a
  | .fin _ _ _, .inf b => .inf b
  | .fin a m e, .fin b k d =>
    let lo := min e d
    let s := scaled a m e lo + scaled b k d lo
    if s = 0 then .fin (a && b) 0 lo else .fin (decide (s < 0)) s.natAbs lo

/-- The exact product (R196, R197). -/
def Num.mul : Num → Num → Num
  | .nan, _ => .nan
  | _, .nan => .nan
  | .inf a, .inf b => .inf (a != b)
  | .inf a, .fin b k _ => if k = 0 then .nan else .inf (a != b)
  | .fin a m _, .inf b => if m = 0 then .nan else .inf (a != b)
  | .fin a m e, .fin b k d => .fin (a != b) (m * k) (e + d)

/-- A value times a power of two. -/
def Num.scale (v : Num) (k : Int) : Num :=
  match v with
  | .fin n m e => .fin n m (e + k)
  | v => v

/-- Strict order of values, −0 below +0, infinities at the ends (R196). -/
def Num.lt : Num → Num → Bool
  | .nan, _ => false
  | _, .nan => false
  | .inf a, .inf b => a && ! b
  | .inf a, .fin _ _ _ => a
  | .fin _ _ _, .inf b => ! b
  | .fin a m e, .fin b k d =>
    let lo := min e d
    let x := scaled a m e lo
    let y := scaled b k d lo
    if x = 0 ∧ y = 0 then a && ! b else decide (x < y)

/-- The exact sum of a list; of no value, +0. -/
def Num.sum : List Num → Num
  | [] => .fin false 0 0
  | v :: vs => vs.foldl Num.add v

/-! ## Rounding and conversion (R192–R201) -/

/-- The exponent of the last place that a format keeps of m × 2^e. -/
def FFmt.lastPlace (x : FFmt) (m : Nat) (e : Int) : Int :=
  max x.emin (e + (m.log2 : Int) - (x.mb : Int))

/-- A nonnegative value cut to a format: the code below it (as if the exponent range were unbounded above), and the
part cut away as numerator and denominator. -/
def FFmt.cut (x : FFmt) (m : Nat) (e : Int) : Nat × Nat × Nat :=
  if m = 0 then (0, 0, 1)
  else
    let q := x.lastPlace m e
    let top := (q - x.emin).toNat * 2 ^ x.mb
    if q ≤ e then (top + m * 2 ^ (e - q).toNat, 0, 1)
    else let d := 2 ^ (q - e).toNat; (top + m / d, m % d, d)

/-- Round a magnitude: to nearest even, or with 16 random bits (R192, R193). -/
def FFmt.round (x : FFmt) (sr : Option Nat) (m : Nat) (e : Int) : Nat :=
  let (lo, r, d) := x.cut m e
  match sr with
  | none => if 2 * r > d ∨ (2 * r = d ∧ lo % 2 = 1) then lo + 1 else lo
  | some n => if r * 65536 / d + n % 65536 ≥ 65536 then lo + 1 else lo

/-- The code of a value with an overflow (R199). -/
def FFmt.overflow (x : FFmt) (specials neg : Bool) : Nat :=
  let sg := b2n neg * 2 ^ (x.eb + x.mb)
  match x.sp with
  | .ieee => sg + x.maxCode + b2n specials
  | .e4m3 => sg + x.maxCode + b2n specials
  | .none => sg + x.maxCode

/-- Encode into a float format (R199, R200). -/
def FFmt.enc (x : FFmt) (specials : Bool) (sr : Option Nat) : Num → Nat
  | .nan =>
    (match x.sp with
     | .ieee => (2 ^ x.eb - 1) * 2 ^ x.mb + 2 ^ (x.mb - 1)
     | .e4m3 => 2 ^ (x.eb + x.mb) - 1
     | .none => 0)
  | .inf n => x.overflow specials n
  | .fin n m e =>
    let c := x.round sr m e
    if c > x.maxCode then x.overflow specials n else b2n n * 2 ^ (x.eb + x.mb) + c

/-- L4's thresholds as FP32 codes, t_0 to t_6 (R201). -/
def l4Thresholds : List Nat :=
  [0x3F5744FD, 0x3F1837F0, 0x3ED744FD, 0x3E9837F0, 0x3E5744FD, 0x3E1837F0, 0x3DD744FD]

/-- Encode into L4 (R201): counted thresholds, or the linear neighbours with random bits (R193). A NaN gives the zero code, 7
(R182, R199). -/
def encL4 (sr : Option Nat) (v : Num) : Nat :=
  let val (k : Nat) : Num := decFloat (ffmt fFP32) (l4Mag k)
  match v with
  | .nan => 7
  | .inf n => 8 * b2n n
  | .fin n m e =>
    let a : Num := .fin false m e
    let near := (l4Thresholds.filter fun t => a.lt (decFloat (ffmt fFP32) t)).length
    let k :=
      match sr with
      | none => near
      | some r =>
        -- the smallest code whose magnitude does not exceed |v|
        let lo := (List.range 8).find? fun k => ! a.lt (val k)
        match lo with
        | none => 7
        | some 0 => 0
        | some (k + 1) =>
          match a.add (val (k + 1)).neg, (val k).add (val (k + 1)).neg with
          | .fin _ x d, .fin _ y g =>
            let b := min d g
            let f := (x * 2 ^ (d - b).toNat) * 65536 / (y * 2 ^ (g - b).toNat)
            if f + r % 65536 ≥ 65536 then k else k + 1
          | _, _ => k + 1
    8 * b2n n + k

/-- Round a value to an integer, to nearest even, and limit it to a range (R192, R199). -/
def encInt (lo hi : Int) : Num → Int
  | .nan => 0
  | .inf n => if n then lo else hi
  | .fin n m e =>
    let r : Nat :=
      if 0 ≤ e then m * 2 ^ e.toNat
      else
        let d := 2 ^ (-e).toNat
        let q := m / d
        let t := m % d
        if 2 * t > d ∨ (2 * t = d ∧ q % 2 = 1) then q + 1 else q
    max lo (min hi (if n then -(r : Int) else r))

/-- Convert a value into an element code of a format (R199–R201). -/
def encElem (f : Nat) (specials : Bool) (sr : Option Nat) (v : Num) : Nat :=
  if f = fINT8 then unsigned 8 (encInt (-128) 127 v)
  else if f = fUINT8 then unsigned 8 (encInt 0 255 v)
  else if f = fINT32 then unsigned 32 (encInt (-2147483648) 2147483647 v)
  else if f = fINT4 then unsigned 4 (encInt (-8) 7 v)
  else if f = fUINT4 then unsigned 4 (encInt 0 15 v)
  else if f = fL4 then encL4 sr v
  else if f = fFP32 then (ffmt fFP32).enc true none v
  else (ffmt f).enc specials sr v

/-- The random bits of R194. -/
def srBits (listId cmdIndex group row col : Nat) : Nat :=
  let m := 2 ^ 64
  let x := (listId % 65536) * 2 ^ 48 + (cmdIndex % 65536) * 2 ^ 32 + (row % 65536) * 65536 + col % 65536
  let x := x ^^^ ((group * 0x9E3779B97F4A7C15) % m)
  let x := ((x ^^^ (x >>> 30)) * 0xBF58476D1CE4E5B9) % m
  let x := ((x ^^^ (x >>> 27)) * 0x94D049BB133111EB) % m
  (x ^^^ (x >>> 31)) % 65536

/-! ## FP32 operations on codes (R112, R197) -/

def f32 (c : Nat) : Num := decFloat (ffmt fFP32) c
/-- Round to FP32 (R192, R197, R200). -/
def toF32 (v : Num) : Nat := (ffmt fFP32).enc true none v
def f32nan : Nat := 0x7FC00000
def f32ninf : Nat := 0xFF800000

def fAdd (a b : Nat) : Nat := toF32 ((f32 a).add (f32 b))
def fSub (a b : Nat) : Nat := toF32 ((f32 a).add (f32 b).neg)
def fMul (a b : Nat) : Nat := toF32 ((f32 a).mul (f32 b))
def fFma (a b c : Nat) : Nat := toF32 (((f32 a).mul (f32 b)).add (f32 c))
/-- A NaN operand makes the result NaN (R196). -/
def fMax (a b : Nat) : Nat :=
  if (f32 a).isNan || (f32 b).isNan then f32nan else if (f32 a).lt (f32 b) then b else a
def fMin (a b : Nat) : Nat :=
  if (f32 a).isNan || (f32 b).isNan then f32nan else if (f32 b).lt (f32 a) then b else a
def fAbs (a : Nat) : Nat := if (f32 a).isNan then f32nan else bits a 0 31
/-- NaN or infinity (R198). -/
def fSpecial (a : Nat) : Bool := (f32 a).isSpecial

/-- IEEE 754 division, rounded to nearest even. -/
def fDiv (a b : Nat) : Nat :=
  match f32 a, f32 b with
  | .nan, _ => f32nan
  | _, .nan => f32nan
  | .inf _, .inf _ => f32nan
  | .inf x, .fin y _ _ => toF32 (.inf (x != y))
  | .fin x _ _, .inf y => toF32 (.fin (x != y) 0 0)
  | .fin x m e, .fin y k d =>
    if k = 0 then (if m = 0 then f32nan else toF32 (.inf (x != y)))
    else
      let q := m * 2 ^ 64 / k
      let r := m * 2 ^ 64 % k
      toF32 (.fin (x != y) (2 * q + (if r = 0 then 0 else 1)) (e - d - 65))

/-! ### Functions accurate within a number of ulp (R112)

Each takes the FP32 code at or below the exact magnitude, and moves it by a free count of units that keeps the result
within the bound: from `lo − (k − 1)` to `lo + k`, or from `lo − k` when the value is exact (log entry 4). -/

/-- The code `u` units from the exact magnitude that `lo` is at or just below. -/
def withinUlp (k : Nat) (exact : Bool) (lo : Nat) (u : Int) : Nat :=
  let dn : Int := if exact then -(k : Int) else 1 - (k : Int)
  let u := max dn (min (k : Int) u)
  (min (0x7F800000 : Int) (max 0 ((lo : Int) + u))).toNat

/-- Integer square root, one bit a step. -/
def isqrtGo : Nat → Nat → Nat → Nat
  | 0, _, r => r
  | n + 1, x, r => let t := r + 2 ^ n; isqrtGo n x (if t * t ≤ x then t else r)
def isqrt (x : Nat) : Nat := isqrtGo (x.log2 / 2 + 1) x 0

/-- ln 2 in units of 2^−200. -/
def ln2fix : Nat := 0xb17217f7d1cf79abc9e3b39803f2f6af40f343267298b62d8a

/-- The exponential series of r × 2^−200 for 0 ≤ r < 2^200, in units of 2^−200. -/
def expSeries : Nat → Nat → Nat → Nat → Nat
  | 0, _, _, _ => 0
  | n + 1, i, r, t => t + expSeries n (i + 1) r (t * r / 2 ^ 200 / (i + 1))

/-- 2^n × t × 2^−200 cut to FP32: the code below it, infinity beyond the range. -/
def expCut (n : Int) (t : Nat) : Nat := min 0x7F800000 ((ffmt fFP32).cut t (n - 200)).1

/-- x = (−1)^neg × m × 2^e in units of 2^−200, for |x| < 2^11; the rest is out of the exponent's range. -/
def expArg (neg : Bool) (m : Nat) (e : Int) : Option Int :=
  if e + (m.log2 : Int) ≥ 11 then none
  else some (let v : Int := (m * 2 ^ (e + 200).toNat : Nat); if neg then -v else v)

/-- e^x (R112). -/
def fExp (a : Nat) : Nat :=
  match f32 a with
  | .nan => f32nan
  | .inf n => if n then 0 else 0x7F800000
  | .fin n m e =>
    if m = 0 then withinUlp 2 true 0x3F800000 (Config.expUlp (BitVec.ofNat 32 a))
    else
      let lo :=
        match expArg n m e with
        | none => if n then 0 else 0x7F800000
        | some x =>
          let k := x / (ln2fix : Int)
          expCut k (expSeries 60 0 (x - k * ln2fix).toNat (2 ^ 200))
      if lo = 0x7F800000 then lo else withinUlp 2 false lo (Config.expUlp (BitVec.ofNat 32 a))

/-- 2^x (R112). -/
def fExp2 (a : Nat) : Nat :=
  match f32 a with
  | .nan => f32nan
  | .inf n => if n then 0 else 0x7F800000
  | .fin n m e =>
    let u := Config.exp2Ulp (BitVec.ofNat 32 a)
    match expArg n m e with
    | none => if n then withinUlp 2 false 0 u else 0x7F800000
    | some x =>
      let k := x / (2 ^ 200 : Int)
      let r := (x - k * 2 ^ 200).toNat
      let lo := expCut k (if r = 0 then 2 ^ 200 else expSeries 60 0 (r * ln2fix / 2 ^ 200) (2 ^ 200))
      if lo = 0x7F800000 then lo
      else withinUlp 2 (r == 0 && decide (-150 < k)) lo u

/-- 1 ÷ x (R112). -/
def fRcp (a : Nat) : Nat :=
  match f32 a with
  | .nan => f32nan
  | .inf n => b2n n * 2 ^ 31
  | .fin n m e =>
    if m = 0 then b2n n * 2 ^ 31 + 0x7F800000
    else
      let q := 2 ^ 64 / m
      let (lo, r, _) := (ffmt fFP32).cut q (-e - 64)
      if lo > 0x7F7FFFFF then b2n n * 2 ^ 31 + 0x7F800000
      else b2n n * 2 ^ 31 + withinUlp 1 (r == 0 && q * m == 2 ^ 64) lo (Config.rcpUlp (BitVec.ofNat 32 a))

/-- 1 ÷ √x (R112). -/
def fRsqrt (a : Nat) : Nat :=
  match f32 a with
  | .nan => f32nan
  | .inf n => if n then f32nan else 0
  | .fin n m e =>
    if m = 0 then b2n n * 2 ^ 31 + 0x7F800000
    else if n then f32nan
    else
      let (m, e) := if e % 2 = 0 then (m, e) else (2 * m, e - 1)
      let q := 2 ^ 128 / m
      let s := isqrt q
      let (lo, r, _) := (ffmt fFP32).cut s (-(e / 2) - 64)
      withinUlp 2 (r == 0 && s * s * m == 2 ^ 128) lo (Config.rsqrtUlp (BitVec.ofNat 32 a))

/-- o ÷ s of FINISH and of attention's normalisation (R172, R216): the quotient, or the product with the reciprocal,
which the manual leaves open (log entry 10). -/
def fNorm (o s : Nat) : Nat := if Config.normByRcp then fMul o (fRcp s) else fDiv o s

/-- SILU in the four steps of R165. -/
def fSilu (a : Nat) : Nat :=
  fMul a (fRcp (fAdd 0x3F800000 (fExp (toF32 (f32 a).neg))))

/-! ## Reductions and dot products -/

/-- One level of the binary tree of R112: adjacent lanes; a lane with no partner passes through. Log: 18 DEDUCED. -/
def treeLevel (op : Nat → Nat → Nat) : List Nat → List Nat
  | a :: b :: t => op a b :: treeLevel op t
  | l => l

/-- The binary tree of R112 over at most 512 lanes. -/
def tree (op : Nat → Nat → Nat) : Nat → List Nat → Nat
  | 0, l => l.headD 0
  | n + 1, l => if l.length ≤ 1 then l.headD 0 else tree op n (treeLevel op l)

/-- Cut a list into pieces of `k`, with fuel for its length. -/
def chunksOf {α : Type} (k : Nat) : Nat → List α → List (List α)
  | 0, _ => []
  | n + 1, l => if l.isEmpty then [] else l.take (max k 1) :: chunksOf k n (l.drop (max k 1))

/-- Reduce a row in passes of 512 lanes, the passes in order (R166). -/
def passReduce (op : Nat → Nat → Nat) (row : List Nat) : Nat :=
  match (chunksOf 512 (row.length + 1) row).map (tree op 10) with
  | [] => 0
  | p :: ps => ps.foldl op p

/-- Accumulate exact products in steps of `kb`: each step's exact sum is rounded to FP32 and added (R189). -/
def accumulate (kb : Nat) (prods : List Num) : Nat :=
  (chunksOf kb (prods.length + 1) prods).foldl (fun acc step => fAdd acc (toF32 (Num.sum step))) 0

/-- The product of two L4 codes, formed in the log domain (R190). -/
def l4Product (a b : Nat) : Num :=
  let neg := bitAt a 3 != bitAt b 3
  let ka := bits a 0 3
  let kb := bits b 0 3
  if ka = 7 ∨ kb = 7 then .fin neg 0 0
  else if (ka + kb) % 2 = 0 then .fin neg 1 (-((ka + kb) / 2 : Nat))
  else
    match f32 0x3FB504F3 with
    | .fin _ m e => .fin neg m (e - ((ka + kb + 1) / 2 : Nat))
    | v => v

/-- The product of two operand elements with their block scales (R184, R189, R190): format and code of each, scale
code or none. -/
def product (fa ca : Nat) (sa : Option Nat) (fb cb : Nat) (sb : Option Nat) : Num :=
  let p := if fa = fL4 ∧ fb = fL4 then l4Product ca cb else (decElem fa ca).mul (decElem fb cb)
  let one (v : Num) (f : Nat) (s : Option Nat) : Num :=
    match s with
    | none => v
    | some x => if x % 256 = 255 then .nan
                else v.scale ((x % 256 : Nat) - 127 - (if f = fINT8 then 6 else 0))
  one (one p fa sa) fb sb

/-- The value of an element with its block scale, as a vector input (R184, R201). -/
def scaledElem (f c : Nat) (s : Option Nat) : Num :=
  match s with
  | none => decElem f c
  | some x => if x % 256 = 255 then .nan
              else (decElem f c).scale ((x % 256 : Nat) - 127 - (if f = fINT8 then 6 else 0))

/-! ## The array's shapes (R107, R108) -/

/-- The mode of a pair: 0 16-bit, 1 8-bit and 6-bit, 2 4-bit, by the wider operand (R107). -/
def pairMode (fa fb : Nat) : Nat :=
  let w := max (fmtBits fa) (fmtBits fb)
  if w = 16 then 0 else if w = 4 then 2 else 1

/-- (M_b, K_b) of the shapes of a mode (R108). -/
def shapesOf (mode : Nat) : List (Nat × Nat) :=
  if mode = 0 then [(8, 16), (16, 8), (32, 4), (64, 2)]
  else if mode = 1 then [(16, 32), (32, 16), (64, 8), (128, 4)]
  else [(16, 64), (32, 32), (64, 16), (128, 8)]

/-- The shape for M rows, or the one a command names, 1–4 (R108, R160). -/
def shapeFor (mode m sel : Nat) : Nat × Nat :=
  let l := shapesOf mode
  if sel ≠ 0 then l.getD (sel - 1) (128, 4)
  else (l.find? fun x => decide (m ≤ x.1)).getD (l.getD 3 (128, 4))

/-! ## Packed elements (R149) -/

/-- Element `i` of a packed run that starts at byte 0. -/
def elemAt (f : Nat) (bs : Bytes) (i : Nat) : Nat :=
  let w := fmtBits f
  let b := i * w / 8
  let x := (bs.getD b 0).toNat + 256 * (bs.getD (b + 1) 0).toNat + 65536 * (bs.getD (b + 2) 0).toNat
    + 16777216 * (bs.getD (b + 3) 0).toNat
  bits x (i * w % 8) w

/-- The elements of a packed run. -/
def unpackElems (f : Nat) (bs : Bytes) (n : Nat) : List Nat := (List.range n).map (elemAt f bs)

/-- A run of elements packed, the lower index in the lower bits. -/
def packElems (f : Nat) (cs : List Nat) : Bytes :=
  leBytes (eBytes f cs.length) (cs.foldr (fun c acc => c % 2 ^ fmtBits f + 2 ^ fmtBits f * acc) 0)

/-! ## Shared-scale choice (R185) -/

/-- Element emax of R185, for the floor rule. -/
def mxEmax (f : Nat) : Int :=
  if f = fE5M2 then 15 else if f = fE4M3 then 8 else if f = fE3M2 then 4 else if f = fINT8 then 0 else 2

/-- floor(log2) of a positive value. -/
def floorLog2 (m : Nat) (e : Int) : Int := (m.log2 : Int) + e

/-- The E8M0 code that VOP MXQ chooses for a block of FP32 codes (R185). -/
def mxScale (f : Nat) (blk : List Nat) : Nat :=
  if blk.any fSpecial then 255
  else
    match f32 (blk.foldl (fun a c => fMax a (fAbs c)) 0) with
    | .fin _ m e =>
      if m = 0 then 0
      else
        let fl := floorLog2 m e
        let x := if f = fL4 then (if 2 ^ m.log2 = m then fl else fl + 1) else fl - mxEmax f
        ((max (-127) (min 127 x)) + 127).toNat
    | _ => 255

/-- One block of MXQ: its scale code and its element codes (R185, R202). `sr` gives the random bits of an element. -/
def mxBlock (f : Nat) (specials : Bool) (sr : Nat → Option Nat) (blk : List Nat) : Nat × List Nat :=
  let x := mxScale f blk
  if x = 255 then (255, blk.map fun _ => if f = fL4 then 7 else 0)
  else (x, (List.range blk.length).map fun i =>
    encElem f specials (sr i) ((f32 (blk.getD i 0)).scale (127 - (x : Int) + (if f = fINT8 then 6 else 0))))

end Sys2Proof.Machine
end

