-- ==== Sys2Proof/Machine/State.lean ====
section
/-! DEFINITION. Everything the spec gives the package, as plain data, and its value after power-on reset.
Where a field has no reset value in the spec, the assumption log names the one taken here. -/
namespace Sys2Proof.Machine

/-! ## Straps, time, power -/

/-- The sampled straps (R15, R16). -/
structure Straps where
  role : Nat := 0
  side : Nat := 0
  slot : Nat := 0
deriving DecidableEq, Repr, Inhabited

/-- Time states of R413. -/
inductive TState
  | init
  | locked
  | holdover
  | steering
  | jumped
deriving DecidableEq, Repr, Inhabited

/-- What a port last delivered as a valid pair of time blocks (R411, R412). -/
structure NumSource where
  number : Nat := 0
  hops : Nat := 15
  hold : Bool := false
  alt : Bool := false
  heardAt : Nat := 0
deriving DecidableEq, Repr, Inhabited

/-- Rack time (R409–R420). -/
structure TimeS where
  st : TState := .init
  lfc : Nat := 0
  pinsOk : Bool := false
  goodFrames : Nat := 0
  role : Nat := 0                  -- TIME_SET ROLE: 0 none, 1 timekeeper, 2 alternate
  base : Nat := 0
  steerLimit : Nat := 256
  altActive : Bool := false
  hops : Nat := 15
  srcPort : Nat := 0x7F
  offset : Int := 0                -- rack minus local, in ticks
  holdS : Nat := 0
  holdSince : Nat := 0
  lastRack : Nat := 0
  sources : AMap NumSource := []
  disagree : Nat := 0
  lastHoldClear : Nat := 0         -- frame of the last block with HOLD clear
  altClearRun : Nat := 0           -- consecutive frames of blocks with ALT clear
  altClearAt : Option Nat := none  -- frame of the last block with ALT clear
  frameLen : Nat := 10240
  rebase : Option Master := none   -- a TIME_ACCEPT that waits for the next RACKSYNC edge
  edges : Nat := 0                 -- RACKSYNC edges since the last rack number received
  numbered : Bool := false         -- a rack number has been received
  sinceEdge : Nat := 0             -- ticks of whole local frames since the last edge
  edgeSeen : Bool := false         -- an edge has come since the last frame start
  begun : Bool := false            -- the edge set LFC, and its frame start is still to come
  roleSince : Nat := 0             -- frame in which the role was taken
deriving DecidableEq, Repr, Inhabited

/-- POWER_CFG (R437). -/
structure PowerCfg where
  cap : Nat := 3000
  slewUp : Nat := 40
  slewDown : Nat := 400
  floorEn : Bool := true
  safeCap : Nat := 1500
  standbyEn : Bool := false
  gateEn : Bool := true
  gateUs : Nat := 100
  hostCap : Nat := 3000
deriving DecidableEq, Repr, Inhabited

/-- A segment of the power plan (R424). -/
structure PlanSeg where
  start : Nat := 0
  lStart : Nat := 0
  target : Nat := 0
  rate : Int := 0
  stop : Nat := 0
deriving DecidableEq, Repr, Inhabited

/-- Power, supply and temperature (R421–R438). -/
structure PowerS where
  cfg : PowerCfg := {}
  pendMgmt : Option (Nat × Nat) := none   -- (cap, frame)
  pendHost : Option (Nat × Nat) := none
  limit : Nat := 0
  power : Nat := 0
  capLag : Bool := false
  safe : Bool := false
  ladder : Nat := 0
  cool : AMap Nat := []            -- step ↦ frame since which Tj has been below its exit level
  tj : Nat := 0                    -- °C
  plateLog : List (Nat × List Nat × Nat) := []   -- frame, plate readings, power: the samples of the last 16 frames
  platesRef : List Nat := []       -- plate readings before detection of a flow loss
  trip : Bool := false
  supply : Bool := false
  dips : Nat := 0
  dipInFrame : Nat := 0
  dipMin : Nat := 0
  epo : Bool := false
  epoPin : Bool := false           -- EPO_N asserted
  epoOff : Nat := 0                -- frame of deassertion
  resuming : Bool := false
  flowReported : Bool := false
  flowSelf : Bool := false
  flowClear : Option Nat := none   -- frame since which the plates have been near platesRef
  filler : Bool := false
  standby : Bool := false
  d3hot : Bool := false
  hbAt : Option Nat := none        -- frame of the last POWER_HEARTBEAT
  actionPower : Nat := 0           -- power measured in the frame in which an action began (R434)
  planNow : PlanSeg := {}
  planNext : Option PlanSeg := none
  thermN : Bool := false           -- THERM_N asserted
  regFault : AMap Bool := []
  regSilent : AMap Nat := []
  gated : List Nat := []           -- gated engine groups
deriving DecidableEq, Repr, Inhabited

/-! ## The host interface -/

/-- QCFG[q] (R395). -/
structure QCfg where
  en : Bool := false
  ty : Nat := 0
  quota : Nat := 0
  vec : Nat := 0
  irqEn : Bool := false
  thresh : Nat := 1
  itr : Nat := 0
deriving DecidableEq, Repr, Inhabited

/-- A shared queue (R394, R396). Log: 16 DEDUCED. -/
structure SQueue where
  entries : List Nat := []         -- 512-bit entries, head first
  lastPop : Nat := 0
  underrun : Bool := false
  overflow : Bool := false
  broken : Bool := false
  lostCells : Nat := 0             -- cells kept out of the pool while BROKEN
  lost : Nat := 0
  armed : Bool := true
  waiting : Bool := false          -- an entry entered the empty queue and the ITR delay has not expired
  heldItr : Bool := false          -- the queue has held an entry for ITR µs
deriving DecidableEq, Repr, Inhabited

/-- An MSI-X table entry and its pending bit (R385). Log: 15 PRESUMED. -/
structure Msix where
  addr : Nat := 0
  data : Nat := 0
  masked : Bool := true
  pendingBit : Bool := false
deriving DecidableEq, Repr, Inhabited

/-- Sluice (R402–R406). -/
structure Sluice where
  st : Nat := 0                    -- 0 off, 1 active, 2 closed
  session : Nat := 0
  gen : Nat := 0
  tagFails : Nat := 0
  sizeLog2 : Nat := 0
  base : Nat := 0
  head : Nat := 0
  tail : Nat := 0
  lastH2d : Option Nat := none     -- last counter accepted, host to pool
  lastMbq : AMap Nat := []         -- key generation ↦ last counter accepted of mailbox requests
  nextD2h : AMap Nat := []         -- key generation ↦ next counter, pool to host
  nextMbr : AMap Nat := []         -- key generation ↦ next counter of mailbox responses
  /-- The descriptor in flight whose pool bytes lie elsewhere: the offsets and lengths asked for, reads outstanding, what they brought,
  poisoned atoms, whether one failed. -/
  flight : Option (BitVec 512) := none
  flightGen : Nat := 0             -- the key generation it was fetched under
  asked : List (Nat × Nat) := []
  outstanding : Nat := 0
  fetched : List Host.Cell := []
  fetchBad : List Nat := []
  failed : Bool := false
deriving DecidableEq, Repr, Inhabited

/-- What the host or the serial port last read (BAR2_READ, POP_READ, OAGAL_RD). -/
inductive Answer
  | none
  | data (bytes : Bytes)
  | poisoned
  | unsupportedRequest
  | completerAbort
  | noCompletion
deriving DecidableEq, Repr, Inhabited

/-- HX (R377–R408). -/
structure HostS where
  linkUp : Bool := false
  flit : Bool := false
  speed : Nat := 0
  width : Nat := 0
  conf : Bool := false
  wedged : Bool := false
  hostParts : Nat := 0xFFFFFFFFFFFFFFFF
  mapWin : Nat := 0
  mapPart : Nat := 0
  mapEn : Bool := false
  respq : Nat := 1
  evq : Nat := 0
  qcfg : AMap QCfg := [(0, { en := true, ty := 1, quota := 1024 }), (1, { en := true, ty := 2, quota := 64 })]
  queues : AMap SQueue := []
  msix : AMap Msix := []
  functionMask : Bool := false
  irqs : List Nat := []            -- vectors sent, oldest first
  qDrops : Nat := 0                -- pushes dropped for a disabled or wrong-type queue (R394)
  bar2Drops : Nat := 0             -- BAR2 writes discarded (R383)
  sluice : Sluice := {}
  answer : Answer := .none
  retryStatus : Bool := false      -- the last configuration request got Retry Status (R456)
deriving DecidableEq, Repr, Inhabited

/-! ## The mailbox -/

/-- A mailbox slot (R386): its frame and 0 free, 1 pending, 2 in service, 3 done. -/
structure Slot where
  frame : Bytes := []
  st : Nat := 0
  conn : Nat := 0                  -- the management connection that sent the request (R479)
deriving DecidableEq, Repr, Inhabited

/-- A mailbox response: fields as (bytes, value), laid out under R388. -/
structure Response where
  master : Master := .host
  code : Nat := 0
  status : Nat := 0
  data : List (Nat × Nat) := []
deriving DecidableEq, Repr, Inhabited

/-- The slot a response belongs to. -/
structure SlotRef where
  master : Master := .host
  slot : Nat := 0
  tag : Nat := 0
  /-- The body is encrypted (R403), under this key generation. -/
  enc : Bool := false
  gen : Nat := 0
deriving DecidableEq, Repr, Inhabited

/-- A command that left the serialiser to wait on hardware (R389). -/
structure HwWait where
  resp : Response := {}
  ref : Option SlotRef := none
deriving DecidableEq, Repr, Inhabited

/-- A request that reached the mailbox, in arrival order, and the higher-ranked requests it has met
(R389, R390). -/
structure Arrival where
  master : Master := .host
  slot : Nat := 0
  /-- A management command with the same key was pending or in service since the arrival. -/
  outranked : Bool := false
  /-- Sluice's key generation when it arrived (R403). -/
  gen : Nat := 0
deriving DecidableEq, Repr, Inhabited

/-- The mailbox (R386–R393). -/
structure MbxS where
  hostSlots : AMap Slot := []
  mgmtSlots : AMap Slot := []
  arrivals : List Arrival := []
  cur : Option SlotRef := none     -- the slot of the command in service
  resp : Response := {}            -- the latest response
  hwWait : List HwWait := []
  served : Nat := 0
  supersededHost : Nat := 0
  supersededMgmt : Nat := 0
  ignored : Nat := 0               -- doorbells ignored
deriving DecidableEq, Repr, Inhabited

/-! ## Contexts, segments and translation -/

/-- A segment descriptor (R39). -/
structure Seg where
  valid : Bool := false
  rd : Bool := false
  wr : Bool := false
  at' : Bool := false
  ct : Bool := false
  tray : Nat := 0
  part : Nat := 0
  base : Nat := 0
  limit : Nat := 0
deriving DecidableEq, Repr, Inhabited

/-- A context: its descriptor (R37), segments (R39), refusal counter (R43). -/
structure Ctx where
  valid : Bool := false
  part : Nat := 0
  pasidEn : Bool := false
  pasid : Nat := 0
  hostwin : Bool := false
  segs : AMap Seg := []
  refusals : Nat := 0
  /-- The frame in which the context's last refusal record was entered (R43). -/
  recordAt : Option Nat := none
deriving DecidableEq, Repr, Inhabited

/-- A translation cache entry (R48). -/
structure AtcEntry where
  pasid : Option Nat := none
  base : Nat := 0
  size : Nat := 4096
  taddr : Nat := 0
  r : Bool := false
  w : Bool := false
deriving DecidableEq, Repr, Inhabited

/-- Who waits for the bytes of a read or the reply of a write. -/
inductive Owner
  | none
  | cmd (g engine queue index : Nat)
  /-- The front end's reading of the list at an address (R133). -/
  | frontEnd (g addr : Nat)
  /-- A record on its way to a ring (R138). -/
  | ring (g ctx part : Nat)
  | mirror (parcel : Nat)
  | tile (parcel : Nat)
  /-- A request from the fabric whose bytes lie in host memory (R79). -/
  | reply (req : Packet)
  /-- The host, for a BAR2 access (R383). -/
  | bar2
  /-- The Sluice descriptor in flight (R406). -/
  | sluice
  /-- A write held for a tile of the parcel, sent on at the flip (R86). -/
  | forwarded (parcel : Nat)
  /-- The clearing of a parcel at a home elsewhere, or at its mirror (R104, R495). -/
  | clearing (parcel : Nat) (atMirror : Bool)
  /-- A member's join in collective slot `slot` of EGg: `kind` 0 the writes of result sub-chunk `key` (R245), 1 its reading back, 2 the
  reading once more of contribution chunk `key` (R244). -/
  | coll (g slot key kind : Nat)
deriving DecidableEq, Repr, Inhabited

/-- A host-window access (R47, R49). -/
structure HostAcc where
  pasid : Option Nat := none
  addr : Nat := 0                  -- host I/O virtual address
  len : Nat := 0
  write : Bool := false
  data : Bytes := []
  owner : Owner := .none
  /-- Its number among those in progress. -/
  id : Nat := 0
  /-- 0 waits for a Translation Completion, 1 has its translation, 2 a read whose bytes have come while others of its request have
  not, 3 a DMA_ND's write that found no translation and waits for the page response. -/
  st : Nat := 0
  stale : Bool := false
  untranslated : Bool := false
  ctx : Nat := 0
  names : Nat := 0                 -- the fabric address that the access names
deriving DecidableEq, Repr, Inhabited

/-- An Invalidation Request in progress (R51). -/
structure Inval where
  tag : Nat := 0
  pasid : Nat := 0
  base : Nat := 0
  size : Nat := 0
deriving DecidableEq, Repr, Inhabited

/-- A Page Request Group that awaits its response (R46, R57): whose, its PASID, and its pages with the permission asked for. -/
structure PageGroup where
  g : Nat := 0
  queue : Nat := 0
  pasid : Option Nat := none
  pages : List (Nat × Bool) := []
deriving DecidableEq, Repr, Inhabited

/-- Contexts and host translation (R37–R62). -/
structure XlatS where
  ctxs : AMap Ctx := []
  binds : AMap Nat := []           -- (end-point node × 64 + partition) ↦ context
  noCtxAt : Option Nat := none     -- frame of the last record without a context (R43)
  priTmo : Nat := 7
  atsOn : Bool := false
  priEn : Bool := false
  priStopped : Bool := false
  atc : List AtcEntry := []        -- most recently used first
  /-- The copies of the translation cache: engine group g's at g, its DMA engine's at 32 + g; most recently used first. -/
  copies : AMap (List AtcEntry) := []
  accs : List HostAcc := []
  sent : List (Nat × Bytes) := []  -- writes that HX has sent to host memory: address, bytes
  flush : Option (Nat × Master) := none   -- an XLAT_FLUSH that waits for accesses: its PASID, and who asked
  invals : List Inval := []
  pageRequests : Nat := 0          -- Page Request Groups sent
  pri : List PageGroup := []
deriving DecidableEq, Repr, Inhabited

/-! ## Memory, directory and placement -/

/-- A location word (R81). -/
structure Loc where
  kind : Nat := 0
  stack : Nat := 0
  frame : Nat := 0
  holder : Nat := 0
  /-- The number of the lend region when KIND is 2 or 3; the location word does not show it. -/
  region : Nat := 0
deriving DecidableEq, Repr, Inhabited

/-- A directory entry (R81). -/
structure DirEntry where
  home : Loc := {}
  src : Loc := {}
  st : Nat := 0                    -- 0 free, 1 resident, 2 moving, 3 lost
  cls : Nat := 0
  mirror : Bool := false
  pin : Nat := 0
  owner : Nat := 0
  age : Nat := 0
  total : Nat := 0
  req0 : Nat := 0
  cnt0 : Nat := 0
  req1 : Nat := 0
  cnt1 : Nat := 0
  unmirrored : Bool := false
deriving DecidableEq, Repr, Inhabited

/-- An accepted access waiting in a lane, or an increase of a counter behind it (R260, R266). -/
inductive LaneItem
  /-- Bytes to write at a node offset, under a partition, poisoned or not. -/
  | write (target : Target) (lane : Lane) (off : Nat) (data : Bytes) (part : Nat) (poison : Bool)
  /-- An increase, and the parcels for whose copying tiles an earlier write for the group's stack was held when the increase was
  accepted. -/
  | inc (g ctr part amount : Nat) (behind : List Nat)
deriving DecidableEq, Repr, Inhabited

/-- An access held for a copying tile (R86): an accepted write, a request of the fabric, or an engine's ATOMIC. -/
inductive Held
  | write (i : LaneItem)
  | req (p : Packet)
  | atomic (g queue idx : Nat)
deriving DecidableEq, Repr, Inhabited

/-- A move in progress (R85, R86): the tiles flipped, the tile copying, the accesses held for it. The source of a guest's move, which
its directory's package decides, holds one too. -/
structure Move where
  present : List Nat := []
  copying : Option Nat := none
  held : List Held := []           -- in the order of arrival
  /-- Tiles that go first under R90, in order of first access. -/
  demand : List Nat := []
  /-- Colour of the copies (R341): 1 yellow, 2 red. -/
  colour : Nat := 2
  /-- The tile's bytes have been read from a source elsewhere, and go on to a destination elsewhere. -/
  relayed : Bool := false
  /-- An access of the copy failed: the tile does not flip before it is copied again. -/
  failed : Bool := false
  evacuation : Bool := false
  /-- A source in another package has marked the tile copying. -/
  marked : Bool := false
  /-- Once every location cache has been told: the packages that have not acknowledged (R85 step 5). -/
  acks : Option (List Nat) := none
deriving DecidableEq, Repr, Inhabited

/-- A partition's placement policy (R97). -/
structure Policy where
  minCount : Nat := 64
  dominance : Nat := 12
  hysteresis : Nat := 4
  decay : Nat := 1
  demand : Nat := 0b1111
  lendAccel : Nat := 0b1001
  lendHost : Nat := 0b1001
  mirror : Nat := 0b0110
  maxMoves : Nat := 0
deriving DecidableEq, Repr, Inhabited

/-- Package-wide placement settings (R98). -/
structure Budget where
  budget : Nat := 2048
  lowWater : Nat := 9728
  powerMargin : Nat := 5
  resync : Nat := 512
deriving DecidableEq, Repr, Inhabited

/-- A lend region (R79). -/
structure Lend where
  host : Bool := false
  holder : Nat := 0
  base : Nat := 0
  count : Nat := 0
  clearing : Bool := false
deriving DecidableEq, Repr, Inhabited

/-- A stack's registers and service state (R69, R70, R99, R103). -/
structure Stack where
  joined : Bool := false
  fenced : Bool := false
  hot : Bool := false
  evacuated : Bool := false
  spareRows : Nat := 1024
  ce : Nat := 0
  ue : Nat := 0
  rowHits : AMap Nat := []         -- occasions of correction per row in this scrub pass
  scrubPass : Nat := 0             -- the pass in which `rowHits` counts
  scrubbed : List Nat := []        -- atoms that patrol scrub has read in this pass
  evacMoved : Nat := 0
  evacuating : Bool := false
  trainFails : Nat := 0
  selfRefresh : Bool := false
  lastRefresh : Nat := 0           -- the last refresh slot taken
  activating : Bool := false
deriving DecidableEq, Repr, Inhabited

/-- A checked chunk that is open at this target (R305, R306). -/
structure OpenChunk where
  srcNode : Nat := 0
  port : Nat := 0
  block : Nat := 0                 -- 4 KiB block number of the target address
  got : List (Nat × Bytes × Nat × Bool) := []   -- address, bytes, CTR+1 or 0, written
  chkLen : Option Nat := none
  crc : Nat := 0
  part : Nat := 0
  ctrGrp : Nat := 0
  ctxNum : Nat := 0
  /-- Packets to complete at the verdict. -/
  pkts : List Packet := []
  bad : Bool := false
  control : Bool := false
deriving DecidableEq, Repr, Inhabited

/-- A context fence that waits (R276): whom to answer, and the trackers of the requests counted before it. -/
structure CtxFenceS where
  reply : Option Packet := none
  owner : Owner := .none
  waits : List (Nat × Nat) := []
deriving DecidableEq, Repr, Inhabited

/-- An entry of a location cache (R83): of engine group n at n, of hub die h at 32 + h. -/
structure LocEntry where
  unit : Nat := 0
  node : Nat := 0
  parcel : Nat := 0
  holder : Nat := 0
deriving DecidableEq, Repr, Inhabited

/-- A far-line copy (R270). -/
structure FarLine where
  atom : Nat := 0                  -- fabric address / 64
  part : Nat := 0
  data : Bytes := []
  /-- The hub die that holds it. -/
  hd : Nat := 0
deriving DecidableEq, Repr, Inhabited

/-- Memory and placement (R27–R36, R63–R105). -/
structure MemS where
  /-- Bytes of the pool and scratchpads by node offset, in canonical form. -/
  cells : List Host.Cell := []
  /-- Poisoned atoms and scratchpad lines, by node offset / 64. -/
  poison : List Nat := []
  /-- Owner tags of scratchpad lines, by node offset / 64: partition. -/
  tags : AMap Nat := []
  dir : AMap DirEntry := []
  /-- Parcels of other nodes homed here, by fabric address / 2 MiB (R77). -/
  guests : AMap DirEntry := []
  moves : AMap Move := []
  policies : AMap Policy := []
  budget : Budget := {}
  mirrorPerStack : Nat := 7624
  scrubHours : Nat := 24
  lends : AMap Lend := []
  stks : AMap Stack := []
  lanes : List LaneItem := []
  chunks : List OpenChunk := []
  far : List FarLine := []         -- most recently used first
  locs : List LocEntry := []       -- most recently used first
  /-- Erroneous symbols in an atom of a stack, by key / 64, or erroneous bits in the worst word of a scratchpad line, that no access
  has met yet (R67, R121). -/
  upsets : AMap Nat := []
  startedNow : Nat := 0            -- moves started in the current interval
  refusedNow : Bool := false       -- a move has been refused in the current interval (R96)
  startedBy : AMap Nat := []       -- per partition
  /-- (parcel, holder × 32 + stack) of explicit moves that wait for budget (R210, R221). -/
  stripeMoves : List (Nat × Nat) := []
  intervalStopped : Bool := false  -- R96 held at the interval's start
  stats : AMap Nat := []           -- PLACE_STATS counts, by index
  flHits : Nat := 0
  flFills : Nat := 0
  flDropped : Nat := 0
  invDone : Nat := 0
  fenceTray : Nat := 0
  fenceRack : Nat := 0
  ctxFences : Nat := 0
  /-- The partner cannot accept mirror writes (R101). -/
  partnerDown : Bool := true
  /-- The event of R101 has been pushed since the partner last accepted mirror writes. -/
  mirrorLost : Bool := false
  /-- The frame of the last placement interval, plus 1 (R92). -/
  lastInterval : Nat := 0
  /-- Parcels whose resynchronisation copy is on its way (R101). -/
  resyncing : List Nat := []
  /-- Context fences that wait (R276). -/
  fences : List CtxFenceS := []
  /-- The mirror of the partner's directory, by parcel; at the number node × 2^20 + parcel, another node's parcel that is homed at
  the partner. HOME is the mirror frame here of a parcel whose home is at the partner (R100, R467). -/
  mirrorDir : AMap DirEntry := []
  /-- The mirror of the partner's move table: the present bits of its moving parcels (R89, R100). -/
  mirrorMoves : AMap (List Nat) := []
deriving DecidableEq, Repr, Inhabited

/-! ## Engine groups -/

/-- A chunk that a command holds (R246). -/
structure HoldRef where
  group : Nat := 0
  opgen : Nat := 0
  chunk : Nat := 0
deriving DecidableEq, Repr, Inhabited

/-- An entry of a group's speculation table (R246). -/
structure SpecEntry where
  ref : HoldRef := {}
  lo : Nat := 0                    -- node offset of the landed bytes
  hi : Nat := 0
  failed : Bool := false
  lines : List Nat := []           -- scratchpad lines listed under the chunk
deriving DecidableEq, Repr, Inhabited

/-- A started command of a queue (R146). -/
structure Running where
  idx : Nat := 0
  opcode : Nat := 0
  /-- 0 working, 1 its completion event has happened, 2 its record is on its way, 3 its remote increase is. -/
  st : Nat := 0
  outstanding : Nat := 0
  fetched : List Host.Cell := []   -- bytes read from other nodes and host memory, by 64-bit key
  fetchBad : List Nat := []        -- atoms (key / 64) that came back poisoned
  denied : Option Nat := none      -- first address refused
  status : Nat := 0
  count : Nat := 0
  detail : Nat := 0
  naninf : Bool := false
  nanRow : Nat := 0
  nanCol : Nat := 0
  holds : List HoldRef := []
  invalid : Bool := false
  gen : Nat := 0
  /-- DMA_ND: delivered tiles; the earliest undelivered tile faults, with the pages found untranslated (and whether to be written) and
  those asked for in this round; Success responses in a row; a page request is out; later tiles are fetched ahead. -/
  tiles : Nat := 0
  faulting : Bool := false
  missing : List (Nat × Bool) := []
  probes : List Nat := []
  successes : Nat := 0
  pageReq : Bool := false
  ahead : Bool := true
  /-- KVAPPEND and ATTN with APPEND: layer, first reserved row, tokens; the rows are written. -/
  ctx : Nat := 0
  layer : Nat := 0
  resv : Option (Nat × Nat) := none
  tokens : Nat := 0
  rowsWritten : Bool := false
  lenRead : Option Nat := none
  /-- An ATTN's stripe set, fixed when it starts (R215). -/
  stripes : List Nat := []
  /-- 0 not begun, 1 fetching, 2 its writes are issued, 3 an ATTN whose append is complete, 4 an ATOMIC held for a copying tile,
  9 stopped by an abort; `reqd`: the pieces of its source asked for so far. -/
  phase : Nat := 0
  /-- A FENCE: the parcels for whose copying tiles writes were held when it started. -/
  behind : List Nat := []
  reqd : List (Nat × Nat) := []
  /-- Accesses of it refused or failed. -/
  failures : Nat := 0
  /-- Addresses and lengths of the bytes that were not written for that reason, or because their parcel is lost. -/
  lostAt : List (Nat × Nat) := []
  /-- Slices that its work has taken (R115). -/
  slices : Nat := 0
  /-- The runs of a move, or of a delivery tile, that have been written. -/
  written : List Nat := []
  /-- Addresses whose accesses were refused or failed, with the status that gives the command. -/
  refusedAt : List (Nat × Nat) := []
  /-- The page of a DMA_ND's fault, and the last page response. -/
  fault : Nat := 0
  respCode : Nat := 0
  /-- Its completion record, while the ring's reply is awaited. -/
  record : Nat := 0
  /-- The status that a refused or timed-out access gives the command. -/
  badStatus : Nat := 0
  /-- A write of it met poison (a failed chunk, a lost parcel). -/
  wrotePoison : Bool := false
  /-- µs waited, cycles: free values stamped at completion. -/
  wcyc : Nat := 0
deriving DecidableEq, Repr, Inhabited

/-- A hardware queue of a group (R114, R127). -/
structure HwQueue where
  list : Nat := 0                  -- LIST_ID of the holder, 0 none
  prio : Nat := 0
  fifo : List Nat := []            -- indices dispatched and not started
  started : List Running := []
  halted : Bool := false
deriving DecidableEq, Repr, Inhabited

/-- What will be the final record of a halting list: a record without SEQ, and what follows it (R134, R158, R159). -/
structure FinalRec where
  word : Nat := 0
  notify : Bool := false
  /-- The counter to increase once the record is accepted. -/
  ctr : Option Nat := none
  /-- It is HALT's record, whose COUNT and DETAIL are those at the release. -/
  halt : Bool := false
deriving DecidableEq, Repr, Inhabited

/-- A loaded command list (R130–R134, R141–R143). -/
structure CmdList where
  id : Nat := 0
  /-- It holds its resources, and its commands are still being checked (R132, R133 step 4). -/
  checking : Bool := false
  addr : Nat := 0
  ctx : Nat := 0
  part : Nat := 0
  prio : Nat := 0
  granFirst : Nat := 0
  granCount : Nat := 0
  ctrFirst : Nat := 0
  ctrCount : Nat := 0
  qmask : List Nat := []
  seqSlots : Nat := 0
  collSlots : Nat := 0
  cmds : List (BitVec 512) := []
  next : Nat := 0
  ringAddr : Nat := 0
  ringLog2 : Nat := 6
  hostq : Nat := 0
  hostqEn : Bool := false
  defTmo : Nat := 0
  seqNo : Nat := 0
  halting : Bool := false
  aborted : Bool := false
  /-- The record that LIST_RELEASE writes with FINAL set, when a command of the list halted it. -/
  final : Option FinalRec := none
  /-- LIST_RELEASE has sent the final record to a ring elsewhere, and awaits the reply. -/
  finalOut : Nat := 0
  finalWord : Nat := 0
  completed : Nat := 0
  discarded : Nat := 0
  seqBind : AMap Nat := []         -- sequence slot ↦ sequence context
deriving DecidableEq, Repr, Inhabited

/-- What a front end has read of a list that lies elsewhere (R133). -/
structure FrontEnd where
  asked : Nat := 0                 -- bytes from the list's start on
  outstanding : Nat := 0
  bad : Bool := false
  cells : List Host.Cell := []
deriving DecidableEq, Repr, Inhabited

/-- LAST_LOAD (R129). -/
structure LastLoad where
  status : Nat := 0
  reason : Nat := 0
  listId : Nat := 0
  index : Nat := 0
deriving DecidableEq, Repr, Inhabited

/-- A member's join of an operation on a collective slot (R174, R252–R256). -/
structure Join where
  list : Nat := 0
  slot : Nat := 0                  -- the list's own index of the slot
  queue : Nat := 0
  cmd : Nat := 0
  group : Nat := 0
  member : Nat := 0
  op : Nat := 0
  ty : Nat := 0
  outFmt : Nat := 0
  fn : Nat := 0
  root : Nat := 0
  count : Nat := 0
  n : Nat := 2
  dst : Nat := 0
  ctr : Option Nat := none
  opgen : Nat := 0
  digest : Nat := 0
  late : Bool := false
  scheduled : Option Nat := none   -- waits for START_FRAME
  sent : Bool := false
  startFrame : Nat := 0
  /-- The context and the address under which SRC is read and DST is written. -/
  ctx : Nat := 0
  srcAddr : Nat := 0
  /-- SRC as read, and the 64-byte parts of it that were poisoned or refused. -/
  src : Bytes := []
  srcBad : List Nat := []
  /-- Contributions sent so far, and those that are read again for a NACK (R244). -/
  nextContrib : Nat := 0
  rereads : List Nat := []
  /-- Sub-chunks of the result that have been written, those that are being written, and those that could not be: (result chunk × 4
  + sub-chunk, CRC carried, poisoned). -/
  subs : List (Nat × Nat × Bool) := []
  landing : List (Nat × Nat × Bool) := []
  lostSubs : List Nat := []
  /-- What reading back sub-chunks stored in other packages brought, the ones read, and those read in vain (R245). -/
  back : List Host.Cell := []
  asked : List Nat := []
  backBad : List Nat := []
  landed : List Nat := []
  counted : Nat := 0
  verdicts : AMap Bool := []
  failedOnce : List Nat := []
  poisonedN : Nat := 0
  reissued : Nat := 0
  done : Bool := false
  abortReason : Nat := 0
  offender : Nat := 0xFFF
  detect : Nat := 0
deriving DecidableEq, Repr, Inhabited

/-- An engine group (R106–R140). -/
structure Group where
  ctrs : AMap (BitVec 32) := []
  queues : AMap HwQueue := []      -- engine × 16 + queue
  lists : List CmdList := []
  lastLoad : LastLoad := {}
  fenced : Bool := false
  fmtAll : Bool := false
  clock : Nat := 1
  joins : AMap Join := []          -- collective slot of the group ↦ join
  spec : List SpecEntry := []
  fes : AMap FrontEnd := []        -- address of a list being loaded ↦ what has been read of it
  /-- Engine e's position in the P, P, X pattern at e; the queue after that of priority 0 served last, at 4 + e; the queue after the
  other served last, at 8 + e. -/
  slice : AMap Nat := []
  sliceQ : AMap Nat := []          -- engine ↦ queue that holds the slice, plus 1
  wrr : AMap Nat := []             -- engine ↦ slices left to the queue before the one at 8 + e until its turn passes on
  ringRefused : Nat := 0
  /-- Writes of LIST_LOAD and LIST_ABORT made by engines and packets: (partition, value). -/
  loadReqs : List (Nat × Nat) := []
  abortReqs : List (Nat × Nat) := []
deriving DecidableEq, Repr, Inhabited

/-! ## Sequence contexts -/

/-- A sequence context: descriptor fields of R205 and the length record of R203. -/
structure SeqCtx where
  desc : BitVec 512 := 0
  len : AMap Nat := []
  res : AMap Nat := []
  migrating : Bool := false
  /-- Who asked for the migration in progress, its STRIPE_BASE and MOVE flag (R221). -/
  mig : Option (Master × Nat × Bool) := none
  migTo : Nat := 0
deriving DecidableEq, Repr, Inhabited

/-- A running reservation of rows (R212). -/
structure Resv where
  ctx : Nat := 0
  layer : Nat := 0
  first : Nat := 0
  count : Nat := 0
  owner : Owner := .none
deriving DecidableEq, Repr, Inhabited

structure SeqS where
  ctxs : AMap SeqCtx := []
  /-- The partner's contexts as mirrored here (R203, R467). -/
  mirror : AMap SeqCtx := []
  resvs : List Resv := []
  attnDone : Nat := 0
  appendDone : Nat := 0
  cancelled : Nat := 0
  migrations : Nat := 0
deriving DecidableEq, Repr, Inhabited

/-! ## Collectives -/

/-- A group being built at the apex (R225, R226). -/
structure CollDef where
  part : Nat := 0
  n : Nat := 2
  window : Nat := 128
  tmo : Nat := 10
  members : AMap (BitVec 64) := []
  dies : AMap Nat := []            -- node ↦ combining die named
  committed : Bool := false
deriving DecidableEq, Repr, Inhabited

/-- A sub-chunk being combined at a node (R240, R241). -/
structure Acc where
  bytes : Bytes := []
  /-- Whose units entered it: members, and 4,096 + node for child nodes. -/
  from' : List Nat := []
  firstMember : Nat := 0
deriving DecidableEq, Repr, Inhabited

/-- A retained result sub-chunk (R247). -/
structure Retained where
  pkts : List Packet := []
  waitAck : List Nat := []         -- members, and 4,096 + node, that have not acknowledged it
  reissuedTo : List Nat := []
  released : Bool := false
deriving DecidableEq, Repr, Inhabited

/-- A unit that waits for Confluence (R238): its stream, its sender (member, or 4,096 + node), its packets. -/
structure CollUnit where
  stream : Nat := 0
  sender : Nat := 0
  pkts : List Packet := []
deriving DecidableEq, Repr, Inhabited

/-- A node of a collective group on this package (R228, R257). -/
structure CollNode where
  group : Nat := 0
  part : Nat := 0
  st : Nat := 0                    -- 0 IDLE, 1 ACTIVE, 2 ABORTED
  apex : Bool := false
  xd : Nat := 0
  opgen : Nat := 0
  window : Nat := 128
  n : Nat := 2
  tmo : Nat := 10
  apexNode : Nat := 0
  members : List (Nat × BitVec 64) := []
  childNodes : List Nat := []
  combined : Nat := 0
  nacks : Nat := 0
  lastReason : Nat := 0
  /-- The reference digest of the current operation (R251), and its descriptor (R250) as a JOIN brought it. -/
  digest : Option Nat := none
  desc : Option Nat := none
  joined : List Nat := []          -- members joined at this level, and 4,096 + node
  dst : AMap Nat := []             -- member ↦ DST
  ctr : AMap Nat := []             -- member ↦ chunk counter + 1
  parts : List CollUnit := []      -- units whose packets have not all arrived
  units : List CollUnit := []      -- units that wait for Confluence
  accs : AMap Acc := []
  held : AMap Retained := []
  sentParts : AMap (List Packet) := []  -- PARTIALs kept until combined (R244)
  failedLegs : List (Nat × Nat) := []   -- (sender or receiver, sub-chunk) that failed once
  emitted : Nat := 0               -- result bytes sent (apex)
  epGen : AMap Nat := []           -- end-point member ↦ operation generation
deriving DecidableEq, Repr, Inhabited

structure CollS where
  defs : AMap CollDef := []        -- groups whose apex this package is
  nodes : AMap CollNode := []      -- node slot ↦ node
  share : AMap Nat := []           -- crossbar die ↦ COLL_SHARE (default 65,536)
  wrr : AMap Int := []             -- die × 16 + stream ↦ current weight of the smooth round robin
  rrNode : AMap Nat := []          -- die × 16 + stream ↦ node slot served last
  memberGen : AMap Nat := []       -- group × 32 + engine group ↦ OPGEN of the next operation
  refusedAt : AMap Nat := []       -- group number ↦ the frame of its last refusal record (R236)
  stats : AMap Nat := []
deriving DecidableEq, Repr, Inhabited

/-! ## Packets in the package -/

/-- A request that the package tracks: one it issued, or one that entered through an end-point port (R293, R313). -/
structure Track where
  ingress : Option Nat := none     -- the end-point port of an ingress tracker
  tag : Nat := 0
  origTag : Nat := 0
  pkt : Packet := {}
  ctx : Nat := 0
  owner : Owner := .none
  timedOut : Bool := false
  issuedAt : Nat := 0
  retries : Nat := 0
  retryDue : Bool := false
  rereads : Nat := 0
  /-- Sub-reads of a localised poisoned reply still to come (R310). -/
  localised : Bool := false
  held : Bool := false             -- waits in the hold area; its load timer is stopped (R346)
  /-- The completion to send once this mirror write is accepted (R100); its CTR_EN, CTR and CTR_GRP hold the increase
  that comes with it. -/
  reply : Option Packet := none
  /-- Atoms of a read whose copies were dropped while it was outstanding (R271). -/
  noFill : List Nat := []
deriving DecidableEq, Repr, Inhabited

/-- A packet queued for an output port (R320, R334). -/
structure QPkt where
  port : Nat := 0
  vc : Nat := 1
  pkt : Packet := {}
  waitedRed : Bool := false
deriving DecidableEq, Repr, Inhabited

structure FabS where
  loadTmo : Nat := 16
  localise : Bool := true
  dead : List Nat := []
  tracks : List Track := []
  inbuf : List QPkt := []          -- packets in input buffers, `port` the input port
  outq : List QPkt := []
  delivered : List Packet := []    -- packets for the package's own units, not yet taken
  stats : AMap Nat := []           -- PKT_STATS counts, by index
  byDest : AMap Nat := []          -- timeouts per destination node
  recordAt : AMap Nat := []        -- destination ↦ frame of its last class 0x0E record + 1
  ctrlIn : List Packet := []       -- CTRL packets taken by Ibfen
deriving DecidableEq, Repr, Inhabited

/-! ## Routing -/

/-- A route-table entry (R319). -/
structure RouteEntry where
  maskA : Nat := 0
  maskB : Nat := 0
  escA : Nat := 0
  escB : Nat := 0
  valid : Bool := false
  adaptA : Bool := false
  adaptB : Bool := false
  escDownA : Bool := false
  escDownB : Bool := false
deriving DecidableEq, Repr, Inhabited

structure Bank where
  version : Nat := 0
  epoch : Bool := false
  entries : AMap RouteEntry := []
deriving DecidableEq, Repr, Inhabited

/-- An ingress meter (R352) and its two buckets in bytes (R339). -/
structure Meter where
  cir : Nat := 0
  cbs : Nat := 0
  pir : Nat := 0
  pbs : Nat := 0
  en : Bool := false
  tc : Nat := 0
  tp : Nat := 0
deriving DecidableEq, Repr, Inhabited

/-- A drop profile (R353). -/
structure Drop where
  min : Nat := 0
  max : Nat := 0
  pmax : Nat := 0
  en : Bool := true
deriving DecidableEq, Repr, Inhabited

/-- The Riffle ring of a crossbar die (R348–R350). -/
structure Riffle where
  filters : AMap (BitVec 64) := []
  sampled : AMap Nat := []
  events : Bool := false
  wrap : Bool := true
  recs : List Nat := []            -- 512-bit records, oldest first
  nextSeq : Nat := 0
  lost : Nat := 0
deriving DecidableEq, Repr, Inhabited

structure RouteS where
  active : Bank := {}
  staged : Option Bank := none
  old : Option Bank := none
  st : Nat := 0                    -- 0 stable, 1 staged, 2 holding, 3 old bank retained
  committed : Bool := false
  drainAt : Nat := 0
  drainFrames : Nat := 40
  affected : Nat := 0
  root : Nat := 0x1FF
  drainedBy : AMap Nat := []       -- node ↦ frame of its DRAINED notice
  sentDrained : Bool := false
  holding : List QPkt := []
  shares : AMap Nat := []          -- default 4
  sharesNext : Option (AMap Nat) := none
  meters : AMap Meter := []
  metersNext : AMap Meter := []
  yellow : Drop := { min := 32, max := 56, pmax := 64 }
  red : Drop := { min := 8, max := 32, pmax := 128 }
  dropsNext : Option (Drop × Drop) := none
  pruned : List (Nat × Nat) := []  -- (node lost, reporting neighbour node)
  reachSent : List Nat := []       -- nodes reported lost by this package
  riffle : AMap Riffle := []
  avg : AMap Nat := []             -- crossbar die × 128 + port ↦ average occupancy × 16
  counts : AMap Nat := []          -- die × 1024 + port × 8 + VC ↦ cells as last exchanged (R321)
  rr : Nat := 0                    -- round robin over tied ports
  partnerTurn : Nat := 0           -- the partner link whose turn it is (R80)
  deficitP : AMap Nat := []        -- port × 64 + partition
  deficitC : AMap Nat := []        -- (port × 64 + partition) × 8 + VC
  turnP : AMap Nat := []
  turnC : AMap Nat := []
  oxbowAt : AMap Nat := []         -- destination ↦ frame of its last fallback record + 1
  stats : AMap Nat := []
deriving DecidableEq, Repr, Inhabited

/-! ## Links -/

/-- One lane's transmitter taps (R369): magnitudes of pre and post, and main. -/
structure Taps where
  pre : Nat := 0
  main : Nat := 48
  post : Nat := 0
deriving DecidableEq, Repr, Inhabited

/-- A fabric port (R355–R376, R459–R461). -/
structure Port where
  maxRate : Nat := 3
  idleEn : Bool := false
  idleUs : Nat := 10
  down : Bool := false
  st : Nat := 0                    -- 0 off, 1 training, 2 active, 3 stepping, 4 retraining, 5 down
  rate : Nat := 0
  rateCapped : Bool := false
  txIdle : Bool := false
  rxIdle : Bool := false
  peerPort : Nat := 0
  peerNode : Nat := 0
  laneLock : Nat := 0
  taps : AMap Taps := []
  eqSt : AMap Nat := []            -- lane ↦ ST_PRE + 4 ST_MAIN + 16 ST_POST of the last request (R367, R369)
  crcErr : Nat := 0
  replays : Nat := 0
  retrains : Nat := 0
  downs : Nat := 0
  fecUncorr : Nat := 0
  /-- Training: the step reached, lanes on which DETECT came, lanes whose receiver is done, READYs, attempts. -/
  trainStep : Nat := 0
  detected : Nat := 0
  rxDone : Nat := 0
  readys : Nat := 0
  tries : Nat := 0
  target : Nat := 0
  stepBlocks : Nat := 0
  peerRates : Nat := 0
  prevRate : Nat := 0
  stepDue : Bool := false
  idleBlocks : Nat := 0
  wakeBlocks : Nat := 0
  retrainAt : List Nat := []       -- frames in which its last retrainings started
  /-- Receiver and sender of link frames (R361–R363). -/
  expected : Nat := 0
  nakDue : Bool := false
  nakSent : Bool := false
  rx : Bytes := []
  txSeq : Nat := 1023
  replay : List Frame := []
  acked : Nat := 1023
  replayCount : Nat := 0
  tx : List Frame := []            -- frames sent, oldest first
  txFrom : Nat := 0                -- how many of them were sent before the last training, step or retraining ended
  credits : AMap Nat := []         -- pool ↦ cells granted to this sender and not in use
  owed : AMap Nat := []            -- pool × 64 + partition ↦ cells sent and not yet returned
  returns : AMap Nat := []         -- pool × 64 + partition ↦ cells to return
  accepted : Bool := false
  quarantined : Bool := false
  missing : Bool := false
  inSets : Bool := false           -- in the live and escape sets
  joinAt : Option Nat := none      -- the frame boundary at which it rejoins
  heldDown : Bool := false         -- by UNIT_FENCE
  heldEpo : Bool := false
  identSent : Bool := false
  timeTx : Nat := 0                -- the time block sent, twice, at the last frame start (R411)
deriving DecidableEq, Repr, Inhabited

/-! ## Faults, pair and management -/

/-- A captured fault (R444). -/
structure Capture where
  die : Nat := 0
  cls : Nat := 0
  inst : Nat := 0
  cause : Nat := 0
  reaction : Nat := 0
  status : Nat := 0
  addr : Nat := 0
  ctx : Nat := 0
  part : Nat := 0
  node : Nat := 0
  frame : Nat := 0
  tick : Nat := 0
  detail : Nat := 0
deriving DecidableEq, Repr, Inhabited

/-- A fenced unit (R448): its class, instance, cause, and when it was last returned. -/
structure Fenced where
  cls : Nat := 0
  inst : Nat := 0
  cause : Nat := 0
  at' : Nat := 0
  /-- Ibfen returns it once, 10 ms after fencing (R451). -/
  block : Bool := false
deriving DecidableEq, Repr, Inhabited

/-- Fault records and reactions (R439–R447), bring-up (R455–R457), pair state (R463–R470). -/
structure FaultS where
  phase : Nat := 0
  prevPhase : Nat := 0             -- the phase that emergency off or a warm reset interrupted
  raised : List Capture := []      -- faults a step has raised and not yet handed to the capture registers
  calibrated : Bool := false
  discDone : Bool := false
  captures : List Capture := []    -- in capture order
  history : List Nat := []         -- 512-bit entries, oldest first
  seq : Nat := 0                   -- SEQ of the newest entry
  acked : Nat := 0
  errPending : Bool := false       -- a fault whose record was lost asserted ERR_N (R444)
  lost : Nat := 0
  lostBefore : Nat := 0
  reactions : AMap Nat := []       -- class × 65,536 + instance ↦ reaction set by FAULT_SET
  toFlash : AMap (Option Nat) := []  -- records waiting to be written to flash
  fenced : List Fenced := []
  returnedAt : AMap Nat := []      -- class × 65,536 + instance ↦ frame of the last return + 1
  directoryRebuild : List Nat := []  -- hub dies whose directory is being rebuilt
  pair : Nat := 0                  -- DEV_STATUS.PAIR
  heardPartner : Option Nat := none
  partnerHeardUs : Option Nat := none  -- frame of its last heartbeat that reported hearing this package
  partnerMirror : Nat := 0
  witnessAcks : AMap Nat := []     -- witness ↦ frame of its last acknowledgement
  ackHeard : AMap Nat := []        -- witness ↦ frame in which it last heard the partner, as it reports
  heardNode : AMap Nat := []       -- as a witness: node ↦ frame of its last heartbeat
  solo : Bool := false
  selfFenced : Bool := false
  sentFailing : Bool := false
  handbackAt : Option Nat := none
  servingPartner : Bool := false
  parts : List Nat := []           -- partitions started
  savedCaptures : List Capture := []   -- captures copied to MD memory at a package reset
deriving DecidableEq, Repr, Inhabited

/-- A management connection (R477). -/
structure Conn where
  out : List (Nat × Nat × Bytes) := []   -- messages sent: KIND, SLOT, bytes
deriving DecidableEq, Repr, Inhabited

/-- A component entry of the image header (R496). -/
structure Comp where
  id : Nat := 0
  cver : Nat := 0
  offset : Nat := 0
  clen : Nat := 0
  digest : Nat := 0
deriving DecidableEq, Repr, Inhabited

/-- A firmware image as its header describes it (R496). -/
structure Image where
  svn : Nat := 0
  version : Nat := 0
  keyPair : Nat := 0
  comps : List Comp := []
  header : Nat := 0                -- digest of the header
deriving DecidableEq, Repr, Inhabited

/-- An activation in progress (R499–R503): the component, the instances still to come, FORCE. -/
structure Activation where
  comp : Nat := 0
  left : List Nat := []
  force : Bool := false
  /-- The evacuation of the stack in turn has begun (R503). -/
  evacuating : Bool := false
  /-- The frame in which that stack's turn came (R503). -/
  since : Nat := 0
  /-- The round of the SerDes firmware, and the ports still to be taken in it (R502). -/
  round : Nat := 0
  ports : List Nat := []
deriving DecidableEq, Repr, Inhabited

/-- Update state (R497–R505). -/
structure Update where
  opened : Bool := false
  size : Nat := 0
  data : List Host.Cell := []
  verified : Option Image := none
  flash : Option Image := some {}  -- the bootable image in flash
  flashInvalid : Bool := false
  running : Image := {}
  /-- Component × 256 + instance ↦ digest that runs. -/
  digests : AMap Nat := []
  skipped : List Nat := []
  /-- Core 0 has loaded the new Ibfen, and waits for a serialiser boundary (R500). -/
  handover : Bool := false
  /-- The staged image has been committed (R509). -/
  committed : Bool := false
  activation : Option Activation := none
  /-- An UPDATE_COMMIT occupies the flash, and will succeed or not. -/
  writing : Option Bool := none
deriving DecidableEq, Repr, Inhabited

/-- The management die (R474–R509). -/
structure MgmtS where
  conns : AMap Conn := []
  heldEvents : List Nat := []      -- event records kept while no connection is open
  log : List Nat := []             -- 1024-bit records in flash, oldest first
  logBuf : List (Nat × Nat × Nat) := []   -- (TYPE, frame, body) in MD memory
  logDropped : Nat := 0
  lseq : Nat := 0
  boot : Nat := 0
  manifestBytes : Bytes := []
  manifest : Option Manifest := none   -- in flash
  manifestFrags : List Bytes := []
  /-- Reactions recorded in the boot configuration (R441). -/
  flashReactions : AMap Nat := []
  netSgmii : Bool := false
  netAddrs : Bytes := []
  minSvn : Nat := 0
  revoked : List Nat := []
  ownerKeys : Option (Nat × Nat) := none
  anchors : List Bytes := []
  sensors : AMap Nat := []
  sessions : List (Nat × Nat) := []    -- SPDM sessions: (identifier, transport)
  nextSession : Nat := 1
  spdmOut : List (Nat × Nat) := []     -- SPDM responses sent: (transport, response code)
  evidence : Bytes := []
  oagalLevel : Nat := 0
  oagalUntil : Nat := 0                -- frame in which the level lapses (R508)
  nonce : Option Nat := none
  nonceAt : Nat := 0                   -- frame in which it was issued
  tripLatch : Bool := false            -- a trip whose record waits for the next boot (R440)
  oagalOut : List (Nat × Nat) := []    -- what the last serial command printed: (bytes, value)
  jtag : Bool := false
  halted : Bool := false
  steps : Nat := 0
  update : Update := {}
deriving DecidableEq, Repr, Inhabited

/-- The package. -/
structure State where
  pending : List Instr := []       -- the commands that wait, first in, first out
  fresh : Nat := 0                 -- the model's own: how many free values have been drawn
  straps : Straps := {}
  time : TimeS := {}
  power : PowerS := {}
  host : HostS := {}
  mbx : MbxS := {}
  xlat : XlatS := {}
  mem : MemS := {}
  groups : AMap Group := []
  seqs : SeqS := {}
  coll : CollS := {}
  fab : FabS := {}
  route : RouteS := {}
  ports : AMap Port := []
  flt : FaultS := {}
  mgmt : MgmtS := {}
deriving DecidableEq, Repr, Inhabited

/-- Why the machine would stop with a fault. No meaning of this model raises one: every event of the spec
has an effect, and an event that cannot occur in a state leaves it as it is (log entry 2). Log: 2 DESIGN CHOICE. -/
inductive Fault
  /-- Raised by nobody; safe. -/
  | unused
deriving DecidableEq, Repr

/-- Why a command would be refused by the model. -/
inductive Refusal
  /-- The command has no meaning yet; raised by an arm of `exec` only; safe. -/
  | notModelled (mnemonic : String)
deriving DecidableEq, Repr

/-- The package right after reset: every field at the value the spec states, or the one its log entry names.
Log: 14 DESIGN CHOICE, 200 DEDUCED. -/
def State.reset : State := {}

end Sys2Proof.Machine
end

