-- ==== Sys2Proof/Machine/Ops.lean ====
section
/-! DEFINITION. Named operations over the state: records of the sparse tables, byte memory, free values, shared
queues and interrupts, event records, the log, fault capture and mailbox responses. -/
namespace Sys2Proof.Machine

/-! ## Status codes (R7) -/

def OK : Nat := 0
def BUSY : Nat := 1
def REFUSED : Nat := 2
def SUPERSEDED : Nat := 3
def MISMATCH : Nat := 4
def POISONED : Nat := 5
def TIMEOUT : Nat := 6
def DENIED : Nat := 7

/-! ## Records -/

def State.grp (s : State) (g : Nat) : Group := AMap.get {} s.groups g
def State.setGrp (s : State) (g : Nat) (x : Group) : State := { s with groups := AMap.set s.groups g x }
def State.modGrp (s : State) (g : Nat) (f : Group → Group) : State := s.setGrp g (f (s.grp g))

def State.prt (s : State) (p : Nat) : Port := AMap.get {} s.ports p
def State.setPrt (s : State) (p : Nat) (x : Port) : State := { s with ports := AMap.set s.ports p x }
def State.modPrt (s : State) (p : Nat) (f : Port → Port) : State := s.setPrt p (f (s.prt p))

def State.modMem (s : State) (f : MemS → MemS) : State := { s with mem := f s.mem }
def State.modFlt (s : State) (f : FaultS → FaultS) : State := { s with flt := f s.flt }
def State.modFab (s : State) (f : FabS → FabS) : State := { s with fab := f s.fab }
def State.modHost (s : State) (f : HostS → HostS) : State := { s with host := f s.host }
def State.modXlat (s : State) (f : XlatS → XlatS) : State := { s with xlat := f s.xlat }
def State.modMbx (s : State) (f : MbxS → MbxS) : State := { s with mbx := f s.mbx }
def State.modRoute (s : State) (f : RouteS → RouteS) : State := { s with route := f s.route }
def State.modColl (s : State) (f : CollS → CollS) : State := { s with coll := f s.coll }
def State.modSeq (s : State) (f : SeqS → SeqS) : State := { s with seqs := f s.seqs }
def State.modPower (s : State) (f : PowerS → PowerS) : State := { s with power := f s.power }
def State.modTime (s : State) (f : TimeS → TimeS) : State := { s with time := f s.time }
def State.modMgmt (s : State) (f : MgmtS → MgmtS) : State := { s with mgmt := f s.mgmt }
def State.modUpd (s : State) (f : Update → Update) : State :=
  s.modMgmt fun m => { m with update := f m.update }

def State.stk (s : State) (n : Nat) : Stack := AMap.get {} s.mem.stks n
def State.modStk (s : State) (n : Nat) (f : Stack → Stack) : State :=
  s.modMem fun m => { m with stks := AMap.set m.stks n (f (AMap.get {} m.stks n)) }

def State.ent (s : State) (p : Nat) : DirEntry := AMap.get {} s.mem.dir p
def State.setEnt (s : State) (p : Nat) (e : DirEntry) : State :=
  s.modMem fun m => { m with dir := AMap.set m.dir p e }

def State.ctx (s : State) (c : Nat) : Ctx := AMap.get {} s.xlat.ctxs c
def State.setCtx (s : State) (c : Nat) (x : Ctx) : State :=
  s.modXlat fun t => { t with ctxs := AMap.set t.ctxs c x }

def State.pol (s : State) (p : Nat) : Policy := AMap.get {} s.mem.policies p

def State.qcfg (s : State) (q : Nat) : QCfg := AMap.get {} s.host.qcfg q
def State.squeue (s : State) (q : Nat) : SQueue := AMap.get {} s.host.queues q
def State.setSqueue (s : State) (q : Nat) (x : SQueue) : State :=
  s.modHost fun h => { h with queues := AMap.set h.queues q x }

def State.node (s : State) (n : Nat) : CollNode := AMap.get {} s.coll.nodes n
def State.setNode (s : State) (n : Nat) (x : CollNode) : State :=
  s.modColl fun c => { c with nodes := AMap.set c.nodes n x }

def State.seqCtx (s : State) (c : Nat) : Option SeqCtx := AMap.find s.seqs.ctxs c
def State.setSeqCtx (s : State) (c : Nat) (x : SeqCtx) : State :=
  s.modSeq fun q => { q with ctxs := AMap.set q.ctxs c x }

def Group.que (x : Group) (e q : Nat) : HwQueue := AMap.get {} x.queues (e * 16 + q)
def Group.setQue (x : Group) (e q : Nat) (y : HwQueue) : Group :=
  { x with queues := AMap.set x.queues (e * 16 + q) y }
def Group.list? (x : Group) (id : Nat) : Option CmdList := x.lists.find? (fun l => l.id == id)
def Group.setList (x : Group) (l : CmdList) : Group :=
  { x with lists := x.lists.map (fun k => if k.id == l.id then l else k) }
def Group.ctr (x : Group) (c : Nat) : BitVec 32 := AMap.get 0 x.ctrs c

/-- A package-wide or chapter-wide count, by index, saturating at 32 bits. -/
def bump (t : AMap Nat) (i : Nat) (n : Nat := 1) : AMap Nat := AMap.set t i (satAdd 32 (AMap.get 0 t i) n)

/-! ## The package's own place (R17) -/

def State.tray (s : State) : Nat := s.straps.slot
def State.nodeNo (s : State) : Nat := 8 + s.straps.side
/-- Tray × 16 + node of this package. -/
def State.self (s : State) : Nat := s.tray * 16 + s.nodeNo
/-- Tray × 16 + node of the pair partner. -/
def State.partner (s : State) : Nat := s.tray * 16 + (9 - s.straps.side)
/-- Base of this package's node in the fabric address space (R27). -/
def State.base (s : State) : Nat := s.self * 2 ^ 47
/-- The base of another node's offsets. -/
def nodeBase (node : Nat) : Nat := node * 2 ^ 47

/-- Leave package standby (R435); an evacuated stack stays in self-refresh. -/
def leaveStandby (s : State) : State :=
  if s.power.standby then
    (s.modPower fun p => { p with standby := false }).modMem fun m => { m with
      stks := AMap.mapVals (fun _ x => { x with selfRefresh := x.selfRefresh && x.evacuated && ! x.evacuating }) m.stks }
  else s

/-! ## Free values -/

/-- Draw the next free value. -/
def State.draw (s : State) : Nat × State := (Config.free s.fresh, { s with fresh := s.fresh + 1 })

/-- The tick within the frame, which the model does not count: a free value below 10,240 (log entry 7).
Log: 7 DESIGN CHOICE. -/
def State.drawTick (s : State) : Nat × State := (Config.free s.fresh % 10240, { s with fresh := s.fresh + 1 })

/-! ## Byte memory -/

/-- The byte at a node offset; what is not listed reads as zero (log entry 8). Log: 8 DESIGN CHOICE. -/
def Mem.read : List Host.Cell → Nat → Byte
  | [], _ => 0
  | (a, b) :: t, k => if a = k then b else Mem.read t k

/-- Memory with one byte written; a zero is not listed. -/
def Mem.write : List Host.Cell → Nat → Byte → List Host.Cell
  | [], k, v => if v = 0 then [] else [(k, v)]
  | (a, b) :: t, k, v =>
    if k = a then (if v = 0 then t else (k, v) :: t)
    else if k < a then (if v = 0 then (a, b) :: t else (k, v) :: (a, b) :: t)
    else (a, b) :: Mem.write t k v

/-- Memory with bytes written from an offset on. -/
def Mem.writeBytes : List Host.Cell → Nat → Bytes → List Host.Cell
  | m, _, [] => m
  | m, k, v :: vs => Mem.writeBytes (Mem.write m k v) (k + 1) vs

/-- The bytes from an offset on. -/
def Mem.readBytes (m : List Host.Cell) (k : Nat) : Nat → Bytes
  | 0 => []
  | n + 1 => Mem.read m k :: Mem.readBytes m (k + 1) n

/-- Memory with `n` bytes from an offset on cleared to zero. -/
def Mem.clear (m : List Host.Cell) (k n : Nat) : List Host.Cell :=
  m.filter (fun c => ! (decide (k ≤ c.1) && decide (c.1 < k + n)))

/-- The canonical form from a lower bound on: offsets strictly rising, no zero listed. -/
def Mem.wfFrom : Nat → List Host.Cell → Bool
  | _, [] => true
  | lo, (a, b) :: t => decide (lo ≤ a) && b != 0 && Mem.wfFrom (a + 1) t

/-- The canonical form of memory. -/
def Mem.wf (m : List Host.Cell) : Bool := Mem.wfFrom 0 m

/-! ## Shared queues and interrupts (R385, R394–R400) -/

/-- Cells of the pool in use (R394, R399). -/
def State.usedCells (s : State) : Nat := sumBy (fun e => e.2.entries.length + e.2.lostCells) s.host.queues

/-- Send a vector, or set its pending bit while it is masked (R385). -/
def sendVector (s : State) (v : Nat) : State :=
  let e : Msix := AMap.get {} s.host.msix v
  if e.masked || s.host.functionMask then
    s.modHost fun h => { h with msix := AMap.set h.msix v { e with pendingBit := true } }
  else s.modHost fun h => { h with irqs := h.irqs ++ [v] }

/-- The queue counts as empty: BROKEN is set, or QRESET has not yet returned the cells it lost (R399). -/
def SQueue.stuck (x : SQueue) : Bool := x.broken || x.lostCells != 0

/-- The condition of R400 under which an armed queue interrupts. -/
def irqDue (c : QCfg) (q : SQueue) : Bool :=
  ! q.stuck && (decide (c.thresh ≤ q.entries.length) || (q.heldItr && ! q.entries.isEmpty))

/-- Disarm the queue and send its vector when it is armed and the condition holds (R400). -/
def checkIrq (s : State) (q : Nat) : State :=
  let c := s.qcfg q
  let x := s.squeue q
  if c.irqEn && x.armed && irqDue c x then sendVector (s.setSqueue q { x with armed := false }) c.vec else s

/-- Push an entry to a queue of a type, or drop it (R394, R397, R399). -/
def pushQueue (s : State) (q ty entry : Nat) : State :=
  let c := s.qcfg q
  let x := s.squeue q
  if s.host.wedged then s
  else if ! c.en || c.ty != ty then s.modHost fun h => { h with qDrops := h.qDrops + 1 }
  else if x.stuck || decide (c.quota ≤ x.entries.length) || decide (65536 ≤ s.usedCells) then
    s.setSqueue q { x with overflow := true, lost := satAdd 32 x.lost 1 }
  else
    let first := x.entries.isEmpty
    checkIrq (s.setSqueue q { x with
      entries := x.entries ++ [entry % 2 ^ 512]
      waiting := x.waiting || (first && c.itr != 0)
      heldItr := x.heldItr || (first && c.itr == 0) }) q

/-! ## The log, event records (R401, R447, R479, R482) -/

/-- Buffer a log record (R482). -/
def logAdd (s : State) (ty body : Nat) : State :=
  s.modMgmt fun m =>
    if decide (4096 ≤ m.logBuf.length) then { m with logDropped := m.logDropped + 1 }
    else { m with logBuf := m.logBuf ++ [(ty, s.time.lfc, body)] }

/-- Hand an event record to the management network (R479). -/
def eventToMgmt (s : State) (ev : Nat) : State :=
  s.modMgmt fun m =>
    if m.conns.isEmpty then
      { m with heldEvents := (m.heldEvents ++ [ev]).drop (m.heldEvents.length + 1 - 4096) }
    else { m with conns := m.conns.map fun e => (e.1, { e.2 with out := e.2.out ++ [(3, 0, leBytes 64 ev)] }) }

/-- Push an event record to the host event queue and the management network, and log it (R401, R479). Log: 216 DEDUCED. -/
def pushEvent (s : State) (code body : Nat) : State :=
  let (t, s) := s.drawTick
  let ev := pack [(16, code), (48, s.time.lfc), (14, t), (2, 0), (432, body)]
  logAdd (eventToMgmt (pushQueue s s.host.evq 1 ev) ev) 2 ev

/-- Change PHASE and announce it with event 0x0305 (R456). Log: 199 DEDUCED. -/
def setPhase (s : State) (p : Nat) : State :=
  pushEvent (s.modFlt fun f => { f with phase := p }) 0x0305 p

/-! ## Fault capture (R439, R440, R444) -/

/-- The die whose register captures a fault of a class and instance (R444): 0–7 port dies, 8–11 crossbar dies,
12–15 hub dies, 16–17 sequencer dies, 18 MD, 19 HX, 20–51 base dies. -/
def dieOf (cls inst : Nat) : Nat :=
  if cls = 1 then inst / 16
  else if cls = 2 then inst
  else if cls = 3 ∨ cls = 4 then 8 + inst
  else if cls = 5 ∨ cls = 6 then 20 + inst
  else if cls = 7 then 12 + inst
  else if cls = 8 then 16 + inst
  else if cls = 9 ∨ cls = 0x0F then 19
  else 18

/-- Default reaction byte of a source (R440). -/
def defaultReaction (cls cause : Nat) : Nat :=
  if cls = 1 then 0b100001
  else if cls = 2 ∨ cls = 7 ∨ cls = 8 ∨ cls = 9 then 0b100101
  else if cls = 3 ∨ cls = 5 then 0b100001
  else if cls = 4 then 0b010101
  else if cls = 6 then (if cause = 3 then 0b000001 else 0b100001)
  else if cls = 0x0A then 0b010100
  else if cls = 0x0B then 0b000111
  else if cls = 0x10 then 0b000011
  else if cls = 0x11 ∨ cls = 0x12 then 0b000101
  else 0b000001

/-- Reaction bits that hardware fixes (R440). -/
def fixedReaction (cls cause : Nat) : Nat :=
  if cls = 1 then (if cause = 1 ∨ cause = 2 then 0b100000 else 0)
  else if cls = 6 then (if cause = 1 ∨ cause = 2 then 0b100000 else 0)
  else if cls = 2 ∨ cls = 3 ∨ cls = 5 ∨ cls = 7 ∨ cls = 8 ∨ cls = 9 then 0b100000
  else if cls = 4 ∨ cls = 0x0A then 0b010000
  else 0

/-- The reaction byte in force for a fault; cause 0 is UNIT_FENCE's (R439, R440, R472). -/
def State.reactionOf (s : State) (cls inst cause : Nat) : Nat :=
  if cause = 0 ∧ 1 ≤ cls ∧ cls ≤ 9 then 0b100001
  else match (AMap.find s.flt.reactions (cls * 65536 + inst)).orElse fun _ => AMap.find s.flt.reactions (cls * 65536 + 65535) with
  | some r => r ||| fixedReaction cls cause
  | none => defaultReaction cls cause

/-- Raise a fault within a step; `settle` (Faults.lean) captures it and applies its reaction. -/
def raise (s : State) (c : Capture) : State :=
  s.modFlt fun f => { f with raised := f.raised ++ [{ c with frame := s.time.lfc }] }

/-- Count a refusal and enter its record, at most one per frame and context (R43). `die` is the die that
makes the refusal. Log: 85 DESIGN CHOICE. -/
def noteRefusal (s : State) (die : Nat) (ctx : Option Nat) (addr part op : Nat) : State :=
  match ctx with
  | some c =>
    let x := s.ctx c
    let s1 := s.setCtx c { x with refusals := satAdd 64 x.refusals 1, recordAt := some s.time.lfc }
    if x.recordAt == some s.time.lfc then s1
    else raise s1 { die := die, cls := 0x0D, inst := c, cause := 1, status := DENIED, addr := addr, ctx := c,
                    part := part, detail := op }
  | none =>
    let s1 := s.modFab fun f => { f with stats := bump f.stats 6 }
    if s.xlat.noCtxAt == some s.time.lfc then s1
    else raise (s1.modXlat fun t => { t with noCtxAt := some s.time.lfc })
      { die := die, cls := 0x0D, inst := 0xFFFF, cause := 1, status := DENIED, addr := addr, part := part, detail := op }

/-- Enter a class 0x0E record for a destination, at most one per frame (R313, R442). -/
def notePacket (s : State) (dest : Nat) (c : Capture) : State :=
  if AMap.get 0 s.fab.recordAt dest == s.time.lfc + 1 then s
  else raise (s.modFab fun f => { f with recordAt := AMap.set f.recordAt dest (s.time.lfc + 1) })
    { c with cls := 0x0E, inst := dest }

/-- Count a load timeout and enter its record; `die` tracks the request (R313). -/
def noteTimeout (s : State) (die dest op ctx : Nat) : State :=
  notePacket (s.modFab fun f => { f with stats := bump f.stats 0, byDest := bump f.byDest dest }) dest
    { die := die, cause := 1, status := TIMEOUT, ctx := ctx, node := dest, detail := op }

/-! ## Mailbox responses (R387–R393) -/

/-- The bytes of a body laid out under R388. -/
def layBody : List (Nat × Nat) → Bytes → Bytes
  | [], acc => acc
  | (n, v) :: fs, acc =>
    let a := min n 8
    let pad := if a = 0 then 0 else (a - acc.length % a) % a
    layBody fs (acc ++ List.replicate pad 0 ++ leBytes n v)

/-- The response frame of R387. -/
def respFrame (r : Response) (tag : Nat) (body : Bytes) (enc : Bool) (ctr gtag : Nat) : Bytes :=
  let h := pack [(16, r.code), (16, tag), (12, body.length), (1, b2n enc), (3, 0), (8, 1), (8, r.status), (64, ctr), (128, gtag)]
  slice (leBytes 32 h ++ body) 0 4096

/-- A Sluice key or nonce: use number (0 h2d, 1 d2h, 2 mbq, 3 mbr) × 2, plus 1 for the nonce (R403). -/
def sluiceKey (s : State) (use gen : Nat) : Nat := Config.hkdf s.host.sluice.session use gen

/-- The GCM nonce: the fixed nonce XOR the counter (R403). -/
def sluiceNonce (s : State) (use gen ctr : Nat) : Nat := sluiceKey s (use + 1) gen ^^^ (ctr * 2 ^ 32)

/-- Place a response in its slot, and tell the requester (R386, R401, R479). Log: 136 DEDUCED. -/
def deliver (s : State) (ref : SlotRef) (r : Response) : State :=
  let plain := layBody r.data []
  let hdr := leBytes 16 (pack [(16, r.code), (16, ref.tag), (12, plain.length), (1, 1), (3, 0), (8, 1), (8, r.status)])
  let ctr := AMap.get 0 s.host.sluice.nextMbr ref.gen
  let (body, gtag, s) :=
    if ref.enc then
      let (c, t) := Config.gcmSeal (sluiceKey s 6 ref.gen) (sluiceNonce s 6 ref.gen ctr) (leNat hdr) plain
      (c, t, s.modHost fun h => { h with sluice := { h.sluice with nextMbr := AMap.set h.sluice.nextMbr ref.gen (ctr + 1) } })
    else (plain, 0, s)
  let frame := respFrame r ref.tag body ref.enc (if ref.enc then ctr else 0) gtag
  match ref.master with
  | .host =>
    -- a slot that a function reset freed since then gets nothing (R452)
    if (AMap.get ({} : Slot) s.mbx.hostSlots ref.slot).st ≠ 2 then s
    else
    let s := s.modMbx fun m => { m with hostSlots := AMap.set m.hostSlots ref.slot { frame := frame, st := 3 } }
    pushQueue s s.host.respq 2 (pack [(4, ref.slot), (16, ref.tag), (8, r.status), (16, r.code)])
  | .mgmt =>
    let c := (AMap.get ({} : Slot) s.mbx.mgmtSlots ref.slot).conn
    if AMap.has s.mgmt.conns c then
      (s.modMbx fun m => { m with mgmtSlots := AMap.set m.mgmtSlots ref.slot { frame := frame, st := 3, conn := c } }).modMgmt
        fun g => { g with conns := AMap.modify {} g.conns c fun k => { k with out := k.out ++ [(2, ref.slot, frame)] } }
    else s.modMbx fun m => { m with mgmtSlots := AMap.set m.mgmtSlots ref.slot {} }

/-- Answer the mailbox command in service. -/
def respond (s : State) (m : Master) (code status : Nat) (data : List (Nat × Nat) := []) : State :=
  let r : Response := { master := m, code := code, status := status, data := data }
  let s1 := s.modMbx fun x => { x with
    resp := r
    served := x.served + 1
    cur := none
    supersededHost := x.supersededHost + (if status = SUPERSEDED ∧ m = .host then 1 else 0)
    supersededMgmt := x.supersededMgmt + (if status = SUPERSEDED ∧ m = .mgmt then 1 else 0) }
  match s.mbx.cur with
  | none => s1
  | some ref => deliver s1 ref r

/-- Leave the serialiser to wait on hardware; SERIALISER_HARDWARE_WAIT_END sends the response (R389). Log: 149 DEDUCED. -/
def defer (s : State) (m : Master) (code status : Nat) (data : List (Nat × Nat) := []) : State :=
  s.modMbx fun x => { x with
    hwWait := x.hwWait ++ [{ resp := { master := m, code := code, status := status, data := data }, ref := x.cur }]
    cur := none }

/-- A requester that may manage a partition (R382, R44). -/
def mayManage (s : State) (m : Master) (part : Nat) : Bool :=
  match m with
  | .mgmt => true
  | .host => s.host.hostParts.testBit part

/-- Commands that complete SUPERSEDED while the package is in emergency off (R392, R433). -/
def epoBlocked (code : Nat) : Bool :=
  [0x0500, 0x0504, 0x0390, 0x0405, 0x0406, 0x0408, 0x0A02, 0x0A04, 0x0904, 0x0B01, 0x0704].contains code

/-- Whether a command of this code from this master is served now, and if not how it completes
(R457, R490, R491, R392, R433). `none`: no mailbox can be reached, or its cores are halted (R389, R507). -/
def gate (s : State) (m : Master) (code : Nat) : Option (Option Nat) :=
  let p := s.flt.phase
  let grp := code / 256
  if p < 2 ∨ p = 7 ∨ s.mgmt.halted then none
  else if m = .host ∧ (p = 8 ∨ s.host.wedged) then none
  else if p = 8 then
    some (if [0x0100, 0x0700, 0x0701, 0x0702, 0x0703].contains code then none else some BUSY)
  else if m = .mgmt ∧ s.mgmt.ownerKeys = none ∧ s.mgmt.anchors = [] ∧ grp ≠ 1 ∧ code ≠ 0x0800 ∧ code ≠ 0x0801 then
    some (some DENIED)
  else if p = 2 then
    some (if (m = .mgmt ∧ [1, 3, 5, 6, 7, 8].contains grp) ∨ [0x0100, 0x0101].contains code then none else some BUSY)
  else if s.power.epoPin ∧ epoBlocked code then some (some SUPERSEDED)
  else if s.power.epo ∧ epoBlocked code ∧ code ≠ 0x0504 then some (some SUPERSEDED)
  else some none

/-- Serve a mailbox command: `f` when it is served now, otherwise its status; nothing when no mailbox can
be reached. -/
def serve (s : State) (m : Master) (code : Nat) (f : State → State) : State :=
  match gate s m code with
  | none => s
  | some (some st) => respond s m code st
  | some none => f s

end Sys2Proof.Machine
end

