-- ==== Sys2Proof/Machine/Registers.lean ====
section
/-! DEFINITION. The registers as they read: device registers (R16, R380–R382, R386, R404, R455), stacks (R103), ports
(R375), engine groups (R126–R129), node slots (R257), the node control window (R280, R281, R283), time (R419), power
(R424, R437), routing (R351), translation (R50), packets (R314), queues (R395, R396), sequence contexts (R205). -/
namespace Sys2Proof.Machine

/-! ## Manifest and ports -/

def State.man (s : State) : Manifest := s.mgmt.manifest.getD {}
def State.manPort (s : State) (p : Nat) : Option PortEntry := AMap.find s.man.ports p
/-- The port is listed present (R24, R458). -/
def State.present (s : State) (p : Nat) : Bool := AMap.has s.man.ports p
/-- The port faces an end point (R30): the manifest says so, or R19 connects it to an accelerator. -/
def State.isEndPointPort (s : State) (p : Nat) : Bool :=
  match s.manPort p with
  | some e => e.endPoint
  | none => false
/-- A port that packets can use: accepted, in its sets, active or stepping (R344, R459). -/
def State.live (s : State) (p : Nat) : Bool :=
  let x := s.prt p
  x.accepted && x.inSets && (x.st == 2 || x.st == 3) && ! x.quarantined

def livePorts (s : State) : List Nat := (List.range 128).filter s.live

/-- Ports quarantined, and present ports not accepted that count as missing. -/
def quarantinedCount (s : State) : Nat := ((List.range 128).filter fun p => (s.prt p).quarantined).length
def missingCount (s : State) : Nat := ((List.range 128).filter fun p => (s.prt p).missing).length

/-- Every present port is accepted, quarantined or missing (R459). -/
def discoveryDone (s : State) : Bool :=
  s.mgmt.manifest.isSome && s.man.ports.all fun e =>
    let x := s.prt e.1
    x.accepted || x.quarantined || x.missing || x.heldDown || x.down

def joinedStacks (s : State) : Nat := ((List.range 32).filter fun n => (s.stk n).joined).length

/-- Some present uplink count: live ports that face no end point and are not partner links of a leaf (R19). -/
def liveUplinks (s : State) : Nat :=
  (livePorts s).countP fun p =>
    match s.manPort p with
    | some e => ! e.endPoint && e.node != s.partner
    | none => false

def State.isUnitFenced (s : State) (cls inst : Nat) : Bool :=
  s.flt.fenced.any fun f => f.cls == cls && f.inst == inst

/-- The straps disagree with the manifest (R18). Log: 175 DEDUCED. -/
def strapMismatch (s : State) : Bool :=
  match s.mgmt.manifest with
  | none => false
  | some m => m.own.node != s.self || m.own.spine != (s.straps.role == 1) || m.own.sideB != (s.straps.side == 1)

/-- The outcome PART_START would have (R462): the status, or OK. -/
def partCheck (s : State) : Nat :=
  if strapMismatch s || (s.flt.heardPartner.isSome && s.flt.partnerMirror != s.mem.mirrorPerStack) then MISMATCH
  else if (s.straps.role == 0 && decide (liveUplinks s < s.man.minUp))
      || (decide (joinedStacks s < s.man.minStacks) && decide (4 < s.flt.phase))
      || (s.man.requiresPartner &&
          (match s.flt.heardPartner with
           | none => true
           | some f => decide (f + 16 ≤ s.time.lfc))) then REFUSED
  else if ! s.flt.discDone || decide (s.flt.phase < 5) then BUSY
  else OK

/-- PAIR as it reads: a package that has not heard its partner since reset is solo (R469). -/
def pairReads (s : State) : Nat := if s.flt.heardPartner.isNone ∧ s.flt.phase ≥ 2 then 6 else s.flt.pair

/-- The package holds its lease (R463, R469). Log: 184 DEDUCED. -/
def leaseHeld (s : State) : Bool :=
  let f := s.flt
  let recent (x : Nat) : Bool := decide (s.time.lfc < x + 16)
  f.solo || f.heardPartner.isNone || f.partnerHeardUs.any recent ||
  decide (s.man.witnesses.length / 2 + 1 ≤ s.man.witnesses.countP fun w => (AMap.find f.witnessAcks w).any recent)

/-- ERR_N is asserted: by an entry above the acknowledged SEQ, or by a fault whose entry is not yet written (R443, R444).
Log: 165 DEDUCED. -/
def errAsserted (s : State) : Bool :=
  s.flt.errPending || (s.flt.captures.any fun c => bitAt c.reaction 2) || (s.flt.savedCaptures.any fun c => bitAt c.reaction 2) ||
  s.flt.history.any fun h => bitAt h 114 && decide ((bits h 0 16 + 65536 - s.flt.acked) % 65536 < 32768)
    && bits h 0 16 != s.flt.acked

/-- DEV_STATUS (R455). -/
def regDevStatus (s : State) : Nat :=
  pack [(8, s.flt.phase), (6, joinedStacks s), (1, b2n s.flt.discDone), (1, b2n s.mgmt.manifest.isSome),
        (1, b2n (partCheck s == OK)), (3, pairReads s),
        (1, b2n (! s.flt.fenced.isEmpty || decide (0 < missingCount s))), (1, b2n (errAsserted s)),
        (1, b2n s.flt.calibrated), (1, 0), (16, min s.flt.lost 65535), (8, min (quarantinedCount s) 255),
        (8, min (missingCount s) 255)]

/-- STRAP_STATUS (R16). -/
def regStraps (s : State) : Nat :=
  pack [(1, s.straps.role), (1, s.straps.side), (5, s.straps.slot), (4, s.nodeNo)]

/-- HX_STATUS (R381). Log: 128 DEDUCED. -/
def regHx (s : State) : Nat :=
  let h := s.host
  pack [(1, b2n h.linkUp), (1, b2n h.flit), (3, h.speed), (4, h.width), (1, b2n h.conf), (1, b2n h.wedged),
        (1, b2n (h.mapEn && ! h.conf))]

/-- BAR2_MAP (R382). -/
def regBar2Map (s : State) : Nat := pack [(5, s.host.mapWin), (6, s.host.mapPart), (1, b2n s.host.mapEn)]

/-- XLAT_STATUS (R50). -/
def regXlatStatus (s : State) : Nat :=
  let x := s.xlat
  pack [(1, b2n x.atsOn), (1, b2n (x.priEn && ! x.priStopped)), (1, b2n x.priStopped), (14, x.atc.length),
        (6, x.invals.length)]

/-- PKT_CTRL (R314). -/
def regPktCtrl (s : State) : Nat := pack [(10, s.fab.loadTmo), (1, b2n s.fab.localise)]

/-- Packets in the package that carry the old epoch (R347, R351). -/
def oldPackets (s : State) : Nat :=
  match s.route.old with
  | none => 0
  | some b => (s.fab.inbuf ++ s.fab.outq).countP fun q => q.pkt.epoch == b.epoch

/-- Devik packages other than this one. -/
def otherPackages (s : State) : List Nat := (s.man.packages.map (·.node)).filter (· != s.self)

/-- ROUTE_STATUS (R351). -/
def regRouteStatus (s : State) : Nat :=
  let r := s.route
  pack [(16, r.active.version), (1, b2n r.active.epoch), (2, r.st), (24, min (oldPackets s) 0xFFFFFF),
        (8, if r.st = 3 then min 255 (r.drainAt + r.drainFrames + 17 - s.time.lfc) else 0),
        (7, if r.st = 2 then min 127 ((otherPackages s).filter fun n => ! AMap.has r.drainedBy n).length else 0)]

/-- MBX_STATE (R386). -/
def regMbxState (s : State) : Nat :=
  pack ((List.range 16).map fun i => (2, (AMap.get ({} : Slot) s.mbx.hostSlots i).st))

def regMbxCfg (s : State) : Nat := pack [(9, s.host.respq), (9, s.host.evq)]
def regSluiceStatus (s : State) : Nat :=
  let x := s.host.sluice
  pack [(2, x.st), (12, x.head), (8, min x.tagFails 255), (32, x.gen)]
def regSluiceRing (s : State) : Nat :=
  pack [(4, s.host.sluice.sizeLog2), (8, 0), (52, s.host.sluice.base)]

/-! ## Queues (R395, R396) -/

def regQcfg (s : State) (q : Nat) : Nat :=
  let c := s.qcfg q
  pack [(1, b2n c.en), (2, c.ty), (16, c.quota), (11, c.vec), (1, b2n c.irqEn), (16, c.thresh), (10, c.itr)]

def regQstatus (s : State) (q : Nat) : Nat :=
  let x := s.squeue q
  let n := if x.stuck then 0 else x.entries.length
  pack [(17, n), (1, b2n (n == 0)), (1, b2n x.underrun), (1, b2n x.overflow), (1, b2n x.broken), (3, 0), (32, x.lost)]

/-! ## Stacks (R75–R77, R103) -/

def dataFrames (s : State) : Nat := 30496 - s.mem.mirrorPerStack
/-- POOL_PARCELS (R76). -/
def poolParcels (s : State) : Nat := 32 * dataFrames s

/-- The data frames of a stack in use: homes, and destinations and sources of moves, of own parcels and guests. -/
def usedFrames (s : State) (n : Nat) : List Nat :=
  let of (e : DirEntry) : List Nat :=
    (if e.st ≠ 0 ∧ e.home.kind = 1 ∧ e.home.holder = s.self ∧ e.home.stack = n then [e.home.frame] else []) ++
    (if e.st = 2 ∧ e.src.kind = 1 ∧ e.src.holder = s.self ∧ e.src.stack = n then [e.src.frame] else [])
  (s.mem.dir.flatMap fun x => of x.2) ++ (s.mem.guests.flatMap fun x => of x.2)

/-- A stack offers frames: joined, not fenced, not evacuated, not under activation (R77, R503). -/
def offersFrames (s : State) (n : Nat) : Bool :=
  let x := s.stk n
  x.joined && ! x.fenced && ! x.evacuated && ! x.activating

/-- Free data frames of a stack (R77). -/
def freeFrames (s : State) (n : Nat) : Nat :=
  if offersFrames s n then dataFrames s - ((usedFrames s n).filter fun f => decide (f < dataFrames s)).length else 0

/-- The lowest-numbered free data frame of a stack, given those already taken. -/
def firstFree : Nat → Nat → List Nat → Nat
  | 0, f, _ => f
  | n + 1, f, used => if used.contains f then firstFree n (f + 1) used else f

def lowestFreeFrame (s : State) (n : Nat) : Nat := firstFree (usedFrames s n).length 0 (usedFrames s n)

def regMsStatus (s : State) (n : Nat) : Nat :=
  let x := s.stk n
  pack [(1, b2n x.joined), (1, b2n x.fenced), (1, b2n x.hot), (1, b2n x.evacuated), (15, freeFrames s n), (11, x.spareRows)]
def regMsErrcnt (s : State) (n : Nat) : Nat := pack [(16, (s.stk n).ce), (8, (s.stk n).ue)]

/-! ## Ports (R375) -/

def regLinkCtrl (s : State) (p : Nat) : Nat :=
  let x := s.prt p
  pack [(2, x.maxRate), (1, b2n x.idleEn), (8, x.idleUs), (1, 0), (1, b2n x.down)]
/-- LINK_STATUS; FEC is in use at every rate above 1 (R356). -/
def regLinkStatus (s : State) (p : Nat) : Nat :=
  let x := s.prt p
  pack [(4, x.st), (2, x.rate), (1, b2n (decide (2 ≤ x.rate))), (1, b2n x.rateCapped), (1, b2n x.txIdle), (1, b2n x.rxIdle),
        (7, x.peerPort), (9, x.peerNode), (4, x.laneLock)]
def regLinkEq (s : State) (p : Nat) : Nat :=
  let x := s.prt p
  pack ((List.range 4).flatMap fun n => let t : Taps := AMap.get {} x.taps n; [(5, t.pre), (6, t.main), (5, t.post)])
def regLinkErr (s : State) (p : Nat) : Nat :=
  let x := s.prt p
  pack [(16, x.crcErr), (16, x.replays), (8, x.retrains), (8, x.downs), (15, x.fecUncorr)]

/-! ## Engine groups (R125–R129) -/

def regLastLoad (s : State) (g : Nat) : Nat :=
  let l := (s.grp g).lastLoad
  pack [(8, l.status), (8, l.reason), (16, l.listId), (16, l.index)]

/-- The index at the head of a queue: its oldest started command, else its oldest dispatched one. -/
def queueHead (q : HwQueue) : Option Nat :=
  match q.started with
  | r :: _ => some r.idx
  | [] => q.fifo.head?

def cmdAt (l : CmdList) (i : Nat) : Nat := (l.cmds.getD i 0).toNat

/-- A counter meets a target (R153). -/
def met (v t : BitVec 32) : Bool := (v - t).toNat < 2 ^ 31

/-- The counter a queue waits on, when a WAIT stands at its head unmet (R154). -/
def waitingOn (x : Group) (q : HwQueue) : Option Nat :=
  match x.list? q.list, queueHead q with
  | some l, some i =>
    let c := cmdAt l i
    if bits c 0 8 = 2 ∧ ! met (x.ctr (bits c 64 12)) (BitVec.ofNat 32 (bits c 96 32)) then some (bits c 64 12) else none
  | _, _ => none

/-- STATE of a queue (R127). -/
def queueState (x : Group) (q : HwQueue) : Nat :=
  if q.list = 0 then 0
  else if q.halted then 5
  else if (waitingOn x q).isSome then 4
  else if ! q.started.isEmpty then 3
  else if q.fifo.isEmpty then 1
  else 2

/-- Queue block (R127). -/
def regQueue (s : State) (g e q : Nat) : Nat :=
  let x := s.grp g
  let y := x.que e q
  pack [(3, queueState x y), (2, y.prio), (11, 0), (16, y.list), (16, (queueHead y).getD 0), (7, y.fifo.length), (1, 0),
        (12, (waitingOn x y).getD 0)]

def heldQueues (x : Group) (e : Nat) : Nat := (List.range 16).countP fun q => (x.que e q).list != 0
def heldGranules (x : Group) : Nat := sumBy (·.granCount) x.lists
def heldCounters (x : Group) : Nat := sumBy (·.ctrCount) x.lists

/-- GRP_STATUS (R128). A throttled group reads CLOCK 3 (R429), also when only the supply throttle is in force, a gated one 0, and so do
a fenced one, one without power and one in reset. A list counts from R133 step 5 on. Log: 240 DESIGN CHOICE. -/
def regGrpStatus (s : State) (g : Nat) : Nat :=
  let x := s.grp g
  let clk := if s.power.gated.contains g ∨ x.fenced ∨ s.power.epo ∨ s.flt.phase = 0 then 0
    else if s.power.ladder ≠ 0 ∨ s.power.supply then 3 else x.clock
  pack [(2, clk), (1, b2n x.fmtAll), (1, b2n x.fenced), (10, 512 - heldGranules x), (13, 4096 - heldCounters x), (5, 0),
        (5, 16 - heldQueues x 0), (5, 16 - heldQueues x 1), (5, 16 - heldQueues x 2), (5, 16 - heldQueues x 3),
        (6, 32 - sumBy (·.seqSlots) x.lists), (6, 32 - sumBy (·.collSlots) x.lists), (7, x.lists.countP fun l => ! l.checking)]

/-! ## Node slots (R257) -/

def nodeChildren (n : CollNode) : Nat := n.members.length + n.childNodes.length

def regNodeSlot (s : State) (slot : Nat) : Nat :=
  match AMap.find s.coll.nodes slot with
  | none => 0
  | some n =>
    pack [(16, n.group), (1, 1), (2, n.st), (1, b2n n.apex), (2, n.xd), (6, n.part), (4, 0), (16, n.opgen),
          (13, nodeChildren n), (3, 0), (10, n.window), (22, 0), (32, n.combined), (32, n.nacks), (8, n.lastReason)]

/-! ## Node control window (R280–R283) -/

def regNodeId (s : State) : Nat :=
  pack [(5, s.tray), (4, s.nodeNo), (1, s.straps.role), (1, s.straps.side), (5, 0), (16, 0x2048),
        (8, Config.stepping.toNat)]

def regNodeStatus (s : State) : Nat :=
  pack [(8, s.flt.phase), (6, joinedStacks s),
        (32, pack ((List.range 32).map fun g => (1, b2n (s.grp g).fenced))),
        (4, pack ((List.range 4).map fun h => (1, b2n (s.isUnitFenced 7 h)))),
        (4, pack ((List.range 4).map fun x => (1, b2n (s.isUnitFenced 3 x))))]

/-- HOLDOVER reads 1 in every state but LOCKED (R413). -/
def regNodeFrame (s : State) (tick : Nat) : Nat :=
  pack [(48, s.time.lfc), (14, tick), (1, b2n (s.time.st != .locked))]

def regOrdStats (s : State) : Nat :=
  let m := s.mem
  pack [(32, m.flHits), (32, m.flFills), (32, m.flDropped), (32, m.invDone), (32, m.fenceTray), (32, m.fenceRack),
        (32, m.ctxFences)]

/-! ## Time and power (R419, R421, R424, R437) -/

def tstateCode : TState → Nat
  | .init => 0
  | .locked => 1
  | .holdover => 2
  | .steering => 3
  | .jumped => 4

/-- A package that sends HOPS 0: the timekeeper, and the acting alternate (R412). -/
def isKeeper (t : TimeS) : Bool := t.role == 1 || (t.role == 2 && t.altActive)

def regTimeStatus (s : State) : Nat :=
  let t := s.time
  let off : Int := max (-2147483648) (min 2147483647 t.offset)
  pack [(3, tstateCode t.st), (1, b2n t.pinsOk), (1, b2n (t.srcPort != 0x7F)), (1, b2n (isKeeper t)), (1, b2n t.altActive),
        (4, t.hops), (7, t.srcPort), (2, 0), (32, unsigned 32 off), (12, min t.holdS 4095)]

/-- The effective cap (R421). -/
def capEff (s : State) : Nat :=
  min (if s.power.safe then s.power.cfg.safeCap else s.power.cfg.cap) s.power.cfg.hostCap

def flowLoss (s : State) : Bool := s.power.flowReported || s.power.flowSelf

def regPowerCfg (s : State) : Nat :=
  let c := s.power.cfg
  pack [(12, c.cap), (6, c.slewUp), (9, c.slewDown), (1, b2n c.floorEn), (12, c.safeCap), (1, b2n c.standbyEn),
        (1, b2n c.gateEn), (10, c.gateUs), (12, c.hostCap)]
def regPowerStatus (s : State) : Nat :=
  let p := s.power
  pack [(12, capEff s), (12, p.limit), (12, p.power), (1, b2n p.capLag), (1, b2n p.safe), (3, p.ladder), (1, b2n p.trip),
        (1, b2n p.supply), (1, b2n p.epo), (1, b2n (flowLoss s)), (1, b2n p.filler), (1, b2n p.standby)]

/-! ## Contexts (R37, R39) and sequence contexts (R205) -/

def regSeg (g : Seg) : Nat :=
  pack [(1, b2n g.valid), (1, b2n g.rd), (1, b2n g.wr), (1, b2n g.at'), (1, b2n g.ct), (3, 0), (5, g.tray), (3, 0),
        (6, g.part), (42, 0), (30, g.base), (2, 0), (30, g.limit)]
def regCtx (x : Ctx) : Nat :=
  pack [(1, b2n x.valid), (6, x.part), (1, b2n x.pasidEn), (20, x.pasid), (1, b2n x.hostwin)]

/-- The directory entry of R81. -/
def regLoc (l : Loc) : Nat := pack [(3, l.kind), (5, l.stack), (15, l.frame), (9, l.holder)]
def regDir (e : DirEntry) : Nat :=
  pack [(32, regLoc e.home), (32, regLoc e.src), (2, e.st), (2, e.cls), (1, b2n e.mirror), (2, e.pin), (6, e.owner),
        (3, e.age), (16, e.total), (10, e.req0), (16, e.cnt0), (6, 0), (10, e.req1), (16, e.cnt1), (1, b2n e.unmirrored)]

/-! ## Reads -/

/-- A BAR0 register read as one access of its own size (R379); `none`: not a register of that size. The mailbox
slots and POP windows are read in Host.lean. -/
def readBar0 (s : State) (off size : Nat) : Option Nat :=
  if size = 8 then
    if off = 0x000 then some (regDevStatus s)
    else if off = 0x018 then some s.host.hostParts
    else if off = 0x038 then some (regRouteStatus s)
    else if off = 0x040 ∨ off = 0x070 then some 0
    else if off = 0x048 then some (regMbxState s)
    else if off = 0x050 then some (regMbxCfg s)
    else if off = 0x058 then some (regBar2Map s)
    else if off = 0x060 then some (regSluiceStatus s)
    else if off = 0x068 then some (regSluiceRing s)
    else if 0x2000 ≤ off ∧ off < 0x3000 ∧ off % 32 = 16 then some (regLinkEq s ((off - 0x2000) / 32))
    else if 0x2000 ≤ off ∧ off < 0x3000 ∧ off % 32 = 24 then some (regLinkErr s ((off - 0x2000) / 32))
    else if 0x3000 ≤ off ∧ off < 0x3100 ∧ off % 8 = 0 then some 0
    else if 0x3100 ≤ off ∧ off < 0x3200 ∧ off % 8 = 0 then some (regLastLoad s ((off - 0x3100) / 8))
    else if 0x30000 ≤ off ∧ off < 0x31000 ∧ off % 8 = 0 then some (regQcfg s ((off - 0x30000) / 8))
    else if 0x31000 ≤ off ∧ off < 0x32000 ∧ off % 8 = 0 then some (regQstatus s ((off - 0x31000) / 8))
    else if 0x108000 ≤ off ∧ off < 0x108100 ∧ off % 8 = 0 then
      some (pack ((List.range 64).map fun i =>
        (1, b2n (AMap.get ({} : Msix) s.host.msix ((off - 0x108000) * 8 + i)).pendingBit)))
    else none
  else if size = 4 then
    if off = 0x008 then some (regStraps s)
    else if off = 0x010 then some (regHx s)
    else if off = 0x020 then some s.xlat.priTmo
    else if off = 0x028 then some (regXlatStatus s)
    else if off = 0x030 then some (regPktCtrl s)
    else if 0x1000 ≤ off ∧ off < 0x1200 ∧ off % 16 = 0 then some (regMsStatus s ((off - 0x1000) / 16))
    else if 0x1000 ≤ off ∧ off < 0x1200 ∧ off % 16 = 8 then some (regMsErrcnt s ((off - 0x1000) / 16))
    else if 0x2000 ≤ off ∧ off < 0x3000 ∧ off % 32 = 0 then some (regLinkCtrl s ((off - 0x2000) / 32))
    else if 0x2000 ≤ off ∧ off < 0x3000 ∧ off % 32 = 8 then some (regLinkStatus s ((off - 0x2000) / 32))
    else if 0x100000 ≤ off ∧ off < 0x108000 ∧ off % 4 = 0 then
      let e : Msix := AMap.get {} s.host.msix ((off - 0x100000) / 16)
      let k := off % 16
      some (if k = 0 then bits e.addr 0 32 else if k = 4 then bits e.addr 32 32 else if k = 8 then e.data
            else b2n e.masked)
    else none
  else none

/-- The 64-byte block at a control-window offset, for the windows of the node: GCWn, SCWn, NCW. `tick` is the free tick
of NODE_FRAME. `none`: a reserved offset. -/
def ctlBlock (s : State) (off tick : Nat) : Option Nat :=
  let b := off - off % 64
  if 0x020040000000 ≤ b ∧ b < 0x020042000000 then
    let g := (b - 0x020040000000) / 0x100000
    let o := (b - 0x020040000000) % 0x100000
    if o < 0x8000 then some (pack ((List.range 8).map fun i => (64, ((s.grp g).ctr (o / 8 + i)).toNat)))
    else if o < 0x9000 then some (regQueue s g ((o - 0x8000) / 1024) ((o - 0x8000) / 64 % 16))
    else if o = 0x9000 then some (regGrpStatus s g)
    else if o = 0x9040 then some (regLastLoad s g * 2 ^ 128)
    else none
  else if 0x020042000000 ≤ b ∧ b < 0x020042200000 then
    let n := (b - 0x020042000000) / 0x100000
    let o := (b - 0x020042000000) % 0x100000
    if o < 0x8000 then some (regNodeSlot s (n * 512 + o / 64)) else none
  else if 0x020042200000 ≤ b ∧ b < 0x020042300000 then
    let o := b - 0x020042200000
    if o = 0 then some (pack [(64, regNodeId s), (64, regNodeStatus s), (64, regNodeFrame s tick)])
    else if o = 0x40 ∨ o = 0x80 then some 0
    else if o = 0xC0 then some (regOrdStats s)
    else none
  else none

/-- A control-window read: whole 8-byte fields or whole 64-byte blocks (R125, R257, R279). In the last 64 bytes of the
group registers only the three fields exist, and NCW's first block ends after three fields. -/
def readCtl (s : State) (off len tick : Nat) : Option Bytes :=
  if len = 8 ∧ off % 8 = 0 then
    let o := off % 0x100000
    let gcw : Bool := decide (off < 0x020042000000)
    let ncw : Bool := decide (0x020042200000 ≤ off)
    if (gcw && decide (0x9058 ≤ o)) || (ncw && decide (0x18 ≤ o) && decide (o < 0x40)) then none
    else (ctlBlock s off tick).map fun b => leBytes 8 (bits b (off % 64 * 8) 64)
  else if len = 64 ∧ off % 64 = 0 then (ctlBlock s off tick).map (leBytes 64)
  else none

end Sys2Proof.Machine
end

