-- ==== Sys2Proof/Machine/Access.lean ====
section
/-! DEFINITION. Accesses: the map of the node (R33), the checks of R29–R43, owner tags (R121, R122), poison (R68), lanes and
acceptance (R259, R260), counters (R124, R266), atomics (R177), trackers (R293, R313), far-line copies (R270, R271). -/
namespace Sys2Proof.Machine

/-! ## Addresses (R27, R33, R36) -/

def addrTray (a : Nat) : Nat := bits a 51 5
/-- Tray × 16 + node. -/
def addrNode (a : Nat) : Nat := bits a 47 9
def addrOff (a : Nat) : Nat := bits a 0 47

/-- A node of a Devik package: 8 or 9 of its tray (R17). -/
def isDevik (node : Nat) : Bool := node % 16 == 8 || node % 16 == 9

inductive Win
  | pool (p : Nat)
  | spad (g o : Nat)
  | gcw (g o : Nat)
  | scw (n o : Nat)
  | ncw (o : Nat)
  | host (v : Nat)
  | reserved
deriving DecidableEq, Repr

/-- The window an offset lies in (R33). -/
def winOf (off : Nat) : Win :=
  if off < 0x020000000000 then .pool (off / 0x200000)
  else if off < 0x020040000000 then .spad ((off - 0x020000000000) / 0x2000000) ((off - 0x020000000000) % 0x2000000)
  else if off < 0x020042000000 then .gcw ((off - 0x020040000000) / 0x100000) ((off - 0x020040000000) % 0x100000)
  else if off < 0x020042200000 then .scw ((off - 0x020042000000) / 0x100000) ((off - 0x020042000000) % 0x100000)
  else if off < 0x020042300000 then .ncw (off - 0x020042200000)
  else if 0x400000000000 ≤ off then .host (off - 0x400000000000)
  else .reserved

def isCtlOff (off : Nat) : Bool := decide (0x020040000000 ≤ off ∧ off < 0x020042300000)
def spadBase (g : Nat) : Nat := 0x020000000000 + g * 0x2000000

/-- The home hub die of an offset (R36); a fenced die's roles fall to the next (R450). -/
def homeHd (s : State) (off : Nat) : Nat :=
  let h := match winOf off with
    | .pool p => p % 4
    | .spad g _ => g / 8
    | .gcw g _ => g / 8
    | _ => 0
  if s.isUnitFenced 7 h then (h + 1) % 4 else h

/-- Bytes of this node are keyed by their offset, those of another node by their fabric address (log entry 11).
Log: 11 DESIGN CHOICE. -/
def keyOf (s : State) (node off : Nat) : Nat := if node = s.self then off else nodeBase node + off

/-- The directory entry of a parcel of a node: this node's, or that of a guest (R77, R81). -/
def entOf (s : State) (node p : Nat) : DirEntry :=
  if node = s.self then s.ent p
  else AMap.get {} s.mem.guests (node * 2 ^ 20 + p)

def setEntOf (s : State) (node p : Nat) (e : DirEntry) : State :=
  if node = s.self then s.setEnt p e
  else s.modMem fun m => { m with guests := AMap.set m.guests (node * 2 ^ 20 + p) e }

/-- The number under which a parcel of a node is kept here: an own parcel's is its own, another's has its node above it. -/
def parcelKey (s : State) (node p : Nat) : Nat := if node = s.self then p else node * 2 ^ 20 + p
/-- The node of a parcel kept under a number. -/
def keyedNode (s : State) (k : Nat) : Nat := if k < 2 ^ 20 then s.self else k / 2 ^ 20
def entAt (s : State) (k : Nat) : DirEntry := entOf s (keyedNode s k) (k % 2 ^ 20)

/-- The location of the ordering point of the tile at an offset (R84): during a move, the source until the tile flips. -/
def ordLoc (s : State) (node off : Nat) : Loc :=
  let p := off / 0x200000
  let e := entOf s node p
  let mv : Move := AMap.get {} s.mem.moves (parcelKey s node p)
  if e.st = 2 ∧ ! mv.present.contains (off % 0x200000 / 0x4000) then e.src else e.home

def locLocal (s : State) (l : Loc) : Bool := l.kind == 1 && l.holder == s.self

/-- What a hub die's lanes lead to for an offset served here. -/
def targetOf (s : State) (node off : Nat) : Target :=
  match winOf off with
  | .spad g _ => .spad g
  | _ => .stack (ordLoc s node off).stack

/-- The lane of an access by its source node (R260). -/
def laneOf (s : State) (src : Nat) : Lane :=
  if src = s.self then .package else if src / 16 = s.tray then .tray else .rack

/-- The end point that a port faces: tray × 16 + node. Log: 90 DEDUCED. -/
def epOf (s : State) (port : Nat) : Option Nat :=
  match s.manPort port with
  | some e => if e.endPoint then some e.node else none
  | none => none

/-- The packet entered through an end-point port. -/
def fromEp (s : State) (p : Packet) : Bool := decide (p.inPort < 128) && (epOf s p.inPort).isSome

/-! ## Cutting ranges -/

/-- Cut a range into pieces that cross no multiple of `blk` and hold at most `mx` bytes. -/
def cutRange (blk mx : Nat) : Nat → Nat → Nat → List (Nat × Nat)
  | 0, _, _ => []
  | n + 1, a, len =>
    if len = 0 then []
    else
      let k := max 1 (min len (min mx (blk - a % blk)))
      (a, k) :: cutRange blk mx n (a + k) (len - k)

/-- The parts of a range in each 64-byte atom. -/
def atomParts (a len : Nat) : List (Nat × Nat) := cutRange 64 64 (len / 64 + 2) a len

/-- The multiples of 64 that a range touches, over 64. -/
def atomsOf (a len : Nat) : List Nat := if len = 0 then [] else range' (a / 64) ((a + len - 1) / 64 - a / 64 + 1)

/-! ## Owner tags, poison, bytes (R68, R121, R122) -/

/-- The allocation owner of a granule: the partition of the list that holds it. -/
def granOwner (s : State) (g gran : Nat) : Option Nat :=
  ((s.grp g).lists.find? fun l => decide (l.granFirst ≤ gran) && decide (gran < l.granFirst + l.granCount)).map (·.part)

def isSpadKey (k : Nat) : Bool := decide (0x020000000000 ≤ k ∧ k < 0x020040000000)

/-- The line's tag names this partition. -/
def tagIs (s : State) (line part : Nat) : Bool := AMap.find s.mem.tags line == some part

/-- The bytes a partition reads from a key on: a scratchpad line of another tag reads as zero (R122). -/
def readMem (s : State) (key len part : Nat) : Bytes :=
  (atomParts key len).flatMap fun x =>
    if isSpadKey x.1 && ! tagIs s (x.1 / 64) part then List.replicate x.2 0 else Mem.readBytes s.mem.cells x.1 x.2

/-- The poisoned atoms and lines that a partition's read meets (R68, R121). Log: 41 DEDUCED. -/
def badAtoms (s : State) (key len part : Nat) : List Nat :=
  (atomsOf key len).filter fun a => s.mem.poison.contains a && (! isSpadKey (a * 64) || tagIs s a part)

/-- Bytes read from `key` on, with the poison value of all ones for the poisoned atoms among them (R68). -/
def withPoison (key : Nat) (bad : List Nat) (d : Bytes) : Bytes :=
  if bad.isEmpty then d else d.zipIdx.map fun x => if bad.contains ((key + x.2) / 64) then 0xFF else x.1

/-- The name of an atom of a frame that holds no parcel's bytes: above every key (R73). -/
def frameAtom (stack atom : Nat) : Nat := 2 ^ 58 + stack * 2 ^ 30 + atom

/-- The node and the offset that a key stands for. -/
def keyNode (s : State) (key : Nat) : Nat := if key < 2 ^ 47 then s.self else addrNode key
def keyOff (key : Nat) : Nat := addrOff key

/-- The stack that holds an atom named by its key over 64. -/
def atomStack (s : State) (a : Nat) : Nat :=
  if 2 ^ 58 ≤ a then a / 2 ^ 30 % 32 else (ordLoc s (keyNode s (a * 64)) (keyOff (a * 64))).stack

/-- Atoms on a stack's poison list, those of guests and of frames without a parcel among them. -/
def poisonOn (s : State) (stack : Nat) : Nat :=
  s.mem.poison.countP fun a => ! isSpadKey (a * 64) && atomStack s a == stack

/-- The address that a fault record names for an atom. -/
def atomAddr (s : State) (a : Nat) : Nat := if a * 64 < 2 ^ 47 then s.base + a * 64 else a * 64 % 2 ^ 56

/-- Enter an atom or line as poisoned; a full list is a stack fault (R68, R440). -/
def poisonAtom (s : State) (a : Nat) : State :=
  if s.mem.poison.contains a then s
  else
    let st := atomStack s a
    if ! isSpadKey (a * 64) && decide (256 ≤ poisonOn s st) then
      raise s { die := dieOf 5 st, cls := 5, inst := st, cause := 2, addr := atomAddr s a }
    else s.modMem fun m => { m with poison := a :: m.poison }

/-- What the decoder of a stack makes of an atom with erroneous symbols: up to four are corrected; of five or more it reports an
uncorrectable atom, or miscorrects it silently, which is free (R67). A silent miscorrection is counted neither in CE nor in UE.
Log: 73 DESIGN CHOICE, 218 DESIGN CHOICE. -/
def decodeAtom (s : State) (stack atom badSymbols : Nat) : State :=
  let n := stack
  if badSymbols = 0 then s
  else if badSymbols ≤ 4 then s.modStk n fun k => { k with ce := satAdd 16 k.ce 1 }
  else
    let (v, s) := s.draw
    if v % 4096 = 0 then
      let (w, s) := s.draw
      if 2 ^ 58 ≤ atom then s else s.modMem fun m => { m with cells := Mem.writeBytes m.cells (atom * 64) (leBytes 64 w) }
    else poisonAtom (s.modStk n fun k => { k with ue := satAdd 8 k.ue 1 }) atom

/-- What the code of the scratchpad makes of a line whose worst word has erroneous bits: one is corrected, two poison the line;
of three or more it is free whether the line is poisoned, and what its bytes then are (R121). -/
def decodeLine (s : State) (line badBits : Nat) : State :=
  if badBits ≤ 1 then s
  else if badBits = 2 then poisonAtom s line
  else
    let (v, s) := s.draw
    if v % 2 = 0 then poisonAtom s line
    else s.modMem fun m => { m with cells := Mem.writeBytes m.cells (line * 64) (leBytes 64 (v / 2)) }

/-- An access meets the errors of an atom (R67, R68, R121). What the decoder corrects stays as it is in the array until it is
rewritten. -/
def meetError (s : State) (a : Nat) : State :=
  match AMap.find s.mem.upsets a with
  | none => s
  | some n =>
    if isSpadKey (a * 64) then
      decodeLine (if n ≤ 1 then s else s.modMem fun m => { m with upsets := AMap.erase m.upsets a }) a n
    else
      decodeAtom (if n ≤ 4 then s else s.modMem fun m => { m with upsets := AMap.erase m.upsets a }) (atomStack s a) a n

/-- An access meets the errors of the atoms of a range. Log: 219 DESIGN CHOICE. -/
def meetErrors (s : State) (key len : Nat) : State :=
  if s.mem.upsets.isEmpty then s else (atomsOf key len).foldl meetError s

def clearPoison (s : State) (a : Nat) : State := s.modMem fun m => { m with poison := m.poison.filter (· != a) }

/-- Write the part of one atom or line: retagging of R122, poison of R68 and R309. -/
def writeAtom (s : State) (key : Nat) (d : Bytes) (part : Nat) (poison : Bool) : State :=
  let a := key / 64
  let s := if isSpadKey key && ! tagIs s a part then
      s.modMem fun m => { m with cells := Mem.clear m.cells (a * 64) 64
                                 poison := m.poison.filter (· != a)
                                 tags := AMap.set m.tags a part }
    else s
  let s := if d.length = 64 then s else meetErrors s key d.length
  let s := s.modMem fun m => { m with cells := Mem.writeBytes m.cells key d, upsets := AMap.erase m.upsets a }
  if poison then poisonAtom s a else if d.length = 64 then clearPoison s a else s

/-- Perform a write atom by atom (R264). -/
def performWrite (s : State) (key : Nat) (d : Bytes) (part : Nat) (poison : Bool) : State :=
  (atomParts key d.length).foldl (fun s x => writeAtom s x.1 ((d.drop (x.1 - key)).take x.2) part poison) s

/-! ## Lanes (R259, R260, R266) -/

def itemTarget : LaneItem → Option Target
  | .write t _ _ _ _ _ => some t
  | .inc _ _ _ _ _ => none

def performItem (s : State) : LaneItem → State
  | .write _ _ key d part poison => performWrite s key d part poison
  | .inc _ _ _ _ _ => s

/-- Perform every accepted write of a target, in acceptance order. Log: 55 DEDUCED. -/
def drain (s : State) (sel : LaneItem → Bool) : State :=
  let todo := s.mem.lanes.filter sel
  todo.foldl performItem (s.modMem fun m => { m with lanes := m.lanes.filter fun i => ! sel i })

def drainTarget (s : State) (t : Target) : State := drain s fun i => itemTarget i == some t

/-- The accepted writes of a target in some of its lanes, with those accepted before one of them for a common atom (R260); what
is left; the atoms written. -/
def splitLanes (t : Target) (ls : List Lane) : List LaneItem → List LaneItem × List LaneItem × List Nat
  | [] => ([], [], [])
  | i :: rest =>
    let (sel, left, atoms) := splitLanes t ls rest
    match i with
    | .write t' lane key d _ _ =>
      let as := atomsOf key d.length
      if t' = t ∧ (ls.contains lane ∨ as.any atoms.contains) then (i :: sel, left, as ++ atoms) else (sel, i :: left, atoms)
    | .inc _ _ _ _ _ => (sel, i :: left, atoms)

/-- Perform the accepted writes of some lanes of a target (R274). -/
def drainLanes (s : State) (t : Target) (ls : List Lane) : State :=
  let x := splitLanes t ls s.mem.lanes
  x.1.foldl performItem (s.modMem fun m => { m with lanes := x.2.1 })

def pushLane (s : State) (i : LaneItem) : State := s.modMem fun m => { m with lanes := m.lanes ++ [i] }

/-- The tile is copying, so that writes to it are held (R86). -/
def tileCopying (s : State) (node off : Nat) : Bool :=
  match winOf off with
  | .pool p =>
    (match AMap.find s.mem.moves (parcelKey s node p) with
     | some mv => mv.copying == some (off % 0x200000 / 0x4000)
     | none => false)
  | _ => false

/-- The lane of a held access that changes bytes; a held read has none (R260). -/
def Held.lane? (s : State) : Held → Option Lane
  | .write (.write _ l _ _ _ _) => some l
  | .write _ => none
  | .req p => if p.opcode = 0x01 ∨ p.opcode = 0x02 then none else some (laneOf s p.srcNode)
  | .atomic _ _ _ => some .package

/-- Accesses to the tile are held behind a held write, atomic or reduce-into (R86). Log: 59 DEDUCED. -/
def tileHeld (s : State) (node off : Nat) : Bool :=
  tileCopying s node off &&
    (AMap.get ({} : Move) s.mem.moves (parcelKey s node (off / 0x200000))).held.any fun h => (h.lane? s).isSome

/-- Hold an access for the copying tile at an offset of a node, behind those held already (R86). -/
def holdAccess (s : State) (node off : Nat) (h : Held) : State :=
  s.modMem fun m => { m with
    moves := AMap.modify {} m.moves (parcelKey s node (off / 0x200000)) fun mv => { mv with held := mv.held ++ [h] } }

/-- Accept a write at a hub die: queue it in its lane, or hold it for a copying tile. Log: 57 DESIGN CHOICE. -/
def acceptWrite (s : State) (node off : Nat) (lane : Lane) (d : Bytes) (part : Nat) (poison : Bool) : State :=
  let i := LaneItem.write (targetOf s node off) lane (keyOf s node off) d part poison
  if tileCopying s node off then holdAccess s node off (.write i) else pushLane s i

/-- The parcels for whose copying tiles, in a stack here, writes of some lanes are held (R86, R266). -/
def heldParcels (s : State) (ls : List Lane) (stack : Nat) : List Nat :=
  (s.mem.moves.filter fun m => (m.2.held.any fun h => (h.lane? s).any ls.contains) &&
    (entAt s m.1).src.stack == stack && locLocal s (entAt s m.1).src).map (·.1)

/-- The held writes of a parcel have all been performed, or accepted where they were sent: what waits for them goes on (R266,
R274). -/
def clearBehind (s : State) (p : Nat) : State :=
  if (AMap.get ({} : Move) s.mem.moves p).held.any (fun h => (h.lane? s).isSome) ∨ s.fab.tracks.any (fun t => t.owner == .forwarded p) then s
  else
    let s := s.modMem fun m => { m with lanes := m.lanes.map fun i => match i with
      | .inc g c part n behind => .inc g c part n (behind.filter (· != p))
      | i => i }
    { s with groups := AMap.mapVals (fun _ (x : Group) => { x with queues := AMap.mapVals (fun _ (q : HwQueue) =>
      { q with started := q.started.map fun r => { r with behind := r.behind.filter (· != p) } }) x.queues }) s.groups }

/-! ## Counters (R124, R153) -/

/-- The partition of the list that holds a counter. -/
def ctrOwner (s : State) (g c : Nat) : Option Nat :=
  ((s.grp g).lists.find? fun l => decide (l.ctrFirst ≤ c) && decide (c < l.ctrFirst + l.ctrCount)).map (·.part)

/-- WAIT_MET: a WAIT that has taken effect and whose target is met completes (R154). -/
def wakeWaits (x : Group) : Group :=
  { x with queues := AMap.mapVals (fun _ q =>
      match x.list? q.list with
      | none => q
      | some l => { q with started := q.started.map fun r =>
          let c := cmdAt l r.idx
          if r.opcode = 2 ∧ r.st = 0 ∧ met (x.ctr (bits c 64 12)) (BitVec.ofNat 32 (bits c 96 32)) then
            { r with st := 1, status := OK, count := (x.ctr (bits c 64 12)).toNat }
          else r }) x.queues }

/-- Add to a counter as one increase, modulo 2^32; WAITs met by it complete (R126, R153, R154). -/
def addCounter (s : State) (g c n : Nat) : State :=
  s.modGrp g fun x => wakeWaits { x with ctrs := AMap.set x.ctrs c (x.ctr c + BitVec.ofNat 32 n) }

/-- One increase by a partition, or its refusal (R124, R43). -/
def increase (s : State) (g c part n : Nat) : State :=
  if ctrOwner s g c = some part then addCounter s g c n
  else noteRefusal s (12 + g / 8) none (s.base + 0x020040000000 + g * 0x100000 + c * 8) part 0

/-- Accept an increase behind the writes accepted earlier, those held for a copying tile among them (R259, R266). -/
def acceptInc (s : State) (g c part n : Nat) : State :=
  pushLane s (.inc g c part n (heldParcels s [.package, .tray, .rack] g))

/-- Whether earlier accepted writes for the group's stack or scratchpad precede its first increase (R266).
Log: 56 DEDUCED. -/
def incReady (g : Nat) : List LaneItem → Bool
  | [] => false
  | .inc g' _ _ _ behind :: t => if g' = g then behind.isEmpty else incReady g t
  | .write t _ _ _ _ _ :: rest => if t = .stack g ∨ t = .spad g then false else incReady g rest

/-- The first pending increase of a group. -/
def firstInc (g : Nat) : List LaneItem → Option (Nat × Nat × Nat)
  | [] => none
  | .inc g' c p n _ :: t => if g' = g then some (c, p, n) else firstInc g t
  | _ :: t => firstInc g t

def dropInc (g : Nat) : List LaneItem → List LaneItem
  | [] => []
  | .inc g' c p n b :: t => if g' = g then t else .inc g' c p n b :: dropInc g t
  | i :: t => i :: dropInc g t

/-! ## Checks at the target (R32, R35, R122, R448, R449, R463, R510) -/

/-- The unit behind an offset is fenced, so that its accesses end with TIMEOUT (R448). -/
def unitFencedAt (s : State) (off : Nat) : Bool :=
  match winOf off with
  | .spad g _ => (s.grp g).fenced
  | .gcw g _ => (s.grp g).fenced
  | _ => false

/-- Every granule a range of a scratchpad touches is owned by the partition (R122). -/
def granulesOwned (s : State) (g o len part : Nat) : Bool :=
  (range' (o / 65536) ((o + len - 1) / 65536 - o / 65536 + 1)).all fun x => granOwner s g x == some part

/-- A copy of the tile to the partner, which resynchronises its parcel, is on its way: writes to it are held (R86, R101). -/
def resyncTile (s : State) (node off : Nat) : Bool :=
  let p := off / 0x200000
  node == s.self && s.mem.resyncing.contains p && s.fab.tracks.any fun t =>
    t.owner == .mirror p && ! t.timedOut && addrOff t.pkt.addr / 0x4000 == off / 0x4000

/-- The outcome of the checks on an access of data at a target here: OK, DENIED (refused under R43), POISONED (a lost
parcel), TIMEOUT (fenced, self-fenced); `none`: it waits until a rebuild or a suspicion ends, and a read until the tile's held
accesses have gone (R86). -/
def accCheck (s : State) (node off len part : Nat) (wr : Bool) : Option Nat :=
  if unitFencedAt s off then some TIMEOUT
  else match winOf off with
  | .pool p =>
    let e := entOf s node p
    if node = s.self ∧ p ≥ poolParcels s then some DENIED
    else if node = s.self ∧ s.flt.directoryRebuild.contains (p % 4) then none
    else if e.st = 0 ∨ e.owner ≠ part then some DENIED
    else if e.st = 3 then some POISONED
    else if e.mirror ∧ ! e.unmirrored ∧ s.flt.selfFenced then some TIMEOUT
    else if wr ∧ e.mirror ∧ ! e.unmirrored ∧ s.flt.pair = 1 ∧ ! s.mem.partnerDown then none
    else if wr ∧ resyncTile s node off then none
    else if ! wr ∧ tileHeld s node off then none
    else some OK
  | .spad g o =>
    if node ≠ s.self then some TIMEOUT
    else if wr ∧ ! granulesOwned s g o len part then some DENIED else some OK
  | .gcw _ _ => if node ≠ s.self then some TIMEOUT else some OK
  | .scw _ _ => if node ≠ s.self then some TIMEOUT else if wr then some DENIED else some OK
  | .ncw _ => if node ≠ s.self then some TIMEOUT else some OK
  | .host _ => some DENIED
  | .reserved => some DENIED

/-- R82: REQ0 and REQ1 of one access by a requester. Of equal counts REQ1's holder is replaced. Log: 220 DESIGN CHOICE. -/
def countReq (e : DirEntry) (r : Nat) : DirEntry :=
  let e := { e with total := satAdd 16 e.total 1 }
  if e.req0 = r then { e with cnt0 := satAdd 16 e.cnt0 1 }
  else if e.req1 = r then
    let e := { e with cnt1 := satAdd 16 e.cnt1 1 }
    if e.cnt0 < e.cnt1 then { e with req0 := e.req1, cnt0 := e.cnt1, req1 := e.req0, cnt1 := e.cnt0 } else e
  else
    let e := { e with req1 := r, cnt1 := satAdd 16 e.cnt1 1 }
    if e.cnt0 < e.cnt1 then { e with req0 := e.req1, cnt0 := e.cnt1, req1 := e.req0, cnt1 := e.cnt0 } else e

/-- Count an access to a pool parcel (R82). -/
def countAccess (s : State) (node off req : Nat) : State :=
  match winOf off with
  | .pool p => setEntOf s node p (countReq (entOf s node p) req)
  | _ => s

/-- Count an access to a range by an engine group, or by the host die as group 32, once against each parcel whose directory is here,
whatever its size (R82). -/
def countRange (s : State) (g addr len : Nat) : State :=
  let node := addrNode addr
  if len = 0 ∨ (node ≠ s.self ∧ ! (node = s.partner ∧ s.flt.servingPartner)) then s
  else
    let lo := addrOff addr / 0x200000
    let hi := addrOff (addr + len - 1) / 0x200000
    (range' lo (hi - lo + 1)).foldl (fun s p => countAccess s node (p * 0x200000) (0x200 + g)) s

/-! ## Atomics (R177) -/

/-- One lane of an integer operation of `w` bits. -/
def intLane (aop w a b : Nat) : Nat :=
  let m := 2 ^ w
  if aop = 0 then (a + b) % m
  else if aop = 2 then (if signed w b < signed w a then b else a)
  else if aop = 3 then min a b
  else if aop = 4 then (if signed w a < signed w b then b else a)
  else max a b

/-- One FP32 lane. -/
def fpLane (aop a b : Nat) : Nat := if aop = 1 then fAdd a b else if aop = 11 then fMin a b else fMax a b

/-- An operation lane by lane over `size` bytes, lanes of `w` bits. -/
def lanes (w size : Nat) (f : Nat → Nat → Nat) (a b : Nat) : Nat :=
  pack ((List.range (size * 8 / w)).map fun i => (w, f (bits a (i * w) w) (bits b (i * w) w)))

/-- The new value of an atomic of `size` bytes (R177). -/
def atomicOp (aop size old opa opb : Nat) : Nat :=
  let m := 2 ^ (size * 8)
  if aop = 6 then opa % m
  else if aop = 7 then (if old % m = opb % m then opa % m else old % m)
  else if aop = 8 then (old &&& opa) % m
  else if aop = 9 then (old ||| opa) % m
  else if aop = 10 then (old ^^^ opa) % m
  else if aop = 1 ∨ aop = 11 ∨ aop = 12 then lanes 32 size (fpLane aop) old opa
  else if size = 4 then intLane aop 32 (old % m) (opa % m)
  else lanes 64 size (intLane aop 64) old opa

/-! ## Reach (R29, R31, R41, R42) -/

inductive Perm
  | rd
  | wr
  | at'
  | ct
deriving DecidableEq, Repr

def segGrants (g : Seg) : Perm → Bool
  | .rd => g.rd
  | .wr => g.wr
  | .at' => g.at'
  | .ct => g.ct

/-- The partition a checked request carries, or its refusal. -/
def reach (s : State) (c addr len : Nat) (p : Perm) : Option Nat :=
  let x := s.ctx c
  if ! x.valid then none
  else if addrTray addr = s.tray then some x.part
  else
    let lo := bits addr 21 30
    let hi := bits (addr + (len - 1)) 21 30
    let ctl := isCtlOff (addrOff addr) && isDevik (addrNode addr)
    (((List.range 8).map fun i => AMap.get ({} : Seg) x.segs i).find? fun g =>
      g.valid && g.tray == addrTray addr && decide (g.base ≤ lo) && decide (hi ≤ g.limit) && decide (lo ≤ g.limit)
        && segGrants g p && (! ctl || g.ct)).map (·.part)

/-! ## Far-line copies (R270, R271) -/

/-- Drop the copies of the atoms a range covers, of any partition; `f` of fabric address over 64. -/
def dropFar (s : State) (f : Nat → Bool) : State :=
  (s.modMem fun m => { m with far := m.far.filter fun x => ! f x.atom }).modFab fun b =>
    { b with tracks := b.tracks.map fun t =>
        if t.pkt.opcode = 1 then { t with noFill := t.noFill ++ (atomsOf t.pkt.addr t.pkt.len).filter f } else t }

def dropFarRange (s : State) (a len : Nat) : State :=
  if len = 0 then s else dropFar s fun x => decide (a / 64 ≤ x) && decide (x ≤ (a + len - 1) / 64)

/-- The address lies in the pool window of another Devik node: of a tray's nodes 8 and 9 (R17, R270). -/
def farEligible (s : State) (addr : Nat) : Bool :=
  addrNode addr != s.self && isDevik (addrNode addr) && decide (addrOff addr < 0x020000000000)

/-- The hub die through which a group's accesses leave; a fenced die's neighbour takes its place (R450). -/
def groupHd (s : State) (g : Nat) : Nat := if s.isUnitFenced 7 (g / 8) then (g / 8 + 1) % 4 else g / 8

/-- The bytes of a range that a hub die's copies of a partition hold whole. -/
def farHit (s : State) (hd a len part : Nat) : Option Bytes :=
  (atomParts a len).foldl (fun acc x =>
    match acc, s.mem.far.find? (fun c => c.atom == x.1 / 64 && c.part == part && c.hd == hd) with
    | some d, some c => some (d ++ slice c.data (x.1 % 64) x.2)
    | _, _ => none) (some [])

/-- A hit makes its copies the ones used last (R270). -/
def touchFar (s : State) (hd a len part : Nat) : State :=
  let used (c : FarLine) : Bool := c.hd == hd && c.part == part && decide (a / 64 ≤ c.atom) && decide (c.atom * 64 < a + len)
  s.modMem fun m => { m with far := m.far.filter used ++ m.far.filter fun c => ! used c }

/-- Install in a hub die the copies of the atoms a reply covers whole, but for those dropped meanwhile; a volatile read
only refreshes copies that are present, of an atom it reads in part with the bytes it read (R272). Of each of the 8,192 sets the 16
copies used last stay (log entry 12). -/
def fillFar (s : State) (hd a part : Nat) (d : Bytes) (noFill : List Nat) (vol : Bool) : State :=
  let whole := (atomParts a d.length).filter fun x => vol || x.2 == 64
  let mine (c : FarLine) (k : Nat) : Bool := c.atom == k && c.part == part && c.hd == hd
  let old (k : Nat) : Bytes := ((s.mem.far.find? fun c => mine c k).map (·.data)).getD []
  let kept := whole.filter fun x => ! noFill.contains (x.1 / 64) && (! vol || s.mem.far.any fun c => mine c (x.1 / 64))
  let others := s.mem.far.filter fun c => ! kept.any fun x => mine c (x.1 / 64)
  let lines := (kept.map fun x => ({ atom := x.1 / 64, part := part, hd := hd
                                     data := (old (x.1 / 64)).take (x.1 % 64) ++ slice d (x.1 - a) x.2 ++
                                       (old (x.1 / 64)).drop (x.1 % 64 + x.2) } : FarLine)) ++
    others.filter fun c => c.hd == hd
  s.modMem fun m => { m with
    far := keepWays (fun c => Config.farSet c.atom % 8192) 16 lines ++ others.filter fun c => c.hd != hd
    flFills := satAdd 32 m.flFills (if vol then 0 else kept.length)
    flDropped := satAdd 32 m.flDropped (if vol then 0 else (whole.filter fun x => noFill.contains (x.1 / 64)).length) }

/-! ## Location caches (R83, R85) -/

/-- The location that a unit's cache holds for the parcel of a pool address of another Devik: its holder. -/
def locHit (s : State) (unit addr : Nat) : Option Nat :=
  (s.mem.locs.find? fun l => l.unit == unit && l.node == addrNode addr && l.parcel == addrOff addr / 0x200000).map (·.holder)

/-- A reply to a unit's request refills its cache, when it comes from a stack of another package than the directory's: 2,048
entries, the least recently used one replaced. Log: 221 DESIGN CHOICE. -/
def locFill (s : State) (unit addr src : Nat) : State :=
  let node := addrNode addr
  if node = s.self ∨ ! isDevik node ∨ ! isDevik src ∨ addrOff addr ≥ 0x020000000000 then s
  else
    let p := addrOff addr / 0x200000
    let same (l : LocEntry) : Bool := l.unit == unit && l.node == node && l.parcel == p
    let others := s.mem.locs.filter fun l => ! same l
    if src = node then s.modMem fun m => { m with locs := others }
    else s.modMem fun m => { m with locs := { unit := unit, node := node, parcel := p, holder := src } ::
      ((others.filter fun l => l.unit == unit).take 2047 ++ others.filter fun l => l.unit != unit) }

/-- Drop the cached locations of a parcel in every unit (R85 step 4). -/
def locDrop (s : State) (node p : Nat) : State :=
  s.modMem fun m => { m with locs := m.locs.filter fun l => ! (l.node == node && l.parcel == p) }

/-! ## Packets out, trackers (R285, R289, R292, R293) -/

/-- The context number of a request that no context governs: a copy or a list fetch of the package itself. -/
def noCtx : Nat := 4096

def opRD : Nat := 0x01
def opRDV : Nat := 0x02
def opWR : Nat := 0x08
def opWRP : Nat := 0x09
def opATOM : Nat := 0x10
def opRED : Nat := 0x14
def opCPL : Nat := 0x30
def opCPLD : Nat := 0x31
def opCPLP : Nat := 0x32
def opINV : Nat := 0x38
def opCTRL : Nat := 0x3C

end Sys2Proof.Machine

/-- The address that an access names: where it lies in a lend region, that is not ADDR. -/
def Sys2Proof.Packet.place (p : Sys2Proof.Packet) : Nat := p.names.getD p.addr

namespace Sys2Proof.Machine

/-- Put a packet that the package originates in front of the routing stage; its port of entry is 0x7F. -/
def send (s : State) (p : Packet) : State :=
  s.modFab fun f => { f with inbuf := f.inbuf ++ [{ port := 0x7F, vc := p.vc, pkt := { p with inPort := 0x7F } }] }

/-- An Ibfen message to another package: its kind and fields as a payload of this model's own, in whole bytes (R298).
Log: 81 DESIGN CHOICE, 94 DESIGN CHOICE. -/
def sendMsg (s : State) (dest kind : Nat) (fields : List (Nat × Nat)) : State :=
  let n := (8 + sumBy (·.1) fields + 7) / 8
  send s { addr := nodeBase dest, opcode := opCTRL, srcNode := s.self, port := 37, vc := 5, len := n
           payload := leBytes n (pack ((8, kind) :: fields)) }

/-- The kinds of the messages that the packages' directories and sequence services send one another (log entry 81). -/
def msgDrop : Nat := 16        -- drop the cached locations of a parcel, and what the package holds of it if it is not its home
def msgDropped : Nat := 17     -- done
def msgEntry : Nat := 18       -- a directory entry of the partner, for its mirror
def msgGuest : Nat := 19       -- a parcel is to be homed at the package
def msgBegin : Nat := 20       -- mark a tile of a guest copying
def msgMarked : Nat := 21      -- done
def msgFlip : Nat := 22        -- the tile is flipped, or its copy abandoned
def msgFree : Nat := 23        -- release the mirror of a parcel
def msgSeq : Nat := 24         -- a sequence context of the partner, for its mirror
def msgSeqLen : Nat := 25      -- one layer's length record of it
def msgSeqGone : Nat := 26     -- it has been released
def msgEvac : Nat := 28        -- move a guest of the package within it
def msgStripes : Nat := 27     -- start the moves of a region whose directory is at the package
def msgCollStuck : Nat := 29   -- a collective group stays ABORTED
def msgRecord : Nat := 30      -- a sequence context migrates here: its descriptor
def msgRecordReply : Nat := 31 -- its number here, or BUSY
def msgLens : Nat := 32        -- LEN of some of its layers
def msgInstall : Nat := 33     -- install or remove a node of a collective group
def msgOver : Nat := 34        -- a parcel's move is over: no access comes on a stale location any more
def msgPromote : Nat := 35     -- the home of a guest is lost: its mirror, at the partner, becomes the home
def msgHomed : Nat := 36       -- a guest's home is now at the sender, or the guest is lost
def msgHandback : Nat := 37    -- the package takes over an entry of its directory, whose parcel is at the sender

/-- Send the partner a directory entry as it stands, with the parcel's present bits, for the mirror of the directory and the move
table. The counts of R82 go with it only as they are then. Log: 226 DESIGN CHOICE. -/
def mirrorEntry (s : State) (p : Nat) : State :=
  if s.mem.partnerDown ∨ s.fab.dead.contains s.partner then s
  else
    let e := s.ent p
    let mv : Move := AMap.get {} s.mem.moves p
    sendMsg s s.partner msgEntry ([(20, p), (256, regDir e), (4, e.home.region), (4, e.src.region)] ++
      (List.range 128).map fun t => (1, b2n (mv.present.contains t)))

/-- A tracker's name: its end-point port, or its unit above 255, and its tag. -/
def Track.name (t : Track) : Nat × Nat := ((match t.ingress with | some p => p | none => 256 + t.pkt.port), t.tag)

/-- The bytes a request addresses. -/
def reqLen (p : Packet) : Nat := if p.opcode = opATOM then 4 * 2 ^ p.size else p.len

/-- Two ranges touch a common atom. -/
def touches (a n b m : Nat) : Bool :=
  decide (0 < n) && decide (0 < m) && decide (a / 64 ≤ (b + m - 1) / 64) && decide (b / 64 ≤ (a + n - 1) / 64)

/-- The engine that an access belongs to (R262). -/
def ownerEngine : Owner → Option (Nat × Nat)
  | .cmd g e _ _ => some (g, e)
  | _ => none

/-- Tracker `i` of a list is of a request that is not sent yet: its unit's 4,096 tags are in use, so that it bears a number above
them (R292), or an earlier request of the same engine that touches a common atom awaits its reply (R262). -/
def trackWaits (l : List Track) (i : Nat) : Bool :=
  match l[i]? with
  | none => false
  | some t => decide (4096 ≤ t.tag) ||
    match ownerEngine t.owner with
    | none => false
    | some ge => (l.take i).any fun u =>
        ! u.timedOut && ownerEngine u.owner == some ge && touches u.pkt.place (reqLen u.pkt) t.pkt.place (reqLen t.pkt)

/-- The first request of a pool that has no tag yet gets the one that has become free (R292). -/
def giveTag (s : State) (side tag : Nat) : State :=
  if 4096 ≤ tag then s
  else match findIdx (fun (t : Track) => t.name.1 == side && decide (4096 ≤ t.tag)) s.fab.tracks with
  | none => s
  | some j =>
    match s.fab.tracks[j]? with
    | none => s
    | some t =>
      let s := s.modFab fun f => { f with tracks := f.tracks.set j { t with tag := tag, pkt := { t.pkt with tag := tag } } }
      s.modMem fun m => { m with fences := m.fences.map fun f => { f with
        waits := f.waits.map fun n => if n = t.name then (side, tag) else n } }

/-- Remove tracker `i`, or keep it as a timed-out one with its tag held (R293), and send the requests that it kept waiting. -/
def dropTrack (s : State) (i : Nat) (hold : Bool := false) : State :=
  match s.fab.tracks[i]? with
  | none => s
  | some t =>
    let old := s.fab.tracks
    let s := if hold then s.modFab fun f => { f with
        tracks := f.tracks.set i { t with owner := .none, reply := none, timedOut := true, retryDue := false } }
      else giveTag (s.modFab fun f => { f with tracks := f.tracks.eraseIdx i }) t.name.1 t.tag
    let new := s.fab.tracks
    ((List.range new.length).filter fun j => trackWaits old (if hold || decide (j < i) then j else j + 1) && ! trackWaits new j).foldl
      (fun s j => match new[j]? with | some u => send s u.pkt | none => s) s

/-- The lowest free tag of an end-point port's pool or of a unit (R292, R293). Log: 95 DEDUCED. -/
def freeTag (s : State) (side : Nat) : Nat :=
  let used := (s.fab.tracks.filter fun t => t.name.1 == side).map (·.tag)
  firstFree used.length 0 used

/-- Trackers of one pool. -/
def tracksOf (s : State) (side : Nat) : Nat := s.fab.tracks.countP fun t => t.name.1 == side

/-- Answer the context fences whose requests have all completed (R276). -/
def closeFences (s : State) (n : Nat × Nat) : State × List CtxFenceS :=
  let fs := s.mem.fences.map fun f => { f with waits := f.waits.filter (· != n) }
  let done := fs.filter fun f => f.waits.isEmpty
  (s.modMem fun m => { m with fences := fs.filter fun f => ! f.waits.isEmpty
                              ctxFences := satAdd 32 m.ctxFences done.length }, done)

/-! ## Completions (R299) -/

/-- A completion packet of R299. Log: 43 DEDUCED. -/
def mkCpl (s : State) (req : Packet) (status : Nat) (data : Bytes) : Packet :=
  let isData := req.opcode = opRD ∨ req.opcode = opRDV ∨ req.opcode = opATOM
  let n := if req.opcode = opATOM ∧ req.size < 3 then 4 * 2 ^ req.size else min 2048 req.len
  let d := if ! isData then [] else if status = OK then data else List.replicate n 0xFF
  { addr := nodeBase req.srcNode + addrOff req.addr
    opcode := if req.opcode = opWRP then opCPLP else if isData then opCPLD else opCPL
    srcNode := s.self
    port := req.port
    vc := 2
    part := req.part
    len := d.length
    tag := req.tag
    status := status
    poison := isData && status != OK
    chk := isData && req.chk
    last := isData && req.chk
    crc := if isData && req.chk then crc64 d else 0
    payload := d }

/-- Answer a request; a request of this package's own units is answered without a packet. -/
def answer (s : State) (req : Packet) (status : Nat) (data : Bytes) : State := send s (mkCpl s req status data)

/-- The completion of a request, with the increase that it asks for. -/
def cplInc (s : State) (p : Packet) (status : Nat) (data : Bytes) : Packet :=
  { mkCpl s p status data with ctrEn := p.ctrEn, ctr := p.ctr, ctrGrp := p.ctrGrp }

/-- Send a completion, after the increase that its request asked for (R311); the completion carries DENIED when the
counter's list has halted meanwhile. -/
def sendReply (s : State) (r : Packet) : State :=
  if r.ctrEn then
    let ok := ctrOwner s r.ctrGrp r.ctr == some r.part
    let s := if ok then acceptInc s r.ctrGrp r.ctr r.part 1
      else noteRefusal s (12 + r.ctrGrp / 8) none (s.base + 0x020040000000 + r.ctrGrp * 0x100000 + r.ctr * 8) r.part 0
    send s { r with ctrEn := false, ctr := 0, ctrGrp := 0, status := if ok then r.status else DENIED }
  else send s r

/-- Answer a request that another unit has served for it, with its increase once it has been performed (R79, R84, R311). -/
def answerFor (s : State) (req : Packet) (status : Nat) (data : Bytes) : State :=
  if status = OK ∨ status = POISONED then sendReply s (cplInc s req status data) else answer s req status data

/-! ## Commands that wait for accesses -/

/-- Change a started command. -/
def modRun (s : State) (g e q i : Nat) (f : Running → Running) : State :=
  s.modGrp g fun x => x.setQue e q (let y := x.que e q
    { y with started := y.started.map fun r => if r.idx == i then f r else r })

/-- A command whose writes are issued and whose accesses have all ended has reached its completion event. -/
def runSettled (r : Running) : Running :=
  if r.phase = 2 ∧ r.outstanding = 0 ∧ r.st = 0 ∧ r.opcode ≠ 0x22 ∧ r.opcode ≠ 0x29 ∧ r.opcode ≠ 0x28 then
    { r with st := 1, status := if r.denied.isSome then r.badStatus
                                else if r.wrotePoison ∧ r.status = OK then POISONED else r.status }
  else r

/-- A write of a command was not performed, and answered with POISONED: its parcel is lost, or its chunk failed its check (R306,
R510). -/
def Running.writePoisoned (r : Running) (addr len : Nat) : Running :=
  { r with wrotePoison := true, lostAt := r.lostAt ++ [(addr, len)]
           detail := if (r.opcode = 0x20 ∨ r.opcode = 0x21) ∧ ! r.wrotePoison then addr else r.detail }

/-- Change what a front end has read of the list at an address, while it is still loading it. -/
def modFe (s : State) (g a : Nat) (f : FrontEnd → FrontEnd) : State :=
  s.modGrp g fun x => { x with fes := x.fes.map fun y => if y.1 = a then (a, f y.2) else y }

/-- A record that a ring refused is counted and recorded as a fault of the group (R138, R440). -/
def ringFault (s : State) (g ctx part addr : Nat) : State :=
  raise (s.modGrp g fun x => { x with ringRefused := x.ringRefused + 1 })
    { die := dieOf 6 g, cls := 6, inst := g, cause := 3, status := DENIED, addr := addr, ctx := ctx, part := part }

/-- An access of a command is refused or fails: TIMEOUT ends a DMA_ND so, any other command with DENIED (R313); of several the first
counts. -/
def Running.refuse (r : Running) (addr status : Nat) : Running :=
  let st := if r.opcode = 0x22 ∧ status = TIMEOUT then TIMEOUT else DENIED
  let r := { r with failures := r.failures + 1, refusedAt := r.refusedAt ++ [(addr, st)] }
  if r.denied.isSome then r else { r with denied := some addr, badStatus := st }

/-- An access of a command ends: data to its `fetched` bytes, poison to `fetchBad`, a failure to `denied`. -/
def runAccess (r : Running) (rd : Bool) (addr len status : Nat) (data : Bytes) (bad : List Nat) : Running :=
  let r := { r with outstanding := r.outstanding - 1 }
  let r :=
    if status = OK ∨ status = POISONED then
      if rd then { r with fetched := Mem.writeBytes (Mem.clear r.fetched addr len) addr data
                          fetchBad := (r.fetchBad.filter fun a => ! (atomsOf addr len).contains a) ++ bad }
      else if status = POISONED then r.writePoisoned addr len else r
    else ({ r with lostAt := if rd then r.lostAt else r.lostAt ++ [(addr, len)] }).refuse addr status
  runSettled r

/-- Change a join of a collective operation, if it is there. -/
def modJoin (s : State) (g slot : Nat) (f : Join → Join) : State :=
  s.modGrp g fun x => { x with joins := x.joins.map fun j => if j.1 = slot then (j.1, f j.2) else j }

/-- An access of a join ends: part of SRC read again, a sub-chunk read back, or one that could not be written (R244, R245). -/
def joinAccess (s : State) (g slot key kind : Nat) (rd : Bool) (addr len status : Nat) (data : Bytes) (bad : List Nat) : State :=
  let ok := status == OK || status == POISONED
  if kind = 0 then (if ok then s else modJoin s g slot fun j => { j with lostSubs := key :: j.lostSubs })
  else if ! rd then s
  else if kind = 1 then
    modJoin s g slot fun j => { j with
      back := if ok then Mem.writeBytes (Mem.clear j.back addr len) addr data else j.back
      backBad := if ok && bad.isEmpty then j.backBad else key :: j.backBad }
  else modJoin s g slot fun j =>
    let o := addr - j.srcAddr
    let as := atomsOf o (if ok then len else max len 1)
    { j with src := j.src.take o ++ (if ok then data else slice j.src o len) ++ j.src.drop (o + len)
             srcBad := (j.srcBad.filter fun a => ! as.contains a) ++ (if ok then bad.map (· - j.srcAddr / 64) else as) }

/-- The bytes or the verdict of an access reach whoever waits for them. -/
def ownerDone (s : State) (o : Owner) (rd : Bool) (addr len status : Nat) (data : Bytes) (bad : List Nat) : State :=
  match o with
  | .none => s
  | .cmd g e q i => modRun s g e q i fun r => runAccess r rd addr len status data bad
  | .frontEnd g a => modFe s g a fun x => { x with
      outstanding := x.outstanding - 1
      bad := x.bad || status != OK
      cells := if status = OK then Mem.writeBytes x.cells addr data else x.cells }
  | .ring g c part => if status = OK ∨ status = POISONED then s else ringFault s g c part addr
  | .mirror p =>
    let ok := status == OK || status == POISONED
    let set (e : DirEntry) : DirEntry := if ok then e else { e with unmirrored := true }
    if 2 ^ 20 ≤ p then s.modMem fun m => { m with guests := AMap.modify {} m.guests p set }
    else if ok ∧ s.mem.resyncing.contains p ∧ ! s.fab.tracks.any (fun t => t.owner == .mirror p) then
      -- the resynchronisation copy is complete (R101)
      mirrorEntry (s.modMem fun m => { m with dir := AMap.modify {} m.dir p fun e => { e with unmirrored := false }
                                              resyncing := m.resyncing.filter (· != p) }) p
    else if ok then s
    else mirrorEntry (s.modMem fun m => { m with dir := AMap.modify {} m.dir p set
                                                 resyncing := m.resyncing.filter (· != p) }) p
  | .clearing p atMirror => s.modMem fun m => { m with dir := AMap.modify {} m.dir p fun e =>
      if status = OK ∨ status = POISONED ∨ ! atMirror then e else { e with unmirrored := true } }
  | .tile p =>
    if status = OK ∨ status = POISONED then
      (if rd then
        let key := p * 0x200000 + addr % 0x200000
        s.modMem fun m => { m with
          cells := Mem.writeBytes m.cells key data
          poison := (bad.map fun a => a + key / 64 - addr / 64) ++ m.poison.filter fun a => ! (atomsOf key len).contains a }
       else s)
    else s.modMem fun m => { m with moves := AMap.modify {} m.moves p fun v => { v with failed := true } }
  | .reply req => answerFor s req status data
  | .coll g k key kind => joinAccess s g k key kind rd addr len status data bad
  | .forwarded p => clearBehind s p
  | .bar2 =>
    if ! rd then s
    else
      let a : Answer := if status = OK then .data data else if status = POISONED then .poisoned else .completerAbort
      s.modHost fun h => { h with answer := a }
  | .sluice => s.modHost fun h => { h with sluice := { h.sluice with
      outstanding := h.sluice.outstanding - 1
      failed := h.sluice.failed || (status != OK && status != POISONED)
      fetched := if rd then Mem.writeBytes h.sluice.fetched addr data else h.sluice.fetched
      fetchBad := h.sluice.fetchBad ++ bad } }

/-- Answer the fences that a closed tracker lets complete. -/
def answerFences (s : State) (l : List CtxFenceS) : State :=
  l.foldl (fun s f =>
    let s := match f.reply with | some p => answer s p OK [] | none => s
    ownerDone s f.owner false 0 0 OK [] []) s

/-- Remove a tracker, or hold its tag, and let the fences that waited for it complete (R276). -/
def closeTrack (s : State) (i : Nat) (hold : Bool := false) : State :=
  match s.fab.tracks[i]? with
  | none => s
  | some t =>
    let s := dropTrack s i hold
    let (s, done) := closeFences s t.name
    answerFences s done

/-- A host-window access of a context ends: the fences that waited for it complete (R276). -/
def closeAcc (s : State) (id : Nat) : State :=
  let (s, done) := closeFences s (512, id)
  answerFences s done

/-- Put a request of a unit of this package in the hands of the hub die that holds it until it can be served, with its tracker
(R86, R449, R450). -/
def holdIssue (s : State) (p : Packet) (c : Nat) (o : Owner) : State :=
  let tag := freeTag s (256 + p.port)
  let p := { p with tag := tag, srcNode := s.self }
  s.modFab fun f => { f with
    tracks := f.tracks ++ [{ tag := tag, pkt := p, ctx := c, owner := o, issuedAt := s.time.lfc }]
    delivered := f.delivered ++ [p] }

/-- Send a request of a unit of this package and track it (R292, R313); a dead destination answers at once (R315). It is not sent
while an earlier access of the same engine to a common atom awaits its reply (R262). -/
def issue (s : State) (p : Packet) (c : Nat) (o : Owner) (reply : Option Packet) : State :=
  let tag := freeTag s (256 + p.port)
  let p := { p with tag := tag, srcNode := s.self }
  let dest := p.holder.getD (addrNode p.addr)
  if s.fab.dead.contains dest then
    let s := noteTimeout s 12 dest p.opcode c
    ownerDone s o (p.opcode == opRD || p.opcode == opRDV) p.addr p.len TIMEOUT [] []
  else
    let t : Track := { tag := tag, pkt := p, ctx := c, owner := o, issuedAt := s.time.lfc, reply := reply }
    let s := s.modFab fun f => { f with tracks := f.tracks ++ [t] }
    if trackWaits s.fab.tracks (s.fab.tracks.length - 1) then s else send s p

/-- The unit number of an issuing engine group or hub die (R291). -/
def portHd (h : Nat) : Nat := 32 + h

/-- The address at which the holder of a tile keeps it: the lend region's address for an accelerator, else the pool
address itself (R79, R83). -/
def heldAddr (s : State) (node off : Nat) : Nat :=
  let l := ordLoc s node off
  if l.kind = 2 then
    match AMap.find s.mem.lends l.region with
    | some r => r.base + l.frame * 0x200000 + off % 0x200000
    | none => nodeBase l.holder + off
  else nodeBase node + off

/-- A piece cut where some of its atoms are poisoned: address, length, poisoned or not. -/
def poisonCut (bad : Nat → Bool) (x : Nat × Nat) : List (Nat × Nat × Bool) :=
  if (atomsOf x.1 x.2).any bad then (atomParts x.1 x.2).map fun y => (y.1, y.2, bad (y.1 / 64)) else [(x.1, x.2, false)]

/-- A checked chunk of at most 4 KiB as WR packets of at most 2,048 bytes, the poisoned atoms in packets of their own; the last
carries the check (R305, R308, R309). -/
def chunkPackets (p : Packet) (addr : Nat) (d : Bytes) (bad : Nat → Bool := fun _ => false) : List Packet :=
  ((cutRange 4096 2048 4 addr d.length).flatMap (poisonCut bad)).map fun x =>
    let last := x.1 + x.2.1 == addr + d.length
    { p with addr := x.1, len := x.2.1, chk := true, last := last, chkLen := if last then d.length else 0, poison := x.2.2
             crc := if last then crc64 d else 0, payload := slice d (x.1 - addr) x.2.1 }

/-! ## Mirrors (R100, R101) -/

/-- Writes to mirrored parcels find the partner unable to take them: UNMIRRORED is set, and the first of them since it last could
gives the event, with how many there are (R101). Log: 223 DEDUCED. -/
def loseMirrors (s : State) (ps : List Nat) : State :=
  match ps.filter fun p => ! (s.ent p).unmirrored with
  | [] => s
  | p :: rest =>
    let s1 := (p :: rest).foldl (fun s q => s.setEnt q { s.ent q with unmirrored := true }) s
    if s.mem.mirrorLost then s1
    else pushEvent (s1.modMem fun m => { m with mirrorLost := true }) 0x0403 (pack [(20, p), (32, rest.length + 1)])

def loseMirror (s : State) (p : Nat) : State := loseMirrors s [p]

/-- The tile at an offset, whose ordering point is here, is mirrored and its mirror current, or being copied (R100, R101). -/
def mirrored (s : State) (node off : Nat) : Bool :=
  match winOf off with
  | .pool p => let e := entOf s node p
               e.mirror && locLocal s (ordLoc s node off) &&
                 (! e.unmirrored || (node == s.self && s.mem.resyncing.contains p))
  | _ => false

/-- The mirror of a parcel at an offset of a node can no longer be kept (R101). -/
def loseMirrorOf (s : State) (node off : Nat) : State :=
  let p := off / 0x200000
  if node = s.self then loseMirror s p
  else setEntOf s node p { entOf s node p with unmirrored := true }

/-- Send the mirror's copy of a write to the pair partner of the home (R100, R290), or mark the parcel when the partner cannot
take it. The reply, or the command, waits for the mirror. Log: 243 DEDUCED. -/
def mirrorWrite (s : State) (node off : Nat) (d : Bytes) (part : Nat) (o : Owner) (reply : Option Packet)
    (bad : Nat → Bool := fun _ => false) : State :=
  if s.mem.partnerDown ∨ s.fab.dead.contains s.partner then
    let s := loseMirrorOf s node off
    match reply with | some r => sendReply s r | none => s
  else
    let o := match o with | .none => .mirror (if node = s.self then off / 0x200000 else node * 2 ^ 20 + off / 0x200000) | o => o
    (chunkPackets { opcode := opWR, port := portHd (homeHd s off), vc := 3, part := part, fwd := true, term := true,
                    holder := some s.partner } (nodeBase node + off) d bad).foldl
      (fun s p => issue (match o with
          | .cmd g e q i => modRun s g e q i fun r => { r with outstanding := r.outstanding + 1 }
          | _ => s) p noCtx o (if p.last then reply else none)) s

/-! ## Accesses of engines -/

/-- Where an engine's access goes. -/
inductive Place
  /-- Served here: the node whose offset it is, and the offset. -/
  | here (node off : Nat)
  /-- Another node serves it, or holds the tile. -/
  | away
  | host (v : Nat)
deriving DecidableEq, Repr

/-- The directory of an address's node is served here. -/
def dirHere (s : State) (addr : Nat) : Bool :=
  addrNode addr == s.self || (addrNode addr == s.partner && s.flt.servingPartner)

def placeOf (s : State) (addr : Nat) : Place :=
  let n := addrNode addr
  let off := addrOff addr
  if n = s.self ∨ (n = s.partner ∧ s.flt.servingPartner) then
    match winOf off with
    | .host v => if n = s.self then .host v else .here n off
    | .pool p =>
      let e := entOf s n p
      if (e.st = 1 ∨ e.st = 2) ∧ ! locLocal s (ordLoc s n off) then
        (if (ordLoc s n off).kind = 3 then
          match AMap.find s.mem.lends 15 with
          | some r => .host (r.base + (ordLoc s n off).frame * 0x200000 + off % 0x200000)
          | none => .away
         else .away)
      else .here n off
    | _ => .here n off
  else .away

/-- A local access of EGn: its own stack or its own scratchpad, not volatile (R260). -/
def localAcc (s : State) (g node off : Nat) (vol : Bool) : Bool :=
  ! vol && node == s.self &&
  (match winOf off with
   | .spad k _ => k == g
   | .pool _ => (ordLoc s node off).stack == g
   | _ => false)

/-- An earlier access of the same engine to a common atom still awaits its reply (R262). -/
def engineConflict (s : State) (g e a len : Nat) : Bool :=
  (s.fab.tracks.any fun t => ! t.timedOut && ownerEngine t.owner == some (g, e) && touches t.pkt.place (reqLen t.pkt) a len) ||
  s.xlat.accs.any fun x => x.st != 2 && ownerEngine x.owner == some (g, e) && touches x.names x.len a len

/-- Reads of host memory outstanding (R47). -/
def hostReads (s : State) : Nat := s.xlat.accs.countP fun a => ! a.write && a.st != 2

/-- An entry that translates an access. -/
def atcServes (pasid : Option Nat) (v : Nat) (wr : Bool) (t : AtcEntry) : Bool :=
  t.pasid == pasid && decide (t.base ≤ v) && decide (v < t.base + t.size) && (if wr then t.w else t.r)

/-- The translation cache's answer for an access (R48, R49). -/
def atcFind (s : State) (pasid : Option Nat) (v : Nat) (wr : Bool) : Option AtcEntry := s.xlat.atc.find? (atcServes pasid v wr)

/-- The copy of the translation cache that serves an engine's accesses, and its size (R48). -/
def copyOf : Owner → Option (Nat × Nat)
  | .cmd g e _ _ => some (if e = 3 then (32 + g, 64) else (g, 128))
  | _ => none

/-- An access's translation: from its engine's copy, else from the cache, which then fills the copy (R48). Of a full copy the entry
used least recently goes. Log: 222 DESIGN CHOICE. -/
def atcUse (s : State) (o : Owner) (pasid : Option Nat) (v : Nat) (wr : Bool) : State × Bool :=
  let fill (s : State) (h : AtcEntry) : State :=
    match copyOf o with
    | none => s
    | some (k, n) => s.modXlat fun t => { t with
        copies := AMap.set t.copies k ((h :: (AMap.get [] t.copies k).filter (· != h)).take n) }
  match (copyOf o).bind fun c => (AMap.get [] s.xlat.copies c.1).find? (atcServes pasid v wr) with
  | some h => (fill s h, true)
  | none =>
    match atcFind s pasid v wr with
    | none => (s, false)
    | some h => (fill (s.modXlat fun t => { t with atc := h :: t.atc.filter (· != h) }) h, true)

/-- An earlier access of the same engine that touches a common atom is still in progress (R262). -/
def accWaits (l : List HostAcc) (a : HostAcc) : Bool :=
  match ownerEngine a.owner with
  | none => false
  | some ge => (l.takeWhile fun b => b.id != a.id).any fun b =>
      b.st != 2 && ownerEngine b.owner == some ge && touches b.names b.len a.names a.len

/-- An access with its translation goes to the host: nothing of its engine precedes it, and fewer than 4,096 reads went before
(R47, R262). -/
def accGoes (l : List HostAcc) (a : HostAcc) : Bool :=
  a.st == 1 && ! accWaits l a &&
    (a.write || decide ((l.takeWhile fun b => b.id != a.id).countP (fun b => ! b.write && b.st == 1) < 4096))

/-- A host-window access of a context: refused, or on its way to the host (R37, R49, R402). Log: 124 DEDUCED. -/
def hostAccess (s : State) (c v len : Nat) (wr : Bool) (d : Bytes) (o : Owner) (lend : Bool) (nm : Nat) : Option State :=
  let x := s.ctx c
  if s.host.conf ∨ s.host.wedged ∨ (! lend ∧ ! x.hostwin) then none
  else
    let pasid := if x.pasidEn ∧ ! lend then some x.pasid else none
    let ids := s.xlat.accs.map (·.id)
    let a : HostAcc := { pasid := pasid, addr := v, len := len, write := wr, data := d, owner := o, id := firstFree ids.length 0 ids
                         ctx := c, names := nm }
    let (s, hit) := if s.xlat.atsOn then atcUse s o pasid v wr else (s, false)
    let a := if ! s.xlat.atsOn then { a with st := 1, untranslated := true }
             else if hit then { a with st := 1 } else a
    some (s.modXlat fun t => { t with accs := t.accs ++ [a] })

/-- The writes, and the accesses of no bytes that only ask for a translation, that can be sent now, one after another, and what
stays. -/
def hostOut : List HostAcc → List HostAcc → List HostAcc × List HostAcc
  | kept, [] => (kept, [])
  | kept, a :: rest =>
    if (a.write ∨ a.len = 0) ∧ accGoes (kept ++ [a]) a then
      let x := hostOut kept rest
      (x.1, a :: x.2)
    else hostOut (kept ++ [a]) rest

/-- Send the writes to host memory that have their translation: posted, they are done once sent (R51).
Log: 116 DEDUCED. -/
def hostSend (s : State) : State :=
  let x := hostOut [] s.xlat.accs
  x.2.foldl (fun s a => ownerDone (closeAcc s a.id) a.owner false a.names a.len OK [] [])
    (s.modXlat fun t => { t with
      accs := x.1
      sent := t.sent ++ (x.2.filter fun a => a.len != 0).map fun a => (a.addr, a.data) })

/-- Change the command that owns an access. -/
def modOwner (s : State) (o : Owner) (f : Running → Running) : State :=
  match o with
  | .cmd g e q i => modRun s g e q i f
  | _ => s

/-- An owned access fails with a status. -/
def failOwned (s : State) (o : Owner) (addr : Nat) (status : Nat := DENIED) : State :=
  match o with
  | .cmd g e q i => modRun s g e q i fun r => r.refuse addr status
  | .frontEnd g a => modFe s g a fun x => { x with bad := true }
  | o => ownerDone s o true addr 0 status [] []

/-- The context that a refusal is counted and recorded under: none for a refused access to a control window here (R43). -/
def refusalCtx (s : State) (c addr : Nat) : Option Nat :=
  if addrNode addr = s.self ∧ isCtlOff (addrOff addr) then none else some c

/-- An owned access is refused: the refusal is counted and recorded (R43, R56). -/
def refuseOwned (s : State) (g : Nat) (o : Owner) (c part addr op : Nat) : State :=
  failOwned (noteRefusal s (12 + g / 8) (refusalCtx s c addr) addr part op) o addr

/-- A command's access is refused: the refusal is counted and recorded (R43, R56). -/
def refuseRun (s : State) (g e q i c part addr op : Nat) (status : Nat) : State :=
  modRun (noteRefusal s (12 + g / 8) (refusalCtx s c addr) addr part op) g e q i fun r => r.refuse addr status

/-- The status with which the checks at a target here end an access that they do not let through. -/
def endedWith (x : Option Nat) : Nat := x.getD DENIED

/-- Count an access of an owner that keeps count of those outstanding. -/
def addOutstanding (s : State) (o : Owner) : State :=
  match o with
  | .cmd g e q i => modRun s g e q i fun r => { r with outstanding := r.outstanding + 1 }
  | .frontEnd g a => modFe s g a fun x => { x with outstanding := x.outstanding + 1 }
  | .sluice => s.modHost fun h => { h with sluice := { h.sluice with outstanding := h.sluice.outstanding + 1 } }
  | _ => s

/-- Issue one piece of a read that is not served here, under a context (R29–R43, R83). -/
def readPiece (s : State) (g : Nat) (o : Owner) (c : Nat) (addr len : Nat) (vol : Bool) (op : Nat) : State :=
  let part := (s.ctx c).part
  match placeOf s addr with
  | .here _ _ => s
  | pl =>
    let fromHost (s : State) (v : Nat) (lend : Bool) : State :=
      match hostAccess s c v len false [] o lend addr with
      | none => refuseOwned s g o c part addr op
      | some s => addOutstanding s o
    if dirHere s addr ∧ (pl = .away ∨ addrOff addr < 0x020000000000) then
      -- the tile is held elsewhere: the access goes to its holder (R83)
      let node := addrNode addr
      let off := addrOff addr
      match accCheck s node off len part false with
      | some 0 =>
        (match pl with
         | .host v => fromHost s v true
         | _ => issue (addOutstanding s o)
             { addr := heldAddr s node off, opcode := if vol then opRDV else opRD, port := g, part := part
               len := len, chk := true, holder := some (ordLoc s node off).holder, names := some addr } c o none)
      | some 5 => ownerDone (addOutstanding s o) o true addr len POISONED (List.replicate len 0xFF) (atomsOf addr len)
      | x => if endedWith x = DENIED then refuseOwned s g o c part addr op else failOwned s o addr (endedWith x)
    else match pl, reach s c addr len .rd with
      | .host v, _ => fromHost s v false
      | _, none => refuseOwned s g o c part addr op
      | _, some p =>
        if addrOff addr ≥ 0x400000000000 ∧ isDevik (addrNode addr) then refuseOwned s g o c p addr op
        else match (if farEligible s addr && ! vol then farHit s (groupHd s g) addr len p else none) with
        | some d =>
          ownerDone (addOutstanding ((touchFar s (groupHd s g) addr len p).modMem fun m => { m with flHits := satAdd 32 m.flHits 1 }) o)
            o true addr len OK d []
        | none =>
          issue (addOutstanding s o) { addr := addr, opcode := if vol then opRDV else opRD, port := g, part := p, len := len,
                                       chk := true, holder := if vol then none else locHit s g addr } c o none

/-- Issue one piece of a command's source that is not served here. -/
def issueRead (s : State) (g e q i c : Nat) (addr len : Nat) (vol : Bool) (op : Nat) : State :=
  readPiece s g (.cmd g e q i) c addr len vol op

/-- The pieces of a command's source ranges that are not served here. -/
def awayPieces (s : State) (ranges : List (Nat × Nat × Bool)) : List (Nat × Nat × Bool) :=
  ranges.flatMap fun x =>
    (cutRange 4096 2048 (x.2.1 / 1024 + 3) x.1 x.2.1).flatMap fun y =>
      match placeOf s y.1 with
      | .here _ _ => []
      | .away => [(y.1, y.2, x.2.2)]
      | .host _ => (cutRange 4096 512 (y.2 / 256 + 3) y.1 y.2).map fun z => (z.1, z.2, x.2.2)

/-- Whether an owner is a command of an engine of a group, in one of its queues that `f` picks. -/
def ownedIn (g e : Nat) (f : Nat → Bool) : Owner → Bool
  | .cmd g' e' q _ => g' == g && e' == e && f q
  | _ => false

/-- Reads, or writes, of a group's DMA engine outstanding for the queues that `f` picks, those to the host window among them
(R58, R120). -/
def dmaOut (s : State) (g : Nat) (wr : Bool) (f : Nat → Bool) : Nat :=
  s.fab.tracks.countP (fun t => ownedIn g 3 f t.owner && (t.pkt.opcode == opWR) == wr) +
  s.xlat.accs.countP fun a => ownedIn g 3 f a.owner && a.write == wr && a.st != 2

/-- Read or write slots that a queue of the DMA engine still has: 1,024 of either kind, of which the queues of priorities 1 to 3
never hold more than 896 (R120). -/
def dmaSlots (s : State) (g q : Nat) (wr : Bool) : Nat :=
  let low (k : Nat) : Bool := ((s.grp g).que 3 k).prio != 0
  let all := 1024 - dmaOut s g wr fun _ => true
  if low q then min all (896 - dmaOut s g wr low) else all

/-- Reads that a queue may still issue: the DMA engine has the limits of R120; of the host window's reads HX sends no more than
4,096 at once (R47). -/
def readRoom (s : State) (g e q : Nat) : Nat := if e = 3 then dmaSlots s g q false else 1

/-- The bytes a command reads from a range served here, or from what it has fetched: the bytes, the poisoned atoms by
fabric address over 64, and the address refused, if any. Reads through a hub die come after every write accepted there
(R260, R272); local reads do not wait. -/
def gather (s : State) (g : Nat) (r : Running) (part : Nat) (addr len : Nat) (vol : Bool) :
    State × Bytes × List Nat × Option Nat :=
  let s := countRange s g addr len
  (cutRange 4096 4096 (len / 2048 + 3) addr len).foldl (fun acc x =>
    let (s, d, bad, den) := acc
    match placeOf s x.1 with
    | .here node off =>
      (match accCheck s node off x.2 part false with
       | some 0 =>
         if isCtlOff off then
           let (t, s) := s.drawTick
           match readCtl s off x.2 t with
           | some b => (s, d ++ b, bad, den)
           | none => (s, d ++ List.replicate x.2 0xFF, bad, some (den.getD x.1))
         else
           let s := if localAcc s g node off vol then s else drainTarget s (targetOf s node off)
           let key := keyOf s node off
           let s := meetErrors s key x.2
           let poisoned := badAtoms s key x.2 part
           (s, d ++ withPoison key poisoned (readMem s key x.2 part), bad ++ poisoned.map (fun a => a + x.1 / 64 - key / 64), den)
       | some 5 => (s, d ++ List.replicate x.2 0xFF, bad ++ atomsOf x.1 x.2, den)
       | _ => (s, d ++ List.replicate x.2 0xFF, bad, some (den.getD x.1)))
    | _ => (s, d ++ Mem.readBytes r.fetched x.1 x.2, bad ++ r.fetchBad.filter ((atomsOf x.1 x.2).contains ·), den))
    (s, [], [], none)

/-- Some byte of a range waits for a held tile, a rebuild or a suspicion. -/
def rangeHeld (s : State) (part addr len : Nat) (wr : Bool) : Bool :=
  (cutRange 4096 4096 (len / 2048 + 3) addr len).any fun x =>
    dirHere s x.1 && (accCheck s (addrNode x.1) (addrOff x.1) x.2 part wr).isNone

/-! ## Writes to control windows (R125, R126, R129, R279, R282, R283) -/

/-- Drop the copies an INV block names (R273); its LENGTH is bytes minus 1. A block with reserved bits set has no effect
(R5). -/
def invBlock (s : State) (blk : Nat) : State :=
  let base := bits blk 0 56
  let len := bits blk 64 48
  if bits blk 56 8 ≠ 0 ∨ bits blk 112 400 ≠ 0 then s else
  let s := if len + 1 > 67108864 then dropFar s fun _ => true
           else dropFar s fun a => decide (base / 64 ≤ a) && decide (a ≤ (base + len) / 64)
  s.modMem fun m => { m with invDone := satAdd 32 m.invDone 1 }

/-- Start a context fence over the trackers of a context, but for the fence's own request (R276). -/
def startFence (s : State) (c : Nat) (reply : Option Packet) (o : Owner) (own : Option (Nat × Nat)) : State :=
  let waits := (s.fab.tracks.filter fun t => t.ctx == c && ! t.timedOut && some t.name != own).map Track.name ++
    (s.xlat.accs.filter fun a => a.ctx == c && a.st != 2).map fun a => (512, a.id)
  if waits.isEmpty then
    answerFences (s.modMem fun m => { m with ctxFences := satAdd 32 m.ctxFences 1 }) [{ reply := reply, owner := o }]
  else s.modMem fun m => { m with fences := m.fences ++ [{ reply := reply, owner := o, waits := waits }] }

/-- The CTX_FENCE block of this node's control window (R279). -/
def ctxFenceOff : Nat := 0x020042200080

/-- The context that a CTX_FENCE block names for a writer that is no end point, or its refusal (R276). -/
def fenceCtx (blk : Nat) : Option Nat := if bits blk 12 500 = 0 then some (bits blk 0 12) else none

/-- Field `i` of the group's last register block: LIST_LOAD 0, LIST_ABORT 1 (R129). -/
def groupReg (s : State) (g part i v : Nat) : State :=
  if i = 0 then s.modGrp g fun x => { x with loadReqs := x.loadReqs ++ [(part, v)] }
  else if i = 1 then s.modGrp g fun x => { x with abortReqs := x.abortReqs ++ [(part, v)] }
  else s

/-- A write to a control window: DENIED when refused, else OK with its effect. Writes of RO fields have none (R6). An
increase comes behind the writes accepted before it (R266); `loc` is the group whose own engine makes it.
Log: 84 DEDUCED. -/
def writeFields (s : State) (off part : Nat) (d : Bytes) (loc : Option Nat) : State × Nat :=
  let n := d.length
  if ! ((n = 8 ∧ off % 8 = 0) ∨ (n = 64 ∧ off % 64 = 0)) then (s, DENIED)
  else
    let inc (s : State) (g c v : Nat) : State :=
      if v = 0 then s else if loc = some g then increase s g c part v else acceptInc s g c part v
    match winOf off with
    | .gcw g o =>
      if o < 0x8000 then
        -- a write is refused when one of its increases names a counter that the partition does not own; the others are applied
        let idx := List.range (n / 8)
        let amount (i : Nat) : Nat := leNat (slice d (8 * i + 4) 4)
        let owns (i : Nat) : Bool := ctrOwner s g (o / 8 + i) == some part
        ((idx.filter owns).foldl (fun s i => inc s g (o / 8 + i) (amount i)) s,
         if idx.any fun i => ! owns i && (n == 8 || amount i != 0) then DENIED else OK)
      else if o < 0x9040 then (s, OK)
      else if o = 0x9040 ∧ n = 64 then
        -- reserved bits make it no write of either register (R5)
        (if leNat (slice d 8 8) ≥ 65536 ∨ leNat (slice d 24 40) ≠ 0 then s
         else groupReg (groupReg s g part 0 (leNat (slice d 0 8))) g part 1 (leNat (slice d 8 8)), OK)
      else if o = 0x9040 ∨ o = 0x9048 then (groupReg s g part ((o - 0x9040) / 8) (leNat d), OK)
      else if o = 0x9050 then (s, OK)
      else (s, DENIED)
    | .scw _ _ => (s, DENIED)
    | .ncw o =>
      if o = 0x40 then (if n = 64 then (invBlock s (leNat d), OK) else (s, DENIED))
      else if o < 0x18 ∨ (0xC0 ≤ o ∧ o < 0x100) then (s, OK)
      else (s, DENIED)
    | _ => (s, DENIED)

/-- As `writeFields`, with a refusal counted and recorded; it has no context (R43). -/
def writeCtl (s : State) (off part op : Nat) (d : Bytes) (loc : Option Nat) : State × Nat :=
  let r := writeFields s off part d loc
  if r.2 = DENIED then (noteRefusal r.1 (12 + homeHd s off) none (s.base + off) part op, DENIED) else r

/-! ## Writes of engines -/

/-- An engine's write that its hub die cannot accept yet, during a suspicion or a rebuild, stays there as a request of the
group's own (R449, R450, R463). -/
def holdWrite (s : State) (g : Nat) (o : Owner) (c addr : Nat) (d : Bytes) (part : Nat) (bad : Nat → Bool) : State :=
  ((cutRange 4096 2048 4 addr d.length).flatMap (poisonCut bad)).foldl (fun s x =>
    holdIssue (modOwner s o fun r => { r with outstanding := r.outstanding + 1 })
      { addr := x.1, opcode := opWR, port := g, part := part, len := x.2.1, poison := x.2.2, inPort := 0x7F
        payload := slice d (x.1 - addr) x.2.1 } c o) s

/-- Write one piece that crosses no 4 KiB block: performed or accepted here, or sent (R259, R262, R264). `bad` tells
which of its 64-byte destination atoms are written poisoned. -/
def writePiece (s : State) (g : Nat) (o : Owner) (c : Nat) (addr : Nat) (d : Bytes) (bad : Nat → Bool) (op : Nat) : State :=
  let part := (s.ctx c).part
  let len := d.length
  let wait (s : State) := modOwner s o fun r => { r with outstanding := r.outstanding + 1 }
  let lose (s : State) := modOwner s o fun r => { r with lostAt := r.lostAt ++ [(addr, len)] }
  let s := dropFarRange s addr len
  match placeOf s addr with
  | .here node off =>
    (match accCheck s node off len part true with
     | some 0 =>
       if off = ctxFenceOff ∧ len = 64 then
         (match fenceCtx (leNat d) with
          | some n => startFence (wait s) n none o none
          | none => lose <| failOwned s o addr)
       else if isCtlOff off then
         let (s, st) := writeCtl s off part op d (some g)
         if st = OK then s else lose <| failOwned s o addr
       else
         let m := mirrored s node off
         let s := (poisonCut bad (addr, len)).foldl (fun s x =>
           let o := off + (x.1 - addr)
           let piece := slice d (x.1 - addr) x.2.1
           if localAcc s g node off false ∧ ! tileCopying s node o then performWrite s (keyOf s node o) piece part x.2.2
           else acceptWrite s node o .package piece part x.2.2) s
         if m then mirrorWrite s node off d part o none bad else s
     | some 5 => modOwner s o fun r => r.writePoisoned addr len
     | none => holdWrite s g o c addr d part bad
     | x => if endedWith x = DENIED then lose <| refuseOwned s g o c part addr op else lose <| failOwned s o addr (endedWith x))
  | pl =>
    let toHost (s : State) (v : Nat) (lend : Bool) : State :=
      match hostAccess s c v len true d o lend addr with
      | none => lose <| refuseOwned s g o c part addr op
      | some s => hostSend (wait s)
    if dirHere s addr ∧ (pl = .away ∨ addrOff addr < 0x020000000000) then
      let node := addrNode addr
      let off := addrOff addr
      match accCheck s node off len part true with
      | some 0 =>
        if tileCopying s node off then
          (poisonCut bad (addr, len)).foldl (fun s x =>
            acceptWrite s node (off + (x.1 - addr)) .package (slice d (x.1 - addr) x.2.1) part x.2.2) s
        else
          (match pl with
           | .host v => toHost s v true
           | _ => (chunkPackets { opcode := opWR, port := g, part := part, holder := some (ordLoc s node off).holder }
               (heldAddr s node off) d fun a => bad (a + addr / 64 - heldAddr s node off / 64)).foldl
             (fun s p => issue (wait s) { p with names := some (addr + (p.addr - heldAddr s node off)) } c o none) s)
      | some 5 => modOwner s o fun r => r.writePoisoned addr len
      | none => holdWrite s g o c addr d part bad
      | x => if endedWith x = DENIED then lose <| refuseOwned s g o c part addr op else lose <| failOwned s o addr (endedWith x)
    else match pl, reach s c addr len .wr with
      | .host v, _ => toHost s v false
      | _, none => lose <| refuseOwned s g o c part addr op
      | _, some p =>
        if addrOff addr ≥ 0x400000000000 ∧ isDevik (addrNode addr) then lose <| refuseOwned s g o c p addr op
        else (chunkPackets { opcode := opWR, port := g, part := p, holder := locHit s g addr } addr d bad).foldl
          (fun s k => issue (wait s) k c o none) s

/-- Write a run of bytes with some atoms poisoned, piece by piece; `bad` tells whether the byte offset's 64-byte
destination atom is written poisoned. -/
def writeRun (s : State) (g : Nat) (o : Owner) (c addr : Nat) (d : Bytes) (bad : Nat → Bool) (op : Nat) : State :=
  (cutRange 4096 4096 (d.length / 2048 + 3) addr d.length).foldl
    (fun s x => writePiece s g o c x.1 (slice d (x.1 - addr) x.2) bad op) (countRange s g addr d.length)

end Sys2Proof.Machine
end

