-- ==== Sys2Proof/Machine/CollOps.lean ====
section
/-! DEFINITION. Collectives (R225–R258): chunk geometry, combining, nodes, contributions, results, verdicts, aborts. -/
namespace Sys2Proof.Machine

/-! ## Opcodes, counts -/

def opJOIN : Nat := 0x20
def opCONTRIB : Nat := 0x21
def opPARTIAL : Nat := 0x22
def opRESULT : Nat := 0x23
def opACK : Nat := 0x24
def opNACK : Nat := 0x25
def opDONE : Nat := 0x26
def opABORT : Nat := 0x27
def opRESET : Nat := 0x28

/-- COLL_STATS: 0 operations completed, 1–6 aborts per reason, 7 reissues, 8 poisoned chunks, 9 discarded packets. -/
def collCount (s : State) (i : Nat) : State := s.modColl fun c => { c with stats := bump c.stats i }

/-! ## The descriptor of R250 -/

structure CollOp where
  count : Nat := 0
  opgen : Nat := 0
  op : Nat := 0
  ty : Nat := 0
  outFmt : Nat := 0
  fn : Nat := 0
  root : Nat := 0
  group : Nat := 0
deriving DecidableEq, Repr, Inhabited

/-- The 16-byte descriptor (R250). Log: 13 DEDUCED. -/
def CollOp.word (o : CollOp) : Nat :=
  pack [(32, o.count), (16, o.opgen), (4, o.op), (4, o.ty), (4, o.outFmt), (3, o.fn), (1, 0), (12, o.root), (4, 0), (16, o.group)]

def collOpOf (w : Nat) : CollOp :=
  { count := bits w 0 32, opgen := bits w 32 16, op := bits w 48 4, ty := bits w 52 4, outFmt := bits w 56 4,
    fn := bits w 60 3, root := bits w 64 12, group := bits w 80 16 }

/-- The digest of an operation (R250). -/
def CollOp.digest (o : CollOp) : Nat := crc32 (leBytes 16 o.word)

/-! ## Chunks (R230, R231, R233) -/

/-- Bytes of an element of a collective type. -/
def bpe (f : Nat) : Nat := fmtBits f / 8
/-- Elements per chunk CE (R231). -/
def ceOf (ty : Nat) : Nat := if bpe ty = 0 then 4096 else 4096 / bpe ty

/-- The accumulator format (R240). -/
def accFmt (fn ty : Nat) : Nat := if fn = 0 then (if ty = fINT8 ∨ ty = fINT32 then fINT32 else fFP32) else ty

def isReduction (op : Nat) : Bool := op == 0 || op == 1 || op == 4

/-- TYPE, OUT_FMT and FN form a combination of R231; those of a barrier do too. -/
def collCombo (op ty out fn : Nat) : Bool :=
  if op = 2 ∨ op = 3 ∨ op = 5 then
    [fFP32, fBF16, fFP16, fE4M3, fE5M2, fINT32, fINT8].contains ty && out == ty && fn == 0
  else if ty = fFP32 ∨ ty = fBF16 ∨ ty = fFP16 then decide (fn ≤ 2) && [fFP32, fBF16, fFP16].contains out
  else if ty = fE4M3 ∨ ty = fE5M2 then decide (fn ≤ 2) && [fFP32, fBF16, fFP16, fE4M3, fE5M2].contains out
  else if ty = fINT32 then decide (fn ≤ 5) && out == fINT32
  else if ty = fINT8 then (if fn ≤ 2 then out == fINT8 || out == fINT32 else decide (fn ≤ 5) && out == fINT8)
  else false

/-- A run's elements, and the runs, of a contribution and of a result (R233). -/
def CollOp.srcRun (o : CollOp) (n : Nat) : Nat := if o.op = 5 then o.count / n else o.count
def CollOp.dstRun (o : CollOp) (n : Nat) : Nat := if o.op = 5 ∨ o.op = 1 then o.count / n else o.count
def CollOp.srcRuns (o : CollOp) (n : Nat) : Nat := if o.op = 5 then n else 1
def CollOp.dstRuns (o : CollOp) (n : Nat) : Nat := if o.op = 5 ∨ o.op = 2 then n else 1
def chunksIn (ty len : Nat) : Nat := ceilDiv len (ceOf ty)

/-- Elements of chunk `i` of a run. -/
def chunkElems (ty run i : Nat) : Nat := min (ceOf ty) (run - i * ceOf ty)

/-- Whether member `m` contributes (R230). -/
def CollOp.contributes (o : CollOp) (m : Nat) : Bool := o.op != 6 && (o.op != 3 || m == o.root)
/-- Whether member `m` receives (R230). -/
def CollOp.receives (o : CollOp) (m : Nat) : Bool := o.op != 6 && (o.op != 4 || m == o.root)

/-- Chunks that member `m` contributes, and receives. -/
def CollOp.contribChunks (o : CollOp) (n m : Nat) : Nat :=
  if o.contributes m then o.srcRuns n * chunksIn o.ty (o.srcRun n) else 0
def CollOp.resultChunks (o : CollOp) (n m : Nat) : Nat :=
  if o.receives m then o.dstRuns n * chunksIn o.ty (o.dstRun n) else 0

/-- Byte offset and length in SRC of contribution chunk `c`. -/
def CollOp.srcPlace (o : CollOp) (n c : Nat) : Nat × Nat :=
  let k := max 1 (chunksIn o.ty (o.srcRun n))
  ((c / k * o.srcRun n + c % k * ceOf o.ty) * bpe o.ty, chunkElems o.ty (o.srcRun n) (c % k) * bpe o.ty)

/-- Byte offset and length in DST of result chunk `c`, in address order. -/
def CollOp.dstPlace (o : CollOp) (n c : Nat) : Nat × Nat :=
  let k := max 1 (chunksIn o.ty (o.dstRun n))
  ((c / k * o.dstRun n + c % k * ceOf o.ty) * bpe o.outFmt, chunkElems o.ty (o.dstRun n) (c % k) * bpe o.outFmt)

/-- Bytes a member reads at SRC (R230). -/
def CollOp.srcBytes (o : CollOp) (m : Nat) : Nat := if o.contributes m then o.count * bpe o.ty else 0

/-! ### Names of sub-chunks

A sub-chunk of an operation is named by its CHUNK, which counts within a run (R233, R235), by the member whose run it is of where
every member has its own (all-gather, all-to-all), and by the block of an all-to-all, which is its receiver. A PARTIAL, ACK or NACK
carries the run in ADDR[11:0] and the block in ADDR[35:24]; a RESULT on its way to a level-1 node names its run by its offset and its
block in CTR. Log: 82 DESIGN CHOICE. -/

def subName (run blk chunk : Nat) : Nat := (blk * 4096 + run) * 2 ^ 24 + chunk % 2 ^ 24
def nameChunk (k : Nat) : Nat := k % 2 ^ 24
def nameRun (k : Nat) : Nat := k / 2 ^ 24 % 4096
def nameBlk (k : Nat) : Nat := k / 2 ^ 36

/-- The operation has a run for each member. -/
def manyRuns (op : Nat) : Bool := op == 2 || op == 5

/-- The name of contribution chunk `c` of member `m`. -/
def CollOp.contribName (o : CollOp) (n m c : Nat) : Nat :=
  let k := max 1 (chunksIn o.ty (o.srcRun n))
  if o.op = 5 then subName m (c / k) (c % k * 4) else subName (if o.op = 2 then m else 0) 0 (c * 4)

/-- The member that a result sub-chunk is for; none for every member that receives. -/
def CollOp.target (o : CollOp) (n name : Nat) : Option Nat :=
  if o.op = 1 then some (nameChunk name / 4 / max 1 (chunksIn o.ty (o.dstRun n)))
  else if o.op = 4 then some o.root
  else if o.op = 5 then some (nameBlk name)
  else none

/-- The result chunk, in address order at its receiver, of a sub-chunk. -/
def CollOp.resultIndex (o : CollOp) (n name : Nat) : Nat :=
  let k := max 1 (chunksIn o.ty (o.dstRun n))
  let c := nameChunk name / 4
  if o.op = 1 then c % k else if manyRuns o.op then nameRun name * k + c else c

/-- The name of sub-chunk `sub` of result chunk `rc` of member `m`. -/
def CollOp.resultName (o : CollOp) (n m rc sub : Nat) : Nat :=
  let k := max 1 (chunksIn o.ty (o.dstRun n))
  if o.op = 1 then subName 0 0 ((m * k + rc) * 4 + sub)
  else if o.op = 2 then subName (rc / k) 0 (rc % k * 4 + sub)
  else if o.op = 5 then subName (rc / k) m (rc % k * 4 + sub)
  else subName 0 0 (rc * 4 + sub)

/-- The byte offset of a result sub-chunk within its member's result. -/
def CollOp.resultOff (o : CollOp) (n name : Nat) : Nat :=
  (o.dstPlace n (o.resultIndex n name)).1 + nameChunk name % 4 * 4096

/-- Result bytes that the apex sends in all, each result counted once. -/
def CollOp.totalBytes (o : CollOp) (n : Nat) : Nat :=
  if o.op = 6 then 0 else (if o.op = 2 ∨ o.op = 5 then n else 1) * o.count * bpe o.outFmt

/-! ## Combining (R240–R242) -/

/-- An element on entry to the accumulator. -/
def collIn (fn ty c : Nat) : Nat :=
  if fn ≠ 0 then c
  else if ty = fINT8 then unsigned 32 (signed 8 c)
  else if ty = fINT32 then c
  else toF32 (decElem ty c)

/-- One combination of two accumulator values. -/
def collComb (fn f a b : Nat) : Nat :=
  let w := fmtBits f
  if fn = 3 then a &&& b
  else if fn = 4 then a ||| b
  else if fn = 5 then a ^^^ b
  else if fn = 0 then (if f = fINT32 then (a + b) % 2 ^ 32 else fAdd a b)
  else if f = fINT32 ∨ f = fINT8 then
    (if (signed w a < signed w b) = (fn = 1) then b else a)
  else
    let x := decElem f a
    let y := decElem f b
    if x.isNan || y.isNan then (ffmt f).enc true none .nan
    else if fn = 1 then (if x.lt y then b else a)
    else (if y.lt x then b else a)

/-- A contribution's bytes in the accumulator format. -/
def collExpand (o : CollOp) (d : Bytes) : Bytes :=
  packElems (accFmt o.fn o.ty) ((unpackElems o.ty d (d.length / bpe o.ty)).map (collIn o.fn o.ty))

def collMerge (o : CollOp) (a b : Bytes) : Bytes :=
  let f := accFmt o.fn o.ty
  let n := a.length / bpe f
  packElems f ((unpackElems f a n).zipWith (collComb o.fn f) (unpackElems f b n))

/-- The apex's one conversion (R242). Log: 212 DEDUCED. -/
def collOut (o : CollOp) (d : Bytes) : Bytes :=
  let f := accFmt o.fn o.ty
  if f = o.outFmt ∧ (f = fINT32 ∨ f = fINT8) then d
  else packElems o.outFmt ((unpackElems f d (d.length / bpe f)).map fun c => encElem o.outFmt false none (decElem f c))

/-! ## Nodes -/

/-- The node of a group on this package, and its slot. -/
def nodeOf (s : State) (group : Nat) : Option (Nat × CollNode) := s.coll.nodes.find? fun x => x.2.group == group

def modNode (s : State) (slot : Nat) (f : CollNode → CollNode) : State := s.setNode slot (f (s.node slot))

/-- Fields of a member entry (R226). -/
def entKind (e : BitVec 64) : Nat := bits e.toNat 0 1
def entNode (e : BitVec 64) : Nat := bits e.toNat 1 9
def entEg (e : BitVec 64) : Nat := bits e.toNat 10 5
def entAttach (e : BitVec 64) : Nat := bits e.toNat 15 1

/-- The level-1 node of a member (R227). -/
def level1 (e : BitVec 64) : Nat := if entKind e = 0 then entNode e else entNode e / 16 * 16 + 8 + entAttach e

/-- Combining cells of a die in use, and free (R228). -/
def shareOf (s : State) (die : Nat) : Nat := AMap.get 65536 s.coll.share die
def cellsUsed (s : State) (die : Nat) : Nat :=
  sumBy (fun x => if x.2.xd = die then x.2.window * 16 else 0) s.coll.nodes
def cellsFree (s : State) (die : Nat) : Nat := if s.isUnitFenced 3 die then 0 else shareOf s die - cellsUsed s die

/-- The die with the most free combining cells, the lowest index among equals (R229). -/
def bestDie (s : State) : Nat := (bestBy (fun a b => decide (cellsFree s b < cellsFree s a)) (List.range 4)).getD 0

/-- The die that combines for a group, if a node of it is here (R11). -/
def collDie (s : State) (group : Nat) : Option Nat := (nodeOf s group).map (·.2.xd)

/-- A group's members of this package begin at generation 0 (R250, R255). -/
def clearGen (s : State) (group : Nat) : State :=
  s.modColl fun c => { c with memberGen := c.memberGen.filter fun e => e.1 / 32 != group }

def removeNode (s : State) (group : Nat) : State :=
  clearGen (s.modColl fun c => { c with nodes := c.nodes.filter fun x => x.2.group != group }) group

/-- Install a node: a slot and its cells, or nothing where either lacks (R228, R229). -/
def installNode (s : State) (d : NodeDesc) : State × Bool :=
  let die := d.die.getD (bestDie s)
  let slot := firstFree s.coll.nodes.length 0 (s.coll.nodes.map (·.1))
  if slot ≥ 1024 ∨ cellsFree s die < d.window * 16 ∨ (nodeOf s d.group).isSome then (s, false)
  else (clearGen (s.setNode slot
      { group := d.group, part := d.part, apex := decide (d.apexNode = s.self), xd := die, window := d.window, n := d.n, tmo := d.tmo
        apexNode := d.apexNode, members := d.members, childNodes := d.childNodes }) d.group, true)

def CollNode.opOf (n : CollNode) : Option CollOp := n.desc.map collOpOf

/-- The member that an engine group of a package is. -/
def memberAt (n : CollNode) (node eg : Nat) : Option Nat :=
  (n.members.find? fun m => entKind m.2 == 0 && entNode m.2 == node && entEg m.2 == eg).map (·.1)

/-- The member that an end point is. -/
def memberOfEp (n : CollNode) (node : Nat) : Option Nat :=
  (n.members.find? fun m => entKind m.2 == 1 && entNode m.2 == node).map (·.1)

/-- The engine group of a member of this package. -/
def memberEg (n : CollNode) (self m : Nat) : Option Nat :=
  (n.members.find? fun x => x.1 == m && entKind x.2 == 0 && entNode x.2 == self).map fun x => entEg x.2

/-- The end point that a member is. -/
def memberEp (n : CollNode) (m : Nat) : Option Nat :=
  (n.members.find? fun x => x.1 == m && entKind x.2 == 1).map fun x => entNode x.2

/-- The join of a member of this package on a group's current operation. -/
def joinOf (s : State) (g group : Nat) : Option (Nat × Join) :=
  (s.grp g).joins.find? fun x => x.2.group == group && ! x.2.done && x.2.abortReason == 0

def Join.opOf (j : Join) : CollOp :=
  { count := j.count, opgen := j.opgen, op := j.op, ty := j.ty, outFmt := j.outFmt, fn := j.fn, root := j.root, group := j.group }

/-! ## Packets -/

/-- A collective packet of this package towards a node, which ADDR names as in every packet (R320); the address that R235 states for
it stands in the bits below. Log: 82 DESIGN CHOICE. -/
def collPkt (s : State) (n : CollNode) (opcode dest vc : Nat) : Packet :=
  { addr := nodeBase dest, opcode := opcode, srcNode := s.self, port := 38 + s.self % 2, vc := vc, part := if vc = 5 then 0 else n.part
    group := n.group, holder := some dest, digest := if opcode = opACK ∨ opcode = opNACK ∨ vc = 5 then 0 else n.digest.getD 0 }

/-- An ACK, with the map of one sub-chunk, or a NACK of a sub-chunk, by its name (R234, R289). -/
def verdictPkt (s : State) (n : CollNode) (opcode dest name : Nat) : Packet :=
  { collPkt s n opcode dest 4 with
    addr := nodeBase dest + nameBlk name * 2 ^ 24 + nameRun name, chunk := nameChunk name
    len := if opcode = opACK then 8 else 0, payload := if opcode = opACK then leBytes 8 1 else [] }

/-- The packets of a sub-chunk from an address on; the last carries the check of R243. `place` gives ADDR from the byte
offset within the sub-chunk. Log: 74 DEDUCED. -/
def subPkts (p : Packet) (place : Nat → Nat) (d : Bytes) (crc : Nat) : List Packet :=
  (cutRange 2048 2048 4 0 d.length).map fun x =>
    let last := x.1 + x.2 == d.length
    { p with addr := place x.1, len := x.2, last := last, crc := if last then crc else 0, payload := slice d x.1 x.2 }

def sendAll (s : State) (l : List Packet) : State := l.foldl send s

/-- The bytes of a unit's packets in order. -/
def unitBytes (l : List Packet) : Bytes := (l.filter fun p => ! p.last).flatMap (·.payload) ++ (l.filter (·.last)).flatMap (·.payload)
def unitPoison (l : List Packet) : Bool := l.any (·.poison)
def unitCrc (l : List Packet) : Nat := ((l.find? (·.last)).map (·.crc)).getD 0
def unitHead (l : List Packet) : Packet := ((l.find? fun p => ! p.last).orElse fun _ => l.head?).getD {}

/-- A unit passes its check (R243, R309). -/
def unitOk (l : List Packet) : Bool := ! unitPoison l && crc64 (unitBytes l) == unitCrc l

/-! ## The end of an operation for a member (R253, R255, R256) -/

/-- The join's COLL_WAIT may complete. -/
def joinFinished (j : Join) : Bool :=
  j.abortReason != 0 ||
  (j.done && (List.range (j.opOf.resultChunks j.n j.member)).all fun c => AMap.find j.verdicts c == some true)

def joinStatus (j : Join) : Nat :=
  if j.abortReason = 1 then MISMATCH else if j.abortReason ≠ 0 then TIMEOUT else if j.poisonedN ≠ 0 then POISONED else OK

/-- DETAIL of COLL_WAIT (R256), from bit 256 of the record. -/
def joinDetail (j : Join) : Nat :=
  pack [(16, j.group), (16, j.opgen), (8, j.abortReason), (1, b2n j.late), (7, 0), (12, j.offender), (4, 0), (9, j.detect),
        (23, 0), (32, j.reissued), (32, j.poisonedN), (48, j.startFrame)]

def joinPassed (j : Join) : Nat := j.verdicts.countP (·.2)

/-- Nothing waits any longer for the accesses of joins that have gone. -/
def dropJoinTracks (s : State) (g : Nat) (slots : List Nat) : State :=
  let own (o : Owner) : Owner := match o with
    | .coll g' k _ _ => if g' = g ∧ slots.contains k then .none else o
    | o => o
  (s.modFab fun f => { f with tracks := f.tracks.map fun t => { t with owner := own t.owner } }).modXlat fun x => { x with
    accs := x.accs.map fun a => { a with owner := own a.owner } }

/-- COLL_WAITs that have started and whose operation has ended complete, and release their slots (R175). -/
def collWake (s : State) (g : Nat) : State :=
  let x := s.grp g
  let fin (l : CmdList) (slot : Nat) : Option (Nat × Join) :=
    x.joins.find? fun y => y.2.list == l.id && y.2.slot == slot && joinFinished y.2
  let qs := AMap.mapVals (fun _ q =>
    match x.list? q.list with
    | none => q
    | some l =>
      let upd (r : Running) : Running :=
        if r.opcode = 0x31 ∧ r.st = 0 then
          match fin l (bits (cmdAt l r.idx) 64 5) with
          | some (_, j) => { r with st := 1, status := joinStatus j, count := joinPassed j, detail := joinDetail j }
          | none => r
        else r
      { q with started := q.started.map upd }) x.queues
  let gone := x.joins.filter fun y => joinFinished y.2 && x.queues.any fun q =>
    q.2.list == y.2.list && q.2.started.any fun r =>
      r.opcode == 0x31 && r.st == 0 &&
        (match x.list? q.2.list with | some l => bits (cmdAt l r.idx) 64 5 == y.2.slot | none => false)
  dropJoinTracks (s.setGrp g { x with queues := qs, joins := x.joins.filter fun y => ! gone.any (·.1 == y.1) }) g (gone.map (·.1))

def collWakeAll (s : State) : State := (List.range 32).foldl collWake s

/-! ## The speculation table (R246) -/

def refOf (j : Join) (chunk : Nat) : HoldRef := { group := j.group, opgen := j.opgen, chunk := chunk }

/-- The chunks that a read of a range of keys holds. -/
def holdsOf (x : Group) (key len : Nat) : List HoldRef :=
  (x.spec.filter fun e =>
    (decide (e.lo < key + len) && decide (key < e.hi)) || (atomsOf key len).any e.lines.contains).map (·.ref)

/-- List the lines a holding command writes under the chunks it holds. -/
def listLines (x : Group) (refs : List HoldRef) (lines : List Nat) : Group :=
  { x with spec := x.spec.map fun e => if refs.contains e.ref then { e with lines := (e.lines ++ lines).eraseDups } else e }

/-- A chunk's verdict is not yet known, or it failed. -/
def specOf (x : Group) (r : HoldRef) : Option SpecEntry := x.spec.find? fun e => e.ref == r

/-- The poison notice of R246: commands that hold the chunk become INVALID; whether any does. -/
def poisonNotice (s : State) (g : Nat) (r : HoldRef) : State × Bool :=
  let x := s.grp g
  (s.setGrp g { x with queues := AMap.mapVals (fun _ q =>
     { q with started := q.started.map fun y => if y.holds.contains r then { y with invalid := true } else y }) x.queues },
   x.queues.any fun q => q.2.started.any fun y => y.holds.contains r)

/-- Drop a member's entries of an operation (R246: it completes or aborts). -/
def clearSpec (s : State) (g group opgen : Nat) : State :=
  s.modGrp g fun x => { x with spec := x.spec.filter fun e => ! (e.ref.group == group && e.ref.opgen == opgen) }

/-- A join of a group, by its collective slot. -/
def joinAt (s : State) (g slot : Nat) : Join := AMap.get {} (s.grp g).joins slot

/-- List landed chunks while the table has room, and increase CHUNK_CTR over the landed prefix (R245, R246). -/
def advanceLanded (s : State) (g slot : Nat) : Nat → State
  | 0 => s
  | k + 1 =>
    let j := joinAt s g slot
    if j.landed.contains j.counted ∧ (s.grp g).spec.length < 256 then
      let (off, len) := j.opOf.dstPlace j.n j.counted
      let key := keyOf s (addrNode (j.dst + off)) (addrOff (j.dst + off))
      let s := s.modGrp g fun x => { x with spec := x.spec ++ [{ ref := refOf j j.counted, lo := key, hi := key + len }] }
      let s := modJoin s g slot fun j => { j with counted := j.counted + 1 }
      let s := match j.ctr with
        | some c => increase s g c (s.node ((nodeOf s j.group).elim 0 (·.1))).part 1
        | none => s
      advanceLanded s g slot k
    else s

/-- Every join of a group advances as far as its speculation table has room (R246). -/
def advanceAll (s : State) (g : Nat) : State :=
  ((s.grp g).joins.map (·.1)).foldl (fun s k => advanceLanded s g k 257) s

/-! ## Aborts (R248, R251, R254, R255) -/

/-- Free an operation's buffers at a node. -/
def CollNode.clear (n : CollNode) : CollNode :=
  { n with digest := none, desc := none, joined := [], dst := [], ctr := [], parts := [], units := [], accs := [], held := [],
           sentParts := [], failedLegs := [], emitted := 0 }

/-- After an abort the contents of DST are undefined (R255): the bytes of it that are here become free.
Log: 207 DEDUCED. -/
def freeDst (s : State) (j : Join) (part : Nat) : State :=
  let o := j.opOf
  let len := if o.receives j.member then o.dstRuns j.n * o.dstRun j.n * bpe o.outFmt else 0
  (cutRange 4096 4096 (len / 2048 + 3) j.dst len).foldl (fun s x =>
    match placeOf s x.1 with
    | .here node off =>
      if isCtlOff off ∨ accCheck s node off x.2 part true ≠ some OK then s
      else let (v, s) := s.draw; performWrite s (keyOf s node off) (leBytes x.2 v) part false
    | _ => s) s

/-- An abort at a node: the state of R255, COLL_WAITs of its members complete, ABORT to its end-point members. -/
def applyAbort (s : State) (slot reason offender detect : Nat) : State :=
  let n := s.node slot
  if n.st = 2 then s
  else
    let s := s.setNode slot { n.clear with st := 2, lastReason := reason }
    let s := collCount s (min reason 6)
    let abortPkt (dest : Nat) : Packet := { collPkt s n opABORT dest 5 with
      len := 8, payload := leBytes 8 (pack [(8, reason), (12, offender), (9, detect)]) }
    let s := n.members.foldl (fun s m =>
      match memberEg n s.self m.1 with
      | some g =>
        (match joinOf s g n.group with
         | some (k, j) =>
           let s := dropJoinTracks (modJoin s g k fun j => { j with
             abortReason := reason, offender := offender, detect := detect }) g [k]
           collWake (clearSpec (freeDst s j n.part) g j.group j.opgen) g
         | none => s)
      | none => send s (abortPkt (entNode m.2))) s
    -- the apex passes the abort to every other node
    if n.apex then n.childNodes.foldl (fun s d => send s (abortPkt d)) s else s

/-- Every member's OPGEN 0 and the node IDLE (R255); a node whose die is fenced stays ABORTED (R229). Log: 209 DEDUCED. -/
def applyReset (s : State) (slot : Nat) : State :=
  let n := s.node slot
  let s := s.setNode slot { n.clear with st := if s.isUnitFenced 3 n.xd then 2 else 0, opgen := 0, epGen := [] }
  let s := clearGen s n.group
  let rs (dest : Nat) : Packet := collPkt s n opRESET dest 5
  let s := n.members.foldl (fun s m => if entKind m.2 = 1 then send s (rs (entNode m.2)) else s) s
  if n.apex then n.childNodes.foldl (fun s d => send s (rs d)) s else s

/-- An abort detected at this node (R255): here at once, to the apex, and through it to all; after NODE the group resets.
Log: 77 DEDUCED, 78 DEDUCED. -/
def collAbortOp (s : State) (slot reason offender : Nat) : State :=
  let n := s.node slot
  if n.st = 2 ∨ (n.st = 0 ∧ reason ≠ 5 ∧ reason ≠ 6) then s
  else
    let s := applyAbort s slot reason offender s.self
    let s := if n.apex then s else send s { collPkt s n opABORT n.apexNode 5 with
      len := 8, payload := leBytes 8 (pack [(8, reason), (12, offender), (9, s.self)]) }
    if n.apex ∧ reason = 3 then applyReset s slot else s

/-- The first failure of a leg's sub-chunk is remembered; a second aborts with CHECK (R248). -/
def legFails (s : State) (slot who key : Nat) : State × Bool :=
  let n := s.node slot
  if n.failedLegs.contains (who, key) then (collAbortOp s slot 4 0xFFF, true)
  else (s.setNode slot { n with failedLegs := n.failedLegs ++ [(who, key)] }, false)

/-! ## Landing at a member of this package (R245) -/

/-- An access of a join of a kind, for a sub-chunk, is in progress. -/
def joinBusy (s : State) (g slot key kind : Nat) : Bool :=
  (s.fab.tracks.any fun t => t.owner == .coll g slot key kind) || s.xlat.accs.any fun a => a.owner == .coll g slot key kind

/-- Where a result sub-chunk stands: `key` is result chunk × 4 + sub-chunk. -/
def subPlace (j : Join) (key : Nat) : Nat × Nat :=
  let (off, len) := j.opOf.dstPlace j.n (key / 4)
  (j.dst + off + key % 4 * 4096, min 4096 (len - key % 4 * 4096))

/-- A sub-chunk stored in another package, or in host memory, is read back. -/
def askBack (s : State) (g slot key : Nat) : State :=
  let j := joinAt s g slot
  let (a, n) := subPlace j key
  let s := modJoin s g slot fun j => { j with asked := key :: j.asked }
  (awayPieces s [(a, n, true)]).foldl (fun s p => readPiece s g (.coll g slot key 1) j.ctx p.1 p.2.1 true opRD) s

/-- The writes of a sub-chunk have ended: it is stored, unless one was refused; with its chunk's last one the chunk has landed. -/
def subStored (s : State) (g slot : Nat) (x : Nat × Nat × Bool) : State :=
  let lost := (joinAt s g slot).lostSubs.contains x.1
  let s := modJoin s g slot fun j => { j with
    landing := j.landing.filter (·.1 != x.1), subs := if lost then j.subs else j.subs ++ [x] }
  if lost then s
  else
    let s := askBack s g slot x.1
    let j := joinAt s g slot
    let c := x.1 / 4
    let all := (List.range (ceilDiv (j.opOf.dstPlace j.n c).2 4096)).all fun k => j.subs.any fun y => y.1 == c * 4 + k
    if all ∧ ! j.landed.contains c then advanceAll (modJoin s g slot fun j => { j with landed := j.landed ++ [c] }) g else s

/-- A join's sub-chunks whose writes have ended go on. -/
def settleJoin (s : State) (g slot : Nat) : State :=
  ((joinAt s g slot).landing.filter fun x => ! joinBusy s g slot x.1 0).foldl (fun s x => subStored s g slot x) s

/-- One result sub-chunk is written at a member, under the context of its COLL_JOIN (R245). -/
def landSub (s : State) (g slot key : Nat) (pkts : List Packet) : State :=
  let j := joinAt s g slot
  let d := unitBytes pkts
  let a := (subPlace j key).1
  let s := modJoin s g slot fun j => { j with
    subs := j.subs.filter (·.1 != key), landing := j.landing.filter (·.1 != key) ++ [(key, unitCrc pkts, unitPoison pkts)]
    lostSubs := j.lostSubs.filter (· != key), asked := j.asked.filter (· != key), backBad := j.backBad.filter (· != key) }
  settleJoin ((cutRange 4096 4096 3 a d.length).foldl (fun s x =>
    writePiece s g (.coll g slot key 0) j.ctx x.1 (slice d (x.1 - a) x.2) (fun _ => false) opRESULT) s) g slot

/-- Whether the bytes of a sub-chunk as stored, or as read back, pass the check they came with. -/
def subStoredOk (s : State) (j : Join) (key crc : Nat) (poison : Bool) : Bool :=
  let (a, n) := subPlace j key
  let parts := (cutRange 4096 4096 3 a n).map fun x =>
    match placeOf s x.1 with
    | .here node o =>
      let k := keyOf s node o
      (Mem.readBytes s.mem.cells k x.2, (atomsOf k x.2).any s.mem.poison.contains)
    | _ => (Mem.readBytes j.back x.1 x.2, false)
  ! poison && ! j.backBad.contains key && ! parts.any (·.2) && crc64 (parts.flatMap (·.1)) == crc

/-- The written bytes of a chunk can be read where they are stored, and what is stored elsewhere has come back. -/
def chunkReadable (s : State) (g slot chunk : Nat) : Bool :=
  let j := joinAt s g slot
  let n := ceilDiv (j.opOf.dstPlace j.n chunk).2 4096
  (List.range n).all fun i =>
    let key := chunk * 4 + i
    (j.subs.any fun x => x.1 == key) && ! joinBusy s g slot key 1 &&
      ! rangeHeld s (s.ctx j.ctx).part (subPlace j key).1 (subPlace j key).2 false

/-- The writes accepted for a range are performed before it is read back (R260). -/
def drainRange (s : State) (a len : Nat) : State :=
  (cutRange 4096 4096 3 a len).foldl (fun s x => match placeOf s x.1 with
    | .here node off => meetErrors (drainTarget s (targetOf s node off)) (keyOf s node off) x.2
    | _ => s) s

/-! ## Results at a node (R247, R253) -/

/-- Address a result's packets to a member. -/
def memberPkts (s : State) (n : CollNode) (o : CollOp) (m name : Nat) (d : Bytes) (crc : Nat) (poison : Bool) : List Packet :=
  let a := AMap.get 0 n.dst m + o.resultOff n.n name
  let c := AMap.get 0 n.ctr m
  let dest := (memberEp n m).getD 0
  subPkts { collPkt s n opRESULT dest 4 with chunk := nameChunk name, poison := poison, ctr := c - 1, ctrEn := decide (c ≠ 0) } (a + ·) d crc

/-- Send a result sub-chunk to one member of this node. -/
def resultToMember (s : State) (slot m name : Nat) (d : Bytes) (crc : Nat) (poison : Bool) : State :=
  let n := s.node slot
  match n.opOf with
  | none => s
  | some o =>
    match memberEg n s.self m with
    | some g =>
      (match joinOf s g n.group with
       | some (k, _) => landSub s g k (o.resultIndex n.n name * 4 + nameChunk name % 4)
           [{ payload := d, crc := crc, last := true, poison := poison }]
       | none => s)
    | none => sendAll s (memberPkts s n o m name d crc poison)

/-- The members of a node that receive a result. -/
def receivers (n : CollNode) (o : CollOp) (tgt : Option Nat) : List Nat :=
  (n.members.filter fun m => o.receives m.1 && (match tgt with | some t => t == m.1 | none => true)).map (·.1)

/-- Retain and replicate a result sub-chunk to the members below this node (R247). -/
def distribute (s : State) (slot name : Nat) (d : Bytes) (crc : Nat) (poison : Bool) (kids : List Nat) : State :=
  let n := s.node slot
  match n.opOf with
  | none => s
  | some o =>
    let recv := receivers n o (o.target n.n name)
    let h : Retained := { pkts := [{ payload := d, crc := crc, last := true, poison := poison }]
                          waitAck := recv ++ kids.map (4096 + ·) }
    let s := s.setNode slot { n with held := AMap.set n.held name h }
    recv.foldl (fun s m => resultToMember s slot m name d crc poison) s

/-- The child nodes that receive a result. -/
def kidsFor (s : State) (n : CollNode) (o : CollOp) (tgt : Option Nat) : List Nat :=
  match tgt with
  | none => if o.receives 0 || o.op == 0 then n.childNodes else []
  | some m =>
    let e : BitVec 64 := AMap.get 0 (AMap.get ({} : CollDef) s.coll.defs n.group).members m
    n.childNodes.filter (· == level1 e)

/-- The apex sends one result sub-chunk (R234, R289). -/
def emitSub (s : State) (slot name : Nat) (d : Bytes) : State :=
  let n := s.node slot
  match n.opOf with
  | none => s
  | some o =>
    let crc := crc64 d
    let kids := kidsFor s n o (o.target n.n name)
    let off := o.resultOff n.n name
    let s := s.setNode slot { n with emitted := n.emitted + d.length }
    let s := kids.foldl (fun s k =>
      sendAll s (subPkts { collPkt s n opRESULT k 4 with chunk := nameChunk name, ctr := nameBlk name }
        (fun x => nodeBase k + off + x) d crc)) s
    distribute s slot name d crc false kids

/-- DONE at a node: to its members, and for the apex to its child nodes (R253). -/
def applyDone (s : State) (slot : Nat) : State :=
  let n := s.node slot
  if n.st ≠ 1 then s
  else
    let s := s.setNode slot { n.clear with st := 0 }
    let s := collCount s 0
    let s := n.members.foldl (fun s m =>
      match memberEg n s.self m.1 with
      | some g =>
        (match joinOf s g n.group with
         | some (k, _) =>
           let s := modJoin s g k fun j => { j with done := true }
           let j := joinAt s g k
           collWake (if joinFinished j then clearSpec s g j.group j.opgen else s) g
         | none => s)
      | none => send s (collPkt s n opDONE (entNode m.2) 4)) s
    if n.apex then n.childNodes.foldl (fun s d => send s (collPkt s n opDONE d 4)) s else s

/-- Every member has joined, every result is sent and acknowledged (R253). -/
def doneDue (n : CollNode) : Bool :=
  n.apex && n.st == 1 && n.members.all (n.joined.contains ·.1) && n.childNodes.all (n.joined.contains <| 4096 + ·) &&
  (match n.opOf with
   | some o => n.emitted == o.totalBytes n.n && n.held.all fun h => h.2.waitAck.isEmpty
   | none => false)

/-! ## Contributions, partials, credits (R237, R243, R244) -/

/-- Buffers of a node that a child's units occupy: its credits in use. -/
def occupied (n : CollNode) (who : Nat) : Nat :=
  n.units.countP (·.sender == who) + n.parts.countP (·.sender == who) + n.accs.countP (fun a => a.2.from'.contains who) +
  n.sentParts.length + n.held.countP fun h => ! h.2.released

/-- A member's contribution sub-chunk `c` as a unit (R233, R243). Log: 75 DEDUCED. -/
def contribUnit (s : State) (n : CollNode) (g : Nat) (j : Join) (c : Nat) : CollUnit :=
  let (off, len) := j.opOf.srcPlace j.n c
  let d := slice j.src off len
  { stream := 8 + g / 8, sender := j.member
    pkts := subPkts { opcode := opCONTRIB, srcNode := s.self, port := g, vc := 4, part := n.part, group := n.group, digest := j.digest,
                      chunk := nameChunk (j.opOf.contribName j.n j.member c)
                      poison := (atomsOf off len).any j.srcBad.contains } (j.dst + off + ·) d (crc64 d) }

/-- Stream a member's contributions while it holds credits (R237). -/
def streamMember (s : State) (slot g k : Nat) : Nat → State
  | 0 => s
  | f + 1 =>
    let n := s.node slot
    let j := joinAt s g k
    if j.sent ∧ j.nextContrib < j.opOf.contribChunks j.n j.member ∧ occupied n j.member < n.window then
      let s := s.setNode slot { n with units := n.units ++ [contribUnit s n g j j.nextContrib] }
      streamMember (modJoin s g k fun j => { j with nextContrib := j.nextContrib + 1 }) slot g k f
    else s

def streamAll (s : State) (slot : Nat) : State :=
  let n := s.node slot
  n.members.foldl (fun s m =>
    match memberEg n s.self m.1 with
    | some g => (match joinOf s g n.group with | some (k, _) => streamMember s slot g k 513 | none => s)
    | none => s) s

/-- A combination lacks no child's unit (R241). -/
def accComplete (n : CollNode) (o : CollOp) (a : Acc) : Bool :=
  ! isReduction o.op ||
  (n.members.all (a.from'.contains ·.1) && (! n.apex || n.childNodes.all (a.from'.contains <| 4096 + ·)))

/-- A level-1 node sends one complete combination to the apex, and keeps it (R244). -/
def sendPartial (s : State) (slot name : Nat) (a : Acc) : State :=
  let n := s.node slot
  let pkts := subPkts { collPkt s n opPARTIAL n.apexNode 4 with chunk := nameChunk name }
    (fun x => nodeBase n.apexNode + nameBlk name * 2 ^ 24 + x * 4096 + a.firstMember) a.bytes (crc64 a.bytes)
  sendAll (s.setNode slot { n with accs := AMap.erase n.accs name, sentParts := AMap.set n.sentParts name pkts }) pkts

/-- The apex converts and sends one complete chunk, once every member that receives it has joined and a buffer is free for each of
its sub-chunks (R237, R253); `name` is that of its first sub-chunk. Log: 208 DEDUCED. -/
def emitChunk (s : State) (slot name : Nat) (o : CollOp) : State :=
  let n := s.node slot
  let elems := chunkElems o.ty (o.srcRun n.n) (nameChunk name / 4)
  let k := ceilDiv (elems * bpe (if isReduction o.op then accFmt o.fn o.ty else o.ty)) 4096
  let subs := (List.range k).map (name + ·)
  let room := n.window - n.held.countP fun h => ! h.2.released
  if subs.all (fun x => (match AMap.find n.accs x with | some a => accComplete n o a | none => false)) ∧
      ceilDiv (elems * bpe o.outFmt) 4096 ≤ room then
    let bytes := subs.flatMap fun x => (AMap.get ({} : Acc) n.accs x).bytes
    let out := if isReduction o.op then collOut o bytes else bytes
    let tgt := o.target n.n name
    if ! (receivers n o tgt).all n.joined.contains ∨ ! (kidsFor s n o tgt).all (n.joined.contains <| 4096 + ·) then s
    else
      let s := s.setNode slot { n with accs := n.accs.filter fun a => ! subs.contains a.1 }
      (cutRange 4096 4096 5 0 out.length).foldl (fun s x => emitSub s slot (name + x.1 / 4096) (slice out x.1 x.2)) s
  else s

/-- Move on whatever a node can: partials or results within the window, DONE, further contributions. -/
def pump (s : State) (slot : Nat) : State :=
  let n := s.node slot
  match n.opOf with
  | none => s
  | some o =>
    if n.st ≠ 1 then s
    else
      let s := (n.accs.map (·.1)).foldl (fun s name =>
        let n := s.node slot
        match AMap.find n.accs name with
        | none => s
        | some a =>
          if n.apex then (if name % 4 = 0 then emitChunk s slot name o else s)
          else if accComplete n o a ∧ n.sentParts.length < n.window then sendPartial s slot name a else s) s
      if doneDue (s.node slot) then applyDone s slot else streamAll s slot

/-- A unit that passed its check is combined (R240, R241). -/
def combineAt (s : State) (slot name who first : Nat) (o : CollOp) (d : Bytes) : State :=
  modNode s slot fun n =>
    let n := { n with combined := satAdd 32 n.combined 1 }
    match AMap.find n.accs name with
    | none => { n with accs := AMap.set n.accs name { bytes := d, from' := [who], firstMember := first } }
    | some a =>
      if a.from'.contains who then n
      else { n with accs := AMap.set n.accs name { a with bytes := collMerge o a.bytes d, from' := a.from' ++ [who] } }

/-- The name of the sub-chunk that a unit's first packet spells (R235, R289). -/
def unitName (n : CollNode) (o : CollOp) (sender : Nat) (p : Packet) : Nat :=
  if p.opcode = opRESULT then
    subName (if manyRuns o.op then p.addr % 2 ^ 47 / max 1 (o.dstRun n.n * bpe o.outFmt) else 0) (if o.op = 5 then p.ctr else 0) p.chunk
  else if ! manyRuns o.op then subName 0 0 p.chunk
  else if p.opcode = opPARTIAL then subName (bits p.addr 0 12) (if o.op = 5 then bits p.addr 24 12 else 0) p.chunk
  else subName sender
    (if o.op = 5 then (p.addr + 2 ^ 56 - AMap.get 0 n.dst sender) % 2 ^ 56 / max 1 (o.srcRun n.n * bpe o.ty) else 0) p.chunk

/-- A member reads a contribution sub-chunk once more from SRC (R244). -/
def rereadSrc (s : State) (g k c : Nat) : State :=
  let j := joinAt s g k
  let (off, len) := j.opOf.srcPlace j.n c
  let part := (s.ctx j.ctx).part
  let s := modJoin s g k fun j => { j with rereads := j.rereads ++ [c] }
  let s := (cutRange 4096 4096 3 (j.srcAddr + off) len).foldl (fun s y => match placeOf s y.1 with
    | .here _ _ =>
      let x := gather s g {} part y.1 y.2 false
      joinAccess x.1 g k c 2 true y.1 y.2 (if x.2.2.2.isSome then DENIED else OK) x.2.1 x.2.2.1
    | _ => s) s
  (awayPieces s [(j.srcAddr + off, len, false)]).foldl (fun s p => readPiece s g (.coll g k c 2) j.ctx p.1 p.2.1 false opRD) s

/-- Sub-chunks of SRC that have been read again are sent once more. -/
def resendJoin (s : State) (g k : Nat) : State :=
  let j := joinAt s g k
  match nodeOf s j.group with
  | none => s
  | some (slot, _) =>
    (j.rereads.filter fun c => ! joinBusy s g k c 2).foldl (fun s c =>
      let j := joinAt s g k
      let s := modNode s slot fun n => { n with units := n.units ++ [contribUnit s n g j c] }
      modJoin s g k fun j => { j with rereads := j.rereads.filter (· != c), reissued := satAdd 32 j.reissued 1 }) s

/-- What accesses of joins have ended goes on: sub-chunks that have been written, or read again. -/
def collSettle (s : State) : State :=
  s.groups.foldl (fun s x => x.2.joins.foldl (fun s j => resendJoin (settleJoin s x.1 j.1) x.1 j.1) s) s

/-- A check failed at this Confluence: NACK to the sender, which sends once more (R244, R248). -/
def nackUnit (s : State) (slot : Nat) (u : CollUnit) (name : Nat) : State :=
  let p := unitHead u.pkts
  let (s, dead) := legFails s slot u.sender name
  if dead then s
  else
    let n := s.node slot
    match memberEg n s.self u.sender with
    | some g =>
      (match joinOf s g n.group with
       | some (k, j) =>
         let s := s.setNode slot { n with nacks := satAdd 32 n.nacks 1 }
         let c := (if j.op = 5 then nameBlk name * max 1 (chunksIn j.ty (j.opOf.srcRun j.n)) else 0) + p.chunk / 4
         resendJoin (rereadSrc (collCount s 7) g k c) g k
       | none => s)
    | none =>
      let dest := if u.sender ≥ 4096 then u.sender - 4096 else (memberEp n u.sender).getD 0
      send s (verdictPkt s n opNACK dest name)

/-- Confluence takes one unit of a node (R238, R243). -/
def takeUnit (s : State) (slot : Nat) (u : CollUnit) : State :=
  let n := s.node slot
  match n.opOf with
  | none => s
  | some o =>
    let p := unitHead u.pkts
    let d := unitBytes u.pkts
    let name := unitName n o u.sender p
    if p.opcode = opRESULT then
      -- forwarded without a check (R243)
      pump (distribute s slot name d (unitCrc u.pkts) (unitPoison u.pkts) []) slot
    else if ! unitOk u.pkts then nackUnit s slot u name
    else
      let first := if p.opcode = opPARTIAL then bits p.addr 0 12 else u.sender
      let s :=
        if isReduction o.op ∧ p.opcode = opCONTRIB then
          (let e := collExpand o d
           (cutRange 4096 4096 5 0 e.length).foldl (fun s x =>
             combineAt s slot (name + x.1 / 4096) u.sender first o (slice e x.1 x.2)) s)
        else combineAt s slot name u.sender first o d
      -- the apex tells the sender that its partial is combined
      let s := if p.opcode = opPARTIAL then send s (verdictPkt s n opACK (u.sender - 4096) name) else s
      pump s slot

/-! ## Joins at a node (R251–R253) -/

/-- The bytes of a contribution's, partial's or result's sub-chunk. -/
def expectLen (n : CollNode) (o : CollOp) (sender : Nat) (p : Packet) : Nat :=
  if p.opcode = opRESULT then
    min 4096 ((o.dstPlace n.n (o.resultIndex n.n (unitName n o sender p))).2 - p.chunk % 4 * 4096)
  else
    let e := chunkElems o.ty (o.srcRun n.n) (p.chunk / 4)
    if p.opcode = opPARTIAL ∧ isReduction o.op then min 4096 (e * bpe (accFmt o.fn o.ty) - p.chunk % 4 * 4096)
    else min 4096 (e * bpe o.ty)

/-- The packets of a sub-chunk are all there: the last, and those before it. -/
def unitWhole (n : CollNode) (u : CollUnit) : Bool :=
  match n.opOf with
  | none => false
  | some o => u.pkts.any (·.last) && decide (expectLen n o u.sender (unitHead u.pkts) ≤ sumBy (fun p => p.payload.length) u.pkts)

/-- Sub-chunks whose packets are all there wait for Confluence. -/
def sweepParts (s : State) (slot : Nat) : State :=
  modNode s slot fun n => { n with
    parts := n.parts.filter fun u => ! unitWhole n u, units := n.units ++ n.parts.filter (unitWhole n) }

/-- A JOIN reaches a node: `who` is a member or 4,096 + a child node; the payload of a JOIN is the descriptor of R250 (log
entry 13). -/
def nodeJoin (s : State) (slot who dst ctr digest : Nat) (desc : Option Nat) : State :=
  let n := s.node slot
  if n.st = 2 then s
  else
    let n := if n.st = 0 then { n.clear with st := 1 } else n
    match n.digest with
    | some d =>
      if d ≠ digest then
        collAbortOp (s.setNode slot n) slot 1 (if who < 4096 then who else 0xFFF)
      else go s n
    | none => go s { n with digest := some digest }
where
  go (s : State) (n : CollNode) : State :=
    let n := { n with
      desc := n.desc.orElse fun _ => desc
      opgen := match desc with | some d => (collOpOf d).opgen | none => n.opgen
      joined := if n.joined.contains who then n.joined else n.joined ++ [who]
      dst := if who < 4096 then AMap.set n.dst who dst else n.dst
      ctr := if who < 4096 then AMap.set n.ctr who ctr else n.ctr
      epGen := if (memberEp n who).isSome then AMap.set n.epGen who ((AMap.get 0 n.epGen who + 1) % 65536) else n.epGen }
    let s := sweepParts (s.setNode slot n) slot
    let full := n.members.all (n.joined.contains ·.1)
    let s := if full ∧ ! n.apex ∧ who < 4096 then
        send s { collPkt s n opJOIN n.apexNode 4 with len := 16, payload := leBytes 16 (n.desc.getD 0) }
      else s
    pump s slot

/-- A member of this package sends its JOIN, and then its contributions (R252). -/
def memberJoins (s : State) (g k : Nat) : State :=
  let j := joinAt s g k
  let s := modJoin s g k fun j => { j with sent := true, scheduled := none, startFrame := s.time.lfc }
  match nodeOf s j.group with
  | none => s
  | some (slot, _) =>
    nodeJoin s slot j.member j.dst (match j.ctr with | some c => c + 1 | none => 0) j.digest (some j.opOf.word)

/-! ## Acknowledgements (R245, R247, R253) -/

/-- A member, or a child node, has acknowledged a result sub-chunk at this node. Log: 76 DEDUCED. -/
def ackResult (s : State) (slot who name : Nat) : State :=
  let n := s.node slot
  match AMap.find n.held name with
  | none => s
  | some h =>
    let w := h.waitAck.filter (· != who)
    if w.isEmpty then
      let s := s.setNode slot { n with held := AMap.erase n.held name }
      let s := if n.apex then s else send s (verdictPkt s n opACK n.apexNode name)
      pump s slot
    else s.setNode slot { n with held := AMap.set n.held name { h with waitAck := w } }

/-- A NACK of a result: one reissue to the failing member, or the abort of R248. -/
def nackResult (s : State) (slot m name : Nat) : State :=
  let s := modNode s slot fun n => { n with nacks := satAdd 32 n.nacks 1 }
  let n := s.node slot
  match AMap.find n.held name with
  | none => collAbortOp s slot 4 0xFFF
  | some h =>
    if h.released ∨ h.reissuedTo.contains m then collAbortOp s slot 4 0xFFF
    else
      let p := unitHead h.pkts
      let s := s.setNode slot { n with held := AMap.set n.held name { h with reissuedTo := h.reissuedTo ++ [m] } }
      let s := collCount s 7
      let s := match memberEg n s.self m with
        | some g => (match joinOf s g n.group with
          | some (k, _) => modJoin s g k fun j => { j with reissued := satAdd 32 j.reissued 1 }
          | none => s)
        | none => s
      resultToMember s slot m name p.payload p.crc p.poison

/-- The verdict on a landed chunk at a member of this package (R245, R246). -/
def memberVerdict (s : State) (g k chunk : Nat) : State :=
  match AMap.find (s.grp g).joins k with
  | none => s
  | some j =>
    if ! (decide (chunk < j.counted) && AMap.find j.verdicts chunk == none) ∨ ! chunkReadable s g k chunk then s
    else
      match nodeOf s j.group with
      | none => s
      | some (slot, _) =>
        let subs := j.subs.filter fun x => x.1 / 4 == chunk
        let name (x : Nat × Nat × Bool) : Nat := j.opOf.resultName j.n j.member chunk (x.1 % 4)
        let s := subs.foldl (fun s x => drainRange s (subPlace j x.1).1 (subPlace j x.1).2) s
        let failing := subs.filter fun x => ! subStoredOk s j x.1 x.2.1 x.2.2
        let passing := subs.filter fun x => subStoredOk s j x.1 x.2.1 x.2.2
        if failing.isEmpty then
          let s := modJoin s g k fun j => { j with verdicts := AMap.set j.verdicts chunk true }
          let s := s.modGrp g fun x => { x with spec := x.spec.filter fun e => e.ref != refOf j chunk }
          let s := advanceAll s g
          let s := passing.foldl (fun s x => ackResult s slot j.member (name x)) s
          let j := joinAt s g k
          if AMap.has (s.grp g).joins k ∧ joinFinished j then collWake (clearSpec s g j.group j.opgen) g else s
        else
          let first := ! j.failedOnce.contains chunk
          let fail (e : SpecEntry) : SpecEntry := if e.ref == refOf j chunk then { e with failed := true } else e
          let s := s.modGrp g fun x => { x with spec := x.spec.map fail }
          let (s, consumed) := poisonNotice s g (refOf j chunk)
          let s := modJoin s g k fun j => { j with
            failedOnce := if first then j.failedOnce ++ [chunk] else j.failedOnce
            poisonedN := if consumed && first then satAdd 32 j.poisonedN 1 else j.poisonedN }
          let s := if consumed ∧ first then collCount s 8 else s
          let s := passing.foldl (fun s x => ackResult s slot j.member (name x)) s
          failing.foldl (fun s x => nackResult s slot j.member (name x)) s

/-! ## Admission of packets (R236) -/

/-- A packet's sender among a node's relatives: the end point at whose port it entered, where it is a member of this node; 4,096 + the
apex or a child node for a packet that came from a package. -/
def relativeOf (s : State) (n : CollNode) (p : Packet) : Option Nat :=
  match (if p.inPort < 128 then epOf s p.inPort else none) with
  | some ep => if p.srcNode = ep then memberOfEp n ep else none
  | none => if p.srcNode = n.apexNode ∧ ! n.apex then some (4096 + p.srcNode)
            else if n.childNodes.contains p.srcNode then some (4096 + p.srcNode) else none

/-- A packet that R236 turns away: discarded, counted, one record per frame and group. -/
def discardColl (s : State) (group : Nat) : State :=
  let s := collCount s 9
  let s := s.modFab fun f => { f with stats := bump f.stats 6 }
  if AMap.find s.coll.refusedAt group = some s.time.lfc then s
  else
    let s := s.modColl fun c => { c with
      refusedAt := AMap.set (c.refusedAt.filter fun x => x.2 == s.time.lfc) group s.time.lfc }
    let (die, part) := match nodeOf s group with
      | some (_, n) => (8 + n.xd, n.part)
      | none => (8, 0)
    raise s { die := die, cls := 0x0D, inst := 0xFFFF, cause := 1, status := DENIED, part := part, detail := group }

/-- The packet carries the digest of the operation in flight; the first that reaches an idle node from a child is the reference, and
another digest aborts (R251). -/
def digestGate (s : State) (slot who : Nat) (p : Packet) (k : State → State) : State :=
  let n := s.node slot
  if n.st = 2 ∨ (n.st = 0 ∧ p.opcode ≠ opCONTRIB ∧ p.opcode ≠ opPARTIAL) then collCount s 9
  else match (if n.st = 0 then none else n.digest) with
    | none => k (s.setNode slot { (if n.st = 0 then n.clear else n) with st := 1, digest := some p.digest })
    | some d => if d = p.digest then k s
                else collAbortOp s slot 1 (if p.opcode = opPARTIAL then bits p.addr 0 12 else if who < 4096 then who else 0xFFF)

/-- Packets of one sub-chunk gather until the last and the one before it are there; then the unit waits for Confluence. A unit beyond
its sender's credits finds no buffer, and is discarded (R237). Log: 233 DESIGN CHOICE. -/
def gatherUnit (s : State) (slot stream who : Nat) (p : Packet) : State :=
  let n := s.node slot
  let same (q : Packet) : Bool := q.chunk == p.chunk && q.opcode == p.opcode && q.ctr == p.ctr &&
    (if p.opcode = opPARTIAL then bits q.addr 0 12 == bits p.addr 0 12 && bits q.addr 24 12 == bits p.addr 24 12
     else decide (q.addr < p.addr + 4096 ∧ p.addr < q.addr + 4096))
  let mine (u : CollUnit) : Bool := u.sender == who && same (unitHead u.pkts)
  match n.parts.find? mine with
  | none =>
    if n.window ≤ occupied n who then collCount s 9
    else sweepParts (s.setNode slot { n with parts := n.parts ++ [{ stream := stream, sender := who, pkts := [p] }] }) slot
  | some u =>
    sweepParts (s.setNode slot { n with
      parts := (n.parts.filter fun v => ! mine v) ++ [{ u with stream := stream, pkts := u.pkts ++ [p] }] }) slot

end Sys2Proof.Machine
end

