-- ==== Sys2Proof/Machine/Placement.lean ====
section
/-! DEFINITION. Stacks, tiers, placement, moves and mirrors (R63–R105, R495, R510), and the placement-policy commands. -/
namespace Sys2Proof.Machine

/-! ## Counts, tiers -/

/-- PLACE_STATS: 0 moves started, 1 completed, 2 demand fetches, 3 accesses served in place, 4 abandoned tile copies,
5 REFUSED_POWER. -/
def placeCount (s : State) (i : Nat) : State := s.modMem fun m => { m with stats := bump m.stats i }

/-- The pair partner of a node (R17): the other of nodes 8 and 9 of its tray. -/
def partnerOf (n : Nat) : Nat := if n % 16 = 8 then n + 1 else if n % 16 = 9 then n - 1 else n

/-- The tier of a location as a requester id sees it (R78, R82): an engine group of this package, or a node. -/
def tierOf (s : State) (req : Nat) (l : Loc) : Nat :=
  if l.kind = 3 then 6
  else if l.kind = 2 then 5
  else if 0x200 ≤ req then
    (if l.holder = s.self then (if l.stack = req - 0x200 then 1 else 2) else if l.holder = s.partner then 3 else 4)
  else
    let node := if req % 16 < 8 then req / 16 * 16 + 8 else req
    if l.holder = node then 2 else if l.holder = partnerOf node then 3 else 4

/-- The joined stack with the most free data frames, the lowest among equals, of a list (R104). -/
def fullestStack (s : State) (stks : List Nat) : Option Nat :=
  bestBy (fun a b => decide (freeFrames s b < freeFrames s a)) (stks.filter fun n => decide (0 < freeFrames s n))

def allFreeFrames (s : State) : Nat := sumBy (freeFrames s) (List.range 32)

/-- A location word of a stack of this package. -/
def ownLoc (s : State) (n f : Nat) : Loc := { kind := 1, stack := n, frame := f, holder := s.self }

/-- A location in a lend region (R79). -/
def inLend (region : Nat) (r : Lend) (l : Loc) : Bool := l.kind == (if r.host then 3 else 2) && l.region == region

/-- The slots of a lend region that own parcels hold, those they move from among them. -/
def lendUsed (s : State) (region : Nat) (r : Lend) : List Nat :=
  s.mem.dir.flatMap fun x =>
    (if (x.2.st == 1 || x.2.st == 2) && inLend region r x.2.home then [x.2.home.frame] else []) ++
    (if x.2.st == 2 && inLend region r x.2.src then [x.2.src.frame] else [])

/-- The lend regions a class may use, with a free slot: (region number, region, slot). Log: 63 DEDUCED. -/
def lendSlot (s : State) (e : DirEntry) : Option (Nat × Lend × Nat) :=
  let pol := s.pol e.owner
  (s.mem.lends.filterMap fun r =>
    let used := lendUsed s r.1 r.2
    let f := firstFree used.length 0 used
    if ! r.2.clearing && decide (f < r.2.count) && (if r.2.host then pol.lendHost else pol.lendAccel).testBit e.cls
    then some (r.1, r.2, f) else none).head?

/-- The slot of a lend region as a location. -/
def lendLoc (s : State) (region : Nat) (r : Lend) (f : Nat) : Loc :=
  { kind := if r.host then 3 else 2, frame := f, holder := if r.host then s.self else r.holder, region := region }

/-- The package that holds a location; a lend region's parcels are in none (R99). -/
def inPackage (l : Loc) (node : Nat) : Bool := l.kind == 1 && l.holder == node

/-- A pin lets a parcel move to a destination: PIN_PKG within its current package only (R94, R99). -/
def pinAllows (e : DirEntry) (d : Loc) : Bool :=
  e.pin == 0 || (e.pin == 1 && d.kind == 1 && (if e.home.kind = 1 then d.holder == e.home.holder else false))

/-- The destination R94 chooses for a requester, nearer than the home; `none` if there is none. Among several stacks with free data
frames the one with the most is taken, for a local group too. Whether another package has a free frame, and which, is a free value.
Log: 224 DESIGN CHOICE. -/
def nearestFrame (s : State) (e : DirEntry) (req : Nat) : State × Option Loc :=
  let local' (l : List Nat) : Option Loc := (fullestStack s l).map fun n => ownLoc s n (lowestFreeFrame s n)
  let remote (node : Nat) : State × Option Loc :=
    if node = s.self then (s, local' (List.range 32))
    else
      let (v, s) := s.draw
      (s, if v % 2 = 0 then some { kind := 1, stack := v / 2 % 32, frame := v / 64 % 30496, holder := node } else none)
  let (s, d) :=
    if 0x220 ≤ req then (s, none)
    else if 0x200 ≤ req then
      let n := req - 0x200
      (s, ((local' [n]).orElse fun _ => local' (range' (n / 8 * 8) 8)).orElse fun _ => local' (List.range 32))
    else if isDevik req then remote req
    else
      let (s, a) := remote (req / 16 * 16 + 8)
      if a.isSome then (s, a) else remote (req / 16 * 16 + 9)
  match d with
  | none => (s, none)
  | some l => if tierOf s req l < tierOf s req e.home ∧ pinAllows e l then (s, some l) else (s, none)

/-- Change PAIR, with event 0x0303. -/
def setPair (s : State) (new : Nat) : State :=
  if s.flt.pair = new then s
  else pushEvent (s.modFlt fun f => { f with pair := new }) 0x0303 (pack [(3, s.flt.pair), (3, new), (48, s.flt.heardPartner.getD 0)])

/-! ## Mirror frames and the mirror of the directory (R75, R89, R100) -/

/-- The mirror frames of a stack in use: mirrors held for the partner, and promoted guests (R75, R77). -/
def usedMirrorFrames (s : State) (n : Nat) : List Nat :=
  (s.mem.mirrorDir.filterMap fun x =>
    if x.2.st ≠ 0 ∧ x.2.mirror ∧ x.2.home.kind = 1 ∧ x.2.home.holder = s.self ∧ x.2.home.stack = n then some x.2.home.frame else none) ++
  (usedFrames s n).filter fun f => decide (dataFrames s ≤ f)

/-- Free mirror frames of a stack. -/
def freeMirrorFrames (s : State) (n : Nat) : Nat :=
  if (s.stk n).joined ∧ ! (s.stk n).fenced then s.mem.mirrorPerStack - (usedMirrorFrames s n).length else 0

/-- A mirror frame for another mirror: the lowest of the stack with the most of them, the lowest-numbered among equals.
Log: 225 DESIGN CHOICE. -/
def mirrorFrame (s : State) : Option Loc :=
  (bestBy (fun a b => decide (freeMirrorFrames s b < freeMirrorFrames s a))
    ((List.range 32).filter fun n => decide (0 < freeMirrorFrames s n))).map fun n =>
      ownLoc s n (firstFree (usedMirrorFrames s n).length (dataFrames s) (usedMirrorFrames s n))

/-- A location word's fields. -/
def locOf (w region : Nat) : Loc :=
  { kind := bits w 0 3, stack := bits w 3 5, frame := bits w 8 15, holder := bits w 23 9, region := region }

/-- A directory entry from its 32 bytes. -/
def entryOf (w homeRegion srcRegion : Nat) : DirEntry :=
  { home := locOf (bits w 0 32) homeRegion, src := locOf (bits w 32 32) srcRegion, st := bits w 64 2, cls := bits w 66 2
    mirror := bitAt w 68, pin := bits w 69 2, owner := bits w 71 6, age := bits w 77 3, total := bits w 80 16
    req0 := bits w 96 10, cnt0 := bits w 106 16, req1 := bits w 128 10, cnt1 := bits w 138 16, unmirrored := bitAt w 154 }

/-- The mirror here of a parcel of the partner becomes its home: a guest with UNMIRRORED set, in the mirror frame (R449, R467). -/
def takeMirror (s : State) (par : Nat) (e : DirEntry) : State :=
  (setEntOf s s.partner par { e with st := 1, src := {}, unmirrored := true }).modMem fun m => { m with
    mirrorDir := AMap.erase m.mirrorDir par, mirrorMoves := AMap.erase m.mirrorMoves par }

/-- The partner's directory entry arrives for its mirror: a parcel homed at the partner and mirrored gets a mirror frame, one that is
freed, or homed or mirrored elsewhere, gives it back (R100). -/
def takeEntry (s : State) (p : Nat) (e : DirEntry) (present : List Nat) : State :=
  let old : DirEntry := AMap.get {} s.mem.mirrorDir p
  let held (l : Loc) : Bool := l.kind == 1 && l.holder == s.partner
  let mine := e.mirror && (held e.home || (e.st == 2 && held e.src))
  let frame := if inPackage old.home s.self then some old.home else mirrorFrame s
  let s := s.modMem fun m => { m with
    mirrorMoves := if e.st = 2 then AMap.set m.mirrorMoves p present else AMap.erase m.mirrorMoves p }
  if e.st = 0 then s.modMem fun m => { m with mirrorDir := AMap.erase m.mirrorDir p }
  else if e.st = 1 ∧ inPackage e.home s.self ∧ inPackage old.home s.self ∧ (entOf s s.partner p).st = 0 then takeMirror s p old
  else
    let kept := if ! mine then e else match frame with
      | some l => { e with home := if held e.home then l else e.home, src := if held e.src then l else e.src }
      | none => { e with unmirrored := true }
    s.modMem fun m => { m with mirrorDir := AMap.set m.mirrorDir p kept }

/-! ## Copies (R80, R86, R101) -/

/-- Address of a parcel's byte at a location: the pool address, or the lend region's (R79). -/
def locAddr (s : State) (node p : Nat) (l : Loc) (o : Nat) : Nat :=
  if l.kind = 2 ∨ l.kind = 3 then
    match AMap.find s.mem.lends l.region with
    | some r => (if l.kind = 3 then s.base + 0x400000000000 else 0) + r.base + l.frame * 0x200000 + o
    | none => nodeBase l.holder + p * 0x200000 + o
  else nodeBase node + p * 0x200000 + o

/-- Write packets that carry a range of bytes kept here to a holder, one checked chunk per 4 KiB block (R86, R290, R308); TERM is set
for a tile copy, a mirror write or a resynchronisation. -/
def copyPackets (s : State) (key len addr holder colour part : Nat) (term : Bool := true) : List Packet :=
  let p : Packet := { opcode := opWR, port := portHd (homeHd s (keyOff key)), vc := if term then 3 else 1, fwd := term, term := term
                      colour := colour, part := part, holder := some holder }
  (cutRange 4096 4096 (len / 4096 + 2) key len).flatMap fun x =>
    chunkPackets p (addr + (x.1 - key)) (Mem.readBytes s.mem.cells x.1 x.2)
      fun a => s.mem.poison.contains (a + key / 64 - addr / 64)

/-- Write a range of this node's bytes to the host lend region (R79, R80). Log: 64 DEDUCED. -/
def copyToHost (s : State) (key len v : Nat) (o : Owner) : State :=
  (cutRange 512 512 (len / 512 + 2) 0 len).foldl (fun s x =>
    (hostAccess s noCtx (v + x.1) x.2 true (Mem.readBytes s.mem.cells (key + x.1) x.2) o true (s.base + key + x.1)).elim
      (ownerDone s o false (s.base + key + x.1) x.2 DENIED [] []) hostSend) s

/-- Send one tile to a destination elsewhere, and to its mirror there (R86, R100). -/
def sendTile (s : State) (p t : Nat) (dest : Loc) (mirrored' : Bool) (colour : Nat) : State :=
  let key := p * 0x200000 + t * 0x4000
  let a := locAddr s s.self p dest (t * 0x4000)
  let part := (s.ent p).owner
  if dest.kind = 3 then copyToHost s key 0x4000 (addrOff a - 0x400000000000) (.tile p)
  else
    let l := copyPackets s key 0x4000 a dest.holder colour part ++
      (if mirrored' ∧ dest.kind = 1 ∧ partnerOf dest.holder ≠ s.self then
         copyPackets s key 0x4000 a (partnerOf dest.holder) colour part else [])
    l.foldl (fun s q => issue s q noCtx (.tile p) none) s

/-- Read one tile from a source elsewhere: 8 reads of 2,048 bytes, or 32 of 512 from the host (R80). -/
def fetchTile (s : State) (p t : Nat) (src : Loc) : State :=
  let a := locAddr s s.self p src (t * 0x4000)
  if src.kind = 3 then
    (cutRange 512 512 40 0 0x4000).foldl (fun s x =>
      (hostAccess s noCtx (addrOff a - 0x400000000000 + x.1) x.2 false [] (.tile p) true (s.base + p * 0x200000 + t * 0x4000 + x.1)).getD
        (ownerDone s (.tile p) true 0 x.2 DENIED [] [])) s
  else
    (cutRange 4096 2048 12 a 0x4000).foldl (fun s x =>
      issue s { opcode := opRD, addr := x.1, len := x.2, chk := true, port := portHd (p % 4), vc := 3, fwd := true
                part := (s.ent p).owner, holder := some src.holder } noCtx (.tile p) none) s

/-- The next tile to copy: the demand tiles first, then in tile order (R85, R90). -/
def nextTile (mv : Move) : Option Nat :=
  (mv.demand.find? fun t => ! mv.present.contains t).orElse fun _ => (List.range 128).find? fun t => ! mv.present.contains t

/-- The tile is marked at its source: its copy begins (R86). -/
def copyTile (s : State) (p t : Nat) (mv : Move) : State :=
  let e := s.ent p
  if ! locLocal s e.src then fetchTile s p t e.src
  else if ! locLocal s e.home then sendTile s p t e.home e.mirror mv.colour
  else s

/-- Perform the writes accepted for a tile (R86). -/
def drainTile (s : State) (key : Nat) : State :=
  drain s fun i => match i with
    | .write _ _ k _ _ _ => decide (key ≤ k) && decide (k < key + 0x4000)
    | .inc _ _ _ _ _ => false

/-- The source of a parcel is a stack of another package, which marks the tiles itself. -/
def remoteSource (s : State) (e : DirEntry) : Bool := e.src.kind == 1 && e.src.holder != s.self

/-- Mark the next tile copying and begin its copy; a source in another package marks it first (R86). -/
def beginTile (s : State) (p : Nat) : State :=
  match AMap.find s.mem.moves p with
  | none => s
  | some mv =>
    match nextTile mv with
    | none => s.modMem fun m => { m with moves := AMap.set m.moves p { mv with copying := none } }
    | some t =>
      let e := s.ent p
      let mv := { mv with copying := some t, relayed := false, failed := false, marked := false }
      let s := drainTile (s.modMem fun m => { m with moves := AMap.set m.moves p mv }) (p * 0x200000 + t * 0x4000)
      if remoteSource s e then
        sendMsg s e.src.holder msgBegin [(20, p), (7, t), (32, regLoc e.home)]
      else copyTile s p t mv

/-- R85 step 2: the parcel begins to move; a destination in another package learns of the parcel, and so does the mirror's holder. -/
def startMove (s : State) (p : Nat) (dest : Loc) (demand : List Nat) (colour : Nat) (evac : Bool) : State :=
  let e := s.ent p
  let s := s.setEnt p { e with st := 2, src := e.home, home := dest }
  let s := s.modMem fun m => { m with
    moves := AMap.set m.moves p { demand := demand, colour := colour, evacuation := evac }
    resyncing := m.resyncing.filter (· != p) }
  let tell (s : State) (node : Nat) : State :=
    if node = s.self then s else sendMsg s node msgGuest [(20, p), (6, e.owner), (2, e.cls), (1, b2n e.mirror), (32, regLoc dest)]
  let s := if dest.kind ≠ 1 then s
    else
      let s := tell s dest.holder
      if e.mirror ∧ dest.holder ≠ s.self then tell s (partnerOf dest.holder) else s
  beginTile (mirrorEntry (placeCount s 0) p) p

/-- Charge a move to the interval's budget and to its partition (R93, R105). -/
def chargeMove (s : State) (part : Nat) : State :=
  s.modMem fun m => { m with startedNow := m.startedNow + 1, startedBy := bump m.startedBy part }

/-- Room in the budget and the move table (R89, R98). -/
def moveRoom (s : State) : Bool := decide (s.mem.startedNow < s.mem.budget.budget) && decide (s.mem.moves.length < 4096)

/-- A state in which placement starts no move (R96). -/
def moveStopped (s : State) : Bool :=
  s.power.capLag || s.power.ladder != 0 || decide ((100 - s.mem.budget.powerMargin) * capEff s < s.power.power * 100)

/-- REFUSED_POWER counts the intervals in which a move is refused under R96. Log: 205 DEDUCED. -/
def refusePower (s : State) : State :=
  if s.mem.refusedNow then s else placeCount (s.modMem fun m => { m with refusedNow := true }) 5

/-- Whether a destination package accepts (R85 step 1): this one by its own state, another by a free value.
Log: 61 DEDUCED. -/
def destAccepts (s : State) (l : Loc) : State × Bool :=
  if l.kind ≠ 1 ∨ l.holder = s.self then (s, ! moveStopped s)
  else
    let (v, s) := s.draw
    (s, bitAt v 0)

/-! ## Demand fetch (R90, R91) -/

/-- An engine accesses a byte of this node's pool: `req` its requester id, `node` its package, `g` its group.
Log: 58 DEDUCED. -/
def demandFetch (s : State) (off req node g : Nat) : State :=
  match winOf off with
  | .pool p =>
    let e := s.ent p
    let t := off % 0x200000 / 0x4000
    if e.st = 2 then
      s.modMem fun m => { m with moves := AMap.modify {} m.moves p fun mv =>
        if mv.demand.isEmpty ∨ mv.demand.contains t ∨ tierOf s req e.src < 4 then mv else { mv with demand := mv.demand ++ [t] } }
    else if e.st ≠ 1 ∨ tierOf s req e.home < 4 then s
    else if e.pin ≠ 0 ∨ ! (s.pol e.owner).demand.testBit e.cls then placeCount s 3
    else if s.mem.intervalStopped then placeCount (refusePower s) 3
    else if ! moveRoom s then placeCount s 3
    else
      let (s, dest) : State × Option Loc :=
        if node = s.self then
          (s, (if 0 < freeFrames s g then some g else fullestStack s (List.range 32)).map fun n => ownLoc s n (lowestFreeFrame s n))
        else
          let (v, s) := s.draw
          (s, some { kind := 1, stack := v % 32, frame := v / 32 % 30496, holder := node })
      match dest with
      | none => placeCount s 3
      | some d =>
        let (s, ok) := destAccepts s d
        if ok then placeCount (startMove (chargeMove s e.owner) p d [t] 1 false) 2 else placeCount s 3
  | _ => s

/-- An engine's access to a tile that a demand fetch is bringing completes from the destination, after the tile's flip (R90).
Log: 58 DEDUCED. -/
def demandHeld (s : State) (off req : Nat) : Bool :=
  match winOf off with
  | .pool p =>
    let mv : Move := AMap.get {} s.mem.moves p
    (s.ent p).st == 2 && mv.demand.contains (off % 0x200000 / 0x4000) && ! mv.present.contains (off % 0x200000 / 0x4000) &&
      decide (4 ≤ tierOf s req (s.ent p).src)
  | _ => false

/-- An engine of EGg accesses a range: the fetches that this starts (R90), and whether some tile of it is on its way. -/
def demandRange (s : State) (g addr len : Nat) : State × Bool :=
  if addrNode addr ≠ s.self then (s, false)
  else (cutRange 0x4000 0x4000 (len / 0x4000 + 2) (addrOff addr) len).foldl (fun x y =>
    let s := demandFetch x.1 y.1 (0x200 + g) x.1.self g
    (s, x.2 || demandHeld s y.1 (0x200 + g))) (s, false)

/-! ## Tile copies and the end of a move (R85–R88) -/

/-- Accesses of a tile's copy that have not ended. -/
def tileBusy (s : State) (p : Nat) : Bool :=
  (s.fab.tracks.any fun t => t.owner == .tile p) || s.xlat.accs.any fun a => a.owner == .tile p

/-- Perform the accesses held for a tile of a parcel, in the order in which they arrived, at the tile's ordering point (R86, R87): a
write here, or sent on; `srv` serves a request or an ATOMIC as it would have been served at its arrival. Log: 243 DEDUCED. -/
def releaseHeld (srv : State → Held → State) (s : State) (k : Nat) (held : List Held) : State :=
  let node := keyedNode s k
  let s := held.foldl (fun s h => match h with
    | .write (.write _ _ key d part poison) =>
      let off := keyOff key
      let l := ordLoc s node off
      if locLocal s l then performWrite s key d part poison
      else (cutRange 4096 4096 3 off d.length).foldl (fun s x =>
        (chunkPackets { opcode := opWR, vc := 3, fwd := true, port := portHd (homeHd s off), part := part, holder := some l.holder }
          (locAddr s node (k % 2 ^ 20) l (x.1 % 0x200000)) (slice d (x.1 - off) x.2) fun _ => poison).foldl
          (fun s q => issue s q noCtx (.forwarded k) none) s) s
    | .write _ => s
    | h => srv s h) s
  clearBehind s k

/-- TILE_FLIP: the tile's copy is complete and the source flips it; the next tile begins (R86). -/
def doTileFlip (srv : State → Held → State) (s : State) (p : Nat) : State :=
  match AMap.find s.mem.moves p with
  | none => s
  | some mv =>
    match mv.copying with
    | none => if (nextTile mv).isSome then beginTile s p else s
    | some t =>
      let e := s.ent p
      if tileBusy s p ∨ mv.failed ∨ (remoteSource s e ∧ ! mv.marked) then s
      else if ! locLocal s e.src ∧ ! locLocal s e.home ∧ ! mv.relayed then
        sendTile (s.modMem fun m => { m with moves := AMap.set m.moves p { mv with relayed := true } }) p t e.home e.mirror mv.colour
      else
        let s := s.modMem fun m => { m with moves := AMap.set m.moves p { mv with present := mv.present ++ [t], copying := none, held := [] } }
        let s := if remoteSource s e then sendMsg s e.src.holder msgFlip [(20, p), (7, t), (1, 1)] else s
        let s := releaseHeld srv s p mv.held
        let kept := locLocal s e.home || (e.mirror && e.home.kind == 1 && partnerOf e.home.holder == s.self)
        let s := if kept then s else s.modMem fun m => { m with
          cells := Mem.clear m.cells (p * 0x200000 + t * 0x4000) 0x4000
          poison := m.poison.filter fun a => ! (atomsOf (p * 0x200000 + t * 0x4000) 0x4000).contains a }
        beginTile (mirrorEntry s p) p

/-- TILE_COPY_ABANDON (R87): the held accesses are performed at the source, and the tile is copied again. -/
def doTileAbandon (srv : State → Held → State) (s : State) (p : Nat) : State :=
  match AMap.find s.mem.moves p with
  | none => s
  | some mv =>
    match mv.copying with
    | none => s
    | some t =>
      let e := s.ent p
      let s := s.modMem fun m => { m with moves := AMap.set m.moves p { mv with copying := none, held := [] } }
      let s := s.modFab fun f => { f with tracks := f.tracks.map fun t => if t.owner == .tile p then { t with owner := .none } else t }
      let s := s.modXlat fun x => { x with accs := x.accs.map fun a => if a.owner == .tile p then { a with owner := .none } else a }
      let s := if remoteSource s e ∧ mv.marked then sendMsg s e.src.holder msgFlip [(20, p), (7, t), (1, 0)] else s
      beginTile (releaseHeld srv (placeCount s 4) p mv.held) p

/-! ## Guests (R77, R85, R86) -/

/-- A data frame is left over for another guest: fewer are here than own parcels that are allocated and have no home here (R77). -/
def guestRoom (s : State) : Bool :=
  let away := s.mem.dir.countP fun x => x.2.st != 0 && ! inPackage x.2.home s.self && ! (x.2.st == 2 && inPackage x.2.src s.self)
  let guests := s.mem.guests.countP fun x => x.2.st != 0 && inPackage x.2.home s.self && decide (x.2.home.frame < dataFrames s)
  decide (guests < away)

/-- Another package's directory homes a parcel here, or mirrors one whose home is at the partner (R85 step 1, R100). A guest already
here moves within the package. -/
def takeGuest (s : State) (node p owner cls : Nat) (mirror : Bool) (d : Loc) : State :=
  let k := node * 2 ^ 20 + p
  let e := entOf s node p
  if d.holder = s.self then
    match fullestStack s (if e.st = 1 then (List.range 32).filter (· != e.home.stack) else List.range 32) with
    | none => s
    | some n =>
      let l := ownLoc s n (lowestFreeFrame s n)
      if e.st = 1 ∧ inPackage e.home s.self then setEntOf s node p { e with st := 2, src := e.home, home := l }
      else if e.st = 0 ∧ guestRoom s then
        setEntOf s node p { st := 1, home := l, owner := owner, cls := cls, mirror := mirror }
      else s
  else if d.holder = s.partner then
    match mirrorFrame s with
    | some l => if AMap.has s.mem.mirrorDir k then s
      else s.modMem fun m => { m with mirrorDir := AMap.set m.mirrorDir k { st := 1, home := l, owner := owner, cls := cls, mirror := true } }
    | none => s
  else s

/-- Forget what the package holds of another node's parcel, its mirror at the partner too (R85 step 5). -/
def dropGuest (s : State) (node p : Nat) : State :=
  let k := node * 2 ^ 20 + p
  let e := entOf s node p
  let key := nodeBase node + p * 0x200000
  let s := s.modMem fun m => { m with
    guests := AMap.erase m.guests k
    moves := AMap.erase m.moves k
    cells := Mem.clear m.cells key 0x200000
    poison := m.poison.filter fun a => a / 0x8000 != key / 0x200000
    upsets := m.upsets.filter fun x => x.1 / 0x8000 != key / 0x200000 }
  if e.mirror ∧ e.st ≠ 0 then sendMsg s s.partner msgFree [(9, node), (20, p)] else s

/-- A guest has moved away: its frame and its mirror are released, and its accesses go on to its home until the move is over (R88). -/
def leaveGuest (s : State) (node p : Nat) : State :=
  let k := node * 2 ^ 20 + p
  let e := entOf s node p
  let v : Move := AMap.get {} s.mem.moves k
  let s := dropGuest s node p
  (setEntOf s node p { e with src := {}, mirror := false }).modMem fun m => { m with moves := AMap.set m.moves k v }

/-- The move of a guest that has left is over (R85 step 5). -/
def forgetGuest (s : State) (node p : Nat) : State :=
  let e := entOf s node p
  if e.st = 2 ∧ e.src.kind = 0 ∧ ! inPackage e.home s.self then dropGuest s node p else s

/-- The mirror of a parcel of another node that was homed at the partner is released. -/
def freeMirrorOf (s : State) (node p : Nat) : State :=
  let k := if node = s.partner then p else node * 2 ^ 20 + p
  let key := nodeBase node + p * 0x200000
  s.modMem fun m => { m with
    mirrorDir := AMap.erase m.mirrorDir k
    cells := Mem.clear m.cells key 0x200000
    poison := m.poison.filter fun a => a / 0x8000 != key / 0x200000 }

/-- The mirrors kept in a stack are gone: they are current no more, and have no frame (R449, R467). -/
def dropMirrorsOn (s : State) (n : Nat) : State :=
  let here (l : Loc) : Bool := inPackage l s.self && l.stack == n
  let drop (e : DirEntry) : DirEntry :=
    if here e.home ∨ here e.src then
      { e with unmirrored := true, home := if here e.home then {} else e.home, src := if here e.src then {} else e.src }
    else e
  s.modMem fun m => { m with mirrorDir := AMap.mapVals (fun _ e => drop e) m.mirrorDir }

/-- The package stops taking its partner's mirror writes: no mirror here is current, until the partner's directory says so again
(R467). -/
def staleMirrors (s : State) : State :=
  let stale (e : DirEntry) : DirEntry := if inPackage e.home s.self ∨ inPackage e.src s.self then { e with unmirrored := true } else e
  s.modMem fun m => { m with mirrorDir := AMap.mapVals (fun _ e => stale e) m.mirrorDir }

/-- A guest homed at the partner is lost there: its mirror here becomes its home, when it is current, and its directory learns of it
(R449, R467). -/
def promoteGuest (s : State) (k : Nat) : State :=
  let e : DirEntry := AMap.get {} s.mem.mirrorDir k
  let ok := inPackage e.home s.self && ! e.unmirrored
  let s := s.modMem fun m => { m with mirrorDir := AMap.erase m.mirrorDir k }
  let s := if ok then setEntOf s (k / 2 ^ 20) (k % 2 ^ 20) { e with st := 1, src := {}, unmirrored := true } else s
  sendMsg s (k / 2 ^ 20) msgHomed [(20, k % 2 ^ 20), (32, if ok then regLoc e.home else 0)]

/-- A guest on a fenced stack is lost here. Its accesses go on to its mirror, at the partner, when that is current; else they meet a
lost parcel (R449, R510). Log: 66 DEDUCED. -/
def strandGuest (s : State) (k : Nat) : State :=
  let node := k / 2 ^ 20
  let p := k % 2 ^ 20
  let e := entAt s k
  let key := nodeBase node + p * 0x200000
  let current := e.st == 1 && e.mirror && ! e.unmirrored
  let now : DirEntry := if current then { e with st := 2, src := {}, mirror := false, home := { kind := 1, holder := s.partner } }
    else { e with st := 3, src := {}, home := {} }
  let s := setEntOf s node p now
  let s := s.modMem fun m => { m with
    moves := (if current then AMap.set m.moves k { present := List.range 128 } else AMap.erase m.moves k)
    cells := Mem.clear m.cells key 0x200000
    poison := m.poison.filter fun a => a / 0x8000 != key / 0x200000
    upsets := m.upsets.filter fun x => x.1 / 0x8000 != key / 0x200000 }
  if node = s.partner ∧ s.flt.servingPartner then s
  else if current then sendMsg s s.partner msgPromote [(9, node), (20, p)]
  else sendMsg s node msgHomed [(20, p), (32, 0)]

/-- A guest's tile is marked copying here, at the package that holds it (R86 phase 1). -/
def markTile (s : State) (node p t : Nat) (dest : Loc) : State :=
  let k := node * 2 ^ 20 + p
  let e := entOf s node p
  if e.st = 0 then s
  else
    let s := if e.st = 2 then s else setEntOf s node p { e with st := 2, src := e.home, home := dest }
    let s := s.modMem fun m => { m with moves := AMap.modify {} m.moves k fun v => { v with copying := some t, held := [] } }
    sendMsg (drainTile s (nodeBase node + p * 0x200000 + t * 0x4000)) node msgMarked [(20, p), (7, t)]

/-- The source of a move here has marked the tile: it is read (R86). -/
def tileMarked (s : State) (p t : Nat) : State :=
  match AMap.find s.mem.moves p with
  | none => s
  | some mv =>
    if mv.copying ≠ some t ∨ mv.marked then s
    else
      let mv := { mv with marked := true }
      copyTile (s.modMem fun m => { m with moves := AMap.set m.moves p mv }) p t mv

/-- A guest's tile has flipped, or its copy has been abandoned: the accesses held for it here go on (R86, R87). -/
def guestFlip (srv : State → Held → State) (s : State) (node p t : Nat) (flipped : Bool) : State :=
  let k := node * 2 ^ 20 + p
  match AMap.find s.mem.moves k with
  | none => s
  | some mv =>
    if mv.copying ≠ some t then s
    else
      let now := { mv with present := if flipped then mv.present ++ [t] else mv.present, copying := none, held := [] }
      releaseHeld srv (s.modMem fun m => { m with moves := AMap.set m.moves k now }) k mv.held

/-- Parcels that would leave the lend regions that are being cleared (R79). -/
def lendLeavers (s : State) : List Nat :=
  (s.mem.dir.filter fun x => x.2.st == 1 && s.mem.lends.any fun r => r.2.clearing && inLend r.1 r.2 x.2.home).map (·.1)

/-- Parcels leave the lend regions that are being cleared, except while placement is stopped (R96); a region that holds none any more reports it (R79, event
0x0402). Log: 204 DEDUCED. -/
def lendsCleared (s : State) : State :=
  let go := if s.mem.intervalStopped ∨ moveStopped s then [] else lendLeavers s
  let s := go.foldl (fun s p =>
    match fullestStack s (List.range 32) with
    | some n => if s.mem.moves.length < 4096 then startMove s p (ownLoc s n (lowestFreeFrame s n)) [] 2 false else s
    | none => s) s
  let empty (r : Nat × Lend) : Bool := r.2.clearing && (lendUsed s r.1 r.2).isEmpty
  (s.mem.lends.filter empty).foldl (fun s r =>
    pushEvent (s.modMem fun m => { m with lends := AMap.erase m.lends r.1 }) 0x0402 r.1) s

/-- Own parcels with a home on a stack. -/
def parcelsOn (s : State) (n : Nat) : List Nat :=
  (s.mem.dir.filter fun x => (x.2.st == 1 || x.2.st == 2) && inPackage x.2.home s.self && x.2.home.stack == n).map (·.1)

/-- Guests with a home on a stack. -/
def guestsOn (s : State) (n : Nat) : List Nat :=
  (s.mem.guests.filter fun x => (x.2.st == 1 || x.2.st == 2) && inPackage x.2.home s.self && x.2.home.stack == n).map (·.1)

/-- Start moves off the stacks that are being evacuated; report the ones that are empty, which go into self-refresh (R99, R435).
A guest's own directory is asked to move it within this package; a promoted guest's entry is kept here, so that it changes its
frame at once.
Log: 62 DEDUCED. -/
def continueEvacuation (s : State) : State :=
  (List.range 32).foldl (fun s n =>
    if ! (s.stk n).evacuating then s
    else
      let others := (List.range 32).filter (· != n)
      let s := (parcelsOn s n).foldl (fun s p =>
        if (s.ent p).st ≠ 1 ∨ 4096 ≤ s.mem.moves.length then s
        else match fullestStack s others with
          | some d => startMove s p (ownLoc s d (lowestFreeFrame s d)) [] 2 true
          | none => s) s
      let s := (guestsOn s n).foldl (fun s k =>
        let e := entAt s k
        match fullestStack s others with
        | none => s
        | some d =>
          let l := ownLoc s d (lowestFreeFrame s d)
          if e.st ≠ 1 then s
          else if k / 2 ^ 20 = s.partner ∧ s.flt.servingPartner then
            (setEntOf s (k / 2 ^ 20) (k % 2 ^ 20) { e with home := l }).modStk n fun x => { x with evacMoved := x.evacMoved + 1 }
          else sendMsg s (k / 2 ^ 20) msgEvac [(20, k % 2 ^ 20), (32, regLoc l)]) s
      let leaving (d : AMap DirEntry) : Bool := d.any fun x => x.2.st == 2 && inPackage x.2.src s.self && x.2.src.stack == n
      if (parcelsOn s n).isEmpty ∧ (guestsOn s n).isEmpty ∧ ! leaving s.mem.dir ∧ ! leaving s.mem.guests then
        pushEvent (s.modStk n fun k => { k with evacuating := false, selfRefresh := true }) 0x0401 (pack [(5, n), (32, (s.stk n).evacMoved)])
      else s) s

/-- A package that holds guests of this node asks that one be moved between its own stacks (R99). -/
def evacGuest (s : State) (holder p : Nat) (d : Loc) : State :=
  let e := s.ent p
  if e.st ≠ 1 ∨ ! inPackage e.home holder ∨ ! inPackage d holder ∨ 4096 ≤ s.mem.moves.length then s
  else startMove s p d [] 2 false

/-- The other packages that serve: each holds location caches (R83). -/
def livePackages (s : State) : List Nat := (otherPackages s).filter fun n => ! s.fab.dead.contains n

/-- MOVE_COMPLETE (R85 steps 4 and 5): every location cache is told to drop the parcel, and once each has acknowledged, the parcel
is resident. -/
def doMoveComplete (s : State) (p : Nat) : State :=
  match AMap.find s.mem.moves p with
  | none => s
  | some mv =>
    let e := s.ent p
    if mv.present.length < 128 ∨ ! mv.held.isEmpty ∨ 2 ^ 20 ≤ p then s
    else
      let waits := (mv.acks.getD (livePackages s)).filter fun n => ! s.fab.dead.contains n
      let s := if mv.acks.isSome then s
        else (livePackages s).foldl (fun s n => sendMsg s n msgDrop [(20, p), (32, regLoc e.home)]) (locDrop s s.self p)
      if ! waits.isEmpty then s.modMem fun m => { m with moves := AMap.set m.moves p { mv with acks := some waits } }
      else
        let s := s.setEnt p { e with st := 1, src := {}, age := 0 }
        let s := s.modMem fun m => { m with moves := AMap.erase m.moves p }
        let s := if remoteSource s e ∧ ! inPackage e.home e.src.holder then sendMsg s e.src.holder msgOver [(20, p)] else s
        let s := if mv.evacuation then s.modStk e.src.stack fun k => { k with evacMoved := k.evacMoved + 1 } else s
        continueEvacuation (lendsCleared (mirrorEntry (placeCount s 1) p))

/-- What a parcel's move was doing ends: its copy is dropped, and the accesses held for it are served anew; writes held for a parcel that
is lost go with it. -/
def endMove (srv : State → Held → State) (s : State) (p : Nat) : State :=
  let held := (AMap.get ({} : Move) s.mem.moves p).held
  let s := s.modMem fun m => { m with moves := AMap.erase m.moves p }
  let s := s.modFab fun f => { f with tracks := f.tracks.map fun t => if t.owner == .tile p then { t with owner := .none } else t }
  let s := s.modXlat fun x => { x with accs := x.accs.map fun a => if a.owner == .tile p then { a with owner := .none } else a }
  releaseHeld srv s p (if (entAt s p).st = 3 then held.filter (fun h => ! h matches .write _) else held)

/-- A package of the pair that homed a parcel of this node tells that its home is now there, or that it is lost (R449, R467, R510). A
parcel in motion is lost. Log: 65 DEDUCED. -/
def guestHomed (srv : State → Held → State) (s : State) (sender p : Nat) (l : Loc) : State :=
  let e := s.ent p
  let at' (x : Loc) : Bool := x.kind == 1 && (x.holder == sender || partnerOf x.holder == sender)
  if (e.st ≠ 1 ∧ e.st ≠ 2) ∨ ! (at' e.home || (e.st == 2 && at' e.src)) then s
  else
    let gone := l.kind = 0 ∨ e.st = 2
    let s := s.setEnt p (if gone then { e with st := 3, home := {}, src := {} } else { e with home := l, unmirrored := true })
    let s := (livePackages s).foldl (fun s n => sendMsg s n msgDrop [(20, p), (32, if gone then 0 else regLoc l)]) (locDrop s s.self p)
    let s := if gone then s else sendMsg s (partnerOf l.holder) msgOver [(20, p)]
    mirrorEntry (endMove srv s p) p

/-- A parcel of this node, homed at the partner that handed the directory back, is entered (R470). -/
def takeHandback (s : State) (p : Nat) (e : DirEntry) : State :=
  if (s.ent p).st ≠ 0 ∨ e.st = 0 then s
  else
    let s := s.setEnt p e
    if s.flt.pair = 0 then setPair s 5 else s

/-- A package's caches have dropped a parcel of this node (R85 step 5). -/
def dropped (s : State) (node p : Nat) : State :=
  s.modMem fun m => { m with moves := AMap.mapVals (fun k (v : Move) =>
    if k = p then { v with acks := v.acks.map fun l => l.filter (· != node) } else v) m.moves }

/-- Another package's directory tells that a parcel's move is over: its cached locations are dropped, and what is held of it, unless
its home is here or at the partner (R85). -/
def takeDrop (s : State) (node p : Nat) (home : Loc) : State :=
  let s := locDrop s node p
  let e := entOf s node p
  let s := if e.st = 0 then s
    else if inPackage home s.self then
      let s := if e.st = 2 ∧ (s.stk e.src.stack).evacuating then s.modStk e.src.stack fun k => { k with evacMoved := k.evacMoved + 1 } else s
      (setEntOf s node p { e with st := if e.st = 2 then 1 else e.st, src := {} }).modMem fun m => { m with
        moves := AMap.erase m.moves (node * 2 ^ 20 + p) }
    else
      let s := if inPackage e.src s.self ∧ (s.stk e.src.stack).evacuating then
          s.modStk e.src.stack fun k => { k with evacMoved := k.evacMoved + 1 } else s
      if e.st = 2 then leaveGuest s node p else dropGuest s node p
  continueEvacuation (sendMsg s node msgDropped [(20, p)])

/-! ## Mirrors (R100–R102) -/

/-- Mirrored parcels homed in this package, guests among them, and the frames the partner has for them (R75, R102). -/
def mirroredHere (s : State) : Nat :=
  let n (d : AMap DirEntry) : Nat := d.countP fun x => x.2.st != 0 && x.2.mirror && inPackage x.2.home s.self
  n s.mem.dir + n s.mem.guests
def mirrorFrames (s : State) : Nat := 32 * s.mem.mirrorPerStack

/-- Copy a whole parcel to the partner (R101). -/
def copyParcel (s : State) (p : Nat) : State :=
  (copyPackets s (p * 0x200000) 0x200000 (s.base + p * 0x200000) s.partner 0 (s.ent p).owner).foldl
    (fun s q => issue s q noCtx (.mirror p) none)
    ((List.range 128).foldl (fun s t => drainTile s (p * 0x200000 + t * 0x4000))
      (mirrorEntry (s.modMem fun m => { m with resyncing := m.resyncing ++ [p] }) p))

/-- Resynchronisation in an interval: up to RESYNC parcels begin (R101). A parcel of which a copy failed begins again once its
requests have ended. -/
def resync (s : State) : State :=
  let busy (p : Nat) : Bool := s.fab.tracks.any fun t => t.owner == .mirror p
  if s.mem.partnerDown then s.modMem fun m => { m with resyncing := [] }
  else
    let current := s.mem.dir.countP fun x => x.2.st != 0 && x.2.mirror && ! x.2.unmirrored && inPackage x.2.home s.self
    let room := mirrorFrames s - (current + s.mem.resyncing.length)
    let todo := (s.mem.dir.filter fun x => x.2.st == 1 && x.2.mirror && x.2.unmirrored && inPackage x.2.home s.self &&
      ! s.mem.resyncing.contains x.1 && ! busy x.1).map (·.1)
    (todo.take (min room s.mem.budget.resync)).foldl copyParcel s

/-! ## Clearing, allocation (R77, R104, R495) -/

/-- Clear a parcel's contents at the home and at the mirror, which the pair partner of the home's package holds (R100, R495). The
mirror of a parcel homed here is cleared with `mir`; without it the partner cannot take the write. -/
def clearParcel (s : State) (p : Nat) : State :=
  let s := s.modMem fun m => { m with
    cells := Mem.clear m.cells (p * 0x200000) 0x200000
    poison := m.poison.filter fun a => a / 0x8000 != p
    upsets := m.upsets.filter fun x => x.1 / 0x8000 != p
    lanes := m.lanes.filter fun i => match i with
      | .write _ _ key _ _ _ => key / 0x200000 != p
      | .inc _ _ _ _ _ => true
    far := m.far.filter fun c => c.atom / 0x8000 != (s.base / 0x200000) + p }
  let e := s.ent p
  let key := p * 0x200000
  let put (s : State) (a holder : Nat) (o : Owner) (term : Bool) : State :=
    (copyPackets s key 0x200000 a holder 0 e.owner term).foldl (fun s q => issue s q noCtx o none) s
  let s := if e.home.kind = 2 then put s (locAddr s s.self p e.home 0) e.home.holder (.clearing p false) false
    else if e.home.kind = 3 then
      copyToHost s key 0x200000 (addrOff (locAddr s s.self p e.home 0) - 0x400000000000) (.clearing p false)
    else if e.home.kind = 1 ∧ e.home.holder ≠ s.self then put s (s.base + key) e.home.holder (.clearing p false) false
    else s
  if ! e.mirror ∨ e.home.kind ≠ 1 then s
  else if e.home.holder ≠ s.self then
    if partnerOf e.home.holder = s.self then s else put s (s.base + key) (partnerOf e.home.holder) (.clearing p true) true
  else if s.mem.partnerDown then s
  else put s (s.base + key) s.partner (.clearing p true) true

/-- Clear parcels; those mirrored from here whose mirror the partner cannot take lose it (R101). -/
def clearParcels (s : State) (ps : List Nat) : State :=
  let s := ps.foldl clearParcel s
  if s.mem.partnerDown then loseMirrors s (ps.filter fun p => (s.ent p).mirror && inPackage (s.ent p).home s.self) else s

/-- A parcel is still being cleared elsewhere (R104). -/
def clearingOut (s : State) : Bool :=
  let mine (o : Owner) : Bool := match o with | .clearing _ _ => true | _ => false
  (s.fab.tracks.any fun t => mine t.owner) || s.xlat.accs.any fun a => mine a.owner

/-- The stack in which R104 homes a parcel. -/
def homeStack (s : State) (p : Nat) : Option Nat :=
  (fullestStack s (range' (p % 4 * 8) 8)).orElse fun _ => fullestStack s (List.range 32)

/-- Allocate parcels one after another; `none` when one finds no frame (R77). -/
def allocateAll (s : State) (own cls pin : Nat) : List Nat → Option State
  | [] => some s
  | p :: ps =>
    match homeStack s p with
    | none => none
    | some n =>
      let mir := (s.pol own).mirror.testBit cls
      let s := s.setEnt p { home := ownLoc s n (lowestFreeFrame s n), st := 1, cls := cls, owner := own, pin := pin, mirror := mir }
      allocateAll s own cls pin ps

/-- Tell the partner's mirror of the directory of some entries. -/
def mirrorEntries (s : State) (ps : List Nat) : State := ps.foldl mirrorEntry s

/-- The parcels that an operation of PARCEL_SET would newly mirror among those homed here (R102). -/
def newMirrors (s : State) (ps : List Nat) (op own cls : Nat) : Nat :=
  if ! (s.pol own).mirror.testBit cls then 0
  else if op = 0 then ps.length
  else if op = 1 then ps.countP fun p => let e := s.ent p
                                         e.st == 1 && ! e.mirror && inPackage e.home s.self
  else 0

/-- PARCEL_SET (R77, R102, R104). While a parcel of the range moves the command waits (R89): the state is unchanged. A requester that
may not manage is answered before the other checks; a request to free names no owner. Log: 227 DESIGN CHOICE. -/
def parcelSet (s : State) (m : Master) (first count op own cls pin : Nat) : State :=
  serve s m 0x0403 fun s =>
    let ps := range' first count
    let moving := ps.any fun p => (s.ent p).st == 2
    let manages := mayManage s m own && ps.all fun p => (s.ent p).st == 0 || mayManage s m (s.ent p).owner
    let new := newMirrors s ps op own cls
    let excess := decide (0 < new ∧ mirrorFrames s < mirroredHere s + new)
    if (if op = 2 then ! (ps.all fun p => (s.ent p).st == 0 || mayManage s m (s.ent p).owner) else ! manages) then
      respond s m 0x0403 DENIED
    else if count = 0 ∨ 1024 < count ∨ 2 < op ∨ 3 < cls ∨ 2 < pin ∨ 63 < own ∨ poolParcels s < first + count then respond s m 0x0403 REFUSED
    else if moving then s
    else if op = 0 then
      if ps.any (fun p => (s.ent p).st != 0) ∨ excess then respond s m 0x0403 REFUSED
      else match allocateAll s own cls pin ps with
        | none => respond s m 0x0403 BUSY
        | some s => defer (mirrorEntries (clearParcels s ps) ps) m 0x0403 OK
    else if op = 1 then
      if ps.any (fun p => (s.ent p).st == 0) ∨ excess then respond s m 0x0403 REFUSED
      else
        let cleared := ps.filter fun p => (s.ent p).owner != own && (s.ent p).st == 1
        let s := ps.foldl (fun s p =>
          let e := s.ent p
          let mir := e.st = 1 && (s.pol own).mirror.testBit cls
          s.setEnt p { e with owner := own, cls := cls, pin := pin, mirror := mir,
                              unmirrored := mir && (e.unmirrored || ! e.mirror) }) s
        defer (mirrorEntries (clearParcels s cleared) ps) m 0x0403 OK
    else
      let free (s : State) (p : Nat) : State :=
        let e := s.ent p
        let s := s.modMem fun m => { m with dir := AMap.erase m.dir p, resyncing := m.resyncing.filter (· != p) }
        -- a frame of another package is released there
        if e.st = 1 ∧ e.home.kind = 1 ∧ e.home.holder ≠ s.self then
          (livePackages s).foldl (fun s n => sendMsg s n msgDrop [(20, p), (32, 0)]) (locDrop s s.self p)
        else s
      defer (mirrorEntries (ps.foldl free s) ps) m 0x0403 OK

/-! ## The placement loop (R92–R96) -/

/-- Sort candidates: higher counts first, then higher parcel numbers. -/
def insertCand (c : Nat × Nat) : List (Nat × Nat) → List (Nat × Nat)
  | [] => [c]
  | d :: t => if d.1 < c.1 ∨ (d.1 = c.1 ∧ d.2 < c.2) then c :: d :: t else d :: insertCand c t

/-- The candidates of R93. -/
def candidates (s : State) : List (Nat × Nat) :=
  (s.mem.dir.filter fun x =>
    let e := x.2
    let p := s.pol e.owner
    e.st == 1 && e.pin != 2 && decide (p.hysteresis ≤ e.age) && decide (p.minCount ≤ e.cnt0) &&
      decide (p.dominance * e.total ≤ e.cnt0 * 16)).foldl (fun l x => insertCand (x.2.cnt0, x.1) l) []

/-- Consider one candidate. -/
def tryCandidate (s : State) (p : Nat) : State :=
  let e := s.ent p
  let pol := s.pol e.owner
  if ! moveRoom s ∨ (pol.maxMoves ≠ 0 ∧ AMap.get 0 s.mem.startedBy e.owner = pol.maxMoves) then s
  else
    let (s, d) := nearestFrame s e e.req0
    match d with
    | none => s
    | some l =>
      let (s, ok) := destAccepts s l
      if ok then startMove (chargeMove s e.owner) p l [] 2 false else s

/-- The parcels that may be evicted, those whose REQ0 is no local engine group first, then those with the lowest TOTAL (R95). -/
def coldest (s : State) : List Nat :=
  let cold := s.mem.dir.filter fun x => x.2.st == 1 && x.2.pin == 0 && ! x.2.mirror && inPackage x.2.home s.self
  let isLocal (e : DirEntry) : Bool := decide (0x200 ≤ e.req0 ∧ e.req0 < 0x220)
  let key (e : DirEntry) : Nat := (if isLocal e then 65536 else 0) + e.total
  (cold.foldl (fun l x => insertCand (0x20000 - key x.2, x.1) l) []).map (·.2)

/-- Eviction of the coldest parcels to the lend regions; how many go in one interval is free (R95). Log: 202 DEDUCED. -/
def evictColdest (s : State) : State :=
  let (v, s) := s.draw
  let order := coldest s
  (order.take (1 + v % max 1 order.length)).foldl (fun s p =>
    if ! moveRoom s then s
    else match lendSlot s (s.ent p) with
      | none => s
      | some (k, r, f) => startMove (chargeMove s (s.ent p).owner) p (lendLoc s k r f) [] 2 false) s

/-- A move that the interval would start is refused while placement is stopped: a candidate with a destination, an explicit move that
waits, an eviction, a parcel that leaves a lend region (R96). -/
def anyRefused (s : State) : State × Bool :=
  let (s, c) := (candidates s).foldl (fun (s, c) x =>
    if c then (s, c)
    else
      let (s, d) := nearestFrame s (s.ent x.2) (s.ent x.2).req0
      (s, d.isSome)) (s, false)
  (s, c || ! s.mem.stripeMoves.isEmpty || ! (lendLeavers s).isEmpty ||
    (decide (allFreeFrames s < s.mem.budget.lowWater) && (coldest s).any fun p => (lendSlot s (s.ent p)).isSome))

/-- Age and decay of the counts (R81, R82). -/
def decayCounts (s : State) : State :=
  s.modMem fun m => { m with dir := AMap.mapVals (fun _ e =>
    let d := (s.pol e.owner).decay
    { e with total := e.total >>> d, cnt0 := e.cnt0 >>> d, cnt1 := e.cnt1 >>> d, age := min 7 (e.age + 1) }) m.dir }

/-- A change of a class's MIRROR bit reaches the existing parcels (R101, R102). -/
def applyMirrorPolicy (s : State) : State :=
  s.mem.dir.foldl (fun s x =>
    let e := s.ent x.1
    if e.st ≠ 1 ∨ e.home.kind ≠ 1 then s
    else
      let want := (s.pol e.owner).mirror.testBit e.cls
      if want = e.mirror then s
      else mirrorEntry (s.setEnt x.1 { e with mirror := want, unmirrored := want }) x.1) s

/-- Explicit moves that wait start while the budget lasts, as MOVE would start them (R210, R221). A destination package that does not
accept, which is a free value, leaves the move waiting. -/
def startStripeMoves (s : State) : State :=
  let todo := s.mem.stripeMoves
  let s := s.modMem fun m => { m with stripeMoves := [] }
  let again (s : State) (x : Nat × Nat) : State := s.modMem fun m => { m with stripeMoves := m.stripeMoves ++ [x] }
  todo.foldl (fun s x =>
    let e := s.ent x.1
    let n := x.2 % 32
    let holder := x.2 / 32
    if e.st = 0 ∨ e.st = 3 ∨ ! pinAllows e { kind := 1, stack := n, holder := holder } ∨
        (e.st = 1 ∧ inPackage e.home holder ∧ e.home.stack = n) then s
    else if e.st ≠ 1 ∨ ! moveRoom s ∨ s.mem.intervalStopped then again s x
    else if moveStopped s then again (refusePower s) x
    else if holder = s.self then
      if 0 < freeFrames s n then startMove (chargeMove s e.owner) x.1 (ownLoc s n (lowestFreeFrame s n)) [] 2 false else again s x
    else
      let (v, s) := s.draw
      let d : Loc := { kind := 1, stack := n, frame := v % 30496, holder := holder }
      let (s, ok) := destAccepts s d
      if ok then startMove (chargeMove s e.owner) x.1 d [] 2 false else again s x) s

/-- PLACEMENT_INTERVAL (R92–R96, R101): once in each frame whose number modulo 16 is 0. -/
def doPlacementInterval (s : State) : State :=
  if s.time.lfc % 16 ≠ 0 ∨ s.mem.lastInterval = s.time.lfc + 1 ∨ s.flt.phase < 4 ∨ 7 < s.flt.phase then s
  else
    let stop := moveStopped s
    let s := s.modMem fun m => { m with lastInterval := s.time.lfc + 1, startedNow := 0, startedBy := [], refusedNow := false, intervalStopped := stop }
    let s := applyMirrorPolicy s
    let s :=
      if stop then
        let (s, refused) := anyRefused s
        if refused then refusePower s else s
      else
        let s := (candidates s).foldl (fun s c => tryCandidate s c.2) (startStripeMoves s)
        if allFreeFrames s < s.mem.budget.lowWater then evictColdest s else s
    resync (continueEvacuation (lendsCleared (decayCounts s)))

/-! ## The other commands of R105 -/

def policyBits (p : Policy) : Nat :=
  pack [(16, p.minCount), (4, p.dominance), (3, p.hysteresis), (1, 0), (2, p.decay), (2, 0), (4, p.demand), (4, p.lendAccel),
        (4, p.lendHost), (4, p.mirror), (4, 0), (16, p.maxMoves)]

/-- POLICY_SET (R97). -/
def policySet (s : State) (m : Master) (part : Nat) (block : BitVec 128) : State :=
  serve s m 0x0400 fun s =>
    let b := block.toNat
    if ! mayManage s m part then respond s m 0x0400 DENIED
    else if 63 < part ∨ bits b 23 1 ≠ 0 ∨ bits b 26 2 ≠ 0 ∨ bits b 44 4 ≠ 0 ∨ bits b 64 64 ≠ 0 then respond s m 0x0400 REFUSED
    else
      let p : Policy := { minCount := bits b 0 16, dominance := bits b 16 4, hysteresis := bits b 20 3, decay := bits b 24 2,
                          demand := bits b 28 4, lendAccel := bits b 32 4, lendHost := bits b 36 4, mirror := bits b 40 4,
                          maxMoves := bits b 48 16 }
      respond (s.modMem fun x => { x with policies := AMap.set x.policies part p }) m 0x0400 OK

/-- POLICY_GET. -/
def policyGet (s : State) (m : Master) (part : Nat) : State :=
  serve s m 0x0401 fun s =>
    if ! mayManage s m part then respond s m 0x0401 DENIED
    else if 63 < part then respond s m 0x0401 REFUSED
    else respond s m 0x0401 OK [(16, policyBits (s.pol part))]

/-- BUDGET_SET (R98). -/
def budgetSet (s : State) (m : Master) (settings : BitVec 64) : State :=
  serve s m 0x0402 fun s =>
    let b := settings.toNat
    if bits b 14 2 ≠ 0 ∨ bits b 54 10 ≠ 0 ∨ 8192 < bits b 0 14 ∨ 8192 < bits b 40 14 then respond s m 0x0402 REFUSED
    else
      let x : Budget := { budget := bits b 0 14, lowWater := bits b 16 20, powerMargin := bits b 36 4, resync := bits b 40 14 }
      respond (s.modMem fun y => { y with budget := x }) m 0x0402 OK

/-- PARCEL_GET. The command names no partition; a parcel's owner is the one to be managed. Log: 228 DESIGN CHOICE. -/
def parcelGet (s : State) (m : Master) (p : Nat) : State :=
  serve s m 0x0404 fun s =>
    if poolParcels s ≤ p then respond s m 0x0404 REFUSED
    else if (s.ent p).st ≠ 0 ∧ ! mayManage s m (s.ent p).owner then respond s m 0x0404 DENIED
    else
      let mv : Move := AMap.get {} s.mem.moves p
      respond s m 0x0404 OK ((32, regDir (s.ent p)) ::
        (if (s.ent p).st = 2 then [(16, pack ((List.range 128).map fun t => (1, b2n (mv.present.contains t))))] else []))

/-- MOVE (R94, R96, R105). On a moving parcel it waits (R89): the state is unchanged. A parcel's owner is the partition to be managed;
of a lend region's holder with several regions the lowest-numbered is meant; FRAME counts for a stack of this package as for a lend
region. Log: 60 DEDUCED, 228 DESIGN CHOICE, 229 DESIGN CHOICE. -/
def moveCmd (s : State) (m : Master) (p : Nat) (dest : BitVec 32) : State :=
  serve s m 0x0405 fun s =>
    let d : Loc := locOf dest.toNat 0
    let e := s.ent p
    let pol := s.pol e.owner
    let stopped := moveStopped s || s.mem.intervalStopped
    if e.st ≠ 0 ∧ ! mayManage s m e.owner then respond s m 0x0405 DENIED
    else if poolParcels s ≤ p ∨ e.st = 0 ∨ e.st = 3 ∨ ! pinAllows e d ∨ d.kind = 0 ∨
        3 < d.kind ∨ (d.kind = 2 ∧ (e.mirror ∨ ! pol.lendAccel.testBit e.cls)) ∨
        (d.kind = 3 ∧ (e.mirror ∨ ! pol.lendHost.testBit e.cls)) ∨
        (d.kind = 1 ∧ (! isDevik d.holder ∨ dataFrames s ≤ d.frame)) then respond s m 0x0405 REFUSED
    else if e.st = 2 then s
    else if stopped ∨ ! moveRoom s then respond (if stopped then refusePower s else s) m 0x0405 BUSY
    else
      let go (s : State) (l : Loc) : State := respond (startMove (chargeMove s e.owner) p l [] 2 false) m 0x0405 OK
      if d.kind = 1 ∧ d.holder = s.self then
        if 0 < freeFrames s d.stack ∧ ! (usedFrames s d.stack).contains d.frame then go s d else respond s m 0x0405 BUSY
      else if d.kind = 1 then
        let (s, ok) := destAccepts s d
        if ok then go s d else respond s m 0x0405 BUSY
      else
        let reg := s.mem.lends.find? fun r => r.2.host == (d.kind == 3) && (d.kind == 3 || r.2.holder == d.holder)
        match reg with
        | none => respond s m 0x0405 REFUSED
        | some (k, r) =>
          if r.clearing ∨ r.count ≤ d.frame ∨ (lendUsed s k r).contains d.frame then respond s m 0x0405 BUSY
          else go s (lendLoc s k r d.frame)

/-- The evacuation of a stack begins (R99). Log: 62 DEDUCED. -/
def startEvac (s : State) (n : Nat) : State :=
  continueEvacuation (s.modStk n fun k => { k with evacuated := true, evacuating := true, evacMoved := 0 })

/-- EVACUATE (R99). A stack under activation answers BUSY (R503). -/
def evacuate (s : State) (m : Master) (n : Nat) (force : Bool) : State :=
  serve s m 0x0406 fun s =>
    if 31 < n then respond s m 0x0406 REFUSED
    else if (s.stk n).activating then respond s m 0x0406 BUSY
    else if ! force ∧ (parcelsOn s n).any (fun p => (s.ent p).pin == 2) then respond s m 0x0406 BUSY
    else startEvac (respond s m 0x0406 OK) n

/-- Two lend regions overlap. -/
def lendOverlap (a b : Lend) : Bool :=
  a.host == b.host && (a.host || a.holder == b.holder) && decide (a.base < b.base + b.count * 0x200000) &&
    decide (b.base < a.base + a.count * 0x200000)

/-- LEND_SET (R79, R402). Regions 0–14 are accelerators', region 15 the host's. The host's base counts from the start of its window,
and its holder field is not read; a region number that is in use is refused. Log: 230 DESIGN CHOICE. -/
def lendSet (s : State) (m : Master) (region : Nat) (host : Bool) (holder base count : Nat) : State :=
  serve s m 0x0407 fun s =>
    let r : Lend := { host := host, holder := if host then s.self else holder, base := base, count := count }
    let okRange := if host then decide (base + count * 0x200000 ≤ 0x400000000000)
      else s.man.endPoints.contains holder && decide (base < 2 ^ 56) && addrNode base == holder &&
        decide (addrOff base + count * 0x200000 ≤ 2 ^ 47)
    if (if host then region ≠ 15 else 14 < region) ∨ count = 0 ∨ 32768 < count ∨ ! okRange ∨
        s.mem.lends.any (fun x => x.1 == region || lendOverlap x.2 r) ∨ (host ∧ s.host.conf) then respond s m 0x0407 REFUSED
    else respond (s.modMem fun x => { x with lends := AMap.set x.lends region r }) m 0x0407 OK

/-- LEND_CLEAR (R79). A region that is not set is refused. Log: 230 DESIGN CHOICE. -/
def lendClear (s : State) (m : Master) (region : Nat) : State :=
  serve s m 0x0408 fun s =>
    match AMap.find s.mem.lends region with
    | none => respond s m 0x0408 REFUSED
    | some r =>
      let s := respond (s.modMem fun x => { x with lends := AMap.set x.lends region { r with clearing := true } }) m 0x0408 OK
      lendsCleared s

/-- MIRROR_RESERVE_SET (R76). -/
def mirrorReserveSet (s : State) (m : Master) (n : Nat) : State :=
  serve s m 0x0409 fun s =>
    if 15248 < n then respond s m 0x0409 REFUSED
    else if s.mem.dir.any (fun x => x.2.st != 0) then respond s m 0x0409 BUSY
    else respond (s.modMem fun x => { x with mirrorPerStack := n }) m 0x0409 OK

/-- MAINT_SET (R73). -/
def maintSet (s : State) (m : Master) (hours : Nat) : State :=
  serve s m 0x040A fun s =>
    if hours < 1 ∨ 168 < hours then respond s m 0x040A REFUSED
    else respond (s.modMem fun x => { x with scrubHours := hours }) m 0x040A OK

/-- PLACE_STATS: each count in 4 bytes. Log: 231 DESIGN CHOICE. -/
def placeStats (s : State) (m : Master) (clear : Bool) : State :=
  serve s m 0x040B fun s =>
    let s1 := if clear then s.modMem fun x => { x with stats := [] } else s
    respond s1 m 0x040B OK ((List.range 6).map (fun i => (4, AMap.get 0 s.mem.stats i)) ++
      [(4, s.mem.dir.countP fun x => x.2.unmirrored)])

/-! ## The memory code, scrub, refresh (R67–R73) -/

/-- The scrub pass that a frame belongs to: passes of SCRUB_HOURS follow one another from frame 0 on (R73).
Log: 203 DESIGN CHOICE. -/
def scrubPassOf (s : State) : Nat := s.time.lfc / (s.mem.scrubHours * 3600 * 1000000000 / 65536)

/-- What a frame of a stack holds: the key of its first byte, and whether it is the source or the destination of a move. -/
def frameUse (s : State) (n f : Nat) : Option Nat × Bool :=
  let at' (l : Loc) : Bool := inPackage l s.self && l.stack == n && l.frame == f
  let hit (d : AMap DirEntry) : Option (Nat × DirEntry) := d.find? fun x => x.2.st != 0 && (at' x.2.home || (x.2.st == 2 && at' x.2.src))
  let key (k : Nat) : Nat := if k < 2 ^ 20 then k * 0x200000 else nodeBase (k / 2 ^ 20) + k % 2 ^ 20 * 0x200000
  match (hit s.mem.dir).orElse fun _ => hit s.mem.guests with
  | some x => (some (key x.1), x.2.st == 2)
  | none => match hit s.mem.mirrorDir with
    | some x => (some (if x.1 < 2 ^ 20 then nodeBase s.partner + x.1 * 0x200000 else key x.1), false)
    | none => (none, false)

/-- Note one correction in a row in this pass; at the third the row is replaced by a spare, and where none is left that is a stack
fault (R69, R440). The extent of a row is not stated: 32 atoms that follow one another are taken as one. Log: 232 DESIGN CHOICE. -/
def rowHit (s : State) (n atom addr : Nat) : State :=
  let row := atom / 32
  let s := s.modStk n fun k =>
    let c := AMap.get 0 k.rowHits row + 1
    if 3 ≤ c ∧ k.spareRows ≠ 0 then { k with rowHits := AMap.erase k.rowHits row, spareRows := k.spareRows - 1 }
    else { k with rowHits := AMap.set k.rowHits row c }
  if 3 ≤ AMap.get 0 (s.stk n).rowHits row then
    raise s { die := dieOf 5 n, cls := 5, inst := n, cause := 3, addr := addr }
  else s

/-- PATROL_SCRUB: atom `atom` of a stack, counted through its frames, in a frame whose number modulo 16 is 8, once in a scrub pass;
a frame of a move in progress is skipped (R69, R73). What the row finds adds to errors that are there already. -/
def doPatrolScrub (s : State) (n atom badSymbols : Nat) : State :=
  let (key, moving) := frameUse s n (atom / 0x8000)
  let a := match key with | some k => k / 64 + atom % 0x8000 | none => frameAtom n atom
  if s.time.lfc % 16 ≠ 8 ∨ ! (s.stk n).joined ∨ (s.stk n).fenced ∨ moving then s
  else
    let s := s.modStk n fun k => if k.scrubPass = scrubPassOf s then k else { k with scrubPass := scrubPassOf s, rowHits := [], scrubbed := [] }
    if (s.stk n).scrubbed.contains atom then s
    else
      let bad := badSymbols + AMap.get 0 s.mem.upsets a
      let s := s.modStk n fun k => { k with scrubbed := atom :: k.scrubbed }
      let s := decodeAtom (if AMap.has s.mem.upsets a then s.modMem fun m => { m with upsets := AMap.erase m.upsets a } else s) n a bad
      if bad = 0 ∨ 4 < bad then s else rowHit s n atom (atomAddr s a)

/-- REFRESH_SLOT: slot `i` of the frame on every stack that uses it (R70). -/
def doRefreshSlot (s : State) (i : Nat) : State :=
  if 32 ≤ i then s
  else (List.range 32).foldl (fun s n =>
    let k := s.stk n
    if k.joined ∧ ! k.fenced ∧ (k.hot ∨ i % 2 = 0) then s.modStk n fun k => { k with lastRefresh := s.time.lfc * 32 + i } else s) s

/-- ACCESS_PERFORMED: the oldest write of one of a target's lanes is performed (R260, R264), and its atom is decoded (R67). -/
def doAccessPerformed (s : State) (t : Target) (lane : Lane) (badSymbols : Nat) : State :=
  match findIdx (fun i => match i with | .write t' l _ _ _ _ => t' == t && l == lane | _ => false) s.mem.lanes with
  | none => s
  | some i =>
    match s.mem.lanes[i]? with
    | some (.write t' l key d part poison) =>
      -- an earlier accepted access to a common atom from another lane goes first (R262)
      let earlier := (s.mem.lanes.take i).any fun j => match j with
        | .write _ _ k e _ _ => (atomsOf k e.length).any (atomsOf key d.length).contains
        | .inc _ _ _ _ _ => false
      if earlier then s
      else
        let s := s.modMem fun m => { m with lanes := m.lanes.eraseIdx i }
        let s := performItem s (.write t' l key d part poison)
        match t with
        | .stack n => decodeAtom s n (key / 64) badSymbols
        | .spad _ => decodeLine s (key / 64) badSymbols
    | _ => s

end Sys2Proof.Machine
end

