-- ==== Sys2Proof/Machine/Operands.lean ====
section
/-! DEFINITION. Command lists in memory: header, declaration, command word and operand descriptors (R141–R151), and the
checks of R152. A command is the number whose bit b is bit b of the 64 bytes. -/
namespace Sys2Proof.Machine

/-! ## Operand descriptors (R148–R151) -/

structure Desc where
  addr : Nat := 0
  ld : Nat := 0
  fmt : Nat := 0
  layout : Nat := 0
  vol : Bool := false
  scaled : Bool := false
  soff : Nat := 0
  rsvd : Nat := 0
deriving DecidableEq, Repr, Inhabited

/-- The descriptor at bit `b` of a command (R148). -/
def descAt (c b : Nat) : Desc :=
  { addr := bits c b 56, ld := bits c (b + 64) 32, fmt := bits c (b + 96) 4, layout := bits c (b + 100) 2
    vol := bitAt c (b + 102), scaled := bitAt c (b + 103), soff := bits c (b + 104) 24, rsvd := bits c (b + 56) 8 }

/-- Address arithmetic stays within the 56 bits of a fabric address. -/
def wrap56 (a : Int) : Nat := (a % (2 ^ 56 : Int)).toNat

/-- The runs of bytes of a rows × cols operand: one for each row, column or panel row (R150). -/
def descRuns (d : Desc) (rows cols : Nat) : List (Nat × Nat) :=
  if d.layout = 0 then (List.range rows).map fun r => ((d.addr + r * d.ld) % 2 ^ 56, eBytes d.fmt cols)
  else if d.layout = 1 then (List.range cols).map fun c => ((d.addr + c * d.ld) % 2 ^ 56, eBytes d.fmt rows)
  else (List.range (ceilDiv cols 128)).flatMap fun j =>
    let w := min 128 (cols - 128 * j)
    (List.range rows).map fun r => ((d.addr + j * d.ld + r * eBytes d.fmt w) % 2 ^ 56, eBytes d.fmt w)

/-- The scale tensor's descriptor, its dimension along K divided by 32 (R151); `kRows`: K runs down the rows. -/
def scaleDesc (d : Desc) (rows cols : Nat) (kRows : Bool) : Desc × Nat × Nat :=
  let r := if kRows then ceilDiv rows 32 else rows
  let c := if kRows then cols else ceilDiv cols 32
  let run := if d.layout = 0 then c else if d.layout = 1 then r else 128 * r
  ({ addr := (d.addr + d.soff * 4096) % 2 ^ 56, ld := ceilDiv run 64 * 64, fmt := fE8M0, layout := d.layout, vol := d.vol },
   r, c)

/-- Every run of an operand, its scales included. -/
def operandRuns (d : Desc) (rows cols : Nat) (kRows : Bool) : List (Nat × Nat) :=
  descRuns d rows cols ++
  (if d.scaled then let (x, r, c) := scaleDesc d rows cols kRows; descRuns x r c else [])

/-- The run and the element index within it of element (r, c). -/
def elemPlace (d : Desc) (cols r c : Nat) : Nat × Nat :=
  if d.layout = 0 then ((d.addr + r * d.ld) % 2 ^ 56, c)
  else if d.layout = 1 then ((d.addr + c * d.ld) % 2 ^ 56, r)
  else
    let j := c / 128
    let w := min 128 (cols - 128 * j)
    ((d.addr + j * d.ld + r * eBytes d.fmt w) % 2 ^ 56, c - 128 * j)

/-! ## Header and declaration (R142, R143) -/

structure Header where
  version : Nat
  listId : Nat
  length : Nat
  ringAddr : Nat
  ringLog2 : Nat
  hostq : Nat
  hostqEn : Bool
  defTmo : Nat
  ok : Bool
deriving DecidableEq, Repr

def parseHeader (h : Nat) : Header :=
  let lid := bits h 16 16
  let ring := bits h 64 56
  let lg := bits h 128 5
  let tmo := bits h 152 5
  { version := bits h 0 8, listId := lid, length := bits h 32 17, ringAddr := ring, ringLog2 := lg
    hostq := bits h 136 9, hostqEn := bitAt h 145, defTmo := tmo
    ok := bits h 0 8 == 1 && lid != 0 && decide (6 ≤ lg ∧ lg ≤ 16) && decide (1 ≤ tmo ∧ tmo ≤ 20) &&
      ring % (64 * 2 ^ lg) == 0 &&
      bits h 8 8 == 0 && bits h 49 15 == 0 && bits h 120 8 == 0 && bits h 133 3 == 0 && bits h 146 6 == 0 &&
      bits h 157 355 == 0 }

structure Decl where
  ctx : Nat
  prio : Nat
  granFirst : Nat
  granCount : Nat
  ctrFirst : Nat
  ctrCount : Nat
  masks : List Nat
  seqSlots : Nat
  collSlots : Nat
  /-- Reserved fields are zero and the slot counts lie in range. -/
  ok : Bool
  /-- The ranges lie within the group. -/
  inGroup : Bool
deriving DecidableEq, Repr

/-- The fields of a declaration. A slot count above 32 makes it malformed (REASON 1) rather than a declaration of ranges outside the
group (REASON 2). Log: 234 DESIGN CHOICE. -/
def parseDecl (d : Nat) : Decl :=
  let gf := bits d 32 9
  let gc := bits d 41 10
  let cf := bits d 64 12
  let cc := bits d 76 13
  let sq := bits d 160 6
  let cl := bits d 168 6
  { ctx := bits d 0 12, prio := bits d 12 2, granFirst := gf, granCount := gc, ctrFirst := cf, ctrCount := cc
    masks := [bits d 96 16, bits d 112 16, bits d 128 16, bits d 144 16], seqSlots := sq, collSlots := cl
    ok := bits d 14 18 == 0 && bits d 51 13 == 0 && bits d 89 7 == 0 && bits d 166 2 == 0 && bits d 174 338 == 0 &&
      decide (sq ≤ 32 ∧ cl ≤ 32)
    inGroup := decide (gf + gc ≤ 512 ∧ cf + cc ≤ 4096) }

/-! ## The command word (R144, R145) -/

def cOp (c : Nat) : Nat := bits c 0 8
def cEngine (c : Nat) : Nat := bits c 8 2
def cQueue (c : Nat) : Nat := bits c 10 4
def cRec (c : Nat) : Bool := bitAt c 14
def cNotify (c : Nat) : Bool := bitAt c 15
def cCtr (c : Nat) : Nat := bits c 16 12
def cCtrEn (c : Nat) : Bool := bitAt c 28

def isControlOp (op : Nat) : Bool := decide (1 ≤ op ∧ op ≤ 5) || op == 0x3F

/-- The engine that carries an opcode out (R113, R145); `none`: a reserved opcode. -/
def opEngine (op : Nat) : Option Nat :=
  if op = 0x10 ∨ op = 0x11 ∨ op = 0x28 then some 1
  else if op = 0x18 ∨ op = 0x19 then some 2
  else if op = 0x20 ∨ op = 0x21 ∨ op = 0x22 ∨ op = 0x29 then some 3
  else if op = 0x30 ∨ op = 0x31 ∨ op = 0x38 then some 0
  else none

/-! ## The checks of R152 -/

/-- What a command is checked against: the group, its package's self number and the declaration. -/
structure Chk where
  g : Nat
  self : Nat
  d : Decl

/-- The offset within the group's own scratchpad of an address, if it lies there. -/
def ownSpad (k : Chk) (a : Nat) : Option Nat :=
  if addrNode a = k.self then
    match winOf (addrOff a) with
    | .spad g o => if g = k.g then some o else none
    | _ => none
  else none

/-- The bytes of a run that lie in the own scratchpad window, among those the command writes, stay within the declared granules. -/
def runInGranules (k : Chk) (r : Nat × Nat) : Bool :=
  let lo := k.self * 2 ^ 47 + spadBase k.g
  let a := max r.1 lo
  let b := min (r.1 + r.2) (lo + 0x2000000)
  if b ≤ a then true
  else decide (lo + k.d.granFirst * 65536 ≤ a) && decide (b ≤ lo + (k.d.granFirst + k.d.granCount) * 65536)

/-- A run lies wholly in the group's own scratchpad. -/
def runInOwnSpad (k : Chk) (r : Nat × Nat) : Bool :=
  let lo := k.self * 2 ^ 47 + spadBase k.g
  decide (lo ≤ r.1) && decide (r.1 + r.2 ≤ lo + 0x2000000)

def runsOverlap (a b : List (Nat × Nat)) : Bool :=
  a.any fun x => b.any fun y => decide (x.1 < y.1 + y.2) && decide (y.1 < x.1 + x.2)

/-- Two operands overlap where all of them lie in the own scratchpad (R152). -/
def spadOverlap (k : Chk) (a b : List (Nat × Nat)) : Bool :=
  a.all (runInOwnSpad k) && b.all (runInOwnSpad k) && runsOverlap a b

def ctrDeclared (k : Chk) (c : Nat) : Bool := decide (k.d.ctrFirst ≤ c) && decide (c < k.d.ctrFirst + k.d.ctrCount)

/-- A length along a packed run keeps it on byte boundaries (R149). -/
def packedLen (f n : Nat) : Bool :=
  if fmtBits f = 4 then n % 2 == 0 else if fmtBits f = 6 then n % 4 == 0 else true

/-- Alignment, LD and scaling of a descriptor (R148, R150, R151). -/
def descOk (d : Desc) (rows cols : Nat) (layouts : List Nat) : Bool :=
  d.rsvd == 0 && layouts.contains d.layout && d.addr % 64 == 0 && d.ld % 64 == 0 && (d.scaled || d.soff == 0) &&
  (if d.layout = 0 then decide (eBytes d.fmt cols ≤ d.ld) && packedLen d.fmt cols
   else if d.layout = 1 then decide (eBytes d.fmt rows ≤ d.ld) && packedLen d.fmt rows
   else decide (eBytes d.fmt 128 * rows ≤ d.ld) && packedLen d.fmt (cols % 128))

def fmt16 (f : Nat) : Bool := f == fBF16 || f == fFP16
def fmt8 (f : Nat) : Bool := f == fE5M2 || f == fE4M3
def fmt64 (f : Nat) : Bool := f == fE3M2 || f == fE2M3 || f == fE2M1 || f == fL4
def fmtI8 (f : Nat) : Bool := f == fINT8 || f == fUINT8
def fmtI4 (f : Nat) : Bool := f == fINT4 || f == fUINT4

/-- An operand pair's class (R187): 0 not legal, 1 16-bit float, 2 8-bit float, 3 6- and 4-bit float, 4 8-bit integer,
5 scaled 8-bit integer, 6 4-bit integer. -/
def pairClass (a b : Desc) (sc : Bool) : Nat :=
  if ! sc then
    if a.scaled || b.scaled then 0
    else if fmt16 a.fmt && fmt16 b.fmt then 1
    else if fmt8 a.fmt && fmt8 b.fmt then 2
    else if fmtI8 a.fmt && fmtI8 b.fmt then 4
    else if fmtI4 a.fmt && fmtI4 b.fmt then 6
    else 0
  else
    if ! (a.scaled || b.scaled) then 0
    else if fmt8 a.fmt && fmt8 b.fmt then 2
    else if fmt64 a.fmt && fmt64 b.fmt && a.scaled && b.scaled then 3
    else if fmtI8 a.fmt && fmtI8 b.fmt && (! a.scaled || a.fmt == fINT8) && (! b.scaled || b.fmt == fINT8) then 5
    else 0

/-- The output formats of a class (R188). -/
def outOk (cls fmt : Nat) (acc : Bool) : Bool :=
  if cls = 4 ∨ cls = 6 then (fmt == fINT32 || (! acc && fmtI8 fmt))
  else fmt == fFP32 || (! acc && (fmt16 fmt || fmt8 fmt))

/-- MMA and MMA_SCALED (R160, R162, R187, R188). Log: 206 DEDUCED. -/
def chkMma (k : Chk) (c : Nat) (sc : Bool) : Bool :=
  let a := descAt c 64
  let b := descAt c 192
  let o := descAt c 320
  let m := bits c 448 16 + 1
  let n := bits c 464 16 + 1
  let kk := bits c 480 16 + 1
  let cls := pairClass a b sc
  bits c 502 10 == 0 && decide (bits c 496 3 ≤ 4) && cls != 0 && (! sc || kk % 32 == 0) &&
  descOk a m kk [0, 1] && descOk b kk n [0, 1, 2] && descOk o m n [0, 2] && ! o.scaled && outOk cls o.fmt (bitAt c 499) &&
  (operandRuns o m n false).all (runInGranules k) &&
  ! spadOverlap k (operandRuns o m n false) (operandRuns a m kk false ++ operandRuns b kk n true)

/-- A vector input's format (R149). -/
def vecIn (d : Desc) : Bool :=
  if fmt64 d.fmt then d.scaled
  else (d.fmt == fFP32 || fmt16 d.fmt || fmtI8 d.fmt || d.fmt == fINT32 || fmt8 d.fmt) &&
    (! d.scaled || fmt8 d.fmt || d.fmt == fINT8)
/-- A vector output's format without block scales (R149). -/
def vecOut (f : Nat) : Bool := f == fFP32 || fmt16 f || fmt8 f || fmtI8 f

def isUnary (fn : Nat) : Bool := [0x07, 0x08, 0x09, 0x0A, 0x0B, 0x0C, 0x0F, 0x11].contains fn

/-- The runs of an array of partial entries (R165, R172). -/
def entryRuns (d : Desc) (n dim : Nat) : List (Nat × Nat) := (List.range n).map fun i => ((d.addr + i * d.ld) % 2 ^ 56, 64 + 4 * dim)

def entriesOk (d : Desc) (dim : Nat) : Bool :=
  d.rsvd == 0 && d.fmt == fFP32 && d.layout == 0 && d.addr % 64 == 0 && d.ld % 64 == 0 && decide (64 + 4 * dim ≤ d.ld) &&
  ! d.scaled && d.soff == 0

/-- VOP (R164, R165). -/
def chkVop (k : Chk) (c : Nat) : Bool :=
  let a := descAt c 64
  let b := descAt c 192
  let o := descAt c 320
  let rows := bits c 448 16 + 1
  let cols := bits c 464 16 + 1
  let fn := bits c 480 8
  let bc := bitAt c 490
  let imm := bitAt c 491
  let srcRuns :=
    (if fn = 0x10 ∨ fn = 0x11 then entryRuns a rows cols else operandRuns a rows cols false) ++
    (if isUnary fn || imm then []
     else if fn = 0x10 then entryRuns b rows cols
     else if fn = 0x0E then [(b.addr, 4 * rows)]
     else operandRuns b (if bc then 1 else rows) cols false)
  let dstRuns := if fn = 0x10 then entryRuns o rows cols else operandRuns o rows cols false
  bits c 492 20 == 0 && decide (1 ≤ fn ∧ fn ≤ 0x11) &&
  (if fn = 0x10 then entriesOk a cols && entriesOk b cols && entriesOk o cols
   else if fn = 0x11 then entriesOk a cols && bits c 192 128 == 0 && descOk o rows cols [0] && vecOut o.fmt && ! o.scaled
   else
    descOk a rows cols [0] && vecIn a && descOk o rows cols [0] &&
    (if fn = 0x0F then o.scaled && (fmt64 o.fmt || fmt8 o.fmt || o.fmt == fINT8) else ! o.scaled && vecOut o.fmt) &&
    (if isUnary fn then bits c 192 128 == 0
     else if imm then bits c 224 96 == 0
     else if fn = 0x0E then b.rsvd == 0 && b.addr % 64 == 0 && b.ld % 64 == 0 && b.fmt == fFP32 && b.layout == 0 &&
       ! b.scaled && b.soff == 0
     else descOk b (if bc then 1 else rows) cols [0] && vecIn b) &&
    (fn != 0x0D || cols % 2 == 0)) &&
  dstRuns.all (runInGranules k) && ! spadOverlap k dstRuns srcRuns

/-- VRED (R166). -/
def chkVred (k : Chk) (c : Nat) : Bool :=
  let a := descAt c 64
  let o := descAt c 320
  let rows := bits c 448 16 + 1
  let cols := bits c 464 16 + 1
  let fn := bits c 480 8
  bits c 490 22 == 0 && decide (1 ≤ fn ∧ fn ≤ 5) && bits c 192 128 == 0 && descOk a rows cols [0] && vecIn a &&
  o.rsvd == 0 && o.fmt == fFP32 && o.layout == 0 && ! o.scaled && o.soff == 0 && o.ld == 0 && o.addr % 64 == 0 &&
  runInGranules k (o.addr, 4 * rows) && ! spadOverlap k [(o.addr, 4 * rows)] (operandRuns a rows cols false)

/-- The runs of one side of a LOADT or STORET (R167). -/
def moveRuns (addr rows n : Nat) (stride : Int) : List (Nat × Nat) :=
  (List.range rows).map fun (r : Nat) => (wrap56 ((addr : Int) + (r : Int) * stride), n)

/-- LOADT and STORET (R167, R168). -/
def chkMove (k : Chk) (c : Nat) (store : Bool) : Bool :=
  let n := bits c 192 16 + 1
  let rows := bits c 208 16 + 1
  let src := moveRuns (bits c 64 56) rows n (signed 32 (bits c 224 32))
  let dst := moveRuns (bits c 128 56) rows n (signed 32 (bits c 256 32))
  bits c 120 8 == 0 && bits c 184 8 == 0 && bits c 344 8 == 0 && bits c 354 158 == 0 && decide (n * rows ≤ 0x200000) &&
  (if store then src else dst).all (runInOwnSpad k) && dst.all (runInGranules k)

/-- The fields of a DMA_ND (R169). -/
structure NdCmd where
  src : Nat
  dst : Nat
  len : Nat
  cnt : List Nat
  sstr : List Int
  dstr : List Int
  tileDims : Nat
  tctr : Nat
  tctrEn : Bool
  vol : Bool

def ndOf (c : Nat) : NdCmd :=
  { src := bits c 64 56, dst := bits c 128 56, len := bits c 192 16 + 1
    cnt := (List.range 4).map fun i => bits c (208 + 12 * i) 12 + 1
    sstr := (List.range 4).map fun i => signed 28 (bits c (256 + 28 * i) 28)
    dstr := (List.range 4).map fun i => signed 28 (bits c (368 + 28 * i) 28)
    tileDims := bits c 480 3, tctr := bits c 483 12, tctrEn := bitAt c 495, vol := bitAt c 496 }

def NdCmd.n (x : NdCmd) (i : Nat) : Nat := x.cnt.getD i 1

/-- Runs in a delivery tile, and tiles (R170). -/
def NdCmd.tileRuns (x : NdCmd) : Nat := ((List.range 4).filter (decide <| · < x.tileDims)).foldl (fun a i => a * x.n i) 1
def NdCmd.tiles (x : NdCmd) : Nat := ((List.range 4).filter (decide <| x.tileDims ≤ ·)).foldl (fun a i => a * x.n i) 1

/-- Run `r` of the transfer in raster order: source, destination (R170). -/
def NdCmd.run (x : NdCmd) (r : Nat) : Nat × Nat :=
  let i1 := r % x.n 0
  let i2 := r / x.n 0 % x.n 1
  let i3 := r / x.n 0 / x.n 1 % x.n 2
  let i4 := r / x.n 0 / x.n 1 / x.n 2
  let f (s : List Int) : Int := i1 * s.getD 0 0 + i2 * s.getD 1 0 + i3 * s.getD 2 0 + i4 * s.getD 3 0
  (wrap56 (x.src + f x.sstr), wrap56 (x.dst + f x.dstr))

/-- The runs of one delivery tile. -/
def NdCmd.tile (x : NdCmd) (t : Nat) : List (Nat × Nat) := (range' (t * x.tileRuns) x.tileRuns).map x.run

/-- The lowest and highest destination addresses a transfer writes. -/
def NdCmd.extent (x : NdCmd) : Int × Int :=
  (List.range 4).foldl (fun (lo, hi) i =>
    let d : Int := (x.n i - 1 : Nat) * x.dstr.getD i 0
    (lo + min 0 d, hi + max 0 d)) ((x.dst : Int), (x.dst + x.len : Int))

/-- DMA_ND (R169, R170). -/
def chkNd (k : Chk) (c : Nat) : Bool :=
  let x := ndOf c
  let lo : Int := k.self * 2 ^ 47 + spadBase k.g
  let (a, b) := x.extent
  bits c 120 8 == 0 && bits c 184 8 == 0 && bits c 497 15 == 0 && decide (x.tileDims ≤ 4) &&
  (! x.tctrEn || ctrDeclared k x.tctr) && decide (x.tileRuns * x.len ≤ 0x100000) &&
  (decide (b ≤ lo) || decide (lo + 0x2000000 ≤ a) ||
   (decide (lo + k.d.granFirst * 65536 ≤ a) && decide (b ≤ lo + (k.d.granFirst + k.d.granCount) * 65536)) ||
   (List.range (x.tileRuns * x.tiles)).all fun r => runInGranules k ((x.run r).2, x.len))

/-- Formats of queries, outputs and appended rows (R171, R173). -/
def seqFmt (f : Nat) : Bool := decide (1 ≤ f ∧ f ≤ 5)

def chkAttn (k : Chk) (c : Nat) : Bool :=
  bits c 120 8 == 0 && bits c 184 8 == 0 && bits c 248 8 == 0 && bits c 318 2 == 0 && bits c 384 128 == 0 &&
  bits c 64 56 % 64 == 0 && bits c 128 56 % 64 == 0 && (ownSpad k (bits c 64 56)).isSome &&
  (ownSpad k (bits c 128 56)).isSome && runInGranules k (bits c 128 56, 1) && decide (bits c 302 5 < k.d.seqSlots) &&
  seqFmt (bits c 308 4) && seqFmt (bits c 312 4) && (! bitAt c 307 || bits c 312 4 == fFP32)

def chkKv (k : Chk) (c : Nat) : Bool :=
  bits c 120 8 == 0 && bits c 184 8 == 0 && bits c 238 274 == 0 && decide (bits c 228 5 < k.d.seqSlots) && seqFmt (bits c 233 4)

/-- Collective types (R149). -/
def collFmt (f : Nat) : Bool := f == fFP32 || fmt16 f || fmt8 f || f == fINT8 || f == fINT32

/-- Bytes that a COLL_JOIN may write at DST whatever its group: of an all-gather at least two blocks, of a reduce-scatter at least one
part in 4,096 (R225, R230). -/
def joinDstBytes (c : Nat) : Nat :=
  let op := bits c 240 4
  let n := bits c 192 32
  eBytes (bits c 248 4) (if op = 6 then 0 else if op = 2 then 2 * n else if op = 1 then ceilDiv n 4096 else n)

def chkJoin (k : Chk) (c : Nat) : Bool :=
  bits c 120 8 == 0 && bits c 184 8 == 0 && bits c 255 1 == 0 && bits c 287 1 == 0 && bits c 336 176 == 0 &&
  decide (bits c 240 4 ≤ 6) && decide (bits c 252 3 ≤ 5) && (bits c 240 4 == 6 || (collFmt (bits c 244 4) && collFmt (bits c 248 4))) &&
  decide (bits c 282 5 < k.d.collSlots) && (! bitAt c 280 || ctrDeclared k (bits c 268 12)) &&
  runInGranules k (bits c 128 56, joinDstBytes c)

def chkAtomic (k : Chk) (c : Nat) : Bool :=
  let n := 4 * 2 ^ bits c 452 2
  bits c 120 8 == 0 && bits c 184 8 == 0 && bits c 455 57 == 0 && bits c 452 2 != 3 && decide (bits c 448 4 ≤ 12) &&
  bits c 64 56 % n == 0 &&
  (! bitAt c 454 || (bits c 128 56 % 16 == 0 && (ownSpad k (bits c 128 56)).isSome && runInGranules k (bits c 128 56, n)))

/-- Every check of R152 on one command but those on its place in the list and on enabled formats. -/
def chkCommand (k : Chk) (hostqEn : Bool) (c : Nat) : Bool :=
  let op := cOp c
  let e := cEngine c
  (isControlOp op || opEngine op == some e) && (k.d.masks.getD e 0).testBit (cQueue c) && bits c 29 35 == 0 &&
  (! cCtrEn c || ctrDeclared k (cCtr c)) && (! cNotify c || hostqEn) &&
  (if op = 0x01 ∨ op = 0x3F then bits c 64 448 == 0
   else if op = 0x02 then ctrDeclared k (bits c 64 12) && bits c 76 20 == 0 && decide (bits c 128 5 ≤ 20) && bits c 133 379 == 0
   else if op = 0x03 then
     bits c 82 14 == 0 && bits c 184 8 == 0 && bits c 224 288 == 0 &&
     (if bitAt c 76 then bits c 128 56 % 8 == 0 && bits c 192 32 % 8 == 0
      else bits c 77 5 == 0 && ctrDeclared k (bits c 64 12))
   else if op = 0x04 then bits c 66 446 == 0
   else if op = 0x05 then bits c 97 415 == 0
   else if op = 0x10 then chkMma k c false
   else if op = 0x11 then chkMma k c true
   else if op = 0x18 then chkVop k c
   else if op = 0x19 then chkVred k c
   else if op = 0x20 then chkMove k c false
   else if op = 0x21 then chkMove k c true
   else if op = 0x22 then chkNd k c
   else if op = 0x28 then chkAttn k c
   else if op = 0x29 then chkKv k c
   else if op = 0x30 then chkJoin k c
   else if op = 0x31 then decide (bits c 64 5 < k.d.collSlots) && decide (bits c 69 5 ≤ 20) && bits c 74 438 == 0
   else if op = 0x38 then chkAtomic k c
   else false)

/-- The formats a command uses are in the bring-up set of R139; the cache formats of a sequence context, which `cf` gives with 0 for an
unregistered one, are among them. Log: 24 DEDUCED. -/
def bringUpOk (cf : Nat → Nat) (c : Nat) : Bool :=
  let op := cOp c
  let mat (f : Nat) : Bool := fmt16 f || fmtI8 f
  let cacheUp (f : Nat) : Bool := f == 0 || fmt16 f
  if op = 0x10 then
    mat (bits c 160 4) && mat (bits c 288 4) &&
    (if fmtI8 (bits c 160 4) then bits c 416 4 == fINT32 || fmtI8 (bits c 416 4) else bits c 416 4 == fFP32 || fmt16 (bits c 416 4))
  else if op = 0x11 then false
  else if op = 0x18 ∨ op = 0x19 then
    bits c 160 4 == fFP32 && bits c 416 4 == fFP32 && (bits c 288 4 == fFP32 || bits c 288 4 == 0)
  else if op = 0x28 then
    (bits c 308 4 == fFP32 || fmt16 (bits c 308 4)) && (bits c 312 4 == fFP32 || fmt16 (bits c 312 4)) && cacheUp (cf (bits c 256 14))
  else if op = 0x29 then (bits c 233 4 == fFP32 || fmt16 (bits c 233 4)) && cacheUp (cf (bits c 192 14))
  else if op = 0x30 then
    let f (x : Nat) : Bool := x == fFP32 || fmt16 x || x == fINT8 || x == fINT32
    bits c 240 4 == 6 || (f (bits c 244 4) && f (bits c 248 4))
  else true

/-- The first command that fails, with its reason: 4 invalid, 5 a format not enabled (R131, R152). -/
def firstBad (k : Chk) (hostqEn fmtAll : Bool) (cf : Nat → Nat) : Nat → List Nat → Option (Nat × Nat)
  | _, [] => none
  | i, c :: cs =>
    if ! chkCommand k hostqEn c || ((cOp c == 0x3F) != cs.isEmpty) then some (i, 4)
    else if ! fmtAll && ! bringUpOk cf c then some (i, 5)
    else firstBad k hostqEn fmtAll cf (i + 1) cs

end Sys2Proof.Machine
end

