-- ==== Sys2Proof/Machine/SeqOps.lean ====
section
/-! DEFINITION. Sequence contexts (R203–R220): descriptor fields, cache layout, reservations, and the arithmetic of
attention. -/
namespace Sys2Proof.Machine

/-! ## Descriptor fields (R205) -/

def dPart (d : Nat) : Nat := bits d 1 6
def dScope (d : Nat) : Nat := bits d 7 1
/-- Layers of the context: the field plus 1. -/
def dLayers (d : Nat) : Nat := bits d 8 10 + 1
def dHq (d : Nat) : Nat := bits d 18 7
def dHkv (d : Nat) : Nat := bits d 25 7
/-- Head dimension D. -/
def dDim (d : Nat) : Nat := 16 * (bits d 33 4 + 1)
def dCfmt (d : Nat) : Nat := bits d 37 4
def dBlock (d : Nat) : Nat := 2 ^ bits d 41 4
def dStripes (d : Nat) : Nat := 2 ^ bits d 45 3
def dStripeBase (d : Nat) : Nat := bits d 48 5
def dMask (d : Nat) : Nat := bits d 53 2
def dScale (d : Nat) : Nat := bits d 64 32
def dWindow (d : Nat) : Nat := bits d 96 20
def dRegNode (d : Nat) : Nat := bits d 128 9
def dRegFirst (d : Nat) : Nat := bits d 140 20
def dRegCount (d : Nat) : Nat := bits d 160 17

/-- The cache format of a context that is registered, else 0 (R139). -/
def cacheFmt (s : State) (c : Nat) : Nat := match s.seqCtx c with | some x => dCfmt x.desc.toNat | none => 0

/-- Row size, block size, blocks per parcel (R208). -/
def dRb (d : Nat) : Nat := eBytes (dCfmt d) (dDim d)
def dPb (d : Nat) : Nat := (dHkv d + 1) * 2 * dBlock d * dRb d
def dBpp (d : Nat) : Nat := if dPb d = 0 then 0 else 2097152 / dPb d

/-- MAX_POS (R209). -/
def maxPos (d : Nat) : Nat :=
  dRegCount d / dStripes d * dBpp d / dLayers d * dStripes d * dBlock d

/-- The fabric address of a key row (`value` 0) or value row of position `q` (R208). -/
def kvRow (d l g q value : Nat) : Nat :=
  let j := q / dBlock d
  let k := j / dStripes d * dLayers d + l
  let parcel := dRegFirst d + k / max 1 (dBpp d) * dStripes d + j % dStripes d
  let row := (2 * g + value) * dBlock d + q % dBlock d
  nodeBase (dRegNode d) + parcel * 0x200000 + k % max 1 (dBpp d) * dPb d + row * dRb d

/-- The key-value head that a query head reads (R207). -/
def kvHead (d h : Nat) : Nat :=
  if bits d 32 1 = 0 then h / max 1 ((dHq d + 1) / (dHkv d + 1)) else h % (dHkv d + 1)

/-- FP32 nearest 1 ÷ √D. -/
def rsqrtDim (dim : Nat) : Nat :=
  let x := 2 ^ 160 / dim
  let q := isqrt x
  toF32 (.fin false (2 * q + (if q * q * dim = 2 ^ 160 then 0 else 1)) (-81))

def scaleOf (d : Nat) : Nat := if dScale d = 0 then rsqrtDim (dDim d) else dScale d

/-! ## Checks of a descriptor (R206) -/

/-- The values of the fields that R5 and R206 allow, apart from the region's parcels. -/
def seqDescOk (d : Nat) : Bool :=
  [2, 3, 4, 5].contains (dCfmt d) && decide (4 ≤ bits d 41 4 ∧ bits d 41 4 ≤ 8) && decide (bits d 45 3 ≤ 5) &&
  dMask d != 3 && bits d 55 9 == 0 && bits d 116 12 == 0 && bits d 137 3 == 0 && bits d 177 15 == 0 && bits d 227 285 == 0 &&
  decide (1 ≤ dRegCount d ∧ dRegCount d ≤ 65536) &&
  (dHq d + 1) % (dHkv d + 1) == 0 && dRegCount d % dStripes d == 0 && decide (dPb d ≤ 2097152) && maxPos d != 0 &&
  ((dMask d == 2) == (dWindow d != 0))

/-- The region's parcels, when it lies here, are allocated to the partition with a class of key-value or state (R206). -/
def seqRegionOk (s : State) (d : Nat) : Bool :=
  dRegNode d != s.self || (range' (dRegFirst d) (dRegCount d)).all fun p =>
    let e := s.ent p
    e.st != 0 && (e.cls == 1 || e.cls == 2) && e.owner == dPart d

/-! ## Bindings (R204, R211) -/

/-- The contexts bound in a group: of every loaded list, (slot, context). -/
def boundCtxs (s : State) : List Nat :=
  s.groups.flatMap fun g => g.2.lists.flatMap fun l => l.seqBind.map (·.2)

def inFlight (s : State) (c : Nat) : Bool := (boundCtxs s).contains c

/-- LOST: a parcel of the region is lost, where this package keeps the region's directory (R205, R223). -/
def seqLost (s : State) (d : Nat) : Bool :=
  if dRegNode d = s.self then
    s.mem.dir.any fun e => e.2.st == 3 && decide (dRegFirst d ≤ e.1) && decide (e.1 < dRegFirst d + dRegCount d)
  else dRegNode d == s.partner && s.flt.servingPartner &&
    (List.range (dRegCount d)).any fun i => (entOf s s.partner (dRegFirst d + i)).st == 3

/-- The descriptor as SEQ_GET reads it: the RO fields are Devik's (R205). -/
def seqDescRead (s : State) (c : Nat) (x : SeqCtx) : Nat :=
  let d := x.desc.toNat
  bits d 1 191 * 2 + 1 + maxPos d % 2 ^ 32 * 2 ^ 192 + b2n (inFlight s c) * 2 ^ 224 + b2n (seqLost s d) * 2 ^ 225
    + b2n x.migrating * 2 ^ 226

/-- The outcome of R211 and R215's SCOPE for a command on a slot: OK, REFUSED, DENIED. -/
def seqCheck (s : State) (l : CmdList) (slot c layer : Nat) (attn partial' : Bool) (headLast : Nat) : Nat :=
  match s.seqCtx c with
  | none => REFUSED
  | some x =>
    let d := x.desc.toNat
    if (AMap.find l.seqBind slot).any (· != c) ∨ x.migrating ∨ dLayers d ≤ layer ∨ (attn ∧ dHq d < headLast) ∨
        (attn ∧ dScope d = 1 ∧ ! partial') then REFUSED
    else if dPart d ≠ l.part then DENIED
    else OK

/-! ## Reservations (R212, R222) -/

def seqLen (x : SeqCtx) (l : Nat) : Nat := AMap.get 0 x.len l
def seqRes (x : SeqCtx) (l : Nat) : Nat := AMap.get 0 x.res l

/-! ### The partner's mirror of the records (R203, R220)

A record is mirrored while the partner can take it. Log: 69 DEDUCED. -/

def seqMirrors (s : State) : Bool := ! s.mem.partnerDown && ! s.fab.dead.contains s.partner && s.partner != s.self

/-- Tell the partner a context's descriptor; its mirror of the lengths begins at 0. -/
def mirrorSeq (s : State) (c : Nat) : State :=
  match s.seqCtx c with
  | some x => if seqMirrors s then sendMsg s s.partner msgSeq [(14, c), (512, x.desc.toNat)] else s
  | none => if seqMirrors s then sendMsg s s.partner msgSeqGone [(14, c)] else s

/-- Tell the partner one layer's length record, after the rows it covers. -/
def mirrorLen (s : State) (c l : Nat) : State :=
  match s.seqCtx c with
  | some x => if seqMirrors s then sendMsg s s.partner msgSeqLen [(14, c), (10, l), (32, seqLen x l), (32, seqRes x l)] else s
  | none => s

/-- Tell the partner a context whole. -/
def mirrorSeqAll (s : State) (c : Nat) : State :=
  match s.seqCtx c with
  | some x => ((x.len ++ x.res).map (·.1)).eraseDups.foldl (fun s l => mirrorLen s c l) (mirrorSeq s c)
  | none => s

/-- The partner tells of one of its contexts. -/
def takeSeq (s : State) (c desc : Nat) : State :=
  s.modSeq fun q => { q with mirror := AMap.set q.mirror c { desc := BitVec.ofNat 512 desc } }
def takeSeqLen (s : State) (c l len res : Nat) : State :=
  s.modSeq fun q => { q with mirror := AMap.modify {} q.mirror c fun x => { x with
    len := AMap.set x.len l len, res := AMap.set x.res l res } }
def takeSeqGone (s : State) (c : Nat) : State := s.modSeq fun q => { q with mirror := AMap.erase q.mirror c }

/-- Reserve `t` rows of a layer for a command: the first row, or nothing. Rows of an append that is still open are not reserved
again, though a lost one has taken RES back to LEN (R212, R222). Log: 52 DEDUCED. -/
def reserve (s : State) (c l t : Nat) (o : Owner) : Option (Nat × State) :=
  match s.seqCtx c with
  | none => none
  | some x =>
    let r := (s.seqs.resvs.filter fun v => v.ctx == c && v.layer == l).foldl (fun a v => max a (v.first + v.count))
      (max (seqRes x l) (seqLen x l))
    if maxPos x.desc.toNat < r + t ∨ dLayers x.desc.toNat ≤ l then none
    else some (r, mirrorLen ((s.setSeqCtx c { x with res := AMap.set x.res l (r + t) }).modSeq fun q => { q with
      resvs := q.resvs ++ [{ ctx := c, layer := l, first := r, count := t, owner := o }] }) c l)

/-- COUNT and DETAIL of an ATTN or KVAPPEND that ends without its effect (R218): T; for ATTN the length read, the position of token 0
and no poisoned position; for KVAPPEND the row that it had reserved, and the layer's length. What it did not come to is 0. -/
def seqFailFields (s : State) (r : Running) : Running :=
  let first := match r.resv with | some v => v.1 | none => 0
  let len := match s.seqCtx r.ctx with | some x => seqLen x r.layer | none => 0
  let pos : Int := match r.resv, r.lenRead with
    | some v, _ => v.1
    | none, some n => (n : Int) - r.tokens
    | none, none => 0
  { r with count := r.tokens
           detail := if r.opcode = 0x28 then
               pack [(32, r.lenRead.getD 0), (32, unsigned 32 pos), (32, 0), (32, 0), (32, 0), (32, 0xFFFFFFFF)]
             else pack [(32, first), (32, len), (20, 0)] }

/-- A command whose reservation is cancelled ends with REFUSED. -/
def cancelOwner (s : State) (o : Owner) : State :=
  match o with
  | .cmd g e q i => modRun s g e q i fun r =>
      if r.st = 0 then { seqFailFields s r with st := 1, status := REFUSED, resv := none, rowsWritten := false } else r
  | _ => s

/-- An append is lost: its reservation and every later one of the layer are cancelled, and RES returns to LEN (R222). -/
def loseAppend (s : State) (r : Resv) : State :=
  let gone := s.seqs.resvs.filter fun x => x.ctx == r.ctx && x.layer == r.layer && decide (r.first ≤ x.first)
  if ! gone.contains r then s
  else
    let s := s.modSeq fun q => { q with
      resvs := q.resvs.filter fun x => ! gone.contains x
      cancelled := satAdd 32 q.cancelled gone.length }
    let s := match s.seqCtx r.ctx with
      | some x => mirrorLen (s.setSeqCtx r.ctx { x with res := AMap.set x.res r.layer (seqLen x r.layer) }) r.ctx r.layer
      | none => s
    (gone.filter (· != r)).foldl (fun s x => cancelOwner s x.owner) s

/-- Every append of an owner is lost. -/
def loseAppends (s : State) (sel : Owner → Bool) : State :=
  (s.seqs.resvs.filter fun r => sel r.owner).foldl loseAppend s

def ownedBy (g e q i : Nat) : Owner → Bool
  | .cmd a b c d => a == g && b == e && c == q && d == i
  | _ => false

/-! ## Attended positions (R213, R215) -/

/-- A query at position `q` attends key position `k` (R213). -/
def attends (d : Nat) (q : Int) (k : Nat) : Bool :=
  decide (0 ≤ q) &&
  (if dMask d = 0 then true
   else if dMask d = 1 then decide ((k : Int) ≤ q)
   else decide (q - dWindow d < (k : Int)) && decide ((k : Int) ≤ q))

/-- The successor that reads a fenced group's stripe (R215): the first in ascending order from it, modulo 32, that is not
fenced and has a stripe of its own. -/
def successor (s : State) (d n : Nat) : Option Nat :=
  ((List.range 31).map fun i => (n + 1 + i) % 32).find? fun g =>
    ! (s.grp g).fenced && decide ((g + 32 - dStripeBase d) % 32 < dStripes d)

/-- The stripe set of an ATTN on EGn (R215). -/
def stripeSet (s : State) (d g : Nat) : List Nat :=
  if dScope d = 0 then List.range (dStripes d)
  else
    (List.range (dStripes d)).filter fun k =>
      let n := (dStripeBase d + k) % 32
      n == g || ((s.grp n).fenced && successor s d n == some g)

/-- The position blocks of a stripe set that hold an attended position, in order, each with the positions attended. -/
def keyBlocks (d : Nat) (stripes : List Nat) (lo hi : Nat) (q : Int) : List (List Nat) :=
  let first := lo / dBlock d
  ((range' first (hi / dBlock d + 1 - first)).filter fun j => stripes.contains (j % dStripes d)).filterMap fun j =>
    let ks := (range' (j * dBlock d) (dBlock d)).filter fun k => decide (lo ≤ k) && decide (k < hi) && attends d q k
    if ks.isEmpty then none else some ks

/-! ## The arithmetic of attention (R172, R214) -/

/-- The format queries are converted to, and that of probabilities (R214). -/
def queryFmt (cfmt qfmt : Nat) : Nat :=
  if cfmt = fE4M3 ∨ cfmt = fE5M2 then (if qfmt = fE4M3 ∨ qfmt = fE5M2 then qfmt else fE4M3)
  else if qfmt = fBF16 ∨ qfmt = fFP16 then qfmt else fBF16
def probFmt (cfmt : Nat) : Nat := if cfmt = fE4M3 ∨ cfmt = fE5M2 then fE4M3 else fBF16

/-- The state of the recurrence for one (t, h): m, s, o as FP32 codes. -/
structure Part where
  m : Nat := f32ninf
  s : Nat := 0
  o : List Nat := []
deriving DecidableEq, Repr, Inhabited

/-- One block of the recurrence (R172, R214). `rows` gives the key and value codes of each attended position by its index in
the block; `kb` is the array's depth per step; a position that is absent adds nothing. Log: 19 DEDUCED, 22 DEDUCED. -/
def attnBlock (cfmt qf kb scale blockPos dim : Nat) (q : List Nat) (rows : List (Nat × List Nat × List Nat)) (x : Part) : Part :=
  let score (k : List Nat) : Nat := fMul (accumulate kb (q.zipWith (fun a b => product qf a none cfmt b none) k)) scale
  let xs := rows.map fun r => (r.1, score r.2.1, r.2.2)
  let m2 := xs.foldl (fun a y => fMax a y.2.1) x.m
  let ps := xs.map fun y => (y.1, fExp (fSub y.2.1 m2), y.2.2)
  let f := fExp (fSub x.m m2)
  let psum := toF32 (Num.sum (ps.map fun y => f32 y.2.1))
  let pf := probFmt cfmt
  let conv := ps.map fun y => (y.1, encElem pf false none (f32 y.2.1), y.2.2)
  let col (i : Nat) : Nat :=
    accumulate kb ((List.range blockPos).map fun k =>
      match conv.find? (·.1 == k) with
      | some y => product pf y.2.1 none cfmt (y.2.2.getD i 0) none
      | none => .fin false 0 0)
  { m := m2, s := fAdd (fMul x.s f) psum, o := (List.range dim).map fun i => fAdd (fMul (x.o.getD i 0) f) (col i) }

/-- MERGE of two partial entries (R216); the products are rounded before they are added. -/
def mergePart (a b : Part) : Part :=
  let m := fMax a.m b.m
  if m = f32ninf then { m := f32ninf, s := 0, o := a.o.map fun _ => 0 }
  else
    let fa := fExp (fSub a.m m)
    let fb := fExp (fSub b.m m)
    { m := m, s := fAdd (fMul a.s fa) (fMul b.s fb)
      o := a.o.zipWith (fun x y => fAdd (fMul x fa) (fMul y fb)) b.o }

/-- An entry of a partial output (R172). -/
def partBytes (x : Part) : Bytes :=
  leBytes 4 x.m ++ leBytes 4 x.s ++ List.replicate 56 0 ++ x.o.flatMap (leBytes 4)

def partOf (d : Bytes) (dim : Nat) : Part :=
  { m := leNat (slice d 0 4), s := leNat (slice d 4 4), o := unpackElems fFP32 (slice d 64 (4 * dim)) dim }

/-- FINISH, before conversion (R216): o ÷ s, or zero where s is 0. -/
def finishPart (x : Part) : List Nat :=
  if bits x.s 0 31 = 0 then x.o.map fun _ => 0 else x.o.map fun o => fNorm o x.s

end Sys2Proof.Machine
end

