-- ==== Sys2Proof/Machine/Lists.lean ====
section
/-! DEFINITION. Command lists at work (R113–R119, R130–R138, R144–R147): starting a queue's commands, their reads and writes,
completion records, halting and release, loads, dispatch, slices, and the control opcodes (R153–R159, R274). -/
namespace Sys2Proof.Machine

/-! ## Queues and their commands -/

/-- A group issues commands: stacks serve, it is not fenced, has power, the ladder does not stop it, the straps agree (R18, R429, R433, R448,
R457). -/
def groupRuns (s : State) (g : Nat) : Bool :=
  decide (4 ≤ s.flt.phase ∧ s.flt.phase ≤ 6) && ! (s.grp g).fenced && ! s.power.epo && decide (s.power.ladder < 4) && ! strapMismatch s

/-- A sequencer die serves: either serves every group alone (R119). -/
def sequencerServes (s : State) : Bool := ! (s.isUnitFenced 8 0 && s.isUnitFenced 8 1)

/-- The scalar engine's own commands, whose steps the protocol engines of a sequencer die carry out (R113, R119). -/
def isProtocolOp (op : Nat) : Bool := op == 0x30 || op == 0x31 || op == 0x38

/-- A started command has issued all it will issue, so that the next of its queue may start (R146, R262). -/
def runIssued (r : Running) : Bool :=
  decide (1 ≤ r.st) ||
  (r.phase == 2 && r.opcode != 0x28 && r.opcode != 0x22 && ! (r.opcode == 0x29 && r.denied.isSome))

/-- The command word's opcode lets it start behind what its queue has started: a WAIT behind anything but a control command, what
is no control command behind commands that have issued all they will, the others behind none (R146, R269).
Log: 32 DEDUCED, 33 DESIGN CHOICE, 34 DEDUCED. -/
def startOk (q : HwQueue) (op : Nat) : Bool :=
  ! q.halted && q.started.all (fun r => (op == 0x02 || runIssued r) && ! isControlOp r.opcode) &&
  (! isControlOp op || op == 0x02 || q.started.isEmpty)

/-- The list that holds a queue. -/
def queueList (x : Group) (e q : Nat) : Option CmdList := x.list? (x.que e q).list

/-- The command that a queue works on, when its opcode is `op`: a started one that is not through, or the next of its
FIFO. -/
def current (s : State) (g e q op : Nat) : Option (CmdList × Running × Bool) :=
  let x := s.grp g
  let y := x.que e q
  match queueList x e q with
  | none => none
  | some l =>
    match (if op = 0x02 then none else y.started.find? fun r => ! runIssued r && r.phase != 9) with
    | some r => if r.opcode = op then some (l, r, false) else none
    | none =>
      match y.fifo with
      | [] => none
      | i :: _ => if cOp (cmdAt l i) = op ∧ startOk y op then some (l, { idx := i, opcode := op }, true) else none

/-- Move the head of a queue's FIFO to its started commands. -/
def beginRun (s : State) (g e q : Nat) (r : Running) : State :=
  s.modGrp g fun x => x.setQue e q (let y := x.que e q
    { y with fifo := y.fifo.drop 1, started := y.started ++ [r] })

/-- Put a command that cannot take effect yet back at the head of its queue. -/
def unbegin (s : State) (g e q i : Nat) : State :=
  s.modGrp g fun x => x.setQue e q (let y := x.que e q
    { y with fifo := i :: y.fifo, started := y.started.filter fun r => r.idx != i })

/-- The queue holds its engine's slice (R115). -/
def holdsSlice (s : State) (g e q : Nat) : Bool := AMap.get 0 (s.grp g).sliceQ e == q + 1

/-- The slice of an engine has ended: SLICE_ARBITRATION gives the next (R115). -/
def endSlice (s : State) (g e : Nat) : State := s.modGrp g fun x => { x with sliceQ := AMap.erase x.sliceQ e }

/-- Work on a queue's current command of an opcode, for one slice: `f` gets the list, the started command and its word. A control
command needs no slice of its queue's engine (R113, R115). -/
def runCommand (s : State) (g e q op : Nat) (f : State → CmdList → Running → Nat → State) : State :=
  if ! groupRuns s g ∨ (! isControlOp op ∧ ! holdsSlice s g e q) ∨ (isProtocolOp op ∧ ! sequencerServes s) then s
  else
    match current s g e q op with
    | none => s
    | some (l, r, new) =>
      let s := f (if new then beginRun s g e q r else s) l r (cmdAt l r.idx)
      if isControlOp op then s else endSlice s g e

/-- A started command, as it stands. -/
def theRun (s : State) (g e q i : Nat) : Running := (((s.grp g).que e q).started.find? fun r => r.idx == i).getD {}

/-- A command reaches its completion event with a status. -/
def endRun (s : State) (g e q i status : Nat) (f : Running → Running := id) : State :=
  modRun s g e q i fun r => { f r with st := 1, status := status }

/-! ## Reads and writes of commands -/

/-- Chunks that a command comes to hold by reading a range, wherever it is stored (R246). -/
def addHolds (s : State) (g e q i addr len : Nat) : State :=
  let x := s.grp g
  let new := if x.spec.isEmpty then [] else (cutRange 4096 4096 (len / 2048 + 3) addr len).flatMap fun y =>
    holdsOf x (keyOf s (addrNode y.1) (addrOff y.1)) y.2
  if new.isEmpty then s
  else modRun s g e q i fun r =>
    let all := (r.holds ++ new).eraseDups
    let last := ((x.spec.filter fun t => all.contains t.ref).getLast?).map (·.ref)
    { r with holds := all
             invalid := r.invalid || x.spec.any fun t => t.failed && all.contains t.ref
             gen := match last with | some k => k.opgen * 65536 + k.group | none => r.gen }

/-- The pieces of a command's source ranges that other places must send, and that it has not asked for. -/
def wantedPieces (s : State) (r : Running) (ranges : List (Nat × Nat × Bool)) : List (Nat × Nat × Bool) :=
  (awayPieces s ranges).filter fun p => ! r.reqd.contains (p.1, p.2.1)

/-- Requests in one slice of a DMA engine (R117). -/
def dmaSlice : Nat := 16

/-- Ask for pieces until the engine's read slots are full (R120), or one must wait for its tile: held (R86), or on its way here,
since the access fetches a tile of this node that is held far away (R90). -/
def askPieces (s : State) (g e q i c op : Nat) : List (Nat × Nat × Bool) → State
  | [] => s
  | p :: ps =>
    let x := demandRange s g p.1 p.2.1
    if x.2 ∨ readRoom x.1 g e q = 0 ∨ rangeHeld x.1 (x.1.ctx c).part p.1 p.2.1 false then x.1
    else
      let s := modRun x.1 g e q i fun r => { r with reqd := r.reqd ++ [(p.1, p.2.1)] }
      askPieces (issueRead s g e q i c p.1 p.2.1 p.2.2 op) g e q i c op ps

/-- The writes of some ranges fetch far tiles of this node on demand: the fetches they start, and whether one of them waits (R90). -/
def demandWrites (s : State) (g : Nat) (dst : List (Nat × Nat)) : State × Bool :=
  dst.foldl (fun x y => let z := demandRange x.1 g y.1 y.2; (z.1, x.2 || z.2)) (s, false)

/-- How a command refused before it began its results ends: `fail` adds what its record then says. -/
abbrev FailFields := Running → Running

/-- Bring a command's sources here: `k` runs in the last of the command's `n` slices, once every piece has come, nothing holds the
ranges, and no tile of its destinations is on its way. Ranges are (address, length, volatile). A refusal ends the command with its
status. Log: 236 DESIGN CHOICE. -/
def fetchThen (s : State) (g e q : Nat) (l : CmdList) (r : Running) (op n : Nat) (ranges : List (Nat × Nat × Bool))
    (dst : List (Nat × Nat)) (k : State → Running → State) (fail : FailFields := id) : State :=
  let s := modRun s g e q r.idx fun r => { r with phase := if r.phase = 0 then 1 else r.phase }
  let wanted := wantedPieces s r ranges
  let s := askPieces s g e q r.idx l.ctx op (if e = 3 then wanted.take dmaSlice else wanted)
  let r := theRun s g e q r.idx
  if r.outstanding ≠ 0 then s
  else if r.denied.isSome then endRun s g e q r.idx r.badStatus fail
  else if ! (wantedPieces s r ranges).isEmpty then s
  else if ranges.any (fun x => rangeHeld s l.part x.1 x.2.1 false || engineConflict s g e x.1 x.2.1) then s
  else
    let x := demandWrites s g dst
    if x.2 then x.1
    else if r.slices + 1 < n then modRun x.1 g e q r.idx fun r => { r with slices := r.slices + 1 }
    else k x.1 r

/-- Read a range whose pieces have all come, holding the chunks it touches. -/
def readFor (s : State) (g e q i part addr len : Nat) (vol : Bool) : State × Bytes × List Nat × Option Nat :=
  let s := addHolds s g e q i addr len
  gather s g (theRun s g e q i) part addr len vol

/-- A range lies in the scratchpad window of a group of this node, from its first byte on. -/
def inSpad (s : State) (g addr : Nat) : Bool :=
  decide (s.base + spadBase g ≤ addr) && decide (addr < s.base + spadBase g + 0x2000000)

/-- Lines of the group's own scratchpad that a write covers are listed under the chunks the command holds (R246). -/
def writeFor (s : State) (g e q i c addr : Nat) (d : Bytes) (bad : Nat → Bool) (op : Nat) : State :=
  let refs := (theRun s g e q i).holds
  let s := if refs.isEmpty ∨ ! inSpad s g addr then s
    else s.modGrp g fun x => listLines x refs (atomsOf (addrOff addr) d.length)
  writeRun s g (.cmd g e q i) c addr d bad op

/-- Bytes read from an address on, where the command also writes some of them: within one command reads and writes come in no
stated order (R170, R261), so those bytes are free. Log: 49 DEDUCED. -/
def blur (s : State) (d : Bytes) (addr : Nat) (dst : List (Nat × Nat)) : State × Bytes :=
  let near := dst.filter fun x => decide (x.1 < addr + d.length) && decide (addr < x.1 + x.2)
  if near.isEmpty then (s, d)
  else
    let (v, s) := s.draw
    (s, (List.range d.length).map fun i =>
      if near.any fun x => decide (x.1 ≤ addr + i) && decide (addr + i < x.1 + x.2) then BitVec.ofNat 8 (v / 256 ^ i)
      else d.getD i 0)

/-- The runs of an operand as read: address and element codes of each, and the atoms that came poisoned. -/
structure Loaded where
  runs : List (Nat × List Nat) := []
  bad : List Nat := []
  denied : Option Nat := none
deriving Inhabited

/-- Read runs of packed elements. `dst` are the runs the command writes. -/
def loadRuns (s : State) (g e q i part fmt : Nat) (vol : Bool) (runs dst : List (Nat × Nat)) : State × Loaded :=
  runs.foldl (fun (s, x) y =>
    let (s, d, bad, den) := readFor s g e q i part y.1 y.2 vol
    let (s, d) := blur s d y.1 dst
    (s, { runs := x.runs ++ [(y.1, unpackElems fmt d (if fmtBits fmt = 0 then 0 else y.2 * 8 / fmtBits fmt))]
          bad := x.bad ++ bad
          denied := x.denied.orElse fun _ => den })) (s, {})

/-- The run of element (r, c), and the element's index in it (R150). -/
def runIndex (d : Desc) (rows r c : Nat) : Nat × Nat :=
  if d.layout = 0 then (r, c) else if d.layout = 1 then (c, r) else (c / 128 * rows + r, c % 128)

def Loaded.code (x : Loaded) (d : Desc) (rows r c : Nat) : Nat :=
  let (n, k) := runIndex d rows r c
  (x.runs.getD n (0, [])).2.getD k 0

/-- Element (r, c) came from a poisoned atom. -/
def Loaded.isBad (x : Loaded) (d : Desc) (rows r c : Nat) : Bool :=
  ! x.bad.isEmpty &&
  let (n, k) := runIndex d rows r c
  let w := fmtBits d.fmt
  let a := (x.runs.getD n (0, [])).1
  x.bad.contains ((a + k * w / 8) / 64) || x.bad.contains ((a + (k * w + w - 1) / 8) / 64)

/-- An operand and its scales. -/
structure Operand where
  d : Desc := {}
  rows : Nat := 0
  kRows : Bool := false
  el : Loaded := {}
  sc : Loaded := {}
deriving Inhabited

/-- Read an operand, and its scale tensor when it has one (R151). -/
def loadOperand (s : State) (g e q i part : Nat) (d : Desc) (rows cols : Nat) (kRows : Bool) (dst : List (Nat × Nat)) :
    State × Operand :=
  let (s, el) := loadRuns s g e q i part d.fmt d.vol (descRuns d rows cols) dst
  if d.scaled then
    let (x, r, c) := scaleDesc d rows cols kRows
    let (s, sc) := loadRuns s g e q i part fE8M0 d.vol (descRuns x r c) dst
    (s, { d := d, rows := rows, kRows := kRows, el := el, sc := sc })
  else (s, { d := d, rows := rows, kRows := kRows, el := el })

def Operand.denied (x : Operand) : Option Nat := x.el.denied.orElse fun _ => x.sc.denied
def Operand.anyBad (x : Operand) : Bool := ! x.el.bad.isEmpty || ! x.sc.bad.isEmpty
def Operand.code (x : Operand) (r c : Nat) : Nat := x.el.code x.d x.rows r c

/-- The element's place in the scale tensor. -/
def Operand.scalePlace (x : Operand) (r c : Nat) : Nat × Nat := if x.kRows then (r / 32, c) else (r, c / 32)
def Operand.scaleRows (x : Operand) : Nat := if x.kRows then ceilDiv x.rows 32 else x.rows

/-- The scale code of an element. -/
def Operand.scale (x : Operand) (r c : Nat) : Option Nat :=
  if x.d.scaled then
    let (a, b) := x.scalePlace r c
    some (x.sc.code { x.d with fmt := fE8M0 } x.scaleRows a b)
  else none

def Operand.isBad (x : Operand) (r c : Nat) : Bool :=
  x.anyBad && (x.el.isBad x.d x.rows r c ||
    (x.d.scaled && let (a, b) := x.scalePlace r c
                   x.sc.isBad { x.d with fmt := fE8M0 } x.scaleRows a b))

/-- An operand's ranges, to be fetched. -/
def operandRanges (d : Desc) (rows cols : Nat) (kRows : Bool) : List (Nat × Nat × Bool) :=
  (operandRuns d rows cols kRows).map fun r => (r.1, r.2, d.vol)

/-- Every write of a command is issued: it completes once each is accepted (R146, R259). -/
def writesIssued (s : State) (g e q i status : Nat) (f : Running → Running := id) : State :=
  modRun s g e q i fun r => runSettled { f r with phase := 2, status := status }

/-- A counter slot's address: of any group control window of a Devik node. -/
def isCtrSlot (addr : Nat) : Bool :=
  match winOf (addrOff addr) with
  | .gcw _ o => decide (o < 0x8000) && o % 8 == 0 && decide (8 ≤ addrNode addr % 16)
  | _ => false

/-- One increase of a counter slot by its address (R126, R155). -/
def signalTo (s : State) (g : Nat) (o : Owner) (c addr inc op : Nat) : State :=
  if ! isCtrSlot addr then refuseOwned s g o c (s.ctx c).part addr op
  else writePiece s g o c addr (leBytes 8 (inc * 2 ^ 32)) (fun _ => false) op

/-! ## Completion records (R136–R138, R178, R179) -/

/-- A record without its SEQ (R137). Log: 37 DEDUCED, 38 DEDUCED, 54 DEDUCED. -/
def recordWord (l : CmdList) (status op queue engine idx count gen detail : Nat) (naninf invalid part aborted : Bool)
    (frame tick nanRow nanCol : Nat) : Nat :=
  pack [(8, status), (8, op), (4, queue), (2, engine), (2, 0), (1, b2n naninf), (1, b2n invalid), (1, b2n part),
        (1, b2n aborted), (1, 0), (3, 0), (32, 0), (16, l.id), (16, idx), (48, frame), (14, tick), (2, 0), (16, nanRow),
        (16, nanCol), (32, count), (32, gen), (256, detail)]

/-- SEQ, and FINAL. -/
def stampRecord (w seqNo : Nat) (final : Bool) : Nat := w + seqNo % 2 ^ 32 * 2 ^ 32 + b2n final * 2 ^ 28

/-- Where the next record of a list goes. -/
def ringSlot (l : CmdList) : Nat := l.ringAddr + l.seqNo % 2 ^ l.ringLog2 * 64

/-- Write a record that no command waits for to its ring: a refusal, whenever it comes, is a fault of the group (R138). -/
def writeRecord (s : State) (g : Nat) (l : CmdList) (addr w : Nat) : State :=
  writePiece s g (.ring g l.ctx l.part) l.ctx addr (leBytes 64 w) (fun _ => false) 0

/-- Push a record to HOSTQ; DETAIL is zeroed while CONF is set (R138, R402). -/
def pushRecord (s : State) (l : CmdList) (w : Nat) : State :=
  if l.hostqEn then pushQueue s l.hostq 0 (if s.host.conf then w % 2 ^ 256 else w) else s

def modList (s : State) (g id : Nat) (f : CmdList → CmdList) : State :=
  s.modGrp g fun x => { x with lists := x.lists.map fun l => if l.id == id then f l else l }

/-- Statuses that halt a list (R178). -/
def halting (op status : Nat) : Bool := status != OK && status != POISONED && op != 0x22

/-- The chunks a command holds all have verdicts: none waits, or one failed (R246). -/
def verdictsKnown (x : Group) (r : Running) : Bool :=
  r.invalid || r.holds.all fun h => match specOf x h with | none => true | some t => t.failed

/-- A command derived from a chunk that failed. -/
def isInvalid (x : Group) (r : Running) : Bool :=
  r.invalid || r.holds.any fun h => match specOf x h with | none => false | some t => t.failed

/-! ## Halting (R134, R135, R159) -/

/-- Commands of a list that wait in its FIFOs or were never dispatched, and WAITs that hold a queue. -/
def unstarted (x : Group) (l : CmdList) : Nat :=
  l.cmds.length - l.next + sumBy (fun q => if q.2.list = l.id then q.2.fifo.length +
    q.2.started.countP (fun r => (r.opcode == 2 || r.opcode == 0x31) && r.st == 0) else 0) x.queues

/-- Halt a list: nothing more is dispatched, what has not started is discarded, waits end, its appends are lost and end with
REFUSED (R222).
`fin`: the record that becomes the final one. An abort also stops what runs (R135). Log: 35 DEDUCED. -/
def haltList (s : State) (g id : Nat) (fin : Option FinalRec) (aborted : Bool) : State :=
  match (s.grp g).list? id with
  | none => s
  | some l =>
    if l.halting then
      (if aborted then stopRuns s g id else s)
    else
      let d := unstarted (s.grp g) l
      let s := modList s g id fun l => { l with
        halting := true, aborted := aborted, final := fin, discarded := d, next := l.cmds.length }
      let s := s.modGrp g fun x => { x with queues := AMap.mapVals (fun _ q =>
        if q.list = id then { q with
          halted := true
          fifo := []
          started := q.started.filter fun r => ! ((r.opcode == 2 || r.opcode == 0x31) && r.st == 0) } else q) x.queues }
      let mine : Owner → Bool := fun o => match o with
        | .cmd g' e q _ => g' == g && ((s.grp g).que e q).list == id
        | _ => false
      let lost := s.seqs.resvs.filter fun r => mine r.owner
      let s := loseAppends s mine
      if aborted then stopRuns s g id else lost.foldl (fun s r => cancelOwner s r.owner) s
where
  /-- Matrix, vector and DMA commands that still have work to issue stop, and keep only the accesses already issued (R135); the
  scalar sequencer's commands finish (R134). -/
  stopRuns (s : State) (g id : Nat) : State :=
    let stop (r : Running) : Running :=
      if ! runIssued r ∧ ! isControlOp r.opcode ∧ ! isProtocolOp r.opcode then { r with phase := 9 } else r
    s.modGrp g fun x => { x with queues := AMap.mapVals (fun _ q =>
      if q.list = id then { q with started := q.started.map stop } else q) x.queues }

/-- LIST_ABORT by the list's own partition (R135); reserved bits make it no write (R5). -/
def doListAbort (s : State) (g part v : Nat) : State :=
  let s := s.modGrp g fun x => { x with abortReqs := x.abortReqs.erase (part, v) }
  match (s.grp g).list? (v % 65536) with
  | none => s
  | some l => if v ≥ 65536 ∨ l.part ≠ part ∨ l.checking ∨ (s.grp g).fenced then s else haltList s g l.id none true

/-! ## Completion (R147, R178, R179, R268) -/

/-- Two ranges share a byte. -/
def rangesMeet (a n b m : Nat) : Bool := decide (0 < n) && decide (0 < m) && decide (a < b + m) && decide (b < a + n)

/-- How many items of `w` bits in some runs have bytes that were not written. -/
def lostItems (r : Running) (w : Nat) (runs : List (Nat × Nat)) : Nat :=
  if r.lostAt.isEmpty then 0
  else sumBy (fun x => (List.range (x.2 * 8 / w)).countP fun i => r.lostAt.any fun y =>
    decide (y.1 < x.1 + (i * w + w + 7) / 8) && decide (x.1 + i * w / 8 < y.1 + y.2)) runs

/-- The runs of block `t` of an M × N result (R150, R161). -/
def blockRuns (d : Desc) (m n mb t : Nat) : List (Nat × Nat) :=
  let bn := ceilDiv n 128
  let j := t % bn
  let w := min 128 (n - 128 * j)
  ((range' (t / bn * mb) mb).filter (· < m)).map fun i =>
    if d.layout = 2 then ((d.addr + j * d.ld + i * eBytes d.fmt w) % 2 ^ 56, eBytes d.fmt w)
    else ((d.addr + i * d.ld + eBytes d.fmt (128 * j)) % 2 ^ 56, eBytes d.fmt w)

/-- The blocks of a matrix product's result that were not written whole. -/
def lostBlocks (r : Running) (c : Nat) : Nat :=
  if r.lostAt.isEmpty then 0
  else
    let o := descAt c 320
    let (m, n) := (bits c 448 16 + 1, bits c 464 16 + 1)
    let mb := (shapeFor (pairMode (descAt c 64).fmt (descAt c 192).fmt) m (bits c 496 3)).1
    (List.range (ceilDiv m mb * ceilDiv n 128)).countP fun t => (blockRuns o m n mb t).any fun x =>
      r.lostAt.any fun y => rangesMeet x.1 x.2 y.1 y.2

/-- The runs of a vector command's result, and the bits of an item of it (R164–R166). -/
def vectorRuns (c : Nat) : Nat × List (Nat × Nat) :=
  let o := descAt c 320
  let (rows, cols) := (bits c 448 16 + 1, bits c 464 16 + 1)
  if cOp c = 0x19 then (32, [(o.addr, 4 * rows)])
  else if bits c 480 8 = 0x10 then (32, (List.range rows).map fun i => ((o.addr + i * o.ld) % 2 ^ 56 + 64, 4 * cols))
  else (fmtBits o.fmt, descRuns { o with scaled := false } rows cols)

/-- COUNT and DETAIL that are formed at completion (R179). -/
def completionFields (s : State) (c : Nat) (r : Running) : State × Nat × Nat :=
  if r.opcode = 2 then
    let (v, s) := s.draw
    (s, r.count, bits c 64 12 + v % 2 ^ 20 * 2 ^ 12)
  else if r.opcode = 3 then
    let n := if bitAt c 76 then bits c 77 5 + 1 else 1
    (s, n - r.failures, r.denied.getD 0)
  else if r.opcode = 0x20 ∨ r.opcode = 0x21 then (s, r.count - sumBy (·.2) r.lostAt, r.denied.getD r.detail)
  else if r.opcode = 0x10 ∨ r.opcode = 0x11 then (s, r.count - lostBlocks r c, r.detail)
  else if r.opcode = 0x18 ∨ r.opcode = 0x19 then
    let x := vectorRuns c
    (s, r.count - lostItems r x.1 x.2, r.detail)
  else if r.opcode = 0x22 then
    (s, r.tiles, pack [(32, (ndOf c).tiles), (64, r.fault), (8, r.respCode)])
  else (s, r.count, r.detail)

/-- What follows an accepted record: HOSTQ, then CTR, then RSIG (R147, R168, R268). -/
def afterRecord (s : State) (g e q : Nat) (l : CmdList) (r : Running) (recorded notify ok : Bool) : State :=
  let c := cmdAt l r.idx
  let s := if recorded ∧ notify then pushRecord s l r.record else s
  let s := if cCtrEn c ∧ ok then increase s g (cCtr c) l.part 1 else s
  if r.opcode = 0x21 ∧ bitAt c 352 ∧ ok then
    let s := modRun s g e q r.idx fun r => { r with st := 3, denied := none }
    signalTo s g (.cmd g e q r.idx) l.ctx (bits c 288 56) 1 0x21
  else s

/-- Take a command out of its queue once nothing of it is outstanding. -/
def leaveQueue (s : State) (g e q i : Nat) : State :=
  if (theRun s g e q i).outstanding ≠ 0 then s
  else s.modGrp g fun x => x.setQue e q (let y := x.que e q
    { y with started := y.started.filter fun r => r.idx != i })

/-- Count a completed command (R179, R224). -/
def countDone (s : State) (g id op : Nat) : State :=
  let s := if op = 0x28 then s.modSeq fun q => { q with attnDone := satAdd 32 q.attnDone 1 }
    else if op = 0x29 then s.modSeq fun q => { q with appendDone := satAdd 32 q.appendDone 1 } else s
  modList s g id fun l => { l with completed := l.completed + 1 }

/-- The status of a command whose accesses have all ended. An ATTN ends its work with its last output; the fate of writes that were
then still on their way is known by now (R178, R510). -/
def endStatus (r : Running) : Nat :=
  if r.opcode ≠ 0x28 ∨ (r.status ≠ OK ∧ r.status ≠ POISONED) then r.status
  else if r.denied.isSome then r.badStatus
  else if r.wrotePoison then POISONED else r.status

/-- COMMAND_COMPLETE: the record is written, then CTR increased; a halting status halts the list, and its record waits for
the release. A record for a ring elsewhere is sent, and the rest follows its reply. -/
def doComplete (s : State) (g e q i : Nat) : State :=
  let x := s.grp g
  match queueList x e q, (x.que e q).started.find? (fun r => r.idx == i) with
  | some l, some r =>
    let c := cmdAt l i
    if x.fenced ∨ s.power.epo ∨ r.outstanding ≠ 0 then s
    else if r.st = 1 then
      if ! verdictsKnown x r then s
      else
        let inv := isInvalid x r
        -- a COLL_JOIN has no status POISONED (R178)
        let status := if inv ∧ endStatus r = OK ∧ r.opcode ≠ 0x30 then POISONED else endStatus r
        let part := r.opcode == 0x22 && decide (r.tiles < (ndOf c).tiles)
        let (s, count, detail) := completionFields s c r
        let (t, s) := s.drawTick
        let w := recordWord l status r.opcode q e i count r.gen detail r.naninf inv part false s.time.lfc t r.nanRow r.nanCol
        let trap := r.opcode == 5
        let ok := status == OK || status == POISONED
        let notify := cNotify c || trap
        let halts := halting r.opcode status || (trap && bitAt c 96)
        if halts ∧ ! l.halting then
          let s := countDone s g l.id r.opcode
          let s := leaveQueue s g e q i
          haltList s g l.id (some { word := w, notify := notify, ctr := if ok ∧ cCtrEn c then some (cCtr c) else none }) false
        else if cRec c ∨ status ≠ OK ∨ r.naninf ∨ trap then
          let w := stampRecord w l.seqNo false
          let addr := ringSlot l
          if engineConflict s g e addr 64 ∨ rangeHeld s l.part addr 64 true then s
          else
            let s := modList s g l.id fun l => { l with seqNo := l.seqNo + 1 }
            let s := modRun s g e q i fun r => { r with st := 2, status := status, record := w, denied := none }
            let s := writePiece s g (.cmd g e q i) l.ctx addr (leBytes 64 w) (fun _ => false) r.opcode
            finish s l (theRun s g e q i) notify
        else
          let s := afterRecord s g e q l r false notify ok
          leaveQueue (countDone s g l.id r.opcode) g e q i
    else if r.st = 2 then finish s l r (cNotify c || r.opcode == 5)
    else if r.st = 3 then leaveQueue s g e q i
    else s
  | _, _ => s
where
  /-- The ring has taken or refused the record. -/
  finish (s : State) (l : CmdList) (r : Running) (notify : Bool) : State :=
    if r.outstanding ≠ 0 then s
    else
      let s := if r.denied.isSome then ringFault s g l.ctx l.part (r.denied.getD 0) else s
      let s := afterRecord s g e q l r r.denied.isNone notify (r.status == OK || r.status == POISONED)
      leaveQueue (countDone s g l.id r.opcode) g e q i

/-! ## Release (R134) -/

/-- Everything that ran in a list has ended. -/
def listQuiet (x : Group) (id : Nat) : Bool :=
  x.queues.all fun q => q.2.list != id || q.2.started.all fun r =>
    (r.phase == 9 && r.st == 0 && r.outstanding == 0) || (r.st == 2 && r.opcode == 0x3F)

/-- Free what a list held. Log: 53 DEDUCED. -/
def freeList (s : State) (g id : Nat) : State :=
  let gone := (s.grp g).joins.filter fun j => j.2.list == id
  let s := gone.foldl (fun s j => clearSpec s g j.2.group j.2.opgen) s
  s.modGrp g fun x => { x with
    lists := x.lists.filter fun l => l.id != id
    queues := x.queues.filter fun q => q.2.list != id
    joins := x.joins.filter fun j => j.2.list != id }

/-- The final record of an aborted list that no command of it halted: the fields R135 does not state are free.
Log: 36 DEDUCED. -/
def abortRecord (s : State) (l : CmdList) : State × FinalRec :=
  let (t, s) := s.drawTick
  let (v, s) := s.draw
  (s, { word := recordWord l OK (bits v 0 8) (bits v 8 4) (bits v 12 2) (bits v 16 16) (bits v 32 32) 0 (bits v 64 256) false false
          false true s.time.lfc t 0 0 })

/-- LIST_RELEASE: the final record is written and everything the list held is freed. -/
def doListRelease (s : State) (g id : Nat) : State :=
  let x := s.grp g
  match x.list? id with
  | none => s
  | some l =>
    if ! l.halting ∨ x.fenced ∨ s.power.epo ∨ ! listQuiet x id then s
    else if l.finalOut = 0 then
      let (s, f) : State × FinalRec := match l.final with
        | some f => (s, f)
        | none => abortRecord s l
      let w := if f.halt then f.word + l.completed % 2 ^ 32 * 2 ^ 192 + l.discarded % 2 ^ 32 * 2 ^ 256 else f.word
      let w := if l.aborted ∧ ! bitAt w 27 then w + 2 ^ 27 else w
      let w := stampRecord w l.seqNo true
      let i := l.cmds.length - 1
      let h := cmdAt l i
      let (e, q) := (cEngine h, cQueue h)
      let s := modList s g id fun l => { l with
        finalOut := 1, finalWord := w, final := some f, seqNo := l.seqNo + 1 }
      let s := s.modGrp g fun x => x.setQue e q (let y := x.que e q
        { y with started := y.started.filter (fun r => r.phase != 9) ++ [{ idx := i, opcode := 0x3F, st := 2 }] })
      let s := writePiece s g (.cmd g e q i) l.ctx (ringSlot l) (leBytes 64 w) (fun _ => false) 0x3F
      finish s e q i f w
    else
      let i := l.cmds.length - 1
      let h := cmdAt l i
      finish s (cEngine h) (cQueue h) i (l.final.getD {}) l.finalWord
where
  /-- The ring has taken or refused the final record. -/
  finish (s : State) (e q i : Nat) (f : FinalRec) (w : Nat) : State :=
    let r := theRun s g e q i
    match (s.grp g).list? id with
    | none => s
    | some l =>
      if r.outstanding ≠ 0 then s
      else
        let s := if r.denied.isSome then ringFault s g l.ctx l.part (r.denied.getD 0) else s
        let s := if f.notify ∧ r.denied.isNone then pushRecord s l w else s
        let s := match f.ctr with | some c => increase s g c l.part 1 | none => s
        freeList s g id

/-! ## Loading (R130–R133, R141–R143, R384) -/

/-- What a front end can read of a list. Log: 29 DEDUCED. -/
inductive ListRead
  /-- The bytes, and whether every one could be read. -/
  | bytes (d : Bytes) (ok : Bool)
  /-- They are on their way. -/
  | wait (s : State)
deriving DecidableEq, Inhabited

/-- Read `n` bytes of a list under a context (R29–R43); bytes elsewhere are fetched first. -/
def readList (s : State) (g c addr n : Nat) : State × ListRead :=
  let f : FrontEnd := AMap.get {} (s.grp g).fes addr
  let part := (s.ctx c).part
  let away := awayPieces s [(addr, n, false)]
  if f.outstanding ≠ 0 then (s, .wait s)
  else if ! away.isEmpty ∧ f.asked < n ∧ ! f.bad then
    if away.any fun p => rangeHeld s part p.1 p.2.1 false then (s, .wait s)
    else
      let s := s.modGrp g fun x => { x with fes := AMap.set x.fes addr { f with asked := n } }
      (s, .wait (away.foldl (fun s p => readPiece s g (.frontEnd g addr) c p.1 p.2.1 false opRD) s))
  else if rangeHeld s part addr n false then (s, .wait s)
  else
    let (s, d, bad, den) := gather s g { fetched := f.cells } part addr n true
    let s := match den with
      | some a => noteRefusal s (12 + g / 8) (refusalCtx s c a) a part opRD
      | none => s
    (s, .bytes d (bad.isEmpty && den.isNone && ! f.bad))

/-- The context under which the header of a list is read, before the list's own context is known: the lowest that is valid, of the
loader's partition or, for the host, of one of HOST_PARTS, and reaches the header; for the host and a list here, the one that the list
names. Log: 27 DEDUCED. -/
def headerCtx (s : State) (loader : Option Nat) (addr : Nat) : Nat :=
  let named : Nat := match placeOf s addr with
    | .here node off => bits (leNat (Mem.readBytes s.mem.cells (keyOf s node off + 64) 8)) 0 12
    | _ => noCtx
  let fits (c : Nat) : Bool := (s.ctx c).valid &&
    (match loader with | some p => (s.ctx c).part == p | none => s.host.hostParts.testBit (s.ctx c).part) &&
    (reach s c addr 128 .rd).isSome && (match placeOf s addr with | .host _ => (s.ctx c).hostwin | _ => true)
  if loader.isNone ∧ named ≠ noCtx then named
  else ((s.xlat.ctxs.map (·.1)).find? fits).getD noCtx

/-- The queues a declaration names: engine × 16 + queue. -/
def Decl.queues (d : Decl) : List Nat := (List.range 64).filter fun k => (d.masks.getD (k / 16) 0).testBit (k % 16)

/-- A declared resource is held, or the slots do not suffice (R131). -/
def occupied' (x : Group) (d : Decl) : Bool :=
  (x.lists.any fun l => rangesMeet d.granFirst d.granCount l.granFirst l.granCount ||
    rangesMeet d.ctrFirst d.ctrCount l.ctrFirst l.ctrCount) ||
  (d.queues.any fun k => (AMap.get ({} : HwQueue) x.queues k).list != 0) ||
  decide (32 < d.seqSlots + sumBy (·.seqSlots) x.lists) || decide (32 < d.collSlots + sumBy (·.collSlots) x.lists)

/-- More than two priority-0 queues of an engine (R116). -/
def prio0Over (x : Group) (d : Decl) : Bool :=
  d.prio == 0 && (List.range 4).any fun e =>
    decide (2 < ((List.range 16).countP fun q => (d.masks.getD e 0).testBit q) +
      ((List.range 16).countP fun q => (x.que e q).list != 0 && (x.que e q).prio == 0))

/-- The load's record (R136, R137) goes to the ring and to HOSTQ; during emergency off the scratchpad that holds the ring keeps nothing.
Log: 217 DEDUCED. -/
def loadRecord (s : State) (g : Nat) (l : CmdList) (status reason : Nat) : State :=
  let (t, s) := s.drawTick
  let w := stampRecord (recordWord l status 0 0 0 0 0 0 reason false false false false s.time.lfc t 0 0) l.seqNo false
  let refused := (s.grp g).ringRefused
  let s := if s.power.epo then s else writeRecord s g l l.ringAddr w
  if refused < (s.grp g).ringRefused then s else pushRecord s l w

/-- End a load: LAST_LOAD, and what the front end has read (R129). -/
def endLoad (s : State) (g addr status reason id index : Nat) : State :=
  s.modGrp g fun x => { x with
    lastLoad := { status := status, reason := reason, listId := id, index := index }
    fes := AMap.erase x.fes addr }

/-- Event 0x0206: a load refused without record. -/
def loadEvent (s : State) (g addr : Nat) : State := pushEvent s 0x0206 (pack [(5, g), (56, addr), (8, 1)])

/-- R133 step 3: the load takes its resources, and its counters are 0 (R132, R153). -/
def takeResources (s : State) (g : Nat) (l : CmdList) (d : Decl) : State :=
  s.modGrp g fun x => { x with
    ctrs := x.ctrs.filter fun c => ! (decide (l.ctrFirst ≤ c.1) && decide (c.1 < l.ctrFirst + l.ctrCount))
    lists := x.lists ++ [l]
    queues := d.queues.foldl (fun m k => AMap.set m k { list := l.id, prio := d.prio }) x.queues }

/-- The resources that a list declared (R143). -/
def declOf (l : CmdList) : Decl :=
  { ctx := l.ctx, prio := l.prio, granFirst := l.granFirst, granCount := l.granCount, ctrFirst := l.ctrFirst, ctrCount := l.ctrCount
    masks := l.qmask, seqSlots := l.seqSlots, collSlots := l.collSlots, ok := true, inGroup := true }

/-- A load refused at R133 step 4 gives its resources back (R132). -/
def giveBack (s : State) (g : Nat) (l : CmdList) (reason i : Nat) : State :=
  loadRecord (endLoad (freeList s g l.id) g l.addr REFUSED reason l.id i) g l REFUSED reason

/-- R133 steps 4 and 5: every command is checked; the load is admitted, or refused. The answer tells whether it still waits for
bytes of the list. -/
def checkList (s : State) (g : Nat) (l : CmdList) : State × Bool :=
  match readList s g l.ctx l.addr (128 + 64 * l.cmds.length) with
  | (_, .wait s) => (s, true)
  | (s, .bytes body _) =>
    let cmds := (List.range l.cmds.length).map fun i => leNat (slice body (128 + 64 * i) 64)
    let k : Chk := { g := g, self := s.self, d := declOf l }
    if ! runInGranules k (l.ringAddr, 64 * 2 ^ l.ringLog2) then (giveBack s g l 4 0, false)
    else
      match firstBad k l.hostqEn (s.grp g).fmtAll (cacheFmt s) 0 cmds with
      | some (i, reason) => (giveBack s g l reason i, false)
      | none =>
        let l' := { l with cmds := cmds.map (BitVec.ofNat 512), checking := false, seqNo := 1 }
        (loadRecord (endLoad (modList s g l.id fun _ => l') g l.addr OK 0 l.id 0) g l OK 0, false)

/-- The load of a list (R133): `loader` is the partition of an engine or packet that wrote LIST_LOAD; a host's doorbell has
none, and takes the context's (R384). While the stack is being activated, and during emergency off, the list's header is read and the
load is BUSY (R136, R433). Log: 25 DEDUCED, 26 DEDUCED, 30 DEDUCED, 31 DEDUCED. -/
def loadList (s : State) (g : Nat) (loader : Option Nat) (v : Nat) : State × Bool :=
  let addr := v % 2 ^ 56
  let x := s.grp g
  let epo := s.power.epo
  let busy := (s.stk g).activating || epo
  if x.fenced ∨ ! epo ∧ (s.flt.phase < 4 ∨ 6 < s.flt.phase ∨ ! ((s.stk g).joined || busy) ∨ strapMismatch s) then
    (s.modGrp g fun x => { x with fes := AMap.erase x.fes addr }, false)
  else if ! epo ∧ ! sequencerServes s then (s, true)
  else match (if epo then none else x.lists.find? fun l => l.checking && l.addr == addr) with
  | some l => checkList s g l
  | none =>
    let s := if epo then s else s.modPower fun p => { p with gated := p.gated.filter (· != g) }
    let unread (s : State) (id : Nat) : State × Bool :=
      (if busy then endLoad s g addr BUSY 3 id 0 else loadEvent (endLoad s g addr REFUSED 1 id 0) g addr, false)
    if v ≥ 2 ^ 56 ∨ addr % 64 ≠ 0 then unread s 0
    else if headerCtx s loader addr = noCtx then
      unread (noteRefusal s (12 + g / 8) none addr (loader.getD 0) opRD) 0
    else
      match readList s g (headerCtx s loader addr) addr 128 with
      | (_, .wait w) => if epo then unread s 0 else (w, true)
      | (s, .bytes hd ok) =>
        let h := parseHeader (leNat (slice hd 0 64))
        let d := parseDecl (leNat (slice hd 64 64))
        if ! ok then unread s 0
        else if ! h.ok ∨ ! d.ok then unread s h.listId
        else
          let cx := s.ctx d.ctx
          let l : CmdList := { id := h.listId, checking := true, addr := addr, ctx := d.ctx, part := cx.part, prio := d.prio
                               granFirst := d.granFirst
                               granCount := d.granCount, ctrFirst := d.ctrFirst, ctrCount := d.ctrCount, qmask := d.masks
                               seqSlots := d.seqSlots, collSlots := d.collSlots, ringAddr := h.ringAddr
                               ringLog2 := h.ringLog2, hostq := h.hostq, hostqEn := h.hostqEn, defTmo := h.defTmo }
          let refuse (s : State) (st reason i : Nat) : State × Bool :=
            (loadRecord (endLoad s g addr st reason h.listId i) g l st reason, false)
          if busy then refuse s BUSY 3 0
          else if h.length = 0 ∨ 65536 < h.length then refuse s REFUSED 9 0
          else if ! d.inGroup then refuse s REFUSED 2 0
          else if ! cx.valid ∨ (loader.isSome ∧ loader ≠ some cx.part) ∨ (loader.isNone ∧ ! s.host.hostParts.testBit cx.part) then
            refuse s DENIED 7 0
          else if (x.list? h.listId).isSome then refuse s REFUSED 8 0
          else if prio0Over x d then refuse s REFUSED 6 0
          else if occupied' x d then refuse s BUSY 3 0
          else
            let l := { l with cmds := List.replicate h.length 0 }
            -- what follows is read under the list's own context
            checkList ((takeResources s g l d).modGrp g fun x => { x with fes := AMap.erase x.fes addr }) g l

/-- A load that a doorbell of the host began stands in the group's load requests under this partition, which no load names.
Log: 27 DEDUCED. -/
def hostLoader : Nat := 64

/-- A load's turn: every load written before it has taken its resources, or has ended (R132). -/
def loadTurn (x : Group) (part v : Nat) : Bool :=
  (x.loadReqs.takeWhile (· != (part, v))).all fun r => x.lists.any fun l => l.checking && l.addr == r.2 % 2 ^ 56

/-- Try a load in its turn, and keep it among the requests while it waits for bytes of the list. Log: 28 DESIGN CHOICE. -/
def tryLoad (s : State) (g part v : Nat) : State :=
  let s := s.modGrp g fun x => if x.loadReqs.contains (part, v) then x else { x with loadReqs := x.loadReqs ++ [(part, v)] }
  if ! loadTurn (s.grp g) part v then s
  else
    let (s, waits) := loadList s g (if part = hostLoader then none else some part) v
    if waits then s else s.modGrp g fun x => { x with loadReqs := x.loadReqs.erase (part, v) }

/-- LIST_LOAD: a write to GCWn's register, by an engine or a packet of a partition, or the going on of a load that the host
began. Log: 31 DEDUCED. -/
def doListLoad (s : State) (g part : Nat) (v : Nat) : State :=
  if part < 64 ∨ (s.grp g).loadReqs.contains (hostLoader, v) then tryLoad s g part v else s

/-! ## Dispatch and slices (R114, R115) -/

/-- Command `i` of a list as the memory of this package holds it now; of a list that lies elsewhere, as it was loaded
(R141). -/
def storedCmd (s : State) (l : CmdList) (i : Nat) : Nat :=
  match placeOf s (l.addr + 128 + 64 * i) with
  | .here node off => leNat (readMem s (keyOf s node off) 64 l.part)
  | _ => cmdAt l i

/-- A list that was changed since its load runs an unspecified mixture of old and new commands, each of which passes the checks
of R152: whether the next command is the new one is a free value (R141). Log: 210 DESIGN CHOICE. -/
def mixNext (s : State) (g : Nat) (l : CmdList) : State × CmdList :=
  let new := storedCmd s l l.next
  let cmds := l.cmds.set l.next (BitVec.ofNat 512 new)
  if new = cmdAt l l.next ∨
      (firstBad { g := g, self := s.self, d := declOf l } l.hostqEn (s.grp g).fmtAll (cacheFmt s) 0 (cmds.map (·.toNat))).isSome then (s, l)
  else
    let (v, s) := s.draw
    (s, if v % 2 = 0 then l else { l with cmds := cmds })

/-- COMMAND_DISPATCH: the front end puts a list's next command into its queue while the FIFO has room. -/
def doDispatch (s : State) (g id : Nat) : State :=
  match (s.grp g).list? id with
  | none => s
  | some l =>
    if ! groupRuns s g ∨ ! sequencerServes s ∨ l.checking ∨ l.halting ∨ l.cmds.length ≤ l.next then s
    else
      let (s', l') := mixNext s g l
      let c := cmdAt l' l.next
      let y := (s.grp g).que (cEngine c) (cQueue c)
      if 64 ≤ y.fifo.length then s
      else
        let s := modList s' g id fun l => { l with cmds := l'.cmds, next := l.next + 1 }
        s.modGrp g fun x => x.setQue (cEngine c) (cQueue c) { y with fifo := y.fifo ++ [l.next] }

/-- A queue has a command that can go on now; a DMA command issues further requests while earlier ones are on their way. -/
def queueReady (x : Group) (e q : Nat) : Bool :=
  let y := x.que e q
  match queueList x e q with
  | none => false
  | some l =>
    match y.started.find? (fun r => ! runIssued r && r.phase != 9) with
    | some r => (r.outstanding == 0 || e == 3) && r.opcode != 2 && r.opcode != 0x31 && r.phase != 4 && ! r.pageReq
    | none => match y.fifo with
      | [] => false
      | i :: _ => startOk y (cOp (cmdAt l i))

/-- Consecutive slices of a priority in its queue's turn (R115). -/
def sliceWeight (prio : Nat) : Nat := if prio = 1 then 4 else if prio = 2 then 2 else 1

/-- The next of some queues after the one served last, in queue-number order. -/
def nextAfter (last : Nat) (qs : List Nat) : Option Nat := ((qs.filter (last ≤ ·)) ++ (qs.filter (· < last))).head?

/-- The queue of priorities 1 to 3 for an X slot, and the slices its turn then has left: the one served last goes on while its turn
lasts, else the next in order begins its own (R115). A queue that becomes ready thus waits for no more than one turn of every
other (R117). -/
def pickX (x : Group) (e : Nat) (qs : List Nat) : Option (Nat × Nat) :=
  let next := AMap.get 0 x.slice (8 + e)
  let left := AMap.get 0 x.wrr e
  if qs.contains ((next + 15) % 16) ∧ 0 < left then some ((next + 15) % 16, left - 1)
  else (nextAfter next qs).map fun q => (q, sliceWeight (x.que e q).prio - 1)

/-- SLICE_ARBITRATION, at a slice boundary: the pattern P, P, X; an empty slot goes to the other class (R115). A slice ends with its
queue's step, or when its queue has nothing to go on with. -/
def doSlice (s : State) (g e : Nat) : State :=
  let x := s.grp g
  let held := AMap.get 0 x.sliceQ e
  if ! groupRuns s g ∨ (held ≠ 0 ∧ queueReady x e (held - 1)) then s
  else
    let ready := (List.range 16).filter (queueReady x e)
    let pos := AMap.get 0 x.slice e
    let p := nextAfter (AMap.get 0 x.slice (4 + e)) (ready.filter fun q => (x.que e q).prio == 0)
    let o := pickX x e (ready.filter fun q => (x.que e q).prio != 0)
    let give (k v q : Nat) : Group := { x with
      slice := AMap.set (AMap.set x.slice e ((pos + 1) % 3)) k v
      sliceQ := AMap.set x.sliceQ e (q + 1) }
    let giveP (q : Nat) : State := s.setGrp g (give (4 + e) ((q + 1) % 16) q)
    let giveX (q n : Nat) : State := s.setGrp g { give (8 + e) ((q + 1) % 16) q with wrr := AMap.set x.wrr e n }
    match p, o with
    | some q, some (r, n) => if pos = 2 then giveX r n else giveP q
    | some q, none => giveP q
    | none, some (r, n) => giveX r n
    | none, none => s

/-! ## Control opcodes -/

/-- NOP (R156). -/
def doNop (s : State) (g e q : Nat) : State := runCommand s g e q 0x01 fun s _ r _ => endRun s g e q r.idx OK

/-- WAIT (R154): at the head of its queue; it is met now or later. -/
def doWait (s : State) (g e q : Nat) : State := runCommand s g e q 0x02 fun s _ _ _ => s.modGrp g wakeWaits

/-- WAIT_TIMEOUT (R154). A COLL_WAIT on a slot that nothing has joined ends in the same way (R175). -/
def doWaitTimeout (s : State) (g e q : Nat) : State :=
  let x := s.grp g
  match queueList x e q, (x.que e q).started.find? (fun r => (r.opcode == 2 || r.opcode == 0x31) && r.st == 0) with
  | some l, some r =>
    if r.opcode = 0x31 then
      (if x.joins.any fun j => j.2.list == l.id && j.2.slot == bits (cmdAt l r.idx) 64 5 then s
       else endRun s g e q r.idx TIMEOUT)
    else endRun s g e q r.idx TIMEOUT fun r => { r with count := (x.ctr (bits (cmdAt l r.idx) 64 12)).toNat }
  | _, _ => s

/-- SIGNAL (R155): a local counter, or up to 32 counter slots by address. -/
def doSignal (s : State) (g e q : Nat) : State :=
  runCommand s g e q 0x03 fun s l r c =>
    let inc := bits c 96 32
    if ! bitAt c 76 then
      writesIssued (increase s g (bits c 64 12) l.part inc) g e q r.idx OK
    else
      let targets := (List.range (bits c 77 5 + 1)).map fun i => (bits c 128 56 + i * bits c 192 32) % 2 ^ 56
      if targets.any fun a => engineConflict s g e a 8 then unbegin s g e q r.idx
      else
        let s := targets.foldl (fun s a => signalTo s g (.cmd g e q r.idx) l.ctx a inc 3) s
        writesIssued s g e q r.idx OK

/-- The lanes that a FENCE drains, by its scope (R274). -/
def fenceLanes (scope : Nat) : List Lane :=
  if scope = 0 then [] else if scope = 1 then [.package] else if scope = 2 then [.package, .tray] else [.package, .tray, .rack]

/-- FENCE (R157, R274): drains lanes of the group's stack and scratchpad and drops copies by its scope. While a write of these
lanes that was held behind a tile copy when the fence started has not been performed, it is not done. Log: 48 DEDUCED. -/
def doFence (s : State) (g e q : Nat) : State :=
  runCommand s g e q 0x04 fun s _ r c =>
    let scope := bits c 64 2
    let ls := fenceLanes scope
    let behind := if r.phase = 0 then heldParcels s ls g else r.behind
    if ! behind.isEmpty then modRun s g e q r.idx fun r => { r with phase := 1, behind := behind }
    else
      let s := if scope = 0 then s else drainLanes (drainLanes s (.stack g) ls) (.spad g) ls
      let s := if scope = 2 then
          (dropFar s fun a => addrTray (a * 64) == s.tray).modMem fun m => { m with fenceTray := satAdd 32 m.fenceTray 1 }
        else if scope = 3 then (dropFar s fun _ => true).modMem fun m => { m with fenceRack := satAdd 32 m.fenceRack 1 }
        else s
      endRun s g e q r.idx OK

/-- FENCE_TIMEOUT (R157). -/
def doFenceTimeout (s : State) (g e q : Nat) : State :=
  match ((s.grp g).que e q).started.find? (fun r => r.opcode == 4 && r.st == 0) with
  | some r => endRun s g e q r.idx TIMEOUT
  | none => s

/-- TRAP (R158). -/
def doTrap (s : State) (g e q : Nat) : State :=
  runCommand s g e q 0x05 fun s _ r c => endRun s g e q r.idx OK fun r => { r with detail := bits c 64 32 }

/-- HALT (R159): the list halts; its record is the final one. Log: 39 DEDUCED. -/
def doHalt (s : State) (g e q : Nat) : State :=
  runCommand s g e q 0x3F fun s l r c =>
    let (t, s) := s.drawTick
    let s := s.modGrp g fun x => x.setQue e q (let y := x.que e q
      { y with started := y.started.filter fun z => z.idx != r.idx })
    haltList s g l.id (some {
      word := recordWord l OK 0x3F q e r.idx 0 0 0 false false false false s.time.lfc t 0 0
      notify := cNotify c, ctr := if cCtrEn c then some (cCtr c) else none, halt := true }) false

/-! ## Counters (R126, R266) -/

/-- COUNTER_ADD: a write of a slot's ADD field by a partition; 0 changes nothing. -/
def doCounterAdd (s : State) (g c part : Nat) (n : Nat) : State :=
  if ctrOwner s g c ≠ some part then noteRefusal s (12 + g / 8) none (s.base + 0x020040000000 + g * 0x100000 + c * 8) part 0
  else acceptInc s g c part n

/-- COUNTER_INCREASE_APPLY (R266): the group's first pending increase, once the writes accepted before it are performed. -/
def doIncApply (s : State) (g : Nat) : State :=
  match firstInc g s.mem.lanes with
  | none => s
  | some (c, part, n) =>
    if ! incReady g s.mem.lanes then s
    else increase (s.modMem fun m => { m with lanes := dropInc g m.lanes }) g c part n

end Sys2Proof.Machine
end

