-- ==== Sys2Proof/Machine/Dma.lean ====
section
/-! DEFINITION. The DMA engine: LOADT, STORET, DMA_ND and KVAPPEND, delivery tiles and page requests (R55–R62, R120,
R167–R170, R173, R212, R217). -/
namespace Sys2Proof.Machine

/-! ## Runs from a source to a destination -/

/-- The destination atoms that come from poisoned source atoms (R168, R170). -/
def movedBad (bad : List Nat) (src dst len t : Nat) : Bool :=
  ! bad.isEmpty &&
  let lo := max (64 * t) dst
  let hi := min (64 * t + 64) (dst + len)
  decide (lo < hi) && (atomsOf (lo - dst + src) (hi - lo)).any bad.contains

/-- Runs (source, destination, length) cut where their destinations cross 4 KiB blocks: a write is a chunk of at most one block
(R305). -/
def cutRuns (runs : List (Nat × Nat × Nat)) : List (Nat × Nat × Nat) :=
  runs.flatMap fun x => (cutRange 4096 4096 (x.2.2 / 2048 + 3) x.2.1 x.2.2).map fun y => (x.1 + (y.1 - x.2.1), y.1, y.2)

/-- Copy one run: the first poisoned source address, and the address refused. `all`: every destination run. An atom that an earlier
tile's run also wrote ends as if either had been written last (R170, R261, R264): which is free. Log: 49 DEDUCED. -/
def copyRun (s : State) (g q i c part op src dst len : Nat) (vol : Bool) (earlier all : List (Nat × Nat)) :
    State × Option Nat × Option Nat :=
  let (s, d, bad, den) := readFor s g 3 q i part src len vol
  match den with
  | some a => (s, none, some a)
  | none =>
    let (s, d) := blur s d src all
    let poison := movedBad bad src dst len
    let first := bad.head?.map fun a => max src (a * 64)
    let cover := earlier.filter fun x => decide (x.1 < dst + len) && decide (dst < x.1 + x.2)
    if cover.isEmpty then (writeFor s g 3 q i c dst d poison op, first, none)
    else
      let (v, s) := s.draw
      let kept (k : Nat) : Bool := cover.any fun x => decide (x.1 ≤ k) && decide (k < x.1 + x.2)
      let s := ((atomParts dst len).zipIdx).foldl (fun s x =>
        if v.testBit x.2 then writeFor s g 3 q i c x.1.1 (slice d (x.1.1 - dst) x.1.2) poison op
        else ((range' x.1.1 x.1.2).filter fun k => ! kept k).foldl (fun s k =>
          writeFor s g 3 q i c k [d.getD (k - dst) 0] poison op) s) s
      (s, first, none)

/-- Requests that one run takes: a write for every 2,048 bytes, and a read where its source is here. -/
def runCost (s : State) (src len : Nat) : Nat :=
  ceilDiv len 2048 * (match placeOf s src with | .here _ _ => 2 | _ => 1)

/-- Copy runs that are not written yet, in an order that is free (R261), as many as `room` requests of the slice allow and the engine
has write slots for (R120). The answer tells whether all are written. -/
def copyRuns (s : State) (g q i c part op : Nat) (vol : Bool) (runs : List (Nat × Nat × Nat)) (earlier all : List (Nat × Nat)) (room : Nat) :
    Nat → State × Bool
  | 0 => (s, (List.range runs.length).all (theRun s g 3 q i).written.contains)
  | n + 1 =>
    let todo := (List.range runs.length).filter fun k => ! (theRun s g 3 q i).written.contains k
    let pick : State × Nat := match todo with
      | [] => (s, 0)
      | [k] => (s, k)
      | k :: _ => let (v, s) := s.draw; (s, todo.getD (v % todo.length) k)
    match runs[pick.2]? with
    | none => (s, true)
    | some (src, dst, len) =>
      if todo.isEmpty then (s, true)
      else
        let x := demandRange pick.1 g dst len
        if x.2 ∨ room < runCost x.1 src len ∨ dmaSlots x.1 g q true < ceilDiv len 2048 ∨ engineConflict x.1 g 3 dst len then (x.1, false)
        else
          let (s, bad, den) := copyRun x.1 g q i c part op src dst len vol earlier all
          match den with
          | some a => (refuseRun s g 3 q i c part a op DENIED, true)
          | none =>
            let s := modRun s g 3 q i fun r => { r with
              written := r.written ++ [pick.2]
              wrotePoison := r.wrotePoison || bad.isSome
              detail := if r.wrotePoison then r.detail else bad.getD r.detail }
            copyRuns s g q i c part op vol runs earlier all (room - runCost x.1 src len) n

/-- The source runs of a LOADT or STORET (R167). -/
def moveSrc (c : Nat) : List (Nat × Nat) :=
  moveRuns (bits c 64 56) (bits c 208 16 + 1) (bits c 192 16 + 1) (signed 32 (bits c 224 32))

/-- The runs of a LOADT or STORET (R167). -/
def movePairs (c : Nat) : List (Nat × Nat × Nat) :=
  let n := bits c 192 16 + 1
  let dst := moveRuns (bits c 128 56) (bits c 208 16 + 1) n (signed 32 (bits c 256 32))
  ((moveSrc c).zip dst).map fun x => (x.1.1, x.2.1, n)

/-- Bytes in the runs that a command has written. -/
def writtenBytes (r : Running) (runs : List (Nat × Nat × Nat)) : Nat :=
  sumBy (fun k => match runs[k]? with | some x => x.2.2 | none => 0) r.written

/-- A LOADT or STORET copies its rows, for one slice (R117, R168). -/
def moveRun (s : State) (g q op : Nat) (l : CmdList) (r : Running) (c : Nat) : State :=
  let runs := cutRuns (movePairs c)
  let dests := (movePairs c).map fun x => (x.2.1, x.2.2)
  let (s, all) := copyRuns s g q r.idx l.ctx l.part op (bitAt c 353) runs [] dests dmaSlice dmaSlice
  if all then
    let t := theRun s g 3 q r.idx
    writesIssued s g 3 q r.idx (if t.wrotePoison then POISONED else OK) fun r => { r with count := writtenBytes r runs }
  else s

/-- LOADT and STORET: fetch the source, then copy (R167, R168). -/
def doMove (s : State) (g q op : Nat) : State :=
  runCommand s g 3 q op fun s l r c =>
    fetchThen s g 3 q l r op 1 ((moveSrc c).map fun x => (x.1, x.2, bitAt c 353)) [] fun s r => moveRun s g q op l r c

/-! ## DMA_ND (R55–R62, R169, R170) -/

/-- A DMA_ND's Page Request Group is answered, or given up. -/
def dropPageGroup (s : State) (g q : Nat) : State :=
  s.modXlat fun x => { x with pri := x.pri.filter fun y => ! (y.g == g && y.queue == q) }

/-- A DMA_ND ends with a partial count: an unresolvable fault or a refusal at a tile (R62, R170); its writes that still wait for a
page are given up. -/
def ndFail (s : State) (g q : Nat) (l : CmdList) (r : Running) (status : Nat) : State :=
  let s := raise s { die := dieOf 7 (g / 8), cls := 0x0D, inst := l.ctx, cause := 3, status := status
                     addr := if r.fault = 0 then r.denied.getD 0 else r.fault, ctx := l.ctx, part := l.part
                     detail := 0x22 + r.tiles * 256 }
  let gone := s.xlat.accs.filter fun a => a.owner == .cmd g 3 q r.idx && a.st == 3
  let s := s.modXlat fun x => { x with accs := x.accs.filter fun a => ! gone.any fun b => b.id == a.id }
  endRun s g 3 q r.idx status fun r => { r with outstanding := r.outstanding - gone.length }

/-- Page requests that await their responses (R46). -/
def pagesOut (s : State) : Nat := sumBy (fun x : PageGroup => x.pages.length) s.xlat.pri

/-- PAGE_REQUEST (R57, R60): one group for the untranslated pages of the earliest undelivered tile, 512 at most being outstanding
(R46); the transfer waits for its response. A group that leaves pages out is no test of whether they can be translated.
Log: 50 DESIGN CHOICE. -/
def pageRequest (s : State) (g q : Nat) (l : CmdList) (r : Running) : State :=
  let x := s.ctx l.ctx
  let n := min 512 r.missing.length
  if 512 < pagesOut s + n then s
  else
    modRun (s.modXlat fun t => { t with
      pageRequests := t.pageRequests + 1
      pri := t.pri ++ [{ g := g, queue := q, pasid := if x.pasidEn then some x.pasid else none, pages := r.missing.take n }] })
      g 3 q r.idx fun r => { r with pageReq := true, successes := if 512 < r.missing.length then 0 else r.successes }

/-- A page of the host window has a translation, in the cache or in the DMA engine's copy of it (R48). -/
def pageHit (s : State) (g : Nat) (l : CmdList) (v : Nat) (wr : Bool) : Bool :=
  let x := s.ctx l.ctx
  let pasid := if x.pasidEn then some x.pasid else none
  (atcFind s pasid v wr).isSome || (AMap.get [] s.xlat.copies (32 + g)).any (atcServes pasid v wr)

/-- The host pages of some ranges that have no translation (R57, R59). -/
def untranslated (s : State) (g : Nat) (l : CmdList) (wr : Bool) (runs : List (Nat × Nat)) : List (Nat × Bool) :=
  if ! s.xlat.atsOn then []
  else (runs.flatMap fun r => (cutRange 4096 4096 (r.2 / 2048 + 3) r.1 r.2).filterMap fun y =>
    match placeOf s y.1 with
    | .host v => if 0x400000000000 ≤ addrOff y.1 ∧ ! pageHit s g l v wr then some (y.1 - y.1 % 4096, wr) else none
    | _ => none).eraseDups

/-- Ask for the translation of a page: an access of no bytes. -/
def probePage (s : State) (g q i : Nat) (l : CmdList) (page : Nat) (wr : Bool) : State :=
  let s := modRun s g 3 q i fun r => { r with probes := r.probes ++ [page * 2 + b2n wr] }
  match hostAccess s l.ctx (addrOff page - 0x400000000000) 0 wr [] (.cmd g 3 q i) false page with
  | some s => hostSend (modRun s g 3 q i fun r => { r with outstanding := r.outstanding + 1 })
  | none => refuseRun s g 3 q i l.ctx l.part page 0x22 DENIED

/-- The pages of a tile that have no translation and have not been asked for in this round. -/
def unprobed (s : State) (g : Nat) (l : CmdList) (r : Running) (src dst : List (Nat × Nat)) : List (Nat × Bool) :=
  (untranslated s g l false src ++ untranslated s g l true dst).filter fun x => ! r.probes.contains (x.1 * 2 + b2n x.2)

/-- A read of a command's source from an address on is on its way. -/
def pieceOut (s : State) (g q i addr : Nat) : Bool :=
  (s.fab.tracks.any fun t => t.owner == .cmd g 3 q i && t.pkt.opcode != opWR && t.pkt.place == addr) ||
  s.xlat.accs.any fun a => a.owner == .cmd g 3 q i && ! a.write && a.names == addr && a.st != 2

/-- Reads of a command that are on their way. -/
def readsOut (s : State) (g q i : Nat) : Nat :=
  (s.fab.tracks.countP fun t => t.owner == .cmd g 3 q i && t.pkt.opcode != opWR) +
  s.xlat.accs.countP fun a => a.owner == .cmd g 3 q i && ! a.write && a.st != 2

/-- Bytes that the DMA_ND commands of a group have staged, or asked for (R120). -/
def stagedBytes (s : State) (g : Nat) : Nat :=
  sumBy (fun q => sumBy (fun r : Running => if r.opcode = 0x22 ∧ r.st = 0 then sumBy (·.2) r.reqd else 0) q.2.started)
    ((s.grp g).queues.filter fun q => q.1 / 16 == 3)

/-- The pieces of a tile's source that must be fetched. -/
def tilePieces (s : State) (x : NdCmd) (t : Nat) : List (Nat × Nat × Bool) :=
  awayPieces s ((x.tile t).map fun y => (y.1, x.len, x.vol))

/-- The tiles that a DMA_ND fetches now: the earliest undelivered one, and those after it as far as the staging buffer goes, unless it
faults, or an access of a later one has failed (R58, R60, R120). -/
def fetchTiles (s : State) (g : Nat) (r : Running) (x : NdCmd) : List Nat :=
  let n := if r.ahead ∧ ! r.faulting ∧ r.refusedAt.isEmpty ∧ stagedBytes s g + dmaSlice * 2048 ≤ 0x200000 then
      min 1024 (max 1 (0x200000 / (x.tileRuns * x.len))) else 1
  range' r.tiles (min n (x.tiles - r.tiles))

/-- The first access of a tile that was refused (R170). -/
def tileRefusal (s : State) (r : Running) (x : NdCmd) (t : Nat) : Option (Nat × Nat) :=
  r.refusedAt.find? fun y => (tilePieces s x t).any (·.1 == y.1) ||
    (x.tile t).any fun z => (decide (z.1 ≤ y.1) && decide (y.1 < z.1 + x.len)) || (decide (z.2 ≤ y.1 + 4095) && decide (y.1 < z.2 + x.len))

/-- A DMA_ND writes the runs of its next undelivered tile, once their sources are here. -/
def ndTile (s : State) (g q : Nat) (l : CmdList) (r : Running) (c : Nat) : State :=
  let x := ndOf c
  let runs := cutRuns ((x.tile r.tiles).map fun y => (y.1, y.2, x.len))
  let dests (n : Nat) : List (Nat × Nat) := ((List.range n).flatMap x.tile).map fun y => (y.2, x.len)
  let (s, all) := copyRuns s g q r.idx l.ctx l.part 0x22 x.vol runs (dests r.tiles) (dests x.tiles) dmaSlice dmaSlice
  if all then modRun s g 3 q r.idx fun r => { r with rowsWritten := true } else s

/-- A DMA_ND at a fault: once every page of the tile has been asked for, one group requests those that have no translation (R57); the
data of later tiles is discarded (R60). -/
def ndFault (s : State) (g q : Nat) (l : CmdList) (r : Running) (x : NdCmd) : State :=
  let pieces := tilePieces s x r.tiles
  let s := modRun s g 3 q r.idx fun r => { r with reqd := r.reqd.filter fun y => pieces.any fun z => (z.1, z.2.1) == y }
  if ! s.xlat.priEn ∨ s.xlat.priStopped ∨ 3 ≤ r.successes then ndFail s g q l r DENIED
  else if pieces.any fun y => pieceOut s g q r.idx y.1 then s
  else
    match unprobed s g l r (pieces.map fun y => (y.1, y.2.1)) ((x.tile r.tiles).map fun y => (y.2, x.len)) with
    | y :: ys => (y :: ys).foldl (fun s z => probePage s g q r.idx l z.1 z.2) s
    | [] => if s.xlat.accs.any fun a => a.owner == .cmd g 3 q r.idx && a.len == 0 then s else pageRequest s g q l r

/-- DMA_ND: for one slice, fetch the next undelivered tile and those after it, write that tile, or request the pages it lacks. -/
def doDmaNd (s : State) (g q : Nat) : State :=
  runCommand s g 3 q 0x22 fun s l r c =>
    let x := ndOf c
    if r.pageReq then s
    else match tileRefusal s r x r.tiles with
    | some y => ndFail s g q l { r with denied := some y.1 } y.2
    | none =>
    if r.faulting then ndFault s g q l r x
    else
      let s := modRun s g 3 q r.idx fun r => { r with phase := 1 }
      let wanted := ((fetchTiles s g r x).flatMap (tilePieces s x)).eraseDups.filter fun p => ! r.reqd.contains (p.1, p.2.1)
      let s := askPieces s g 3 q r.idx l.ctx 0x22 (wanted.take dmaSlice)
      let t := theRun s g 3 q r.idx
      let pieces := tilePieces s x r.tiles
      let src := (x.tile r.tiles).map fun y => (y.1, x.len)
      let dst := (x.tile r.tiles).map fun y => (y.2, x.len)
      let here (p : Nat × Nat × Bool) : Bool := t.reqd.contains (p.1, p.2.1) && ! pieceOut s g q r.idx p.1
      if t.rowsWritten ∨ t.faulting ∨ ! pieces.all here then s
      else if src.any (fun y => rangeHeld s l.part y.1 y.2 false || engineConflict s g 3 y.1 y.2) then s
      else
        match untranslated s g l true dst with
        | y :: ys =>
          if s.xlat.accs.any fun a => a.owner == .cmd g 3 q r.idx && a.len == 0 then s
          else (y :: ys).foldl (fun s z => probePage s g q r.idx l z.1 z.2) s
        | [] => ndTile s g q l t c

/-- TILE_DELIVERED (R58): the tile's bytes are all written; TCTR is increased. The last tile completes the transfer. -/
def doTileDelivered (s : State) (g q : Nat) : State :=
  let x := s.grp g
  match queueList x 3 q, (x.que 3 q).started.find? (fun r => r.opcode == 0x22 && r.st == 0) with
  | some l, some r =>
    let c := cmdAt l r.idx
    let t := ndOf c
    if ! r.rowsWritten ∨ r.outstanding ≠ readsOut s g q r.idx ∨ r.phase = 9 ∨ r.faulting then s
    else match tileRefusal s r t r.tiles with
    | some y => ndFail s g q l { r with denied := some y.1 } y.2
    | none =>
      let n := r.tiles + 1
      let later := (fetchTiles s g { r with tiles := n } t).flatMap (tilePieces s t)
      let s := modRun s g 3 q r.idx fun r => { r with
        tiles := n, rowsWritten := false, written := [], successes := 0, ahead := true, probes := []
        reqd := r.reqd.filter fun y => later.any fun z => (z.1, z.2.1) == y }
      let s := if t.tctrEn then increase s g t.tctr l.part 1 else s
      if n < t.tiles then s else endRun s g 3 q r.idx (if r.wrotePoison then POISONED else OK)
  | _, _ => s

/-- PAGE_REQUEST_RESPONSE (R61, R62): Success resumes the transfer, anything else ends it; Response Failure stops PRI (R50). -/
def doPageResponse (s : State) (g q code : Nat) : State :=
  let x := s.grp g
  match queueList x 3 q, (x.que 3 q).started.find? (fun r => r.pageReq && r.st == 0 && r.phase != 9) with
  | some l, some r =>
    let s := if code = 0xF then s.modXlat fun x => { x with priStopped := true } else s
    let s := modRun (dropPageGroup s g q) g 3 q r.idx fun r => { r with pageReq := false, respCode := code }
    if code = 0 then
      -- the writes that found no translation ask for it again
      let again (a : HostAcc) : HostAcc := if a.owner = .cmd g 3 q r.idx ∧ a.st = 3 then { a with st := 0 } else a
      let s := s.modXlat fun t => { t with accs := t.accs.map again }
      modRun s g 3 q r.idx fun r => { r with
        faulting := false, missing := [], probes := [], ahead := true, successes := r.successes + 1 }
    else ndFail s g q l r DENIED
  | _, _ => dropPageGroup s g q

/-- PRI_TIMEOUT (R62): no response within PRI_TMO. -/
def doPriTimeout (s : State) (g q : Nat) : State :=
  let x := s.grp g
  match queueList x 3 q, (x.que 3 q).started.find? (fun r => r.pageReq && r.st == 0 && r.phase != 9) with
  | some l, some r => ndFail (modRun (dropPageGroup s g q) g 3 q r.idx fun r => { r with pageReq := false }) g q l r TIMEOUT
  | _, _ => dropPageGroup s g q

/-! ## Appends (R173, R211, R212) -/

/-- The row of one token's head among new keys or values: `k` is 0 for keys, 1 for values. -/
def newRow (fmt hkv dim base t h : Nat) : Nat × Nat := (base + (t * hkv + h) * eBytes fmt dim, eBytes fmt dim)

/-- Write one reserved row of an append from its source; the bases are those of keys and values. -/
def appendRow (s : State) (g e q : Nat) (l : CmdList) (i op d layer first fmt : Nat) (sr : Bool) (kbase vbase n : Nat) : State :=
  let hkv := dHkv d + 1
  let dim := dDim d
  let (k, v, h) := (n / (2 * hkv), n / hkv % 2, n % hkv)
  let (a, w) := newRow fmt hkv dim (if v = 0 then kbase else vbase) k h
  let (s, b, bd, dn) := readFor s g e q i l.part a w false
  match dn with
  | some z => refuseRun s g e q i l.ctx l.part z op DENIED
  | none =>
    let vals := unpackElems fmt b dim
    let col (j : Nat) : Nat := h * dim + j + v * 32768
    let out := (List.range dim).map fun j =>
      encElem (dCfmt d) false (if sr then some (srBits l.id i g k (col j)) else none) (decElem fmt (vals.getD j 0))
    let flag := if ! bd.isEmpty then none else (List.range dim).find? fun j => (decElem fmt (vals.getD j 0)).isSpecial
    let s := writeFor s g e q i l.ctx (kvRow d layer h (first + k) v) (packElems (dCfmt d) out) (fun _ => ! bd.isEmpty) op
    modRun s g e q i fun r => { r with
      written := r.written ++ [n]
      wrotePoison := r.wrotePoison || ! bd.isEmpty
      naninf := r.naninf || flag.isSome
      nanRow := if r.naninf then r.nanRow else match flag with | some _ => k | none => 0
      nanCol := if r.naninf then r.nanCol else match flag with | some j => min 0xFFFF (col j) | none => 0 }

/-- Write an append's reserved rows that are not written yet, as many as `room` requests of the slice and the engine's write slots
allow (R120), or until one is refused. A row for a copying tile is held there (R219). -/
def appendRows (s : State) (g e q : Nat) (l : CmdList) (i op d layer first t fmt : Nat) (sr : Bool) (kbase vbase room : Nat) :
    Nat → State
  | 0 => s
  | n + 1 =>
    let r := theRun s g e q i
    let hkv := dHkv d + 1
    let k := r.written.length
    if 2 * t * hkv ≤ k ∨ r.denied.isSome then s
    else
      let src := newRow fmt hkv (dDim d) (if k / hkv % 2 = 0 then kbase else vbase) (k / (2 * hkv)) (k % hkv)
      let dst := kvRow d layer (k % hkv) (first + k / (2 * hkv)) (k / hkv % 2)
      let x := demandRange s g dst (dRb d)
      if x.2 ∨ (e = 3 ∧ (room < 2 * ceilDiv (dRb d) 2048 ∨ dmaSlots x.1 g q true < ceilDiv (dRb d) 2048)) ∨
          rangeHeld x.1 l.part src.1 src.2 false ∨ engineConflict x.1 g e dst (dRb d) then x.1
      else
        appendRows (appendRow x.1 g e q l i op d layer first fmt sr kbase vbase k) g e q l i op d layer first t fmt sr kbase vbase
          (room - 2 * ceilDiv (dRb d) 2048) n

/-- Every row of an append is written. -/
def rowsDone (s : State) (g e q i d t : Nat) : Bool := decide (2 * t * (dHkv d + 1) ≤ (theRun s g e q i).written.length)

/-- Bind a list's sequence slot to its context (R211). -/
def bindSlot (s : State) (g id slot c : Nat) : State :=
  modList s g id fun l => { l with seqBind := AMap.set l.seqBind slot c }

/-- An ATTN or KVAPPEND ends without its effect, with the fields of R218. -/
def endSeq (s : State) (g e q i status : Nat) : State := endRun s g e q i status (seqFailFields s)

/-- An append that cannot go on ends, and is lost (R222). -/
def failAppend (s : State) (g e q i status : Nat) : State :=
  endSeq (loseAppends s (ownedBy g e q i)) g e q i status

/-- A cache format may be used: every one after calibration, before it only those of R139's bring-up set. Log: 237 DEDUCED. -/
def cacheFmtOk (s : State) (g c : Nat) : Bool := (s.grp g).fmtAll || [fBF16, fFP16].contains (cacheFmt s c)

/-- A KVAPPEND that holds a reservation fetches, converts and writes its rows, slice by slice (R117, R173). -/
def appendStep (s : State) (g q : Nat) (l : CmdList) (r : Running) (c : Nat) : State :=
  let t := bits c 216 12 + 1
  let fmt := bits c 233 4
  let kb := bits c 64 56
  let vb := bits c 128 56
  match s.seqCtx (bits c 192 14), r.resv with
  | some x, some (first, _) =>
    let d := x.desc.toNat
    let n := t * (dHkv d + 1) * eBytes fmt (dDim d)
    let s := fetchThen s g 3 q l r 0x29 1 [(kb, n, false), (vb, n, false)] [] (fun s r =>
      let s := appendRows s g 3 q l r.idx 0x29 d (bits c 206 10) first t fmt (bitAt c 237) kb vb dmaSlice dmaSlice
      let y := theRun s g 3 q r.idx
      if y.denied.isSome then (if y.outstanding = 0 then failAppend s g 3 q r.idx y.badStatus else modRun s g 3 q r.idx fun r => { r with phase := 2 })
      else if ! rowsDone s g 3 q r.idx d t then s
      else
        let (w, s) := s.draw
        writesIssued s g 3 q r.idx (if y.wrotePoison then POISONED else OK) fun r => { r with count := t, wcyc := w % 2 ^ 20 })
      (seqFailFields s)
    if (theRun s g 3 q r.idx).st = 1 then loseAppends s (ownedBy g 3 q r.idx) else s
  | _, _ => endSeq s g 3 q r.idx REFUSED

/-- KVAPPEND: reserve, fetch, convert and write; APPEND_LENGTH_ADVANCE completes it. -/
def doKvappend (s : State) (g q : Nat) : State :=
  runCommand s g 3 q 0x29 fun s l r c =>
    let cx := bits c 192 14
    let layer := bits c 206 10
    let t := bits c 216 12 + 1
    let slot := bits c 228 5
    if r.phase = 2 then
      if r.outstanding = 0 ∧ r.denied.isSome then failAppend s g 3 q r.idx r.badStatus else s
    else
      if r.phase ≠ 0 then appendStep s g q l r c
      else
        let s := modRun s g 3 q r.idx fun r => { r with ctx := cx, layer := layer, tokens := t }
        let ok := seqCheck s l slot cx layer false false 0
        if ok ≠ OK then endSeq s g 3 q r.idx ok
        else if ! cacheFmtOk s g cx then endSeq s g 3 q r.idx REFUSED
        else
          match reserve (bindSlot s g l.id slot cx) cx layer t (.cmd g 3 q r.idx) with
          | none => endSeq (bindSlot s g l.id slot cx) g 3 q r.idx REFUSED
          | some (first, s) =>
            let s := modRun s g 3 q r.idx fun r => { r with resv := some (first, t), phase := 1 }
            appendStep s g q l (theRun s g 3 q r.idx) c

end Sys2Proof.Machine
end

