-- ==== Sys2Proof/Machine/Attention.lean ====
section
/-! DEFINITION. ATTN (R171, R172, R207–R218). -/
namespace Sys2Proof.Machine

/-- The fields of an ATTN (R171). -/
structure AttnCmd where
  q : Nat
  o : Nat
  kvNew : Nat
  ctx : Nat
  layer : Nat
  t : Nat
  append : Bool
  headFirst : Nat
  heads : Nat
  slot : Nat
  partial' : Bool
  qfmt : Nat
  ofmt : Nat
  sr : Bool
  specials : Bool
  lo : Nat
  hi : Nat

def attnOf (c : Nat) : AttnCmd :=
  { q := bits c 64 56, o := bits c 128 56, kvNew := bits c 192 56, ctx := bits c 256 14, layer := bits c 270 10
    t := bits c 280 7 + 1, append := bitAt c 287, headFirst := bits c 288 7, heads := bits c 295 7 + 1
    slot := bits c 302 5, partial' := bitAt c 307, qfmt := bits c 308 4, ofmt := bits c 312 4, sr := bitAt c 316
    specials := bitAt c 317, lo := bits c 320 32, hi := bits c 352 32 }

/-- One past the last key position (R172). -/
def AttnCmd.top (x : AttnCmd) (l : Nat) : Nat := if x.hi = 0xFFFFFFFF then l else min x.hi l

/-- The position of query token 0 (R213). -/
def AttnCmd.pos0 (x : AttnCmd) (r : Running) : Int :=
  match r.resv with
  | some (first, _) => (first : Int)
  | none => (r.lenRead.getD 0 : Int) - x.t

/-- The position blocks of one query token (R214). -/
def AttnCmd.blocks (x : AttnCmd) (d : Nat) (stripes : List Nat) (r : Running) (t : Nat) : List (List Nat) :=
  keyBlocks d stripes x.lo (x.top (r.lenRead.getD 0)) (x.pos0 r + t)

/-- The key-value heads used, and every attended position of any token. -/
def AttnCmd.kvHeads (x : AttnCmd) (d : Nat) : List Nat := ((range' x.headFirst x.heads).map (kvHead d)).eraseDups
def AttnCmd.positions (x : AttnCmd) (d : Nat) (stripes : List Nat) (r : Running) : List Nat :=
  ((List.range x.t).flatMap fun t => (x.blocks d stripes r t).flatMap id).eraseDups

/-- Where the queries of one token and head lie. -/
def AttnCmd.qRow (x : AttnCmd) (dim t h : Nat) : Nat × Nat := (x.q + (t * x.heads + h) * eBytes x.qfmt dim, eBytes x.qfmt dim)

/-- Attend and write the outputs. -/
def attnRun (s : State) (g q : Nat) (l : CmdList) (r : Running) (x : AttnCmd) (d : Nat) : State :=
  let stripes := r.stripes
  let dim := dDim d
  let cf := dCfmt d
  let qf := queryFmt cf x.qfmt
  let s := drainTarget s (.stack g)
  -- the rows, each once: (head, position) ↦ keys, values, poisoned
  let ps := x.positions d stripes r
  let pairs := (x.kvHeads d).flatMap fun h => ps.map fun p => (h, p)
  let (s, rows, den) := pairs.foldl (fun (s, rows, den) y =>
    let rd (s : State) (v : Nat) := readFor s g 1 q r.idx l.part (kvRow d x.layer y.1 y.2 v) (dRb d) false
    let (s, k, bk, dk) := rd s 0
    let (s, v, bv, dv) := rd s 1
    (s, rows ++ [(y, unpackElems cf k dim, unpackElems cf v dim, ! bk.isEmpty || ! bv.isEmpty)],
     (den.orElse fun _ => dk).orElse fun _ => dv))
    (s, ([] : List ((Nat × Nat) × List Nat × List Nat × Bool)), (none : Option Nat))
  let ths := (List.range x.t).flatMap fun t => (List.range x.heads).map fun h => (t, h)
  let (s, qs, den) := ths.foldl (fun (s, qs, den) y =>
    let (a, n) := x.qRow dim y.1 y.2
    let (s, b, bad, dn) := readFor s g 1 q r.idx l.part a n false
    let conv (c : Nat) : Nat := if qf = x.qfmt then c else encElem qf false none (decElem x.qfmt c)
    (s, qs ++ [((unpackElems x.qfmt b dim).map conv, ! bad.isEmpty)], den.orElse fun _ => dn))
    (s, ([] : List (List Nat × Bool)), den)
  match den with
  | some a => endSeq (refuseRun s g 1 q r.idx l.ctx l.part a 0x28 DENIED) g 1 q r.idx DENIED
  | none =>
    let row (h p : Nat) : List Nat × List Nat × Bool :=
      match rows.find? fun y => y.1 == (h, p) with | some y => y.2 | none => ([], [], false)
    let one (t h : Nat) : Part × Bool × Bool :=
      let kv := kvHead d (x.headFirst + h)
      let m := ((range' x.headFirst x.heads).countP fun y => kvHead d y == kv) * x.t
      let kb := (shapeFor (pairMode qf cf) m 0).2
      let (qv, qbad) := qs.getD (t * x.heads + h) ([], false)
      let blks := x.blocks d stripes r t
      let z := blks.foldl (fun z blk =>
        attnBlock cf qf kb (scaleOf d) (dBlock d) dim qv (blk.map fun p => let y := row kv p; (p % dBlock d, y.1, y.2.1)) z)
        ({ m := f32ninf, s := 0, o := List.replicate dim 0 } : Part)
      (z, qbad || blks.any fun b => b.any fun p => (row kv p).2.2, blks.isEmpty)
    let outs := ths.map fun y => one y.1 y.2
    let write (s : State) (n : Nat) : State :=
      match outs[n]? with
      | none => s
      | some (z, bad, _) =>
        if x.partial' then writeFor s g 1 q r.idx l.ctx (x.o + n * (64 + 4 * dim)) (partBytes z) (fun _ => bad) 0x28
        else
          let v := finishPart z
          let cs := (List.range dim).map fun j =>
            encElem x.ofmt x.specials (if x.sr ∧ isNarrow x.ofmt then some (srBits l.id r.idx g n j) else none) (f32 (v.getD j 0))
          writeFor s g 1 q r.idx l.ctx (x.o + n * eBytes x.ofmt dim) (packElems x.ofmt cs) (fun _ => bad) 0x28
    let s := (List.range outs.length).foldl write s
    let special := ((List.range outs.length).flatMap fun n =>
      match outs[n]? with
      | some (z, false, false) =>
        let v := if x.partial' then z.o else finishPart z
        ((List.range dim).filter fun j => fSpecial (v.getD j 0)).map fun j => (n, j)
      | _ => []).head?
    let anyBad := outs.any fun y => y.2.1
    let badPos := (rows.filter fun y => y.2.2.2).map fun y => y.1.2
    let first := badPos.foldl min 0xFFFFFFFF
    let (w, s) := s.draw
    let t := theRun s g 1 q r.idx
    endRun s g 1 q r.idx (if t.denied.isSome then t.badStatus else if anyBad ∨ r.status = POISONED then POISONED else OK) fun r => { r with
      count := x.t
      naninf := r.naninf || special.isSome
      nanRow := if r.naninf then r.nanRow else (special.getD (0, 0)).1
      nanCol := if r.naninf then r.nanCol else (special.getD (0, 0)).2
      detail := pack [(32, r.lenRead.getD 0), (32, unsigned 32 (x.pos0 r)), (32, rows.length), (32, bits w 0 32), (32, bits w 32 32),
                      (32, first)] }

/-- Append before attending: fetch, convert and write the new rows (R171, R173). -/
def attnAppend (s : State) (g q : Nat) (l : CmdList) (r : Running) (x : AttnCmd) (d first : Nat) : State :=
  let n := x.t * (dHkv d + 1) * eBytes x.qfmt (dDim d)
  let s := fetchThen s g 1 q l r 0x28 1 [(x.kvNew, 2 * n, false)] [] (fun s r =>
    let s := appendRows s g 1 q l r.idx 0x28 d x.layer first x.t x.qfmt x.sr x.kvNew (x.kvNew + n) 0 (2 * x.t * (dHkv d + 1) + 1)
    let y := theRun s g 1 q r.idx
    if y.denied.isSome then
      (if y.outstanding = 0 then failAppend s g 1 q r.idx y.badStatus else modRun s g 1 q r.idx fun r => { r with phase := 2 })
    else if ! rowsDone s g 1 q r.idx d x.t then s
    else modRun s g 1 q r.idx fun r => { r with phase := 2, status := if y.wrotePoison then POISONED else OK })
    (seqFailFields s)
  if (theRun s g 1 q r.idx).st = 1 then loseAppends s (ownedBy g 1 q r.idx) else s

/-- Fetch the queries and the rows attended, and attend, one output of the command in each slice (log entry 236). -/
def attend (s : State) (g q : Nat) (l : CmdList) (r : Running) (x : AttnCmd) (d : Nat) : State :=
  let rows := (x.kvHeads d).flatMap fun h => (x.positions d r.stripes r).flatMap fun p =>
    [(kvRow d x.layer h p 0, dRb d, false), (kvRow d x.layer h p 1, dRb d, false)]
  let qs := (List.range (x.t * x.heads)).map fun k => (x.q + k * eBytes x.qfmt (dDim d), eBytes x.qfmt (dDim d), false)
  fetchThen s g 1 q l r 0x28 (x.t * x.heads) (qs ++ rows) [] (fun s r => attnRun s g q l r x d) (seqFailFields s)

/-- ATTN: check and bind, append when asked, read L, fetch, attend. Log: 23 DEDUCED. -/
def doAttn (s : State) (g q : Nat) : State :=
  runCommand s g 1 q 0x28 fun s l r c =>
    let x := attnOf c
    match s.seqCtx x.ctx with
    | none => endSeq (modRun s g 1 q r.idx fun r => { r with tokens := x.t }) g 1 q r.idx REFUSED
    | some cx =>
      let d := cx.desc.toNat
      if r.phase = 0 then
        let stripes := stripeSet s d g
        let s := modRun s g 1 q r.idx fun r => { r with ctx := x.ctx, layer := x.layer, tokens := x.t, stripes := stripes }
        let ok := seqCheck s l x.slot x.ctx x.layer true x.partial' (x.headFirst + x.heads - 1)
        if ok ≠ OK then endSeq s g 1 q r.idx ok
        else if stripes.isEmpty ∨ ! cacheFmtOk s g x.ctx then endSeq s g 1 q r.idx REFUSED
        else
          let s := bindSlot s g l.id x.slot x.ctx
          if ! x.append then
            let s := modRun s g 1 q r.idx fun r => { r with phase := 3, lenRead := some (seqLen cx x.layer) }
            attend s g q l (theRun s g 1 q r.idx) x d
          else match reserve s x.ctx x.layer x.t (.cmd g 1 q r.idx) with
            | none => endSeq s g 1 q r.idx REFUSED
            | some (first, s) =>
              let s := modRun s g 1 q r.idx fun r => { r with resv := some (first, x.t), phase := 1 }
              attnAppend s g q l (theRun s g 1 q r.idx) x d first
      else if r.phase = 1 then attnAppend s g q l r x d (r.resv.getD (0, 0)).1
      else if r.phase = 2 then
        (if r.outstanding = 0 ∧ r.denied.isSome then failAppend s g 1 q r.idx r.badStatus else s)
      else attend s g q l r x d

end Sys2Proof.Machine
end

