-- ==== Sys2Proof/Machine/Matrix.lean ====
section
/-! DEFINITION. MMA and MMA_SCALED (R107–R111, R160–R163, R184–R191, R198). -/
namespace Sys2Proof.Machine

/-- The accumulator element (i, j) after the last step of K, before any addend: an FP32 code, or an INT32 code in the integer
classes (R189, R191). -/
def mmaElem (cls kb k : Nat) (a b : Operand) (i j : Nat) : Nat :=
  let ks := List.range k
  if cls = 4 ∨ cls = 6 then
    unsigned 32 ((ks.map fun x =>
      match decElem a.d.fmt (a.code i x), decElem b.d.fmt (b.code x j) with
      | .fin n m _, .fin n' m' _ => let p : Int := (m * m' : Nat); if n != n' then -p else p
      | _, _ => 0).foldl (· + ·) 0)
  else accumulate (if cls = 5 then 32 else kb) (ks.map fun x =>
    product a.d.fmt (a.code i x) (a.scale i x) b.d.fmt (b.code x j) (b.scale x j))

/-- The addend C of ACC (R161). -/
def mmaAcc (cls acc c : Nat) : Nat := if cls = 4 ∨ cls = 6 then (acc + c) % 2 ^ 32 else fAdd acc c

/-- Array cycles of R109. -/
def arrayCycles (mb kb m n k : Nat) : Nat := ceilDiv m mb * ceilDiv n 128 * ceilDiv k kb + 192

/-- A matrix product computes and writes its blocks. -/
def mmaRun (s : State) (g q : Nat) (l : CmdList) (r : Running) (cmd : Nat) (sc : Bool) : State :=
  let a := descAt cmd 64
  let b := descAt cmd 192
  let o := descAt cmd 320
  let m := bits cmd 448 16 + 1
  let n := bits cmd 464 16 + 1
  let k := bits cmd 480 16 + 1
  let acc := bitAt cmd 499
  let cls := pairClass a b sc
  let (mb, kb) := shapeFor (pairMode a.fmt b.fmt) m (bits cmd 496 3)
  let dst := descRuns o m n
  let (s, xa) := loadOperand s g 1 q r.idx l.part a m k false dst
  let (s, xb) := loadOperand s g 1 q r.idx l.part b k n true dst
  let (s, xc) := if acc then loadOperand s g 1 q r.idx l.part o m n false [] else (s, {})
  match (xa.denied.orElse fun _ => xb.denied).orElse fun _ => xc.denied with
  | some ad => endRun (refuseRun s g 1 q r.idx l.ctx l.part ad (cOp cmd) DENIED) g 1 q r.idx DENIED
  | none =>
    let elem (i j : Nat) : Nat :=
      let v := mmaElem cls kb k xa xb i j
      if acc then mmaAcc cls v (xc.code i j) else v
    let rowBad := (List.range m).map fun i => xa.anyBad && (List.range k).any fun x => xa.isBad i x
    let colBad := (List.range n).map fun j => xb.anyBad && (List.range k).any fun x => xb.isBad x j
    let bn := ceilDiv n 128
    let blockBad (t : Nat) : Bool :=
      let is := (range' (t / bn * mb) mb).filter (· < m)
      let js := (range' (t % bn * 128) 128).filter (· < n)
      is.any (rowBad.getD · false) || js.any (colBad.getD · false) ||
        (xc.anyBad && is.any fun i => js.any fun j => xc.isBad i j)
    let blocks := ceilDiv m mb * bn
    let bads := (List.range blocks).filter blockBad
    let accs := (List.range m).map fun i => (List.range n).map (elem i)
    let val (i j : Nat) : Nat := (accs.getD i []).getD j 0
    let isInt : Bool := cls == 4 || cls == 6
    let out (i j : Nat) : Nat :=
      let v := val i j
      encElem o.fmt (bitAt cmd 500)
        (if bitAt cmd 501 ∧ isNarrow o.fmt then some (srBits l.id r.idx g i j) else none)
        (if isInt then decElem fINT32 v else f32 v)
    let inBad (i j : Nat) : Bool := bads.contains (i / mb * bn + j / 128)
    let special := if isInt then none else
      ((List.range m).flatMap fun i => (List.range n).map fun j => (i, j)).find? fun x =>
        fSpecial (val x.1 x.2) && ! inBad x.1 x.2
    -- the elements of each run of C
    let runs : List (Nat × List (Nat × Nat)) :=
      if o.layout = 2 then (List.range bn).flatMap fun j =>
        (List.range m).map fun i =>
          ((o.addr + j * o.ld + i * eBytes o.fmt (min 128 (n - 128 * j))) % 2 ^ 56,
           (range' (128 * j) (min 128 (n - 128 * j))).map fun c => (i, c))
      else (List.range m).map fun i => ((o.addr + i * o.ld) % 2 ^ 56, (List.range n).map fun j => (i, j))
    let w := fmtBits o.fmt / 8
    let s := runs.foldl (fun s y =>
      let cs := y.2.map fun x => out x.1 x.2
      let atoms := if bads.isEmpty then [] else
        ((List.range y.2.length).filter fun i => let x := y.2.getD i (0, 0); inBad x.1 x.2).map fun i => (y.1 + i * w) / 64
      writeFor s g 1 q r.idx l.ctx y.1 (packElems o.fmt cs) (fun t => atoms.contains t) (cOp cmd)) s
    let (v, s) := s.draw
    writesIssued s g 1 q r.idx (if bads.isEmpty then OK else POISONED) fun r => { r with
      count := blocks
      naninf := special.isSome
      nanRow := (special.getD (0, 0)).1
      nanCol := (special.getD (0, 0)).2
      detail := pack [(32, arrayCycles mb kb m n k), (32, v), (32, bads.headD 0)] }

/-- Slices of a matrix product: 1,024 cycles, or one output block if that is shorter (R109, R117). -/
def mmaSlices (c : Nat) : Nat :=
  let (m, n, k) := (bits c 448 16 + 1, bits c 464 16 + 1, bits c 480 16 + 1)
  let (mb, kb) := shapeFor (pairMode (descAt c 64).fmt (descAt c 192).fmt) m (bits c 496 3)
  ceilDiv m mb * ceilDiv n 128 * ceilDiv (ceilDiv k kb) 1024

/-- MMA and MMA_SCALED: fetch the operands, then compute, in the command's last slice (log entry 236). -/
def doMma (s : State) (g q op : Nat) (sc : Bool) : State :=
  runCommand s g 1 q op fun s l r c =>
    let m := bits c 448 16 + 1
    let n := bits c 464 16 + 1
    let k := bits c 480 16 + 1
    fetchThen s g 1 q l r op (mmaSlices c)
      (operandRanges (descAt c 64) m k false ++ operandRanges (descAt c 192) k n true ++
       (if bitAt c 499 then operandRanges (descAt c 320) m n false else []))
      (descRuns (descAt c 320) m n)
      fun s r => mmaRun s g q l r c sc

end Sys2Proof.Machine
end

