-- ==== Sys2Proof/Machine/Collectives.lean ====
section
/-! DEFINITION. The collective events: packets at a node (R234–R236), Confluence's schedule (R239), verdicts, timeouts, and
the collective-group commands of the mailbox (R258). -/
namespace Sys2Proof.Machine

/-! ## Packets that reach this package -/

/-- The stream of a packet: its port die (R239). -/
def streamOf (p : Packet) : Nat := if p.inPort < 128 then p.inPort / 16 else 8 + p.port / 8 % 4

/-- A collective packet is admitted under R236, or discarded. End points send only JOIN, CONTRIB, ACK and NACK. -/
def admitColl (s : State) (p : Packet) (k : Nat → CollNode → Nat → State) : State :=
  match nodeOf s p.group with
  | none => discardColl s p.group
  | some (slot, n) =>
    match relativeOf s n p with
    | none => discardColl s p.group
    | some who =>
      if who < 4096 ∧ p.part ≠ n.part ∧ (p.opcode = opJOIN ∨ p.opcode = opCONTRIB) then discardColl s p.group else k slot n who

/-- JOIN (R251, R253): from a member its DST and counter, from a level-1 node that all members below it have entered. -/
def doJoin (s : State) (p : Packet) : State :=
  admitColl s p fun slot n who =>
    if 4096 ≤ who ∧ ! n.apex then discardColl s p.group
    else nodeJoin s slot who p.addr (if p.ctrEn then p.ctr + 1 else 0) p.digest
      (if p.payload.length = 16 then some (leNat p.payload) else none)

/-- CONTRIB and PARTIAL (R243): gathered into units for Confluence. -/
def doUnit (s : State) (p : Packet) : State :=
  admitColl s p fun slot n who =>
    if (p.opcode = opPARTIAL) ≠ (4096 ≤ who) ∨ (p.opcode = opPARTIAL ∧ ! n.apex) then discardColl s p.group
    else digestGate s slot who p fun s => gatherUnit s slot (streamOf p) who p

/-- RESULT at a level-1 node (R247). -/
def doResult (s : State) (p : Packet) : State :=
  admitColl s p fun slot n who =>
    if who < 4096 ∨ n.apex then discardColl s p.group
    else digestGate s slot who p fun s => gatherUnit s slot (streamOf p) who p

/-- The name of the sub-chunk that an ACK or NACK of a member or a node means (R235, R289). -/
def verdictName (o : CollOp) (who : Nat) (p : Packet) : Nat :=
  subName (if manyRuns o.op then bits p.addr 0 12 else 0)
    (if o.op = 5 then (if who < 4096 then who else bits p.addr 24 12) else 0) p.chunk

/-- Bits set in an ACK's map (R289). -/
def ackBits (p : Packet) : List Nat := (List.range 64).filter fun i => bitAt (leNat p.payload) i

/-- ACK: of a member, or between nodes (R237, R244, R247). -/
def doAck (s : State) (p : Packet) : State :=
  admitColl s p fun slot n who =>
    match n.opOf with
    | none => s
    | some o =>
      (ackBits p).foldl (fun s i =>
        let name := verdictName o who { p with chunk := p.chunk + i }
        if who < 4096 ∨ n.apex then ackResult s slot who name
        else pump (modNode s slot fun n => { n with sentParts := AMap.erase n.sentParts name }) slot) s

/-- NACK: of a result by a member, or of a partial by the apex (R244, R247). -/
def doNack (s : State) (p : Packet) : State :=
  admitColl s p fun slot n who =>
    match n.opOf with
    | none => s
    | some o =>
      let name := verdictName o who p
      if who < 4096 then nackResult s slot who name
      else
        let s := modNode s slot fun n => { n with nacks := satAdd 32 n.nacks 1 }
        match AMap.find n.sentParts name with
        | some pk => collCount (sendAll s pk) 7
        | none => s

/-- DONE from the apex (R253); one with another digest aborts the operation (R251). -/
def doDone (s : State) (p : Packet) : State :=
  admitColl s p fun slot n who =>
    if who < 4096 ∨ n.apex then discardColl s p.group
    else digestGate s slot who p fun s => applyDone s slot

/-- ABORT (R255): at the apex it goes on to all nodes. -/
def doAbort (s : State) (p : Packet) : State :=
  admitColl s p fun slot n who =>
    if who < 4096 then discardColl s p.group
    else
      let w := leNat p.payload
      let s := applyAbort s slot (bits w 0 8) (bits w 8 12) (bits w 20 9)
      if n.apex ∧ bits w 0 8 = 3 then applyReset s slot else s

/-- RESET from the apex (R255). -/
def doReset (s : State) (p : Packet) : State :=
  admitColl s p fun slot n who => if who < 4096 ∨ n.apex then discardColl s p.group else applyReset s slot

/-- A collective packet served at this package. -/
def collPacket (s : State) (p : Packet) : State :=
  if p.opcode = opJOIN then doJoin s p
  else if p.opcode = opCONTRIB ∨ p.opcode = opPARTIAL then doUnit s p
  else if p.opcode = opRESULT then doResult s p
  else if p.opcode = opACK then doAck s p
  else if p.opcode = opNACK then doNack s p
  else if p.opcode = opDONE then doDone s p
  else if p.opcode = opABORT then doAbort s p
  else doReset s p

/-! ## Confluence (R239) -/

/-- A port's weight: by its rate, 0 while it is down (R239). -/
def portWeight (s : State) (p : Nat) : Nat :=
  let x := s.prt p
  if ! (x.st == 2 || x.st == 3 || x.st == 4) then 0 else if x.rate = 3 then 4 else if x.rate = 2 then 2 else 1

/-- A stream's weight. -/
def streamWeight (s : State) (k : Nat) : Nat :=
  if k < 8 then sumBy (fun i => portWeight s (k * 16 + i)) (List.range 16) else 16

/-- The nodes of a die with a unit waiting in a stream, by slot. -/
def waitingIn (s : State) (die k : Nat) : List Nat :=
  (s.coll.nodes.filter fun x => x.2.xd == die && x.2.units.any (·.stream == k)).map (·.1)

/-- The next stream of the smooth weighted round robin, with the weights after it (R239). -/
def wrrPick (s : State) (die : Nat) : Option (Nat × AMap Int) :=
  let ready := (List.range 12).filter fun k => ! (waitingIn s die k).isEmpty
  let total : Int := sumBy (streamWeight s) ready
  let cur := ready.map fun k => (k, AMap.get 0 s.coll.wrr (die * 16 + k) + (streamWeight s k : Int))
  match bestBy (fun a b => decide (b.2 < a.2)) cur with
  | none => none
  | some b =>
    some (b.1, cur.foldl (fun t x => AMap.set t (die * 16 + x.1) (if x.1 = b.1 then x.2 - total else x.2)) s.coll.wrr)

/-- One cycle of the Confluence of a crossbar die (R239, R241). -/
def doCombine (s : State) (die : Nat) : State :=
  if s.isUnitFenced 3 die ∨ 4 ≤ die then s
  else match wrrPick s die with
  | none => s
  | some (k, w) =>
    let slots := waitingIn s die k
    let last := AMap.find s.coll.rrNode (die * 16 + k)
    let slot := ((slots.find? fun x => match last with | some l => decide (l < x) | none => true).orElse fun _ => slots.head?).getD 0
    let n := s.node slot
    match n.units.find? (·.stream == k) with
    | none => s
    | some u =>
      let s := s.modColl fun c => { c with wrr := w, rrNode := AMap.set c.rrNode (die * 16 + k) slot }
      let s := s.setNode slot { n with units := n.units.erase u }
      takeUnit s slot u

/-! ## Timeouts -/

/-- RETAIN expires (R247). -/
def doRetainExpiry (s : State) (group key : Nat) : State :=
  match nodeOf s group with
  | none => s
  | some (slot, n) =>
    match AMap.find n.held key with
    | none => s
    | some h => pump (s.setNode slot { n with held := AMap.set n.held key { h with released := true } }) slot

/-- The lowest-numbered member whose JOIN has not arrived (R254). -/
def missingMember (s : State) (n : CollNode) : Nat :=
  let all := (AMap.get ({} : CollDef) s.coll.defs n.group).members
  ((all.find? fun m =>
    if level1 m.2 = s.self then ! n.joined.contains m.1 else ! n.joined.contains (4096 + level1 m.2)).map (·.1)).getD 0xFFF

/-- COLL_TMO at the apex (R254). -/
def doCollTimeout (s : State) (group : Nat) : State :=
  match nodeOf s group with
  | none => s
  | some (slot, n) => if n.apex ∧ n.st = 1 then collAbortOp s slot 2 (missingMember s n) else s

/-- A COLL_WAIT's bound (R254): the operation aborts, naming the member. -/
def doCollWaitTimeout (s : State) (g slot : Nat) : State :=
  let x := s.grp g
  match AMap.find x.joins slot with
  | none => s
  | some j =>
    let waits := x.queues.any fun q => q.2.list == j.list && q.2.started.any fun r =>
      r.opcode == 0x31 && r.st == 0 && (match x.list? q.2.list with | some l => bits (cmdAt l r.idx) 64 5 == j.slot | none => false)
    if ! waits ∨ joinFinished j then s
    else match nodeOf s j.group with
      | some (k, n) =>
        if n.st = 1 ∨ (n.st = 0 ∧ ! j.sent) then collAbortOp s k 6 j.member
        else alone (freeDst s j n.part) j
      | none => alone s j
where
  /-- No node knows of the operation: it ends for its member. -/
  alone (s : State) (j : Join) : State :=
    collWake (modJoin s g slot fun _ => { j with abortReason := 6, offender := j.member, detect := s.self }) g

/-! ## Lost nodes (R229, R255) -/

/-- A group that no die has room for stays ABORTED at every node: the apex hears of it and tells the others (R229). -/
def stayAborted (s : State) (slot : Nat) : State :=
  let n := s.node slot
  let s := s.setNode slot { n.clear with st := 2, lastReason := 3 }
  if n.apex then n.childNodes.foldl (fun s d => sendMsg s d msgCollStuck [(16, n.group)]) s else s

/-- A Confluence is fenced: its nodes move to the die with the most free cells, and their operations abort with NODE; a group
for one of whose nodes no die has room stays ABORTED, with event 0x0A01. -/
def confluenceFenced (s : State) (die : Nat) : State :=
  (s.coll.nodes.filter fun x => x.2.xd == die).foldl (fun s x =>
    let tgt := bestDie s
    let room := decide (x.2.window * 16 ≤ cellsFree s tgt) && ! s.isUnitFenced 3 tgt
    let s := if room then modNode s x.1 fun n => { n with xd := tgt } else s
    let s := collAbortOp s x.1 3 0xFFF
    if room then s
    else
      let s := if x.2.apex then s else sendMsg s x.2.apexNode msgCollStuck [(16, x.2.group)]
      pushEvent (stayAborted s x.1) 0x0A01 x.2.group) s

/-- A child or the apex of a node here is lost, or the way to it: the group's operation aborts with NODE (R255). -/
def collNodeLost (s : State) (node : Nat) : State :=
  s.coll.nodes.foldl (fun s x =>
    if x.2.childNodes.contains node ∨ (x.2.apexNode = node ∧ ! x.2.apex) then collAbortOp s x.1 3 0xFFF else s) s

/-- The packages that are next to a node here in the tree of a group (R227). -/
def treeNeighbours (s : State) : List Nat :=
  (s.coll.nodes.flatMap fun x => if x.2.apex then x.2.childNodes else [x.2.apexNode]).eraseDups

/-! ## Mailbox (R258) -/

/-- COLL_CREATE. -/
def collCreate (s : State) (m : Master) (group part n window tmo : Nat) : State :=
  serve s m 0x0A00 fun s =>
    let w := if window = 0 then 128 else window
    let t := if tmo = 0 then 10 else tmo
    if ! mayManage s m part then respond s m 0x0A00 DENIED
    else if group > 0xFFFF ∨ part > 63 ∨ n < 2 ∨ n > 4096 ∨ w < 16 ∨ w > 512 ∨ t > 1000 ∨ AMap.has s.coll.defs group ∨ (nodeOf s group).isSome then
      respond s m 0x0A00 REFUSED
    else respond (s.modColl fun c => { c with defs := AMap.set c.defs group { part := part, n := n, window := w, tmo := t } })
      m 0x0A00 OK

/-- A member entry is valid by itself (R226). -/
def entryOk (s : State) (e : BitVec 64) : Bool :=
  let nd := entNode e
  bits e.toNat 16 48 == 0 &&
  (if entKind e = 0 then entAttach e == 0 && (nd == s.self || s.man.packages.any (·.node == nd))
   else entEg e == 0 && s.man.endPoints.contains nd)

/-- Two entries name one member. -/
def sameMember (a b : BitVec 64) : Bool := entKind a == entKind b && entNode a == entNode b && entEg a == entEg b

/-- COLL_MEMBERS. -/
def collMembers (s : State) (m : Master) (group first : Nat) (entries : List (BitVec 64)) (dies : List (Nat × Nat)) : State :=
  serve s m 0x0A01 fun s =>
    match AMap.find s.coll.defs group with
    | none => respond s m 0x0A01 REFUSED
    | some d =>
      let new : AMap (BitVec 64) := (List.range entries.length).map fun i => (first + i, entries.getD i 0)
      let kept := d.members.filter fun x => ! decide (first ≤ x.1 ∧ x.1 < first + entries.length)
      let dup := (List.range entries.length).any fun i =>
        (kept.any fun x => sameMember x.2 (entries.getD i 0)) ||
        (List.range i).any fun k => sameMember (entries.getD k 0) (entries.getD i 0)
      if ! mayManage s m d.part then respond s m 0x0A01 DENIED
      else if entries.isEmpty ∨ 480 < entries.length ∨ d.n < first + entries.length ∨ dup ∨ ! entries.all (entryOk s) ∨
          dies.any (fun x => decide (3 < x.2)) ∨ d.committed then respond s m 0x0A01 REFUSED
      else
        let d := { d with members := new.foldl (fun t x => AMap.set t x.1 x.2) d.members
                          dies := dies.foldl (fun t x => AMap.set t x.1 x.2) d.dies }
        respond (s.modColl fun c => { c with defs := AMap.set c.defs group d }) m 0x0A01 OK

/-- The level-1 nodes of a group. -/
def groupNodes (d : CollDef) : List Nat := (d.members.map fun x => level1 x.2).eraseDups

/-- A node's description for the group of a definition (R258). -/
def nodeDesc (s : State) (group : Nat) (d : CollDef) (node : Nat) : NodeDesc :=
  { group := group, part := d.part, n := d.n, window := d.window, apexNode := s.self, tmo := d.tmo
    members := d.members.filter fun x => level1 x.2 == node
    childNodes := if node = s.self then (groupNodes d).filter (· != s.self) else []
    die := AMap.find d.dies node }

/-- The management-channel message that installs or removes a node (R258, R298); its payload is the model's own. -/
def installPkt (s : State) (node group : Nat) (install : Bool) : Packet :=
  { addr := nodeBase node, opcode := opCTRL, srcNode := s.self, port := 37, vc := 5, holder := some node, len := 4
    payload := leBytes 4 (pack [(8, msgInstall), (8, b2n install), (16, group)]) }

/-- COLL_COMMIT (R227, R229). What the other packages answer is free. Log: 79 DEDUCED. -/
def collCommit (s : State) (m : Master) (group : Nat) : State :=
  serve s m 0x0A02 fun s =>
    match AMap.find s.coll.defs group with
    | none => respond s m 0x0A02 REFUSED
    | some d =>
      let others := (groupNodes d).filter (· != s.self)
      let apexOk := s.straps.role == 1 || (groupNodes d).all fun x => x / 16 == s.tray
      if ! mayManage s m d.part then respond s m 0x0A02 DENIED
      else if d.members.length ≠ d.n ∨ ! apexOk ∨ d.committed then respond s m 0x0A02 REFUSED
      else
        let (s1, ok) := installNode s (nodeDesc s group d s.self)
        if ! ok then respond s m 0x0A02 BUSY [(2, s.self)]
        else
          let s := others.foldl (fun s n => send s (installPkt s n group true)) s1
          let (v, s) := s.draw
          if ! others.isEmpty && bitAt v 0 then
            defer (others.foldl (fun s n => send s (installPkt s n group false)) (removeNode s group)) m 0x0A02 BUSY
              [(2, others.getD (v / 2 % others.length) 0)]
          else defer (s.modColl fun c => { c with defs := AMap.set c.defs group { d with committed := true } }) m 0x0A02 OK

/-- COLL_DESTROY. Whether a list of another package still holds a join, which that package answers, is free. Log: 79 DEDUCED. -/
def collDestroy (s : State) (m : Master) (group : Nat) : State :=
  serve s m 0x0A03 fun s =>
    match AMap.find s.coll.defs group with
    | none => respond s m 0x0A03 REFUSED
    | some d =>
      if ! mayManage s m d.part then respond s m 0x0A03 DENIED
      else if (nodeOf s group).any (fun x => x.2.st == 1) ∨ s.groups.any (fun g => g.2.joins.any fun j => j.2.group == group) then
        respond s m 0x0A03 BUSY
      else
        let others := (groupNodes d).filter (· != s.self)
        let (v, s) := if d.committed ∧ ! others.isEmpty then s.draw else (0, s)
        if bitAt v 0 then respond s m 0x0A03 BUSY
        else
          let s := others.foldl (fun s n => send s (installPkt s n group false)) (removeNode s group)
          defer (s.modColl fun c => { c with defs := AMap.erase c.defs group }) m 0x0A03 OK

/-- COLL_RESET (R255). -/
def collReset (s : State) (m : Master) (group : Nat) : State :=
  serve s m 0x0A04 fun s =>
    match AMap.find s.coll.defs group, nodeOf s group with
    | some d, some (slot, n) =>
      if ! mayManage s m d.part then respond s m 0x0A04 DENIED
      else defer (applyReset (if n.st = 1 then applyAbort s slot 5 0xFFF s.self else s) slot) m 0x0A04 OK
    | _, _ => respond s m 0x0A04 REFUSED

/-- COLL_ABORT (R255): reason FM. Log: 80 DEDUCED. -/
def collAbort (s : State) (m : Master) (group : Nat) : State :=
  serve s m 0x0A05 fun s =>
    match AMap.find s.coll.defs group, nodeOf s group with
    | some d, some (slot, _) =>
      if ! mayManage s m d.part then respond s m 0x0A05 DENIED
      else
        respond (collAbortOp s slot 5 0xFFF) m 0x0A05 OK
    | _, _ => respond s m 0x0A05 REFUSED

/-- COLL_GET. -/
def collGet (s : State) (m : Master) (group : Nat) : State :=
  serve s m 0x0A06 fun s =>
    match nodeOf s group with
    | none => respond s m 0x0A06 REFUSED
    | some (slot, n) =>
      if ! mayManage s m n.part then respond s m 0x0A06 DENIED
      else respond s m 0x0A06 OK [(64, regNodeSlot s slot), (2, n.apexNode), (2, n.n)]

/-- COLL_CELLS_SET (R228). -/
def collCellsSet (s : State) (m : Master) (die share : Nat) : State :=
  serve s m 0x0A07 fun s =>
    if die > 3 ∨ share < 16384 ∨ share > 131072 then respond s m 0x0A07 REFUSED
    else if ! s.coll.nodes.isEmpty then respond s m 0x0A07 BUSY
    else respond (s.modColl fun c => { c with share := AMap.set c.share die share }) m 0x0A07 OK

/-- COLL_STATS. -/
def collStats (s : State) (m : Master) (clear : Bool) : State :=
  serve s m 0x0A08 fun s =>
    let s1 := if clear then s.modColl fun c => { c with stats := [] } else s
    respond s1 m 0x0A08 OK ((List.range 10).map fun i => (4, AMap.get 0 s.coll.stats i))

/-- COLL_NODE_INSTALL (R258). -/
def doNodeInstall (s : State) (d : NodeDesc) (install : Bool) : State :=
  if install then (installNode s d).1 else removeNode s d.group

end Sys2Proof.Machine
end

