-- ==== Sys2Proof/Machine/Scalar.lean ====
section
/-! DEFINITION. The scalar engine's ATOMIC, COLL_JOIN and COLL_WAIT (R174–R177, R232, R252, R277). -/
namespace Sys2Proof.Machine

/-! ## ATOMIC (R176, R177, R277) -/

/-- The old value has come: RESULT is written, and the command completes. -/
def atomicEnd (s : State) (g q : Nat) (l : CmdList) (r : Running) (c old : Nat) : State :=
  let n := 4 * 2 ^ bits c 452 2
  let s := if bitAt c 454 then writeFor s g 0 q r.idx l.ctx (bits c 128 56) (leBytes n old) (fun _ => false) 0x38 else s
  writesIssued s g 0 q r.idx OK fun r => { r with count := n, detail := old }

/-- A read-modify-write of bytes served here: none while its atom is poisoned, else the old value. -/
def atomicHere (s : State) (node off n part aop opa opb : Nat) (drain' : Bool) : State × Option Nat :=
  let s := if drain' then drainTarget s (targetOf s node off) else s
  let key := keyOf s node off
  let s := meetErrors s key n
  if ! (badAtoms s key n part).isEmpty then (s, none)
  else
    let old := leNat (readMem s key n part)
    (performWrite s key (leBytes n (atomicOp aop n old opa opb)) part false, some old)

/-- An ATOMIC is refused (R43, R178, R179). -/
def atomicDenied (s : State) (g q : Nat) (l : CmdList) (i c : Nat) : State :=
  endRun (refuseRun s g 0 q i l.ctx l.part (bits c 64 56) 0x38 DENIED) g 0 q i DENIED fun r => { r with count := 4 * 2 ^ bits c 452 2 }

/-- An ATOMIC that meets a poisoned atom, or a lost parcel, is not performed (R277, R510). -/
def atomicPoisoned (s : State) (g q i c : Nat) : State :=
  endRun s g 0 q i POISONED fun r => { r with count := 4 * 2 ^ bits c 452 2 }

/-- Perform an ATOMIC here, hold it for a copying tile (R86), or send it. -/
def atomicIssue (s : State) (g q : Nat) (l : CmdList) (r : Running) (c : Nat) : State :=
  let addr := bits c 64 56
  let n := 4 * 2 ^ bits c 452 2
  let aop := bits c 448 4
  let opa := bits c 192 (8 * n)
  let opb := bits c 320 (8 * n)
  let s := addHolds (dropFarRange s addr n) g 0 q r.idx addr n
  let packet (part a : Nat) (h : Option Nat) : Packet :=
    { addr := a, opcode := opATOM, port := g, part := part, aop := aop, size := bits c 452 2, holder := h
      len := if aop = 7 then 2 * n else n, payload := leBytes n opa ++ (if aop = 7 then leBytes n opb else []) }
  let send (s : State) (p : Packet) : State :=
    issue (modRun s g 0 q r.idx fun r => { r with outstanding := r.outstanding + 1, phase := 1 }) p l.ctx (.cmd g 0 q r.idx) none
  let node := addrNode addr
  let off := addrOff addr
  if dirHere s addr then
    if isCtlOff off ∨ (winOf off matches .host _) then atomicDenied s g q l r.idx c
    else match accCheck s node off n l.part true with
    | some 0 =>
      if tileCopying s node off then
        holdAccess (modRun s g 0 q r.idx fun r => { r with phase := 4 }) node off (.atomic g q r.idx)
      else
        let s := countAccess s node off (0x200 + g)
        match placeOf s addr with
        | .here _ _ =>
          (match atomicHere s node off n l.part aop opa opb (! localAcc s g node off false) with
           | (s, none) => atomicPoisoned s g q r.idx c
           | (s, some old) =>
             let s := if mirrored s node off then
                 mirrorWrite s node off (readMem s (keyOf s node off) n l.part) l.part (.cmd g 0 q r.idx) none else s
             atomicEnd s g q l r c old)
        | .away => send s { packet l.part (heldAddr s node off) (some (ordLoc s node off).holder) with names := some addr }
        | .host _ => atomicDenied s g q l r.idx c
    | some 5 => atomicPoisoned s g q r.idx c
    | none => s
    | _ => atomicDenied s g q l r.idx c
  else match reach s l.ctx addr n .at' with
    | none => atomicDenied s g q l r.idx c
    | some p =>
      if (isCtlOff off ∨ (winOf off matches .host _)) ∧ isDevik node then atomicDenied s g q l r.idx c
      else send s (packet p addr (locHit s g addr))

/-- ATOMIC. A tile of this node that is held far away is fetched first (R90). Log: 45 DEDUCED. -/
def doAtomic (s : State) (g q : Nat) : State :=
  runCommand s g 0 q 0x38 fun s l r c =>
    let addr := bits c 64 56
    let n := 4 * 2 ^ bits c 452 2
    if r.phase = 4 then s
    else if r.phase = 1 then
      -- the reply
      if r.outstanding ≠ 0 then s
      else if r.denied.isSome then endRun s g 0 q r.idx DENIED fun r => { r with count := n }
      else if r.wrotePoison ∨ ! r.fetchBad.isEmpty then atomicPoisoned s g q r.idx c
      else atomicEnd s g q l r c (leNat (Mem.readBytes r.fetched addr n))
    else if engineConflict s g 0 addr n then s
    else
      let x := demandRange s g addr n
      if x.2 then x.1 else atomicIssue x.1 g q l r c

/-- An ATOMIC that was held for a tile goes on when the tile's held accesses do (R86). -/
def resumeAtomic (s : State) (g q i : Nat) : State :=
  let x := s.grp g
  match queueList x 0 q, (x.que 0 q).started.find? (fun r => r.idx == i && r.opcode == 0x38 && r.phase == 4 && r.st == 0) with
  | some l, some r => atomicIssue (modRun s g 0 q i fun r => { r with phase := 0 }) g q l { r with phase := 0 } (cmdAt l i)
  | _, _ => s

/-! ## COLL_JOIN and COLL_WAIT -/

/-- The member index of an engine group of this package (R225). -/
def memberOf (s : State) (n : CollNode) (g : Nat) : Option Nat := memberAt n s.self g

/-- The checks of R232, in the order of its text after those on the group's existence and partition. Log: 46 DEDUCED. -/
def joinOk (s : State) (n : CollNode) (o : CollOp) (m src dst : Nat) (at' : Option Nat) : Bool :=
  n.st != 2 && collCombo o.op o.ty o.outFmt o.fn && ((o.op == 6) == (o.count == 0)) &&
  (o.op != 1 || o.count % (n.n * ceOf o.ty) == 0) && (o.op != 5 || o.count % n.n == 0) &&
  (if o.op = 3 ∨ o.op = 4 then decide (o.root < n.n) else o.root == 0) &&
  (! o.contributes m || src % 64 == 0) && (! o.receives m || dst % 64 == 0) &&
  (match at' with | some f => decide (f ≤ s.time.lfc + 65536) | none => true)

/-- The operation that a COLL_JOIN names, as its member's next (R174, R250). -/
def joinOp (s : State) (g c : Nat) : CollOp :=
  { count := bits c 192 32, opgen := AMap.get 0 s.coll.memberGen (bits c 224 16 * 32 + g), op := bits c 240 4, ty := bits c 244 4
    outFmt := bits c 248 4, fn := bits c 252 3, root := bits c 256 12, group := bits c 224 16 }

/-- START_FRAME of a COLL_JOIN with AT_FRAME. -/
def joinFrame (c : Nat) : Option Nat := if bitAt c 281 then some (bits c 288 48) else none

/-- The slot that a COLL_JOIN names is still joined (R175). -/
def slotTaken (s : State) (g : Nat) (l : CmdList) (c : Nat) : Bool :=
  (s.grp g).joins.any fun j => j.2.list == l.id && j.2.slot == bits c 282 5

/-- A COLL_JOIN whose SRC is here reads it and enters the operation, unless another has joined on its slot meanwhile: then it
waits at the head of its queue (R175). Log: 47 DEDUCED. -/
def enterJoin (s : State) (g q : Nat) (l : CmdList) (r : Running) (c size m : Nat) (o : CollOp) : State :=
  let src := bits c 64 56
  let at' := joinFrame c
  let len := o.srcBytes m
  if slotTaken s g l c then unbegin s g 0 q r.idx else
  let (s, d, bad, den) := if len = 0 then (s, [], [], none) else readFor s g 0 q r.idx l.part src len false
  match den with
  | some a => endRun (refuseRun s g 0 q r.idx l.ctx l.part a 0x30 DENIED) g 0 q r.idx DENIED fun r => { r with detail := o.group }
  | none =>
    let k := firstFree 32 0 ((s.grp g).joins.map (·.1))
    let now := s.time.lfc
    let wait := match at' with | some f => decide (now < f) | none => false
    let j : Join := {
      list := l.id, slot := bits c 282 5, queue := q, cmd := r.idx, group := o.group, member := m, op := o.op, ty := o.ty
      outFmt := o.outFmt, fn := o.fn, root := o.root, count := o.count, n := size, dst := bits c 128 56
      ctr := if bitAt c 280 then some (bits c 268 12) else none
      opgen := o.opgen, digest := o.digest, late := (match at' with | some f => decide (f < now) | none => false)
      scheduled := if wait then at' else none
      ctx := l.ctx, srcAddr := src, src := d, srcBad := bad.map fun a => a - src / 64 }
    let s := s.modGrp g fun x => { x with joins := AMap.set x.joins k j }
    let s := s.modColl fun y => { y with memberGen := AMap.set y.memberGen (o.group * 32 + g) ((o.opgen + 1) % 65536) }
    let s := modRun s g 0 q r.idx fun r => { r with detail := o.group, phase := 2 }
    if wait then s else memberJoins (endRun s g 0 q r.idx OK) g k

/-- COLL_JOIN: read SRC, enter the operation; with AT_FRAME it waits for its frame. -/
def doCollJoin (s : State) (g q : Nat) : State :=
  runCommand s g 0 q 0x30 fun s l r c =>
    let grp := bits c 224 16
    if r.phase = 2 then s
    else if r.phase = 0 ∧ slotTaken s g l c then unbegin s g 0 q r.idx
    else
      match nodeOf s grp with
      | none => endRun s g 0 q r.idx REFUSED fun r => { r with detail := grp }
      | some (_, n) =>
        match memberOf s n g with
        | none => endRun s g 0 q r.idx REFUSED fun r => { r with detail := grp }
        | some m =>
          let o := joinOp s g c
          let src := bits c 64 56
          if n.part ≠ l.part then endRun s g 0 q r.idx DENIED fun r => { r with detail := grp }
          else if ! joinOk s n o m src (bits c 128 56) (joinFrame c) then endRun s g 0 q r.idx REFUSED fun r => { r with detail := grp }
          else
            fetchThen s g 0 q l r 0x30 1 (if o.srcBytes m = 0 then [] else [(src, o.srcBytes m, false)]) []
              (fun s r => enterJoin s g q l r c n.n m o) fun r => { r with detail := grp }

/-- COLL_SCHEDULED_START (R252): the frame has begun; the JOIN is sent and COLL_JOIN completes. -/
def doScheduledStart (s : State) (g q : Nat) : State :=
  let x := s.grp g
  match (x.que 0 q).started.find? (fun r => r.opcode == 0x30 && r.st == 0 && r.phase != 9) with
  | none => s
  | some r =>
    match x.joins.find? (fun j => j.2.cmd == r.idx && j.2.queue == q && j.2.list == (x.que 0 q).list && j.2.scheduled.isSome) with
    | none => s
    | some (k, j) => if s.time.lfc < j.scheduled.getD 0 then s else memberJoins (endRun s g 0 q r.idx OK) g k

/-- COLL_WAIT (R175). Log: 44 DEDUCED. -/
def doCollWait (s : State) (g q : Nat) : State := runCommand s g 0 q 0x31 fun s _ _ _ => collWake s g

end Sys2Proof.Machine
end

