-- ==== Sys2Proof/Machine/Sequence.lean ====
section
/-! DEFINITION. The sequence-context commands of the mailbox (R206, R210, R221, R224) and the advance of a layer's length
(R212). -/
namespace Sys2Proof.Machine

/-- The explicit moves that bring a region's stripes under the groups that read them (R210, R221). -/
def stripeTargets (d base node : Nat) : List (Nat × Nat) :=
  (List.range (dRegCount d)).map fun i => (dRegFirst d + i, node * 32 + (base + i % dStripes d) % 32)

def queueStripes (s : State) (l : List (Nat × Nat)) : State :=
  startStripeMoves (s.modMem fun m => { m with stripeMoves := m.stripeMoves ++ l })

/-- The lowest free context number. -/
def freeSeqCtx (s : State) : Nat := firstFree s.seqs.ctxs.length 0 (s.seqs.ctxs.map (·.1))

/-- SEQ_REGISTER (R206, R210). -/
def seqRegister (s : State) (m : Master) (desc : BitVec 512) : State :=
  serve s m 0x0900 fun s =>
    let d := desc.toNat
    if ! mayManage s m (dPart d) then respond s m 0x0900 DENIED
    else if ! seqDescOk d ∨ ! seqRegionOk s d then respond s m 0x0900 REFUSED
    else if 16384 ≤ s.seqs.ctxs.length then respond s m 0x0900 BUSY
    else
      let c := freeSeqCtx s
      let s := mirrorSeq (s.setSeqCtx c { desc := BitVec.ofNat 512 (bits d 0 192) }) c
      let s := if dRegNode d = s.self then queueStripes s (stripeTargets d (dStripeBase d) s.self) else s
      defer s m 0x0900 OK [(2, c), (4, maxPos d)]

/-- Parcels of a context's region here that have UNMIRRORED set (R220). -/
def seqUnmirrored (s : State) (d : Nat) : Nat :=
  if dRegNode d = s.self then (range' (dRegFirst d) (dRegCount d)).countP fun p => (s.ent p).unmirrored else 0

/-- SEQ_GET. -/
def seqGet (s : State) (m : Master) (c first : Nat) : State :=
  serve s m 0x0901 fun s =>
    match s.seqCtx c with
    | none => respond s m 0x0901 REFUSED
    | some x =>
      let d := x.desc.toNat
      let lens := (List.range (dLayers d)).map (seqLen x)
      if ! mayManage s m (dPart d) then respond s m 0x0901 DENIED
      else if dLayers d ≤ first then respond s m 0x0901 REFUSED
      else respond s m 0x0901 OK ([(64, seqDescRead s c x), (4, lens.foldl min (2 ^ 32 - 1)), (4, lens.foldl max 0),
        (4, min 480 (dLayers d - first))] ++
        ((range' first (min 480 (dLayers d - first))).flatMap fun l => [(4, seqLen x l), (4, seqRes x l)]) ++
        [(4, seqUnmirrored s d)])

/-- SEQ_RELEASE. -/
def seqRelease (s : State) (m : Master) (c : Nat) : State :=
  serve s m 0x0902 fun s =>
    match s.seqCtx c with
    | none => respond s m 0x0902 REFUSED
    | some x =>
      if ! mayManage s m (dPart x.desc.toNat) then respond s m 0x0902 DENIED
      else if inFlight s c ∨ x.migrating then respond s m 0x0902 BUSY
      else respond (mirrorSeq (s.modSeq fun q => { q with ctxs := AMap.erase q.ctxs c }) c) m 0x0902 OK

/-- SEQ_TRUNCATE. -/
def seqTruncate (s : State) (m : Master) (c len : Nat) : State :=
  serve s m 0x0903 fun s =>
    match s.seqCtx c with
    | none => respond s m 0x0903 REFUSED
    | some x =>
      if ! mayManage s m (dPart x.desc.toNat) then respond s m 0x0903 DENIED
      else if inFlight s c ∨ x.migrating then respond s m 0x0903 BUSY
      else respond (mirrorSeqAll (s.setSeqCtx c { x with len := AMap.mapVals (fun _ v => min v len) x.len
                                                         res := AMap.mapVals (fun _ v => min v len) x.res }) c) m 0x0903 OK

/-- The control packets that carry a context's record to another package: the descriptor with the request's STRIPE_BASE and MOVE, then
LEN of up to 480 layers in each (R221, R298). Log: 81 DESIGN CHOICE. -/
def sendRecord (s : State) (c : Nat) (x : SeqCtx) (dest base : Nat) (move : Bool) : State :=
  let s := sendMsg s dest msgRecord [(14, c), (5, base), (1, b2n move), (4, 0), (512, x.desc.toNat)]
  let n := dLayers x.desc.toNat
  (List.range (ceilDiv n 480)).foldl (fun s i =>
    sendMsg s dest msgLens ([(14, c), (10, i * 480)] ++ (range' (i * 480) (min 480 (n - i * 480))).map fun l => (32, seqLen x l))) s

/-- SEQ_MIGRATE (R221), steps 1 and 2. The command stays in service until the destination answers. Log: 147 DEDUCED. -/
def seqMigrate (s : State) (m : Master) (c dest base : Nat) (move : Bool) : State :=
  serve s m 0x0904 fun s =>
    match s.seqCtx c with
    | none => respond s m 0x0904 REFUSED
    | some x =>
      if ! mayManage s m (dPart x.desc.toNat) then respond s m 0x0904 DENIED
      else if seqLost s x.desc.toNat ∨ ! isDevik dest ∨ ! (s.man.packages.any fun p => p.node == dest && p.node != s.self) ∨ 31 < base then
        respond s m 0x0904 REFUSED
      else if inFlight s c ∨ x.migrating then respond s m 0x0904 BUSY
      else sendRecord (s.setSeqCtx c { x with migrating := true, mig := some (m, base, move), migTo := dest }) c x dest base move

/-- SEQ_MIGRATE_RECORD (R221), step 3: a record arrives; it is installed under a number of this package's own, or answered BUSY. -/
def doMigrateRecord (s : State) (r : SeqRecord) : State :=
  if 16384 ≤ s.seqs.ctxs.length then sendMsg s r.fromNode msgRecordReply [(14, r.fromCtx), (1, 1), (14, 0)]
  else
    let c := freeSeqCtx s
    let d0 := r.desc.toNat
    let d := d0 - bits d0 48 5 * 2 ^ 48 + r.stripeBase % 32 * 2 ^ 48
    let s := mirrorSeqAll (s.setSeqCtx c { desc := BitVec.ofNat 512 d, len := r.lens, res := r.lens }) c
    let s := if r.move ∧ dRegNode d = s.self then queueStripes s (stripeTargets d (r.stripeBase % 32) s.self) else s
    sendMsg s r.fromNode msgRecordReply [(14, r.fromCtx), (1, 0), (14, c)]

/-- A third package, which holds the directory of a migrated context's region, is told to start its moves (R221 step 5). -/
def tellStripes (s : State) (d base dest : Nat) : State :=
  sendMsg s (dRegNode d) msgStripes [(20, dRegFirst d), (17, dRegCount d), (3, bits d 45 3), (5, base), (9, dest)]

/-- SEQ_MIGRATE_REPLY (R221), steps 3 to 5: the destination's number, or its BUSY. -/
def doMigrateReply (s : State) (c : Nat) (new : Option Nat) : State :=
  match s.seqCtx c with
  | none => s
  | some x =>
    match x.mig with
    | none => s
    | some (m, base, move) =>
      match new with
      | none => respond (s.setSeqCtx c { x with migrating := false, mig := none }) m 0x0904 BUSY
      | some n =>
        let d := x.desc.toNat
        let s := mirrorSeq (s.modSeq fun q => { q with ctxs := AMap.erase q.ctxs c, migrations := satAdd 32 q.migrations 1 }) c
        let s := if ! move ∨ dRegNode d = x.migTo then s
          else if dRegNode d = s.self then queueStripes s (stripeTargets d base x.migTo)
          else tellStripes s d base x.migTo
        respond s m 0x0904 OK [(2, n)]

/-- SEQ_STATS. -/
def seqStats (s : State) (m : Master) (clear : Bool) : State :=
  serve s m 0x0905 fun s =>
    let q := s.seqs
    let s1 := if clear then s.modSeq fun q => { q with attnDone := 0, appendDone := 0, cancelled := 0, migrations := 0 } else s
    respond s1 m 0x0905 OK [(2, q.ctxs.length), (2, q.ctxs.countP fun x => inFlight s x.1), (2, (boundCtxs s).length),
      (4, q.attnDone), (4, q.appendDone), (4, q.cancelled), (4, q.migrations)]

/-- The started command of an owner. -/
def runOf (s : State) (o : Owner) : Option Running :=
  match o with
  | .cmd g e q i => ((s.grp g).que e q).started.find? fun r => r.idx == i
  | _ => none

/-- APPEND_LENGTH_ADVANCE (R212): the layer's next reservation has all its rows accepted; LEN advances over it. A KVAPPEND
then completes; an ATTN goes on to attend. -/
def doLengthAdvance (s : State) (c l : Nat) : State :=
  match s.seqCtx c with
  | none => s
  | some x =>
    match s.seqs.resvs.find? (fun r => r.ctx == c && r.layer == l && r.first == seqLen x l) with
    | none => s
    | some v =>
      match runOf s v.owner with
      | none => s
      | some r =>
        if r.phase ≠ 2 ∨ r.outstanding ≠ 0 ∨ r.denied.isSome ∨ r.rowsWritten then s
        else
          let len := v.first + v.count
          let s := s.setSeqCtx c { x with len := AMap.set x.len l len }
          let s := mirrorLen (s.modSeq fun q => { q with resvs := q.resvs.filter (· != v) }) c l
          modOwner s v.owner fun r =>
            if r.opcode = 0x29 then
              { r with st := 1, rowsWritten := true, status := if r.wrotePoison ∧ r.status = OK then POISONED else r.status
                       detail := pack [(32, v.first), (32, len), (20, r.wcyc)] }
            else { r with rowsWritten := true, lenRead := some len, phase := 3, wrotePoison := false
                          status := if r.wrotePoison ∧ r.status = OK then POISONED else r.status }

end Sys2Proof.Machine
end

