-- ==== Sys2Proof/Machine/Packets.lean ====
section
/-! DEFINITION. Fabric packets: what a packet may hold (R285–R292), ingress (R30–R43, R293), service at a target
(R294–R303, R309–R311), checked chunks (R305, R306), completions (R299, R307, R310), trackers (R313, R317), and the packet
commands of the mailbox (R316). -/
namespace Sys2Proof.Machine

/-! ## The shape of a packet -/

/-- Every field lies within its width, and the payload carried is LEN bytes, none for RD and RDV (R285–R287). -/
def shaped (p : Packet) : Bool :=
  decide (p.addr < 2 ^ 56) && decide (p.opcode < 256) && decide (p.srcNode < 512) && decide (p.port < 128) && decide (p.vc < 8) &&
  decide (p.colour < 4) && decide (p.part < 64) && decide (p.len < 4096) && decide (p.ctr < 4096) && decide (p.tag < 4096) &&
  decide (p.status < 256) && decide (p.aop < 16) && decide (p.size < 4) && decide (p.chkLen < 8192) && decide (p.ctrGrp < 32) &&
  decide (p.chunk < 2 ^ 24) && decide (p.group < 65536) && decide (p.digest < 2 ^ 32) && decide (p.crc < 2 ^ 64) &&
  p.payload.length == (if p.opcode = opRD ∨ p.opcode = opRDV then 0 else p.len)

/-- Non-posted requests (R292). -/
def isNonPosted (op : Nat) : Bool := [0x01, 0x02, 0x08, 0x10, 0x14, 0x38].contains op
def isReq (op : Nat) : Bool := isNonPosted op || op == opWRP
def isCollOp (op : Nat) : Bool := decide (0x20 ≤ op ∧ op ≤ 0x28)
def isCplOp (op : Nat) : Bool := decide (0x30 ≤ op ∧ op ≤ 0x32)

/-- The channel of a packet's class (R290). -/
def classVc (p : Packet) : Nat :=
  if isReq p.opcode then (if p.fwd then 3 else 1)
  else if isCplOp p.opcode then 2
  else if p.opcode = 0x27 ∨ p.opcode = 0x28 ∨ p.opcode = opCTRL then 5
  else 4

/-- LEN lies in the range its opcode allows (R285, R289). ATOM and INV answer a wrong length themselves (R295, R297). -/
def lenOk (p : Packet) : Bool :=
  let op := p.opcode
  if op = opRD ∨ op = opRDV ∨ op = opWR ∨ op = opWRP ∨ op = opCTRL ∨ op = opCPLD ∨ op = opCONTRIB ∨ op = opPARTIAL ∨ op = opRESULT then
    decide (1 ≤ p.len ∧ p.len ≤ 2048)
  else if op = opRED then decide (4 ≤ p.len ∧ p.len ≤ 2048)
  else if op = opATOM ∨ op = opINV then decide (p.len ≤ 2048)
  else if op = opJOIN then p.len == 0 || p.len == 16
  else if op = opACK ∨ op = 0x27 then p.len == 8
  else p.len == 0

/-- A packet that R288 says is not performed. -/
def malformed (p : Packet) : Bool :=
  ! (isReq p.opcode || isCollOp p.opcode || isCplOp p.opcode || p.opcode == opCTRL) || p.vc == 0 || p.vc == 7 || p.colour == 3 ||
  ((p.opcode == opATOM || p.opcode == opRED) && p.size == 3) || p.rsvd != 0 || ! lenOk p

/-- Packets refused or discarded under R288, R290 and R298 (R316). -/
def countRefused (s : State) : State := s.modFab fun f => { f with stats := bump f.stats 5 }
/-- Completions discarded (R293, R316). -/
def countDiscard (s : State) : State := s.modFab fun f => { f with stats := bump f.stats 1 }

/-! ## Ingress (R30, R31, R41–R43, R290, R293, R315) -/

/-- The permission an opcode needs (R41). -/
def permOf (op : Nat) : Perm :=
  if op = opRD ∨ op = opRDV then .rd else if op = opWR ∨ op = opWRP then .wr else if op = opINV then .ct else .at'

/-- A completion that carries its end point's own tag; it goes on to the end point and to no tracker (R293). -/
def toEndPoint (c : Packet) (tag : Nat) : Packet := { c with tag := tag, holder := some (addrNode c.addr) }

/-- Answer a request of an end point at its ingress, under the tag that it gave. -/
def answerEp (s : State) (p : Packet) (status : Nat) : State := send s (toEndPoint (mkCpl s p status []) p.tag)

/-- A request refused at its ingress (R43): a posted write is discarded. -/
def refuseIngress (s : State) (p : Packet) (c : Option Nat) : State :=
  let s := noteRefusal s (p.inPort / 16) c p.addr p.part p.opcode
  if p.opcode = opWRP then s else answerEp s p DENIED

/-- A host window, which only its own package's engines reach and which no package forwards (R35). -/
def isHostOff (off : Nat) : Bool := match winOf off with | .host _ => true | _ => false

/-- A request from an end point is bound, checked and given a fabric tag, or answered here. While the port's tags are
all in use it stays outside (`none` twice). Log: 91 DEDUCED. -/
def ingressReq (s : State) (p : Packet) (ep : Nat) : Option (State × Option Packet) :=
  match AMap.find s.xlat.binds (ep % 16 * 64 + p.part) with
  | none => some (refuseIngress s p none, none)
  | some c =>
    match (if 8 ≤ addrNode p.addr % 16 ∧ isHostOff (addrOff p.addr) then none else reach s c p.addr (max 1 (reqLen p)) (permOf p.opcode)) with
    | none => some (refuseIngress s p (some c), none)
    | some part =>
      let dest := addrNode p.addr
      if s.fab.dead.contains dest then
        let s := noteTimeout s (p.inPort / 16) dest p.opcode c
        some (if p.opcode = opWRP then s else answerEp s p TIMEOUT, none)
      else if 4096 ≤ tracksOf s p.inPort then none
      else
        let tag := freeTag s p.inPort
        let q := { p with tag := tag, part := part, colour := 0, epoch := s.route.active.epoch }
        some (s.modFab fun f => { f with tracks := f.tracks ++
          [{ ingress := some p.inPort, tag := tag, origTag := p.tag, pkt := q, ctx := c, issuedAt := s.time.lfc }] }, some q)

/-- A malformed packet is answered or discarded (R288, R301). Log: 89 DEDUCED. -/
def refuseMalformed (s : State) (p : Packet) : State :=
  let s := countRefused s
  if fromEp s p then (if isNonPosted p.opcode then answerEp s p REFUSED else s)
  else if isNonPosted p.opcode ∨ p.opcode = opWRP then answer s p REFUSED [] else s

/-- A packet arrives at the package: what goes on towards its destination, if anything. `none`: it stays outside. -/
def admitPacket (s : State) (p : Packet) : Option (State × Option Packet) :=
  if malformed p then some (refuseMalformed s p, none)
  else match (if p.inPort < 128 then epOf s p.inPort else none) with
    | none => some (s, some p)
    | some ep =>
      if p.vc ≠ classVc p ∨ p.fwd ∨ p.term ∨ p.opcode = opCTRL then some (countRefused s, none)
      else if isReq p.opcode then ingressReq s p ep
      else if isCollOp p.opcode then some (s, some { p with holder := some s.self, epoch := s.route.active.epoch })
      else some (s, some { p with epoch := s.route.active.epoch })

/-! ## Service at the target -/

/-- What the package holds of a packet's tracker: the context under which it checked the request, when it is the ingress or
the issuer (R43). -/
def reqTrack (s : State) (p : Packet) : Option Track :=
  s.fab.tracks.find? fun t => t.tag == p.tag && ! t.timedOut && t.pkt.srcNode == p.srcNode && t.pkt.port == p.port &&
    t.pkt.opcode == p.opcode && t.pkt.addr == p.addr
def reqCtx (s : State) (p : Packet) : Option Nat :=
  match reqTrack s p with
  | some t => if t.ctx < noCtx then some t.ctx else none
  | none => none

/-- A request refused at its target (R43). -/
def denyReq (s : State) (p : Packet) : State :=
  answer (noteRefusal s (12 + homeHd s (addrOff p.addr)) (reqCtx s p) p.addr p.part p.opcode) p DENIED []

/-- The request waits in the hub die. -/
def park (s : State) (p : Packet) : State := s.modFab fun f => { f with delivered := f.delivered ++ [p] }

/-- A request that its tile does not let through waits behind the accesses held there; another waits in the hub die (R86, R449). -/
def holdReq (s : State) (p : Packet) (node off : Nat) : State :=
  if tileHeld s node off then holdAccess s node off (.req p) else park s p

/-- Count a request served here (R82); one of this package's own units was counted when it was made. -/
def countServed (s : State) (p : Packet) (node off : Nat) : State :=
  if p.srcNode = s.self then s else countAccess s node off p.srcNode

/-- Two requests touch a common atom. -/
def reqsMeet (p q : Packet) : Bool := isReq p.opcode && isReq q.opcode && touches p.addr (reqLen p) q.addr (reqLen q)

/-- A copy of bytes to the package that is to hold them, or to their mirror (R290). -/
def isCopy (p : Packet) : Bool := p.fwd && p.term

/-- The reading of a tile by the directory that copies it: it is served from the source whatever is held for the tile (R86). -/
def copyRead (p : Packet) : Bool :=
  p.opcode == opRD && p.fwd && p.srcNode == addrNode p.addr && decide (32 ≤ p.port ∧ p.port < 36)

/-- A request stays behind one that came before it, waits here, and touches a common atom (R260, R263). -/
def behindParked (l : List Packet) (p : Packet) : Bool := ! isCopy p && ! copyRead p && l.any (reqsMeet p)

/-- A range crosses a 4 KiB boundary (R294). -/
def crosses (a len : Nat) : Bool := a / 4096 != (a + len - 1) / 4096

/-- The node whose offset a request names, when it is served here: this node, its partner's while serving both (R468), or
another whose tile lives here (R77, R83). -/
def servedNode (s : State) (p : Packet) : Option Nat :=
  let n := addrNode p.addr
  if n = s.self ∨ (n = s.partner ∧ s.flt.servingPartner) ∨ p.holder = some s.self then some n else none

def isPoolOff (off : Nat) : Bool := decide (off < 0x020000000000)

/-- A tile here of another node that this package does not hold: the access came on a stale location (R88). -/
def strayTile (s : State) (node off : Nat) : Bool :=
  node != s.self && ! (node == s.partner && s.flt.servingPartner) && isPoolOff off && (entOf s node (off / 0x200000)).st == 0

/-- Send a request on to where its tile lives: a volatile read as the home hub die's own, which then replies (R84); another request
goes on as it is, and is answered from there (R79, R83, R88, R290). In a lend region nothing counts for the requester: the increase
comes here, with the reply. -/
def relay (s : State) (p : Packet) (node off : Nat) : State :=
  let l := ordLoc s node off
  let q := { p with fwd := true, term := false, vc := 3, holder := some l.holder, addr := heldAddr s node off, names := some p.place }
  if l.kind ≠ 1 ∧ p.ctrEn ∧ ctrOwner s p.ctrGrp p.ctr ≠ some p.part then denyReq s p
  else if l.kind = 3 then
    if p.opcode = opATOM ∨ p.opcode = opRED then denyReq s p
    else
      match AMap.find s.mem.lends l.region with
      | none => denyReq s p
      | some r =>
        let v := r.base + l.frame * 0x200000 + off % 0x200000
        let wr := p.opcode == opWR || p.opcode == opWRP
        let pieces := if wr then [(v, p.len)] else cutRange 4096 512 (p.len / 256 + 3) v p.len
        pieces.foldl (fun s x => (hostAccess s noCtx x.1 x.2 wr p.payload (.reply p) true (p.place + (x.1 - v))).elim (denyReq s p) hostSend) s
  else if p.opcode = opRDV ∧ (node = s.self ∨ s.flt.servingPartner) ∨ l.kind = 2 ∧ p.ctrEn then
    issue s { q with ctrEn := false, chk := true, port := portHd (homeHd s off) } noCtx (.reply p) none
  else send s q

/-- An access that this package knows nothing of goes back to its directory, or is refused when it came from there (R88). -/
def backToHome (s : State) (p : Packet) : State :=
  if p.fwd then denyReq s p else send s { p with fwd := true, vc := 3, holder := none }

/-- An access that the partner forwards here for a parcel mirrored here: its home has become the mirror (R449). -/
def wakeCopy (s : State) (p : Packet) (node : Nat) : State :=
  let par := addrOff p.addr / 0x200000
  if p.fwd ∧ ! p.term ∧ node = s.partner ∧ ! s.flt.servingPartner ∧ isPoolOff (addrOff p.addr) ∧ (entOf s node par).st = 0 then
    match AMap.find s.mem.mirrorDir par with
    | some e => if inPackage e.home s.self then takeMirror s par e else s
    | none => s
  else s

/-- The access is one of another Devik's engine, at its directory (R90). -/
def fetches (s : State) (p : Packet) (node : Nat) : Bool :=
  node == s.self && p.srcNode != s.self && isDevik p.srcNode && decide (p.port < 32) && ! p.fwd

/-- An access of another Devik's engine may begin a demand fetch (R90). -/
def fetchFor (s : State) (p : Packet) (node off : Nat) : State :=
  if fetches s p node then demandFetch s off p.srcNode p.srcNode 0 else s

/-- A demand fetch brings the tile to the requester's package, where the access is to complete (R90). -/
def fetching (s : State) (p : Packet) (node off : Nat) : Bool := fetches s p node && demandHeld s off p.srcNode

/-- The access waits for the flip of a tile that a demand fetch brings. -/
def awaitFetch (s : State) (p : Packet) (node off : Nat) : State :=
  if tileCopying s node off then holdAccess s node off (.req p) else park s p

/-- RD and RDV (R294, R300, R303, R309). -/
def serveRead (s : State) (p : Packet) : State :=
  if crosses p.addr p.len ∨ p.ctrEn then answer s p REFUSED []
  else match servedNode s p with
  | none => backToHome s p
  | some node =>
    let off := addrOff p.addr
    let s := wakeCopy s p node
    if strayTile s node off then backToHome s p
    else match accCheck s node off p.len p.part (copyRead p) with
    | none => holdReq s p node off
    | some 0 =>
      let s := fetchFor s p node off
      if isCtlOff off then
        let (t, s) := s.drawTick
        match readCtl s off p.len t with
        | some b => answer s p OK b
        | none => answer (noteRefusal s (12 + homeHd s off) none p.addr p.part p.opcode) p DENIED []
      else if fetching s p node off then awaitFetch s p node off
      else if isPoolOff off ∧ ! locLocal s (ordLoc s node off) then relay s p node off
      else
        let key := keyOf s node off
        let s := meetErrors (drainTarget (countServed s p node off) (targetOf s node off)) key p.len
        if (badAtoms s key p.len p.part).isEmpty then answer s p OK (readMem s key p.len p.part) else answer s p POISONED []
    | some st => if st = DENIED then denyReq s p else answer s p st []

/-- The increase a request asks for, once it has been performed (R266, R311). -/
def bumpFor (s : State) (p : Packet) : State := if p.ctrEn then acceptInc s p.ctrGrp p.ctr p.part 1 else s

/-- R124 would refuse the increase that the request asks for. -/
def incRefused (s : State) (p : Packet) : Bool := p.ctrEn && ctrOwner s p.ctrGrp p.ctr != some p.part

/-- Perform a write to a control window: its status, or `none` when the reply comes later (R276, R279). -/
def ctlApply (s : State) (p : Packet) : State × Option Nat :=
  let off := addrOff p.addr
  if off - off % 64 = ctxFenceOff then
    let own := (reqTrack s p).map Track.name
    let blk := leNat p.payload
    if off ≠ ctxFenceOff ∨ p.len ≠ 64 then (noteRefusal s 12 none p.addr p.part p.opcode, some DENIED)
    else if fromEp s p then
      match reqCtx s p with
      | some c => if blk = 2 ^ 12 then (startFence s c (some p) .none own, none) else (s, some REFUSED)
      | none => (s, some REFUSED)
    else match fenceCtx blk with
      | some c => (startFence s c (some p) .none own, none)
      | none => (s, some REFUSED)
  else
    let (s, st) := writeCtl s off p.part p.opcode p.payload none
    (s, some st)

/-- Open chunks at the hub die of an offset (R306). -/
def openChunks (s : State) (hd : Nat) : Nat := s.mem.chunks.countP fun c => homeHd s (addrOff (c.block * 4096)) == hd

/-- A packet of a checked chunk joins it, and its bytes are written as they arrive; those for a control window are held
(R305, R306). Log: 86 DEDUCED, 87 DEDUCED. -/
def addChunk (s : State) (p : Packet) (node : Nat) (written : Bool) : State :=
  let off := addrOff p.addr
  let mine (c : OpenChunk) : Bool := c.srcNode == p.srcNode && c.port == p.port && c.block == p.addr / 4096
  let c := s.mem.chunks.find? mine
  if c.isNone ∧ 4096 ≤ openChunks s (homeHd s off) then park s p
  else
    let first := c.isNone
    let c : OpenChunk := c.getD { srcNode := p.srcNode, port := p.port, block := p.addr / 4096, part := p.part, control := isCtlOff off
                                  ctxNum := ((reqTrack s p).map (·.ctx)).getD 0 }
    let c := { c with got := c.got ++ [(p.addr, p.payload, if p.ctrEn then p.ctr + 1 else 0, written)]
                      pkts := if written then c.pkts ++ [p] else c.pkts
                      bad := c.bad || p.poison || ! written
                      chkLen := if p.last then some p.chkLen else c.chkLen
                      crc := if p.last then p.crc else c.crc }
    let s := s.modMem fun m => { m with chunks := m.chunks.filter (! mine ·) ++ [c] }
    let s := if written then s else answer (noteRefusal s (12 + homeHd s off) none p.addr p.part p.opcode) p DENIED []
    if ! written ∨ isCtlOff off then s
    else if isCopy p then pushLane s (.write (targetOf s node off) (laneOf s p.srcNode) (keyOf s node off) p.payload p.part p.poison)
    else
      -- the writes of a chunk are one access (R82)
      let s := if first then countServed s p node off else s
      let m := mirrored s node off
      let s := acceptWrite s node off (laneOf s p.srcNode) p.payload p.part p.poison
      if m then mirrorWrite s node off p.payload p.part .none none fun _ => p.poison else s

/-- A copy of a tile, of a mirrored parcel's write or of a parcel arrives for a parcel that is not entered here yet, because the
message that announces it has not come (R86, R100): the partner's own are mirrored, another's become guests. -/
def takeCopy (s : State) (p : Packet) (node : Nat) : State :=
  let par := addrOff p.addr / 0x200000
  let k := if node = s.partner then par else node * 2 ^ 20 + par
  if (entOf s node par).st ≠ 0 ∨ AMap.has s.mem.mirrorDir k then s
  else if p.srcNode = s.partner then
    match mirrorFrame s with
    | some l => s.modMem fun m => { m with mirrorDir := AMap.set m.mirrorDir k { st := 1, home := l, owner := p.part, mirror := true } }
    | none => s
  else takeGuest s node par p.part 0 false (ownLoc s 0 0)

/-- The package has a frame for what a copy brings (R75, R100). -/
def copyFrame (s : State) (node off : Nat) : Bool :=
  let par := off / 0x200000
  let e : DirEntry := AMap.get {} s.mem.mirrorDir (if node = s.partner then par else node * 2 ^ 20 + par)
  node == s.self || (entOf s node par).st != 0 || inPackage e.home s.self || inPackage e.src s.self

/-- WR and WRP (R294, R300, R301, R305, R309, R311). Log: 42 DEDUCED. -/
def serveWrite (s : State) (p : Packet) : State :=
  if crosses p.addr p.len then answer s p REFUSED []
  else match servedNode s p with
  | none => backToHome s p
  | some node =>
    let off := addrOff p.addr
    let copy := isCopy p && isPoolOff off
    let s := if ! copy then wakeCopy s p node else if node = s.self then s else takeCopy s p node
    if ! copy ∧ strayTile s node off then backToHome s p
    else if copy ∧ ! copyFrame s node off then answer s p TIMEOUT []
    else match (if copy then some OK else accCheck s node off p.len p.part true) with
    | none => park s p
    | some 0 =>
      let s := if copy then s else fetchFor s p node off
      if ! copy ∧ fetching s p node off ∧ ! tileCopying s node off then park s p
      else if ! copy ∧ isPoolOff off ∧ ! tileCopying s node off ∧ ! locLocal s (ordLoc s node off) then relay s p node off
      else if incRefused s p then
        if p.chk then addChunk s p node false
        else answer (noteRefusal s (12 + homeHd s off) none p.addr p.part p.opcode) p DENIED []
      else if p.chk then addChunk s p node true
      else if isCtlOff off then
        match ctlApply s p with
        | (s, some st) => answer (if st = OK then bumpFor s p else s) p st []
        | (s, none) => bumpFor s p
      else
        let s := countServed s p node off
        let m := mirrored s node off
        let s := acceptWrite s node off (laneOf s p.srcNode) p.payload p.part p.poison
        if m then mirrorWrite s node off p.payload p.part .none (some (cplInc s p OK [])) fun _ => p.poison
        else answer (bumpFor s p) p OK []
    | some st =>
      if st = POISONED then answer (bumpFor s p) p POISONED []
      else if st = DENIED then denyReq s p
      else answer s p st []

/-- A read-modify-write whose target is here: what both ATOM and RED do around `k`, which performs it. -/
def serveModify (s : State) (p : Packet) (k : State → Nat → Nat → State) : State :=
  match servedNode s p with
  | none => backToHome s p
  | some node =>
    let off := addrOff p.addr
    let s := wakeCopy s p node
    if strayTile s node off then backToHome s p
    else if isCtlOff off then
      if p.opcode = opATOM then answer s p DENIED [] else denyReq s p
    else match accCheck s node off (reqLen p) p.part true with
    | none => park s p
    | some 0 =>
      let s := fetchFor s p node off
      if tileCopying s node off then holdAccess s node off (.req p)
      else if fetching s p node off then park s p
      else if isPoolOff off ∧ ! locLocal s (ordLoc s node off) then relay s p node off
      else if incRefused s p then answer (noteRefusal s (12 + homeHd s off) none p.addr p.part p.opcode) p DENIED []
      else k (countServed s p node off) node off
    | some st =>
      if st = POISONED then answer (bumpFor s p) p POISONED []
      else if st = DENIED then denyReq s p
      else answer s p st []

/-- Answer a modified range of a mirrored parcel once its mirror has it (R100), else at once. -/
def answerModified (s : State) (p : Packet) (node off status : Nat) (data : Bytes) : State :=
  if mirrored s node off then
    let key := keyOf s node off
    let poisoned := badAtoms s key (reqLen p) p.part
    mirrorWrite s node off (readMem s key (reqLen p) p.part) p.part .none (some (cplInc s p status data))
      fun a => poisoned.contains (a + key / 64 - addrOff p.addr / 64)
  else answer (bumpFor s p) p status data

/-- ATOM (R277, R295). A form that R177 does not name is a reserved encoding (R288). -/
def serveAtom (s : State) (p : Packet) : State :=
  let n := 4 * 2 ^ p.size
  if p.aop > 12 ∨ p.len ≠ (if p.aop = 7 then 2 * n else n) ∨ p.addr % n ≠ 0 then answer s p REFUSED []
  else serveModify s p fun s node off =>
    match atomicHere s node off n p.part p.aop (leNat (slice p.payload 0 n)) (leNat (slice p.payload n n)) true with
    | (s, none) => answer s p POISONED []
    | (s, some old) => answerModified s p node off OK (leBytes n old)

/-- Combine the elements of a payload into the atom parts that are not poisoned (R278, R296). -/
def redParts (s : State) (p : Packet) (key : Nat) : List (Nat × Nat) → State
  | [] => s
  | x :: t =>
    let n := 4 * 2 ^ p.size
    let s :=
      if (badAtoms s x.1 x.2 p.part).isEmpty then
        let old := readMem s x.1 x.2 p.part
        let new := (List.range (x.2 / n)).flatMap fun i =>
          leBytes n (atomicOp p.aop n (leNat (slice old (i * n) n)) (leNat (slice p.payload (x.1 - key + i * n) n)) 0)
        performWrite s x.1 new p.part p.poison
      else s
    redParts s p key t

/-- RED (R278, R296, R309). -/
def serveRed (s : State) (p : Packet) : State :=
  let n := 4 * 2 ^ p.size
  if crosses p.addr p.len ∨ 1 < p.size ∨ p.addr % n ≠ 0 ∨ p.len % n ≠ 0 ∨ p.aop = 6 ∨ p.aop = 7 ∨ 12 < p.aop then answer s p REFUSED []
  else serveModify s p fun s node off =>
    let key := keyOf s node off
    let s := meetErrors (drainTarget s (targetOf s node off)) key p.len
    let bad := ! (badAtoms s key p.len p.part).isEmpty
    answerModified (redParts s p key (atomParts key p.len)) p node off (if bad then POISONED else OK) []

/-- INV (R273, R288, R297). -/
def serveInv (s : State) (p : Packet) : State :=
  let blk := leNat p.payload
  if addrOff p.addr ≠ 0x020042200040 ∨ p.len ≠ 64 ∨ bits blk 56 8 ≠ 0 ∨ bits blk 112 400 ≠ 0 then answer s p REFUSED []
  else if addrNode p.addr ≠ s.self then answer s p TIMEOUT []
  else answer (invBlock s blk) p OK []

/-! ## Checked chunks (R305, R306) -/

/-- The received bytes of a chunk in address order. -/
def insertGot (x : Nat × Bytes × Nat × Bool) : List (Nat × Bytes × Nat × Bool) → List (Nat × Bytes × Nat × Bool)
  | [] => [x]
  | y :: t => if x.1 ≤ y.1 then x :: y :: t else y :: insertGot x t
def OpenChunk.sorted (c : OpenChunk) : List (Nat × Bytes × Nat × Bool) := c.got.foldr insertGot []
def OpenChunk.bytes (c : OpenChunk) : Nat := sumBy (fun x => x.2.1.length) c.got

def chunkAt (srcNode port block : Nat) (c : OpenChunk) : Bool := c.srcNode == srcNode && c.port == port && c.block == block

/-- Complete the packets of a chunk, with their increases (R300, R306, R311). -/
def endChunk (s : State) (c : OpenChunk) (status : Packet → Nat) : State :=
  c.pkts.foldl (fun s p => sendReply s (cplInc s p (status p) [])) s

/-- The bytes of a chunk at an address are here: its tile has not moved to another package since they were accepted. -/
def landedHere (s : State) (addr : Nat) : Bool :=
  ! isPoolOff (addrOff addr) || locLocal s (ordLoc s (addrNode addr) (addrOff addr))

/-- A failed chunk: what it wrote is poisoned, its increases are applied, its completions carry POISONED, and a record names
its origin (R306). Nothing of a control window's chunk is performed. -/
def failChunk (s : State) (c : OpenChunk) : State :=
  let a := c.block * 4096
  let s := s.modFab fun f => { f with stats := bump f.stats 2 }
  let s := notePacket s s.self { die := 12 + homeHd s (addrOff a), cause := 2, status := POISONED, addr := a, ctx := c.ctxNum % 4096, part := c.part,
                                 node := c.srcNode }
  let s := if c.control then s
    else (c.got.filter (·.2.2.2)).foldl (fun s x =>
      let node := addrNode x.1
      let off := addrOff x.1
      if landedHere s x.1 then
        (atomsOf (keyOf s node off) x.2.1.length).foldl poisonAtom (drainTarget s (targetOf s node off))
      else
        -- the tile has moved on since
        (chunkPackets { opcode := opWR, vc := 3, fwd := true, port := portHd (homeHd s off), part := c.part
                        holder := some (ordLoc s node off).holder } (heldAddr s node off) x.2.1 fun _ => true).foldl
          (fun s q => issue s q noCtx .none none) s) s
  endChunk s c fun _ => POISONED

/-- A chunk's bytes wait for a copying tile or for its mirror (R86, R100). Log: 88 DEDUCED. -/
def chunkWaits (s : State) (c : OpenChunk) : Bool :=
  (! c.pkts.any isCopy && c.got.any fun x => x.2.2.2 && tileHeld s (addrNode x.1) (addrOff x.1)) ||
  (s.fab.tracks.any fun t => ! t.timedOut && t.pkt.fwd && t.pkt.addr / 4096 == c.block &&
    (match t.owner with | .mirror _ => true | _ => false))

/-- The bytes of a chunk as they stand where they were stored, or as they were received for a control window. -/
def chunkBytes (s : State) (c : OpenChunk) : Bytes :=
  c.sorted.flatMap fun x => if c.control || ! landedHere s x.1 then x.2.1 else readMem s (keyOf s (addrNode x.1) (addrOff x.1)) x.2.1.length c.part

/-- Perform the writes of a control window's chunk in address order, and complete them. -/
def performControl (s : State) (c : OpenChunk) : State :=
  c.sorted.foldl (fun s x =>
    match c.pkts.find? fun p => p.addr == x.1 with
    | none => s
    | some p =>
      match ctlApply s p with
      | (s, some st) => if st = OK then sendReply s (cplInc s p OK []) else answer s p st []
      | (s, none) => bumpFor s p) s

/-- CHUNK_VERDICT. -/
def doChunkVerdict (s : State) (srcNode port block : Nat) : State :=
  match s.mem.chunks.find? (chunkAt srcNode port block) with
  | none => s
  | some c =>
    match c.chkLen with
    | none => s
    | some n =>
      if c.bytes < n ∨ chunkWaits s c then s
      else
        let s := s.modMem fun m => { m with chunks := m.chunks.filter (! chunkAt srcNode port block ·) }
        let s := if c.control then s else c.got.foldl (fun s x => drainTarget s (targetOf s (addrNode x.1) (addrOff x.1))) s
        if c.got.any (! ·.2.2.2) ∨ c.bytes ≠ n ∨ crc64 (chunkBytes s c) ≠ c.crc then failChunk s c
        else if c.control then performControl s c
        else endChunk s c fun _ => if c.bad then POISONED else OK

/-- CHUNK_OPEN_TIMEOUT: a chunk still incomplete one load timeout after its first packet (R306). -/
def doChunkTimeout (s : State) (srcNode port block : Nat) : State :=
  match s.mem.chunks.find? (chunkAt srcNode port block) with
  | none => s
  | some c =>
    if (match c.chkLen with | some n => decide (n ≤ c.bytes) | none => false) then s
    else failChunk (s.modMem fun m => { m with chunks := m.chunks.filter (! chunkAt srcNode port block ·) }) c

/-! ## Completions (R293, R299, R307, R310, R317) -/

/-- The die that tracks a request (R444). -/
def trackDie (s : State) (t : Track) : Nat :=
  match t.ingress with
  | some p => p / 16
  | none =>
    let u := t.pkt.port
    if u < 32 then 12 + groupHd s u else if u < 36 then 12 + (u - 32) else if u = 36 then 19 else if u = 37 then 18 else 16 + u % 2

/-- The opcode that completes a request (R289). -/
def cplOf (op : Nat) : Nat := if op = opWRP then opCPLP else if op = opRD ∨ op = opRDV ∨ op = opATOM then opCPLD else opCPL

/-- This package is the ingress of an end point's PORT: it faces the end point, and in a leaf the port's side is its own
(R291). -/
def ownsPort (s : State) (dest port : Nat) : Bool :=
  (s.man.ports.any fun e => e.2.endPoint && e.2.node == dest) && (decide (8 ≤ dest % 16) || port / 8 == s.straps.side)

/-- The tracker a completion belongs to. -/
def trackFor (s : State) (p : Packet) : Option Nat :=
  let dest := addrNode p.addr
  findIdx (fun t => t.tag == p.tag && ! t.timedOut && cplOf t.pkt.opcode == p.opcode && t.pkt.port == p.port &&
    (t.pkt.srcNode == dest && (t.ingress.isSome || dest == s.self))) s.fab.tracks

/-- An access of a unit of this package ends, and its tracker closes, or holds its tag (R276, R293, R310). -/
def endTrack (s : State) (i : Nat) (t : Track) (status : Nat) (d : Bytes) (bad : List Nat) (hold : Bool := false) : State :=
  let rd := cplOf t.pkt.opcode == opCPLD
  let a := t.pkt.place
  let n := reqLen t.pkt
  let s := closeTrack s i hold
  let status := if t.localised && status != OK then POISONED else status
  let bad := if status = POISONED && bad.isEmpty then atomsOf a n else bad
  let s := if status = OK then s else
    match t.owner with
    | .mirror p => if p < 2 ^ 20 then loseMirror s p else s
    | _ => s
  let s := ownerDone s t.owner rd a n status (if status = OK ∨ status = POISONED then (if d.length = n then d else List.replicate n 0xFF) else []) bad
  match t.reply with
  | some r => sendReply (if status = OK then s else loseMirrorOf s (addrNode a) (addrOff a)) r
  | none => s

/-- A reply to a checked read passes its check (R307). Log: 92 DEDUCED. -/
def replyOk (t : Track) (p : Packet) : Bool :=
  p.payload.length == reqLen t.pkt && (! t.pkt.chk || (p.chk && p.last && crc64 p.payload == p.crc))

/-- The owners that take what a read brings piece by piece. -/
def takesPieces : Owner → Bool
  | .cmd _ _ _ _ | .frontEnd _ _ | .sluice | .tile _ | .coll _ _ _ _ => true
  | _ => false

/-- The reads that replace a poisoned one of more than an atom: they stand in its place among the requests outstanding, and for the
fences that wait for it (R276, R310). -/
def localise (s : State) (i : Nat) (t : Track) : State :=
  let parts := atomParts t.pkt.addr t.pkt.len
  let side := t.name.1
  let used := (s.fab.tracks.filter fun u => u.name.1 == side).map (·.tag)
  let tags := (List.range (parts.length - 1)).foldl (fun l _ => l ++ [firstFree (used.length + l.length) 0 (used ++ l)]) [t.tag]
  let new := (parts.zip tags).map fun x =>
    ({ t with tag := x.2, localised := true, rereads := 0, issuedAt := s.time.lfc
              pkt := { t.pkt with addr := x.1.1, len := x.1.2, tag := x.2
                                  names := t.pkt.names.map fun a => a + (x.1.1 - t.pkt.addr) } } : Track)
  let s := s.modFab fun f => { f with tracks := f.tracks.take i ++ new ++ f.tracks.drop (i + 1) }
  let s := s.modMem fun m => { m with fences := m.fences.map fun f => { f with
    waits := f.waits.flatMap fun n => if n = t.name then new.map Track.name else [n] } }
  let s := (List.range (parts.length - 1)).foldl (fun s _ => addOutstanding s t.owner) s
  ((List.range new.length).filter fun j => ! trackWaits s.fab.tracks (i + j)).foldl
    (fun s j => match new[j]? with | some u => send s u.pkt | none => s) s

/-- A completion for a unit of this package. -/
def takeCompletion (s : State) (i : Nat) (t : Track) (p : Packet) : State :=
  let modT (f : Track → Track) (s : State) : State := s.modFab fun b => { b with tracks := b.tracks.mapIdx fun j x => if j = i then f x else x }
  let s := if p.status = OK ∧ t.pkt.opcode ≠ opRDV ∧ ! p.fwd then locFill s t.pkt.port t.pkt.place p.srcNode else s
  if p.status = BUSY then modT (fun t => { t with retryDue := true }) s
  else if cplOf t.pkt.opcode ≠ opCPLD ∨ (p.status ≠ OK ∧ p.status ≠ POISONED) then endTrack s i t p.status [] []
  else if p.status = POISONED ∨ p.poison then
    let s := s.modFab fun f => { f with stats := bump f.stats 4 }
    if s.fab.localise ∧ 64 < t.pkt.len ∧ t.pkt.opcode ≠ opATOM ∧ ! t.localised ∧ takesPieces t.owner then localise s i t
    else endTrack s i t POISONED [] []
  else if replyOk t p then
    let s := endTrack s i t OK p.payload []
    match t.owner with
    | .cmd g _ _ _ =>
      if (t.pkt.opcode = opRD ∨ t.pkt.opcode = opRDV) ∧ farEligible s t.pkt.place ∧ ! dirHere s t.pkt.place then
        fillFar s (groupHd s g) t.pkt.place t.pkt.part p.payload t.noFill (t.pkt.opcode == opRDV)
      else s
    | _ => s
  else
    let s := s.modFab fun f => { f with stats := bump f.stats 3 }
    if t.rereads = 0 ∧ t.pkt.opcode ≠ opATOM then send (modT (fun t => { t with rereads := 1 }) s) t.pkt
    else
      let dest := addrNode t.pkt.addr
      endTrack (notePacket s dest { die := trackDie s t, cause := 3, status := POISONED, addr := t.pkt.place, ctx := t.ctx % 4096,
                                    part := t.pkt.part, node := dest, detail := t.pkt.opcode }) i t POISONED [] []

/-- A completion arrives (R293, R301): for an end point's request its tag is restored and it goes on to the end point; a
posted write's is absorbed; one that matches nothing is discarded. -/
def serveCompletion (s : State) (p : Packet) : State :=
  match trackFor s p with
  | none => countDiscard s
  | some i =>
    match s.fab.tracks[i]? with
    | none => s
    | some t =>
      if t.ingress.isSome then
        let s := closeTrack s i
        if p.opcode = opCPLP then s
        else s.modFab fun f => { f with inbuf := f.inbuf ++ [{ port := p.inPort, vc := 2, pkt := toEndPoint p t.origTag }] }
      else takeCompletion s i t p

/-! ## Dispatch of a packet -/

/-- The package is the packet's destination. A completion belongs to its tracker, wherever that is (R291). -/
def forHere (s : State) (p : Packet) : Bool :=
  let dest := p.holder.getD (addrNode p.addr)
  if isCplOp p.opcode then p.holder.isNone && (addrNode p.addr == s.self || (trackFor s p).isSome || ownsPort s (addrNode p.addr) p.port)
  else dest == s.self || (isReq p.opcode && dest == s.partner && s.flt.servingPartner)

/-- A packet other than CTRL is served at its destination. -/
def serveData (s : State) (p : Packet) : State :=
  if isCplOp p.opcode then serveCompletion s p
  else if isCollOp p.opcode then collPacket s p
  else if p.opcode = opRD ∨ p.opcode = opRDV then serveRead s p
  else if p.opcode = opWR ∨ p.opcode = opWRP then serveWrite s p
  else if p.opcode = opATOM then serveAtom s p
  else if p.opcode = opRED then serveRed s p
  else serveInv s p

/-- Serve an access that was held for a tile, as at its arrival (R86, R87). -/
def serveHeld (s : State) : Held → State
  | .req p => serveData s p
  | .atomic g q i => resumeAtomic s g q i
  | .write _ => s

/-- A CTRL packet is Ibfen's: the messages between directories and sequence services take effect, in the model's own layout; what
the others say is a row of its own (R298). Log: 81 DESIGN CHOICE. -/
def takeCtrl (s : State) (p : Packet) : State :=
  let w := leNat p.payload
  let kind := bits w 0 8
  let node := p.srcNode
  let par := bits w 8 20
  if kind = msgDrop then takeDrop s node par (locOf (bits w 28 32) 0)
  else if kind = msgDropped then dropped s node par
  else if kind = msgEntry then
    takeEntry s par (entryOf (bits w 28 256) (bits w 284 4) (bits w 288 4)) ((List.range 128).filter fun t => bitAt w (292 + t))
  else if kind = msgGuest then takeGuest s node par (bits w 28 6) (bits w 34 2) (bitAt w 36) (locOf (bits w 37 32) 0)
  else if kind = msgBegin then markTile s node par (bits w 28 7) (locOf (bits w 35 32) 0)
  else if kind = msgMarked then tileMarked s par (bits w 28 7)
  else if kind = msgFlip then guestFlip serveHeld s node par (bits w 28 7) (bitAt w 35)
  else if kind = msgFree then freeMirrorOf s (bits w 8 9) (bits w 17 20)
  else if kind = msgEvac then evacGuest s node par (locOf (bits w 28 32) 0)
  else if kind = msgOver then forgetGuest s node par
  else if kind = msgPromote then (if node = s.partner then promoteGuest s (bits w 8 9 * 2 ^ 20 + bits w 17 20) else s)
  else if kind = msgHomed then guestHomed serveHeld s node par (locOf (bits w 28 32) 0)
  else if kind = msgHandback then
    (if node = s.partner then takeHandback s par (entryOf (bits w 28 256) (bits w 284 4) (bits w 288 4)) else s)
  else if kind = msgSeq then takeSeq s (bits w 8 14) (bits w 22 512)
  else if kind = msgSeqLen then takeSeqLen s (bits w 8 14) (bits w 22 10) (bits w 32 32) (bits w 64 32)
  else if kind = msgSeqGone then takeSeqGone s (bits w 8 14)
  else if kind = msgStripes then
    queueStripes s ((List.range (bits w 28 17)).map fun i =>
      (par + i, bits w 53 9 * 32 + (bits w 48 5 + i % 2 ^ bits w 45 3) % 32))
  else if kind = msgCollStuck then
    match nodeOf s (bits w 8 16) with
    | some (slot, _) => stayAborted s slot
    | none => s
  else s.modFab fun f => { f with ctrlIn := f.ctrlIn ++ [p] }

/-- A packet is served at its destination. -/
def servePacket (s : State) (p : Packet) : State := collSettle (if p.opcode = opCTRL then takeCtrl s p else serveData s p)

/-- A packet from outside enters: it is served, or waits in its input buffer for the routing stage. -/
def enterPacket (s : State) (p : Packet) : State :=
  match admitPacket s p with
  | none => s
  | some (s, none) => s
  | some (s, some q) =>
    if forHere s q then (if behindParked s.fab.delivered q then park s q else servePacket s q)
    else s.modFab fun f => { f with inbuf := f.inbuf ++ [{ port := q.inPort, vc := q.vc, pkt := q }] }

/-- A packet row: a packet that the package delivers to its own unit is served, after the earlier ones that touch a common atom
(R263); one that waits for the routing stage stays
there; any other arrives from outside. -/
def packetRow (s : State) (ok : Packet → Bool) (p : Packet) : State :=
  if ! ok p ∨ ! shaped p then s
  else if s.fab.delivered.contains p then
    if behindParked (s.fab.delivered.takeWhile (· != p)) p then s
    else servePacket (s.modFab fun f => { f with delivered := f.delivered.erase p }) p
  else if s.fab.inbuf.any fun x => x.pkt == p then s
  else enterPacket (if isReq p.opcode then leaveStandby s else s) p

def opIs (op : Nat) (p : Packet) : Bool := p.opcode == op

/-- A write of the CTX_FENCE block. -/
def isFenceWrite (p : Packet) : Bool :=
  (p.opcode == opWR || p.opcode == opWRP) && addrOff p.addr - addrOff p.addr % 64 == ctxFenceOff

/-- An INV packet, or a write of the INV block. -/
def isInvPacket (p : Packet) : Bool :=
  p.opcode == opINV || ((p.opcode == opWR || p.opcode == opWRP) && addrOff p.addr == 0x020042200040)

/-! ## Trackers (R293, R313, R317) -/

def modTrack (s : State) (i : Nat) (f : Track → Track) : State :=
  s.modFab fun b => { b with tracks := b.tracks.mapIdx fun j x => if j = i then f x else x }

/-- LOAD_TIMEOUT: the requester gets TIMEOUT, the tag is held, and a record is entered (R313). The timer of a request that is not sent
yet does not run. -/
def doLoadTimeout (s : State) (i : Nat) : State :=
  match s.fab.tracks[i]? with
  | none => s
  | some t =>
    if t.timedOut ∨ t.held ∨ trackWaits s.fab.tracks i then s
    else
      let dest := t.pkt.holder.getD (addrNode t.pkt.addr)
      let s := noteTimeout s (trackDie s t) dest t.pkt.opcode (t.ctx % 4096)
      match t.ingress with
      | some _ =>
        let s := if t.pkt.opcode = opWRP then s
          else s.modFab fun f => { f with inbuf := f.inbuf ++
            [({ port := 0x7F, vc := 2, pkt := toEndPoint (mkCpl s t.pkt TIMEOUT []) t.origTag } : QPkt)] }
        closeTrack s i true
      | none => collSettle (endTrack s i t TIMEOUT [] [] true)

/-- TAG_HOLD_EXPIRY: a timed-out tag is free again (R293). -/
def doTagExpiry (s : State) (i : Nat) : State :=
  match s.fab.tracks[i]? with
  | some t => if t.timedOut then dropTrack s i else s
  | none => s

/-- BUSY_RETRY: the hub die repeats a request that was answered BUSY (R317). -/
def doBusyRetry (s : State) (i : Nat) : State :=
  match s.fab.tracks[i]? with
  | some t =>
    if t.retryDue ∧ ! t.timedOut then send (modTrack s i fun t => { t with retryDue := false, retries := t.retries + 1 }) t.pkt else s
  | none => s

/-! ## Packet commands (R316) -/

/-- PKT_CTRL_SET. -/
def pktCtrlSet (s : State) (m : Master) (loadTmo : Nat) (loc : Bool) : State :=
  serve s m 0x0380 fun s =>
    if loadTmo < 2 ∨ 1000 < loadTmo then respond s m 0x0380 REFUSED
    else respond (s.modFab fun f => { f with loadTmo := loadTmo, localise := loc }) m 0x0380 OK

/-- DEAD_SET. -/
def deadSet (s : State) (m : Master) (node : Nat) : State :=
  serve s m 0x0381 fun s =>
    if node = s.self ∨ 512 ≤ node then respond s m 0x0381 REFUSED
    else if s.fab.dead.contains node then respond s m 0x0381 OK
    else if 64 ≤ s.fab.dead.length then respond s m 0x0381 BUSY
    else respond (s.modFab fun f => { f with dead := f.dead ++ [node] }) m 0x0381 OK

/-- DEAD_CLEAR. -/
def deadClear (s : State) (m : Master) (node : Nat) : State :=
  serve s m 0x0382 fun s =>
    if 512 ≤ node then respond s m 0x0382 REFUSED
    else respond (s.modFab fun f => { f with dead := f.dead.filter (· != node) }) m 0x0382 OK

/-- The destinations with the most timeouts, the most frequent first (R316). -/
def topDests : Nat → AMap Nat → List (Nat × Nat)
  | 0, _ => []
  | n + 1, t =>
    match bestBy (fun a b => decide (b.2 < a.2)) t with
    | none => []
    | some x => x :: topDests n (AMap.erase t x.1)

/-- PKT_STATS. Log: 93 DEDUCED. -/
def pktStats (s : State) (m : Master) (clear : Bool) : State :=
  serve s m 0x0383 fun s =>
    let top := topDests 16 s.fab.byDest
    let data := (4, top.length) :: (top.flatMap fun x => [(2, x.1), (4, x.2)]) ++
      (List.range 10).map fun i => (4, AMap.get 0 s.fab.stats i)
    respond (if clear then s.modFab fun f => { f with stats := [], byDest := [] } else s) m 0x0383 OK data

end Sys2Proof.Machine
end

