-- ==== Sys2Proof/Machine/Routing.lean ====
section
/-! DEFINITION. Routing, flow control and congestion (R319–R354): route tables, live sets, fallback and escape routes, the
routing stage, output arbitration, meters and drops, flushing (R317), table changes, Riffle, and the routing commands. -/
namespace Sys2Proof.Machine

/-! ## The header as a number (R285–R287) -/

/-- The 32 bytes of a packet's header. -/
def headerNat (p : Packet) : Nat :=
  pack [(56, p.addr), (8, p.opcode), (9, p.srcNode), (7, p.port), (3, p.vc), (2, p.colour), (6, p.part), (1, b2n p.epoch),
        (12, p.len), (12, p.ctr), (1, b2n p.ctrEn), (1, b2n p.last), (1, b2n p.poison), (1, b2n p.fwd)] +
  2 ^ 120 *
  (if isCollOp p.opcode then pack [(24, p.chunk), (16, p.group), (32, p.digest), (64, p.crc)]
   else pack [(12, p.tag), (8, p.status), (1, b2n p.chk), (4, p.aop), (2, p.size), (1, b2n p.term), (13, p.chkLen), (5, p.ctrGrp),
              (26, p.rsvd), (64, p.crc)])

/-- The packet that a header and its payload spell. -/
def parsePacket (h : Nat) (payload : Bytes) (inPort : Nat) : Packet :=
  let p : Packet :=
    { addr := bits h 0 56, opcode := bits h 56 8, srcNode := bits h 64 9, port := bits h 73 7, vc := bits h 80 3, colour := bits h 83 2
      part := bits h 85 6, epoch := bitAt h 91, len := bits h 92 12, ctr := bits h 104 12, ctrEn := bitAt h 116, last := bitAt h 117
      poison := bitAt h 118, fwd := bitAt h 119, crc := bits h 192 64, payload := payload, inPort := inPort }
  if isCollOp p.opcode then { p with chunk := bits h 120 24, group := bits h 144 16, digest := bits h 160 32 }
  else { p with tag := bits h 120 12, status := bits h 132 8, chk := bitAt h 140, aop := bits h 141 4, size := bits h 145 2
                term := bitAt h 147, chkLen := bits h 148 13, ctrGrp := bits h 161 5, rsvd := bits h 166 26 }

/-- Bytes of a packet, and the cells it occupies (R328). -/
def pktBytes (p : Packet) : Nat := 32 + p.payload.length
def pktCells (p : Packet) : Nat := ceilDiv (pktBytes p) 256

/-- The crossbar die a packet goes through: for a collective packet of a group with a node here, the die that combines the group's
chunks, else one that its address picks (R11, R229). -/
def pktDie (s : State) (p : Packet) : Nat :=
  ((if isCollOp p.opcode then collDie s p.group else none).getD (bits p.addr 12 2 ^^^ bits p.addr 22 2))

/-- The pool a packet draws on (R359, R366). -/
def poolOf (vc : Nat) (term : Bool) : Nat :=
  if vc = 1 then 0 else if vc = 2 then 1 else if vc = 3 then (if term then 3 else 2) else vc

/-- Cells of the pools of an input buffer (R328). -/
def poolCells : List Nat := [160, 224, 64, 64, 128, 32, 96]

/-! ## Riffle (R348–R350) -/

/-- A packet passes every enabled test of a filter (R350). -/
def filterMatches (f : Nat) (p : Packet) (vc : Nat) : Bool :=
  bitAt f 0 && (p.opcode &&& bits f 14 8) == (bits f 6 8 &&& bits f 14 8) && (! bitAt f 28 || bits f 22 6 == p.part) &&
  (! bitAt f 38 || bits f 29 9 == p.srcNode) && (! bitAt f 48 || bits f 39 9 == p.holder.getD (addrNode p.addr)) &&
  (! bitAt f 56 || bits f 49 7 == p.inPort) && (bits f 57 3 == 0 || bits f 57 3 == vc)

/-- Cells queued for a port and channel in the package. -/
def queued (s : State) (port vc : Nat) : Nat :=
  sumBy (fun q => if q.port = port ∧ q.vc = vc then pktCells q.pkt else 0) s.fab.outq

def riffleRecord (s : State) (tick : Nat) (p : Packet) (out vc event filter seq : Nat) : Nat :=
  headerNat p + 2 ^ 256 *
    pack [(48, s.time.lfc), (14, tick), (2, 0), (7, p.inPort), (7, out), (3, vc), (4, event), (3, filter),
          (8, min 255 (queued s out vc / 16)), (32, seq)]

/-- Enter a record in a ring, which wraps or stops when it is full (R348). -/
def riffleAdd (s : State) (die : Nat) (p : Packet) (out vc event filter : Nat) : State :=
  let r : Riffle := AMap.get {} s.route.riffle die
  let (t, s) := s.drawTick
  let full := decide (16384 ≤ r.recs.length)
  let r :=
    if full && ! r.wrap then { r with lost := r.lost + 1 }
    else { r with recs := (if full then r.recs.drop 1 else r.recs) ++ [riffleRecord s t p out vc event filter r.nextSeq]
                  nextSeq := (r.nextSeq + 1) % 2 ^ 32 }
  s.modRoute fun x => { x with riffle := AMap.set x.riffle die r }

/-- The filter that matches a packet, the lowest. -/
def matching (r : Riffle) (p : Packet) (vc : Nat) : Option Nat :=
  (List.range 8).find? fun i => filterMatches (AMap.get (0 : BitVec 64) r.filters i).toNat p vc

/-- A packet passes the die of its path: recorded when a filter in mirror mode matches it, or one in sample mode samples it. -/
def riffleSeen (s : State) (p : Packet) (out vc : Nat) : State :=
  let die := pktDie s p
  let r : Riffle := AMap.get {} s.route.riffle die
  match matching r p vc with
  | none => s
  | some i =>
    let f := (AMap.get (0 : BitVec 64) r.filters i).toNat
    if bitAt f 1 then riffleAdd s die p out vc 0 i
    else
      let n := AMap.get 0 r.sampled i
      let s := s.modRoute fun x => { x with riffle := AMap.set x.riffle die { r with sampled := AMap.set r.sampled i (n + 1) } }
      if n % 2 ^ bits f 2 4 = 0 then riffleAdd s die p out vc 0 i else s

/-- An event that the EVENTS bit asks for (R348). -/
def riffleEvent (s : State) (p : Packet) (out vc event : Nat) : State :=
  if (AMap.get ({} : Riffle) s.route.riffle (pktDie s p)).events then riffleAdd s (pktDie s p) p out vc event 0 else s

/-! ## Route tables (R319, R323, R332) -/

def regEntry (e : RouteEntry) : Nat :=
  pack [(128, e.maskA), (128, e.maskB), (128, e.escA), (128, e.escB), (1, b2n e.valid), (1, b2n e.adaptA), (1, b2n e.adaptB),
        (1, b2n e.escDownA), (1, b2n e.escDownB)]

/-- A 128-bit set of ports. -/
def portMask (l : List Nat) : Nat := l.foldl (fun m p => m ||| 2 ^ p) 0
def maskPorts (m : Nat) : List Nat := (List.range 128).filter m.testBit

/-- Ports whose neighbour is a node. -/
def portsTo (s : State) (node : Nat) : List Nat := (s.man.ports.filter fun e => e.2.node == node).map (·.1)

/-- Ports to packages: uplinks of a leaf, down-ports of a spine (R19). -/
def treePorts (s : State) : List Nat := (s.man.ports.filter fun e => ! e.2.endPoint && e.2.node != s.partner).map (·.1)

def trayIs (s : State) (t : Nat) (spine : Bool) : Bool := s.man.packages.any fun p => p.node / 16 == t && p.spine == spine

/-- Entry `i` of the first active bank (R323). -/
def firstEntry (s : State) (i : Nat) : RouteEntry :=
  let det (l : List Nat) : RouteEntry := if l.isEmpty then {} else { maskA := portMask l, maskB := portMask l, valid := true }
  let leaf := s.straps.role == 0
  if 32 ≤ i then
    let node := s.tray * 16 + (i - 32)
    if node = s.self then {}
    else if node = s.partner then
      let l := portMask (if leaf then portsTo s node else treePorts s)
      { maskA := l, maskB := l, valid := true, adaptA := true, adaptB := true }
    else if s.man.ports.any (fun e => e.2.endPoint && e.2.node == node) then det (portsTo s node) else {}
  else if i = s.tray then {}
  else if leaf then
    if trayIs s i false then
      let l := portMask (treePorts s)
      { maskA := l, maskB := l, valid := true, adaptA := true, adaptB := true }
    else if trayIs s i true then
      { maskA := portMask (portsTo s (i * 16 + 8)), maskB := portMask (portsTo s (i * 16 + 9)), valid := true, adaptA := true, adaptB := true }
    else {}
  else if trayIs s i false then
    { maskA := portMask (portsTo s (i * 16 + 8)), maskB := portMask (portsTo s (i * 16 + 9)), valid := true }
  else if trayIs s i true then
    let l := portMask (treePorts s)
    { maskA := l, maskB := l, valid := true, adaptA := true, adaptB := true }
  else {}

/-- The default escape root: the lowest spine, or the side A leaf (R332). -/
def escapeRoot (s : State) (root : Nat) : Nat :=
  if root ≠ 0x1FF then root
  else match bestBy (fun a b => decide (a < b)) ((s.man.packages.filter (·.spine)).map (·.node)) with
    | some n => n
    | none => s.tray * 16 + 8

def linkedTo (s : State) (n : Nat) : List Nat :=
  s.man.links.filterMap fun l => if l.1 = n then some l.2 else if l.2 = n then some l.1 else none

/-- Hop distances from the root. -/
def levels (s : State) : Nat → Nat → List Nat → AMap Nat → AMap Nat
  | 0, _, _, acc => acc
  | n + 1, d, front, acc =>
    if front.isEmpty then acc
    else
      let acc := front.foldl (fun a x => AMap.set a x d) acc
      levels s n (d + 1) ((front.flatMap (linkedTo s)).eraseDups.filter fun x => ! AMap.has acc x) acc

/-- A package comes before another in the escape order (R332). -/
def escBefore (lv : AMap Nat) (a b : Nat) : Bool :=
  let la := AMap.get 1000 lv a
  let lb := AMap.get 1000 lv b
  decide (la < lb) || (la == lb && decide (a < b))

/-- The packages from which a destination package is reached by hops of one direction after `set`. -/
def escClosure (s : State) (ok : Nat → Nat → Bool) : Nat → List Nat → List Nat
  | 0, set => set
  | n + 1, set =>
    let more := (set.flatMap fun w => (linkedTo s w).filter fun v => ok v w).eraseDups.filter (! set.contains ·)
    if more.isEmpty then set else escClosure s ok n (set ++ more)

/-- The escape ports towards a package, and whether they lead down. Log: 106 DEDUCED. -/
def escapePorts (s : State) (lv : AMap Nat) (dest : Nat) : Nat × Bool :=
  let n := s.man.packages.length
  let down := escClosure s (fun v w => escBefore lv v w) n [dest]
  let all := escClosure s (fun v w => escBefore lv w v) n down
  let dp := (s.man.ports.filter fun e => ! e.2.endPoint && escBefore lv s.self e.2.node && down.contains e.2.node).map (·.1)
  if dp.isEmpty then
    (portMask ((s.man.ports.filter fun e => ! e.2.endPoint && escBefore lv e.2.node s.self && all.contains e.2.node).map (·.1)), false)
  else (portMask dp, true)

/-- A bank with its escape fields (R332). -/
def withEscapes (s : State) (b : Bank) (root : Nat) : Bank :=
  let r := escapeRoot s root
  let lv := levels s (s.man.packages.length + 1) 0 [r] []
  { b with entries := AMap.mapVals (fun i e =>
      if 32 ≤ i then
        let node := s.tray * 16 + (i - 32)
        if node = s.partner then
          let x := escapePorts s lv node
          { e with escA := x.1, escB := x.1, escDownA := x.2, escDownB := x.2 }
        else { e with escA := e.maskA, escB := e.maskB, escDownA := true, escDownB := true }
      else
        let a := escapePorts s lv (i * 16 + 8)
        let b := escapePorts s lv (i * 16 + 9)
        { e with escA := a.1, escDownA := a.2, escB := b.1, escDownB := b.2 }) b.entries }

/-- The first active bank, built at discovery from the manifest (R323). -/
def buildBank (s : State) : State :=
  let b : Bank := { version := 0, epoch := s.route.active.epoch, entries := (List.range 48).map fun i => (i, firstEntry s i) }
  s.modRoute fun r => { r with active := withEscapes s b 0x1FF, root := 0x1FF }

/-! ## Live sets and fallbacks (R320, R322, R325, R326) -/

def pktDest (p : Packet) : Nat := p.holder.getD (addrNode p.addr)

/-- The entry and the side a packet takes: 0 side A, 1 side B (R320). -/
def lookupOf (s : State) (p : Packet) : Nat × Nat :=
  let d := pktDest p
  let side := if d % 16 = 8 then 0 else if d % 16 = 9 then 1
    else if isCplOp p.opcode then bits p.port 3 1 else bits p.addr 15 1
  (if d / 16 = s.tray then 32 + d % 16 else d / 16, side)

/-- The bank a packet is routed by: that of its epoch while it is retained (R347). -/
def bankOf (s : State) (p : Packet) : Bank × Bool :=
  if p.epoch = s.route.active.epoch then (s.route.active, false)
  else match s.route.old with
    | some b => (b, false)
    | none => (s.route.active, true)

/-- A port pruned from a side of an entry by a REACH notice (R325). -/
def prunedPort (s : State) (i side port : Nat) : Bool :=
  let tray := if 32 ≤ i then s.tray else i
  s.route.pruned.any fun x => x.1 / 16 == tray && (if 32 ≤ i then x.1 % 16 == i - 32 else x.1 % 16 == 8 + side) &&
    (match s.manPort port with | some e => e.node == x.2 | none => false)

def liveOf (s : State) (b : Bank) (i side : Nat) : List Nat :=
  let e : RouteEntry := AMap.get {} b.entries i
  (maskPorts (if side = 0 then e.maskA else e.maskB)).filter fun p => s.live p && ! prunedPort s i side p

def livePartnerLinks (s : State) : List Nat := (portsTo s s.partner).filter s.live
def liveTree (s : State) : List Nat := (treePorts s).filter s.live

/-- A choice of ports: the set, whether the choice is adaptive, and the fallback case of R326 counted from 1, or 0. -/
structure Route where
  ports : List Nat := []
  adaptive : Bool := false
  case : Nat := 0
deriving DecidableEq, Repr

/-- The packet came over a link from the partner (R326). -/
def fromPartner (s : State) (p : Packet) : Bool :=
  match (if p.inPort < 128 then s.manPort p.inPort else none) with
  | some e => e.node == s.partner && ! e.endPoint
  | none => false

/-- The first fallback of R326 that applies. -/
def fallback (s : State) (b : Bank) (p : Packet) (i side : Nat) : Route :=
  let d := pktDest p
  let e : RouteEntry := AMap.get {} b.entries i
  let other := liveOf s b i (1 - side)
  let otherAd := if side = 0 then e.adaptB else e.adaptA
  if fromPartner s p then {}
  else if s.straps.role = 0 then
    if d / 16 ≠ s.tray ∧ d % 16 < 8 ∧ ! other.isEmpty then { ports := other, adaptive := otherAd, case := 1 }
    else if d / 16 ≠ s.tray ∧ (liveTree s).isEmpty then { ports := livePartnerLinks s, adaptive := true, case := 2 }
    else if d / 16 = s.tray ∧ d % 16 < 8 then { ports := livePartnerLinks s, adaptive := true, case := 3 }
    else if d = s.partner then { ports := liveTree s, adaptive := true, case := 4 }
    else {}
  else if i < 32 ∧ trayIs s i false then { ports := other, adaptive := otherAd, case := 5 }
  else {}

/-- The packet arrived on channel 6 over a down hop, and takes only down hops (R332). -/
def cameDown (s : State) (p : Packet) : Bool :=
  match (if p.vc = 6 ∧ p.inPort < 128 then s.manPort p.inPort else none) with
  | none => false
  | some e =>
    let lv := levels s (s.man.packages.length + 1) 0 [escapeRoot s s.route.root] []
    ! e.endPoint && escBefore lv e.node s.self

/-- A completion for an end point of the tray, which descends through the partner: the leaf that owns its PORT, and that entered the
request (R291, R293). -/
def partnersCompletion (s : State) (p : Packet) : Bool :=
  s.straps.role == 0 && isCplOp p.opcode && p.holder.isNone && pktDest p / 16 == s.tray && decide (pktDest p % 16 < 8) &&
    p.port / 8 != s.straps.side && ! fromPartner s p

/-- The ports a packet may take (R291, R320, R322, R326, R331, R332). -/
def routeOf (s : State) (b : Bank) (p : Packet) (vc : Nat) : Route :=
  let (i, side) := lookupOf s p
  let e : RouteEntry := AMap.get {} b.entries i
  if ! e.valid then {}
  else if vc = 6 then
    let down := if side = 0 then e.escDownA else e.escDownB
    if ! down ∧ cameDown s p then {}
    else { ports := (maskPorts (if side = 0 then e.escA else e.escB)).filter s.live, adaptive := true }
  else if partnersCompletion s p ∧ ! (livePartnerLinks s).isEmpty then { ports := livePartnerLinks s, adaptive := true }
  else
    let live := liveOf s b i side
    if ! live.isEmpty then { ports := live, adaptive := if side = 0 then e.adaptA else e.adaptB }
    else fallback s b p i side

/-- Cells queued for a port in a channel, as a die knows them: its own now, the others' as last exchanged (R321). -/
def knownCells (s : State) (die port vc : Nat) : Nat :=
  sumBy (fun q => if q.port = port ∧ q.vc = vc ∧ pktDie s q.pkt = die then pktCells q.pkt else 0) s.fab.outq +
  sumBy (fun d => if d = die then 0 else AMap.get 0 s.route.counts (d * 1024 + port * 8 + vc)) (List.range 4)

/-- The completion of an own-tray end point leaves on its own port die while that port is live, else on the next (R322). -/
def epCplPort (p : Packet) (live : List Nat) : Option Nat :=
  let j := pktDest p % 16
  ((List.range 8).map fun n => (p.port + n) % 8 * 16 + j).find? live.contains

/-- The output port (R80, R321, R322). -/
def choosePort (s : State) (p : Packet) (vc : Nat) (r : Route) : State × Option Nat :=
  if r.ports.isEmpty then (s, none)
  else if s.straps.role = 0 ∧ (p.opcode = opRD ∨ p.opcode = opRDV) ∧ 128 ≤ p.inPort ∧ pktDest p = s.partner ∧ r.case = 0 then
    -- the reads of a tile at the partner take its links in turn, one per port die (R19, R80)
    (s.modRoute fun x => { x with partnerTurn := x.partnerTurn + 1 }, r.ports[s.route.partnerTurn % r.ports.length]?)
  else if r.adaptive then
    let die := pktDie s p
    let best := (r.ports.map (knownCells s die · vc)).foldl min 1000000
    let tied := r.ports.filter fun q => knownCells s die q vc == best
    (s.modRoute fun x => { x with rr := x.rr + 1 }, tied[s.route.rr % tied.length]?)
  else if isCplOp p.opcode ∧ s.straps.role = 0 ∧ pktDest p / 16 = s.tray ∧ pktDest p % 16 < 8 then
    (s, (epCplPort p r.ports).orElse fun _ => r.ports[p.port % r.ports.length]?)
  else
    let h := if isCplOp p.opcode then p.port else bits p.addr 12 12
    (s, r.ports[h % r.ports.length]?)

/-! ## Flushing (R315, R317) -/

/-- Count a posted write complete at its ingress, and enter the record (R313, R317). -/
def endPosted (s : State) (p : Packet) : State :=
  match findIdx (fun t => t.ingress.isSome && t.tag == p.tag && t.pkt.srcNode == p.srcNode && t.pkt.port == p.port && ! t.timedOut) s.fab.tracks with
  | none => s
  | some i =>
    match s.fab.tracks[i]? with
    | none => s
    | some t => noteTimeout (closeTrack s i) (trackDie s t) (addrNode p.addr) p.opcode (t.ctx % 4096)

/-- A flushed packet: a request is answered BUSY, a completion becomes TIMEOUT and goes on, the rest is discarded. -/
def flushPacket (s : State) (p : Packet) : State :=
  let count (i : Nat) (s : State) : State := s.modFab fun f => { f with stats := bump f.stats i }
  if p.opcode = opWRP then endPosted (count 7 s) p
  else if isReq p.opcode then answer (count 7 s) p BUSY []
  else if isCplOp p.opcode then
    let d := List.replicate p.payload.length (0xFF : Byte)
    (count 8 s).modFab fun f => { f with inbuf := f.inbuf ++ [{ port := 0x7F, vc := 2, pkt :=
      { p with status := TIMEOUT, payload := d, poison := p.opcode == opCPLD, crc := if p.chk then crc64 d else 0, vc := 2 } }] }
  else s

/-- A packet without a route (R315). -/
def noRoute (s : State) (p : Packet) : State :=
  let s := riffleEvent s p 0x7F p.vc 6
  if p.opcode = opWRP then
    (match reqTrack s p with
     | some _ => endPosted s p
     | none => answer (noteTimeout s (pktDie s p + 8) (pktDest p) p.opcode 0) p TIMEOUT [])
  else if isReq p.opcode then answer (noteTimeout s (pktDie s p + 8) (pktDest p) p.opcode ((reqCtx s p).getD 0)) p TIMEOUT []
  else countDiscard s

/-! ## The routing stage (R320, R330, R339, R342, R346, R347) -/

/-- A destination that the table change affects (R345). -/
def isAffected (s : State) (p : Packet) : Bool := s.route.affected.testBit (pktDest p)

/-- The two-rate three-colour marker in colour-blind mode (R339). Log: 97 DEDUCED. -/
def meterColour (m : Meter) (n : Nat) : Nat × Meter :=
  if ! m.en then (0, m)
  else if m.tp < n then (2, m)
  else if m.tc < n then (1, { m with tp := m.tp - n })
  else (0, { m with tp := m.tp - n, tc := m.tc - n })

/-- A request from an end-point port of a leaf is coloured by its partition's meter (R339). -/
def colourPacket (s : State) (p : Packet) : State × Packet :=
  if isReq p.opcode ∧ fromEp s p ∧ s.straps.role = 0 then
    let m : Meter := AMap.get {} s.route.meters p.part
    let (c, m') := meterColour m (pktBytes p)
    (s.modRoute fun r => { r with meters := if m.en then AMap.set r.meters p.part m' else r.meters }, { p with colour := c })
  else (s, p)

/-- The early drop of a forwarded packet: the average moves, and a free value decides (R342). Log: 98 DEDUCED. -/
def earlyDrop (s : State) (p : Packet) (port vc : Nat) : State × Bool :=
  if vc ≠ 3 then (s, false)
  else
    let k := pktDie s p * 128 + port
    let q := sumBy (fun x => if x.port = port ∧ x.vc = 3 ∧ pktDie s x.pkt = pktDie s p then pktCells x.pkt else 0) s.fab.outq
    let a := AMap.get 0 s.route.avg k
    let a := a + q - a / 16
    let s := s.modRoute fun r => { r with avg := AMap.set r.avg k a }
    let d := if p.colour = 1 then s.route.yellow else s.route.red
    if p.colour = 0 ∨ ! d.en ∨ a < d.min * 16 then (s, false)
    else if d.max * 16 ≤ a then (s, true)
    else
      let (v, s) := s.draw
      (s, decide (v % 65536 * (d.max - d.min) * 16 * 256 < 65536 * d.pmax * (a - d.min * 16)))

/-- Cells of a packet leave its input buffer and are owed to the link (R329, R365). -/
def freeCells (s : State) (q : QPkt) : State :=
  if q.port < 128 then
    let part := if (epOf s q.port).isSome then 0 else q.pkt.part
    s.modPrt q.port fun x => { x with returns := AMap.modify 0 x.returns (poolOf q.pkt.vc q.pkt.term * 64 + part) (· + pktCells q.pkt) }
  else s

def isEpPort (s : State) (port : Nat) : Bool := (epOf s port).isSome

/-- Cells an output queue of a die holds, and whether a packet fits: at most 4,096 in a queue, and in all the 16 of each queue
and the shared part (R330). -/
def queueRoom (s : State) (p : Packet) (port vc : Nat) : Bool :=
  let die := pktDie s p
  let mine (q : QPkt) : Bool := pktDie s q.pkt == die
  let cells := sumBy (fun q => if mine q && q.port == port && q.vc == vc then pktCells q.pkt else 0) s.fab.outq
  let keys := ((s.fab.outq.filter mine).map fun q => q.port * 8 + q.vc).eraseDups
  let sumAt (k : Nat) : Nat :=
    sumBy (fun q => if mine q && q.port * 8 + q.vc == k then pktCells q.pkt else 0) s.fab.outq - 16
  decide (cells + pktCells p ≤ 4096) &&
  (decide (cells + pktCells p ≤ 16) ||
   decide (sumBy sumAt keys + pktCells p ≤ 196608 - 12288 - 8192 - AMap.get 65536 s.coll.share die))

/-- Cells in the hold areas. -/
def heldCells (s : State) (die : Nat) : Nat := sumBy (fun q => if pktDie s q.pkt = die then pktCells q.pkt else 0) s.route.holding

/-- Mark the tracker of a held request, whose load timer stops (R346). -/
def holdTrack (s : State) (p : Packet) (on : Bool) : State :=
  s.modFab fun f => { f with tracks := f.tracks.map fun t =>
    if t.tag = p.tag ∧ t.pkt.srcNode = p.srcNode ∧ t.pkt.port = p.port ∧ ! t.timedOut then
      { t with held := on, issuedAt := if on then t.issuedAt else s.time.lfc } else t }

/-- One packet at the head of an input queue is routed, its place in the queue given. Log: 103 DEDUCED, 211 DEDUCED. -/
def routeHead (s : State) (i : Nat) (q : QPkt) : State :=
  let p := q.pkt
  let origin := decide (128 ≤ p.inPort) || fromEp s p
  let take (s : State) : State := freeCells (s.modFab fun f => { f with inbuf := f.inbuf.eraseIdx i }) q
  if s.isUnitFenced 4 (pktDie s p) then s
  else if forHere s p then
    riffleSeen ((take s).modFab fun f => { f with delivered := f.delivered ++ [p] }) p 0x7F q.vc
  else if s.route.st = 2 ∧ origin ∧ isAffected s p then
    if 8192 < heldCells s (pktDie s p) + pktCells p then s
    else holdTrack ((take s).modRoute fun r => { r with holding := r.holding ++ [q] }) p true
  else
    let s0 := s
    let (s, p) := if origin then colourPacket s { p with epoch := s.route.active.epoch } else (s, p)
    let (b, retired) := bankOf s p
    let s := if retired then s.modRoute fun r => { r with stats := bump r.stats 10 } else s
    let r := routeOf s b p q.vc
    match choosePort s p q.vc r with
    | (s, none) => noRoute (take s) p
    | (s, some port) =>
      let vc := if q.vc = 6 ∧ isEpPort s port then classVc p else q.vc
      if ! queueRoom s p port vc then s0
      else
        let first := r.case ≠ 0 ∧ AMap.get 0 s.route.oxbowAt (pktDest p) ≠ s.time.lfc + 1
        let s := if r.case = 0 then s else s.modRoute fun x => { x with stats := bump x.stats (r.case - 1) }
        let s := if first then riffleEvent (s.modRoute fun x => { x with oxbowAt := AMap.set x.oxbowAt (pktDest p) (s.time.lfc + 1) })
            p port vc 5 else s
        let (s, drop) := earlyDrop s p port vc
        if drop then
          flushPacket (riffleEvent ((take s).modRoute fun x => { x with stats := bump x.stats (5 + p.colour) }) p port vc 1) p
        else
          let p := { p with vc := vc }
          riffleSeen ((take s).modFab fun f => { f with outq := f.outq ++ [{ port := port, vc := vc, pkt := p }] }) p port vc

/-- PACKET_ROUTE: the packet at the head of an input queue; port 0x7F holds what the package's units originate. -/
def doPacketRoute (s : State) (port vc : Nat) : State :=
  match findIdx (fun q => q.port == port && q.vc == vc) s.fab.inbuf with
  | none => s
  | some i =>
    match s.fab.inbuf[i]? with
    | none => s
    | some q => routeHead s i q

/-! ## Credits and output arbitration (R329, R334–R340) -/

def portShare (s : State) (p : Nat) : Nat := max 1 (AMap.get 4 s.route.shares p)

/-- Credits are held for a packet on a port (R329, R337). Log: 104 DEDUCED. -/
def creditOk (s : State) (port : Nat) (p : Packet) (vc : Nat) : Bool :=
  let x := s.prt port
  let pool := poolOf vc p.term
  let k := pktCells p
  let c := poolCells.getD pool 0
  let reserved (q : Nat) : Nat := c * portShare s q / 256
  let owed (q : Nat) : Nat := AMap.get 0 x.owed (pool * 64 + q) + (if q = p.part then k else 0)
  decide (k ≤ AMap.get 0 x.credits pool) &&
  (isEpPort s port ||
   (decide (owed p.part ≤ max (reserved p.part) (c / 2)) &&
    decide (sumBy (fun q => owed q - reserved q) (List.range 64) ≤ c - sumBy reserved (List.range 64))))

def spendCredits (s : State) (port : Nat) (p : Packet) (vc : Nat) : State :=
  let pool := poolOf vc p.term
  let part := if isEpPort s port then 0 else p.part
  s.modPrt port fun x => { x with
    credits := AMap.modify 0 x.credits pool (· - pktCells p)
    owed := AMap.modify 0 x.owed (pool * 64 + part) (· + pktCells p) }

/-- The packet that heads a partition's queue on a channel of a port, by its place in `outq`. -/
def headOf (s : State) (port vc part : Nat) : Option (Nat × QPkt) :=
  match findIdx (fun q => q.port == port && q.vc == vc && q.pkt.part == part) s.fab.outq with
  | none => none
  | some i => (s.fab.outq[i]?).map fun q => (i, q)

/-- The packets ready on a port, by channel and partition; a red one only when its channel has no green or yellow one
(R334, R340). -/
def readyOf (s : State) (port : Nat) : List (Nat × Nat × Nat × QPkt) :=
  let heads := ((s.fab.outq.filter (·.port == port)).map fun q => (q.vc, q.pkt.part)).eraseDups.filterMap fun x =>
    match headOf s port x.1 x.2 with
    | some (i, q) => if creditOk s port q.pkt q.vc then some (x.1, x.2, i, q) else none
    | none => none
  let red (q : QPkt) : Bool := q.pkt.colour == 2 && ! q.waitedRed
  heads.filter fun h => ! red h.2.2.2 || ! heads.any fun k => k.1 == h.1 && ! red k.2.2.2

/-- Channel quanta of R335. -/
def quantum (vc : Nat) : Nat := if vc = 2 ∨ vc = 4 then 8192 else 4096

/-- Deficit round robin: from the current member on, the first whose deficit covers its packet, each member passed over
gaining its quantum. Answers the member and the deficits. Log: 105 DESIGN CHOICE. -/
def drr (quant size : Nat → Nat) (next : Nat → Nat) : Nat → Nat → AMap Nat → Option (Nat × AMap Nat)
  | 0, _, _ => none
  | n + 1, cur, def' =>
    if 0 < size cur ∧ size cur ≤ AMap.get 0 def' cur then some (cur, AMap.modify 0 def' cur (· - size cur))
    else
      let k := next cur
      drr quant size next n k (if 0 < size k then AMap.modify 0 def' k (· + quant k) else AMap.set def' k 0)

def nextOf (l : List Nat) (c : Nat) : Nat := ((l.find? (decide <| c < ·)).orElse fun _ => l.head?).getD 0

/-- The next packet of a port (R334): its place in `outq` and the state with the round-robin state advanced. -/
def pickNext (s : State) (port : Nat) : State × Option (Nat × QPkt) :=
  let ready := readyOf s port
  match ready.find? fun h => h.1 == 5 with
  | some h => (s, some h.2.2)
  | none =>
    let parts := (ready.map (·.2.1)).eraseDups.foldl (fun l x => (l.filter (decide <| · < x)) ++ [x] ++ l.filter (decide <| x < ·)) []
    let vcsOf (p : Nat) : List Nat := [1, 2, 3, 4, 6].filter fun v => ready.any fun h => h.1 == v && h.2.1 == p
    let pkt (p v : Nat) : Option (Nat × QPkt) := (ready.find? fun h => h.1 == v && h.2.1 == p).map (·.2.2)
    let sizeC (p v : Nat) : Nat := match pkt p v with | some x => pktBytes x.2.pkt | none => 0
    let keyC (p v : Nat) : Nat := (port * 64 + p) * 8 + v
    let pick (p : Nat) : Option (Nat × AMap Nat) :=
      let vs := vcsOf p
      drr quantum (sizeC p) (nextOf vs) 12 (AMap.get 1 s.route.turnC (port * 64 + p))
        (vs.map fun v => (v, AMap.get 0 s.route.deficitC (keyC p v)))
    let sizeP (p : Nat) : Nat := match pick p with | some x => sizeC p x.1 | none => 0
    match drr (fun p => 256 * portShare s p) sizeP (nextOf parts) 800 (AMap.get 0 s.route.turnP port)
        (parts.map fun p => (p, AMap.get 0 s.route.deficitP (port * 64 + p))) with
    | none => (s, none)
    | some (p, dp) =>
      match pick p with
      | none => (s, none)
      | some (v, dc) =>
        (s.modRoute fun r => { r with
          turnP := AMap.set r.turnP port p
          turnC := AMap.set r.turnC (port * 64 + p) v
          deficitP := dp.foldl (fun t x => AMap.set t (port * 64 + x.1) x.2) r.deficitP
          deficitC := dc.foldl (fun t x => AMap.set t (keyC p x.1) x.2) r.deficitC }, pkt p v)

/-! ## Frames out (R358, R359, R361, R363, R365) -/

/-- Cut a byte stream into frame payloads, filled with zeros. -/
def framePayloads : Nat → Bytes → List Bytes
  | 0, _ => []
  | n + 1, d => if d.isEmpty then [] else slice d 0 256 :: framePayloads n (d.drop 256)

/-- The trailer's fields above the CRC (R359). -/
def trailerHigh (f : Frame) : Nat :=
  pack [(10, f.seq), (1, b2n f.side)] +
  2 ^ 11 * (if f.side then pack [(3, f.pool), (6, f.part), (4, f.count)] else pack [(10, f.ackSeq), (1, b2n f.nak)])

/-- The CRC of a frame (R360). -/
def frameCrc (f : Frame) : Nat := crc32 (f.payload ++ leBytes 3 (trailerHigh f))

/-- The credit return a frame carries: the pair with the most cells pending, up to 15 (R365). -/
def pickReturn (x : Port) : Option (Nat × Nat) :=
  (bestBy (fun a b => decide (b.2 < a.2)) (x.returns.filter fun r => 0 < r.2)).map fun r => (r.1, min 15 r.2)

/-- One frame leaves a port. It is sequenced when it carries packet bytes or a credit return, which a full replay buffer and a rate step
keep back; at least one in 16, and every empty one, carries the acknowledgement (R361–R363, R368). Log: 107 DESIGN CHOICE. -/
def sendFrame (x : Port) (payload : Bytes) (full : Bool) : Port :=
  let ret := if x.nakDue ∨ (x.txSeq + 1) % 16 = 0 ∨ 256 ≤ x.replay.length ∨ x.st = 3 then none else pickReturn x
  let seqd := full || ret.isSome
  let seq := if seqd then (x.txSeq + 1) % 1024 else x.txSeq
  let f : Frame := match ret with
    | some (k, n) => { payload := payload, seq := seq, side := true, pool := k / 64, part := k % 64, count := n }
    | none => { payload := payload, seq := seq, ackSeq := (x.expected + 1023) % 1024, nak := x.nakDue && ! x.nakSent }
  let f := { f with crc := frameCrc f }
  { x with
    txSeq := seq
    tx := x.tx ++ [f]
    replay := if seqd then x.replay ++ [f] else x.replay
    returns := match ret with | some (k, n) => AMap.modify 0 x.returns k (· - n) | none => x.returns
    nakSent := x.nakSent || f.nak
    nakDue := if f.nak then false else x.nakDue }

/-- The payloads of a packet's frames: header, payload, and zeros to a multiple of 8 bytes; the rest of the last frame is
filler (R358). -/
def packetFrames (p : Packet) : List Bytes :=
  let d := leBytes 32 (headerNat p) ++ p.payload
  framePayloads 10 (slice d 0 ((d.length + 7) / 8 * 8))

/-- OUTPUT_ARBITRATION: the port's next packet leaves, as frames; with none ready it sends an empty frame, or a credit
return, and stays idle when it is idle and has neither (R373). -/
def doOutputArb (s : State) (port : Nat) : State :=
  let x := s.prt port
  if x.st ≠ 2 ∨ ! s.present port then s
  else
    match (if s.live port then pickNext s port else (s, none)) with
    | (s, none) =>
      if x.txIdle ∧ (pickReturn x).isNone then s
      else s.modPrt port fun x => sendFrame { x with txIdle := false } (List.replicate 256 0) false
    | (s', some (i, q)) =>
      let fs := packetFrames q.pkt
      if 256 < x.replay.length + fs.length then s
      else
        let s := spendCredits s' port q.pkt q.vc
        let s := s.modFab fun f => { f with outq := f.outq.eraseIdx i }
        s.modPrt port fun x => fs.foldl (fun x d => sendFrame x d true) { x with txIdle := false }

/-- ESCAPE_MOVE: the packet at the head of an input queue has waited 2 µs without credits on any port of its live set (R331). -/
def doEscapeMove (s : State) (port vc : Nat) : State :=
  match findIdx (fun q => q.port == port && q.vc == vc) s.fab.inbuf with
  | none => s
  | some i =>
    match s.fab.inbuf[i]? with
    | none => s
    | some q =>
      let r := routeOf s (bankOf s q.pkt).1 q.pkt vc
      if vc < 1 ∨ 4 < vc ∨ forHere s q.pkt ∨ r.ports.isEmpty ∨ r.ports.any (creditOk s · q.pkt vc) then s
      else
        let s := s.modFab fun f => { f with inbuf := f.inbuf.mapIdx fun j y => if j = i then { y with vc := 6 } else y }
        riffleEvent (s.modRoute fun x => { x with stats := bump x.stats 5 }) q.pkt 0x7F 6 4

/-- RED_PROMOTION: the oldest red packet of a port has waited 20 µs (R340). -/
def doRedPromotion (s : State) (port : Nat) : State :=
  match findIdx (fun q => q.port == port && q.pkt.colour == 2 && ! q.waitedRed) s.fab.outq with
  | none => s
  | some i => s.modFab fun f => { f with outq := f.outq.mapIdx fun j q => if j = i then { q with waitedRed := true } else q }

/-- PACKET_AGED: the oldest packet queued for a port and channel, or in its input queue, is flushed and counted (R318). -/
def doPacketAged (s : State) (port vc : Nat) : State :=
  let aged (s : State) (p : Packet) : State :=
    let s := (s.modFab fun f => { f with stats := bump f.stats 9 }).modRoute fun r => { r with stats := bump (bump r.stats 8) 9 }
    flushPacket (riffleEvent s p port vc 3) p
  match findIdx (fun q => q.port == port && q.vc == vc) s.fab.outq with
  | some i => (match s.fab.outq[i]? with
      | some q => aged (s.modFab fun f => { f with outq := f.outq.eraseIdx i }) q.pkt
      | none => s)
  | none =>
    match findIdx (fun q => q.port == port && q.vc == vc) s.fab.inbuf with
    | some i => (match s.fab.inbuf[i]? with
        | some q => aged (freeCells (s.modFab fun f => { f with inbuf := f.inbuf.eraseIdx i }) q) q.pkt
        | none => s)
    | none => s

/-- QUEUE_COUNT_EXCHANGE: a crossbar die tells the others its counts (R321). -/
def doCountExchange (s : State) (die : Nat) : State :=
  if 4 ≤ die then s
  else
    let keys := ((s.fab.outq.filter fun q => pktDie s q.pkt == die).map fun q => q.port * 8 + q.vc).eraseDups
    let cells (k : Nat) : Nat := sumBy (fun q => if pktDie s q.pkt = die ∧ q.port * 8 + q.vc = k then pktCells q.pkt else 0) s.fab.outq
    s.modRoute fun r => { r with
      counts := keys.foldl (fun t k => AMap.set t (die * 1024 + k) (cells k)) (r.counts.filter fun x => x.1 / 1024 != die) }

/-! ## Control packets between packages (R298, R325, R346) -/

/-- An Ibfen message to a package: its kind and value as a payload of this model's own (R298). Log: 94 DESIGN CHOICE. -/
def sendCtrl (s : State) (dest kind value : Nat) : State :=
  let d := leBytes 32 (pack [(8, kind), (248, value)])
  send s { addr := nodeBase dest, opcode := opCTRL, srcNode := s.self, port := 37, vc := 5, len := 32, payload := d }

/-- The neighbouring Deviks of the accepted ports. -/
def neighbours (s : State) : List Nat :=
  ((livePorts s).filterMap fun p => match s.manPort p with | some e => if e.endPoint then none else some e.node | none => none).eraseDups

/-- Tell the neighbours of a package whose last live port has gone down, or of one regained (R325). -/
def reachNotice (s : State) (node : Nat) (lost : Bool) : State :=
  let tgt := neighbours s
  tgt.foldl (fun s d => sendCtrl s d (if lost then 1 else 2) node) (s.modRoute fun r => { r with
    reachSent := r.reachSent.filter (· != node) ++ (if lost then [node] else []), stats := bump r.stats 11 tgt.length })

/-- Packages reported lost that have a live port again. -/
def reachRegained (s : State) : State :=
  (s.route.reachSent.filter fun n => (portsTo s n).any s.live).foldl (fun s n => reachNotice s n false) s

/-- A way in the tree of a group is lost when no route leads to the neighbouring node any more (R255). -/
def collLinksLost (s : State) : State :=
  (treeNeighbours s).foldl (fun s n =>
    if n = s.self ∨ ! (routeOf s s.route.active { addr := nodeBase n, opcode := opDONE, vc := 4 } 4).ports.isEmpty then s
    else collNodeLost s n) s

/-- REACH: a leaf prunes what a spine has lost; a spine, what a leaf says of its partner spine (R325). -/
def doReach (s : State) (port node : Nat) (lost : Bool) : State :=
  match s.manPort port with
  | none => s
  | some e =>
    if e.endPoint ∨ (node % 16 ≠ 8 ∧ node % 16 ≠ 9) ∨ (s.straps.role = 1 ∧ node ≠ s.partner) ∨ (s.straps.role = 0 ∧ e.node = s.partner) then s
    else collLinksLost (s.modRoute fun r => { r with
      stats := bump r.stats 12
      pruned := (r.pruned.filter (· != (node, e.node))) ++ (if lost then [(node, e.node)] else []) })

/-! ## Changing tables (R345–R347) -/

/-- Affected packets in transit in the package. -/
def transitCount (s : State) : Nat := (s.fab.inbuf ++ s.fab.outq).countP fun q => isAffected s q.pkt

/-- ROUTE_HOLD_START. -/
def doHoldStart (s : State) : State :=
  if s.route.committed ∧ s.route.st = 1 ∧ s.route.drainAt ≤ s.time.lfc then
    s.modRoute fun r => { r with st := 2, sentDrained := false }
  else s

/-- ROUTE_DRAINED_SEND. -/
def doDrainedSend (s : State) : State :=
  if s.route.st = 2 ∧ ! s.route.sentDrained ∧ transitCount s = 0 then
    (otherPackages s).foldl (fun s n => sendCtrl s n 3 s.time.lfc)
      (s.modRoute fun r => { r with sentDrained := true, drainedBy := AMap.set r.drainedBy s.self s.time.lfc })
  else s

/-- DRAINED. -/
def doDrained (s : State) (node frame : Nat) : State :=
  if s.route.committed ∧ s.route.st ≤ 2 ∧ (otherPackages s).contains node then
    s.modRoute fun r => { r with drainedBy := AMap.set r.drainedBy node frame }
  else s

/-- The staged bank becomes active, EPOCH toggles, and the holds are released (R346). -/
def switchBank (s : State) : State :=
  match s.route.staged with
  | none => s
  | some b =>
    let held := s.route.holding
    let s := held.foldl (fun s q => holdTrack s q.pkt false) s
    let s := s.modRoute fun r => { r with
      old := some r.active, active := { b with epoch := ! r.active.epoch }, staged := none, st := 3, holding := [] }
    collLinksLost (s.modFab fun f => { f with inbuf := held ++ f.inbuf })

/-- ROUTE_SWITCH: in frame max(N) + 2, with a notice from every Devik of the manifest. Log: 102 DEDUCED. -/
def doRouteSwitch (s : State) : State :=
  let r := s.route
  let f := (r.drainedBy.map (·.2)).foldl max 0 + 2
  if r.st = 2 ∧ r.sentDrained ∧ (otherPackages s).all (AMap.has r.drainedBy) ∧ f ≤ r.drainAt + r.drainFrames ∧ s.time.lfc = f then switchBank s
  else s

/-- ROUTE_FALLBACK_SWITCH. -/
def doFallbackSwitch (s : State) : State :=
  if s.route.st = 2 ∧ s.route.drainAt + s.route.drainFrames ≤ s.time.lfc then switchBank s else s

/-- ROUTE_RETIRE. -/
def doRouteRetire (s : State) : State :=
  if s.route.st = 3 ∧ s.route.drainAt + s.route.drainFrames + 16 ≤ s.time.lfc ∧ oldPackets s = 0 then
    s.modRoute fun r => { r with old := none, st := 0, committed := false, drainedBy := [], sentDrained := false }
  else s

/-- What takes effect at a frame boundary: shares, meters, profiles (R336, R354), and the meters' tokens of a frame, 65.536 µs
at 0.1 GB/s per unit. -/
def routeFrame (s : State) : State :=
  s.modRoute fun r =>
    let meters := r.metersNext.foldl (fun t x => AMap.set t x.1 x.2) r.meters
    { r with
      shares := r.sharesNext.getD r.shares
      sharesNext := none
      metersNext := []
      meters := AMap.mapVals (fun _ (m : Meter) => { m with
        tc := min (m.cbs * 1024) (m.tc + m.cir * 65536 / 10), tp := min (m.pbs * 1024) (m.tp + m.pir * 65536 / 10) }) meters
      yellow := (r.dropsNext.map (·.1)).getD r.yellow
      red := (r.dropsNext.map (·.2)).getD r.red
      dropsNext := none }

/-! ## Routing commands (R354) -/

def routeEntryOf (e : BitVec 1024) : RouteEntry :=
  let n := e.toNat
  { maskA := bits n 0 128, maskB := bits n 128 128, valid := bitAt n 512, adaptA := bitAt n 513, adaptB := bitAt n 514 }

/-- ROUTE_STAGE. Log: 99 DEDUCED. -/
def routeStage (s : State) (m : Master) (version first : Nat) (entries : List (BitVec 1024)) : State :=
  serve s m 0x0B00 fun s =>
    let present := portMask (s.man.ports.map (·.1))
    let bad := entries.any fun e => bits e.toNat 517 507 != 0 || (maskPorts (bits e.toNat 0 128 ||| bits e.toNat 128 128)).any (! present.testBit ·)
    if s.route.st = 2 ∨ s.route.st = 3 then respond s m 0x0B00 BUSY
    else if entries.length < 1 ∨ 30 < entries.length ∨ 48 < first + entries.length ∨ 65536 ≤ version ∨ bad then respond s m 0x0B00 REFUSED
    else
      let base : Bank := match s.route.staged with
        | some b => if b.version = version then b else { s.route.active with version := version }
        | none => { s.route.active with version := version }
      let b := { base with entries := (entries.zipIdx first).foldl (fun t x => AMap.set t x.2 (routeEntryOf x.1)) base.entries }
      respond (s.modRoute fun r => { r with staged := some b, st := 1, committed := false }) m 0x0B00 OK

/-- The destinations an entry serves: the listed nodes of its tray, or its own node (R319). -/
def servedBy (s : State) (i : Nat) : List Nat :=
  if 32 ≤ i then [s.tray * 16 + (i - 32)]
  else (s.man.packages.map (·.node) ++ s.man.endPoints).filter fun n => n / 16 == i

/-- Entries compare by what ROUTE_STAGE writes. -/
def entryPart (e : RouteEntry) : Nat × Nat × Bool × Bool × Bool := (e.maskA, e.maskB, e.valid, e.adaptA, e.adaptB)

/-- ROUTE_COMMIT (R345). Log: 100 DEDUCED. -/
def routeCommit (s : State) (m : Master) (version drain drainFrames : Nat) (affected : BitVec 512) (root : Nat) : State :=
  serve s m 0x0B01 fun s =>
    if s.route.st = 2 ∨ s.route.st = 3 then respond s m 0x0B01 BUSY
    else match s.route.staged with
      | none => respond s m 0x0B01 REFUSED
      | some b =>
        let differs (i : Nat) : Bool :=
          entryPart (AMap.get {} b.entries i) != entryPart (AMap.get {} s.route.active.entries i)
        let outside := (List.range 48).any fun i => differs i && (servedBy s i).any fun n => ! affected.toNat.testBit n
        if b.version ≠ version ∨ drain < s.time.lfc + 2 ∨ 255 < drainFrames ∨ outside ∨
            (root ≠ 0x1FF ∧ ! s.man.packages.any (·.node == root)) then respond s m 0x0B01 REFUSED
        else respond (s.modRoute fun r => { r with
          staged := some (withEscapes s b root), committed := true, drainAt := drain, drainFrames := if drainFrames = 0 then 40 else drainFrames
          affected := affected.toNat, root := root, drainedBy := [], sentDrained := false }) m 0x0B01 OK

/-- ROUTE_GET: bank 0 is the active bank, 1 the staged one. Log: 101 DEDUCED. -/
def routeGet (s : State) (m : Master) (bank first count : Nat) : State :=
  serve s m 0x0B02 fun s =>
    let b := if bank = 0 then some s.route.active else if bank = 1 then s.route.staged else none
    match b with
    | none => respond s m 0x0B02 REFUSED
    | some b =>
      if count < 1 ∨ 30 < count ∨ 48 < first + count then respond s m 0x0B02 REFUSED
      else respond s m 0x0B02 OK ((4, count) :: (range' first count).map fun i => (128, regEntry (AMap.get {} b.entries i)))

/-- SHARE_SET (R336). -/
def shareSet (s : State) (m : Master) (shares : List Nat) : State :=
  serve s m 0x0B03 fun s =>
    if shares.length ≠ 64 ∨ shares.any (255 < ·) ∨ 256 < sumBy (max 1) shares then respond s m 0x0B03 REFUSED
    else respond (s.modRoute fun r => { r with sharesNext := some ((List.range 64).map fun i => (i, shares.getD i 4)) }) m 0x0B03 OK

/-- SHARE_GET. -/
def shareGet (s : State) (m : Master) : State :=
  serve s m 0x0B04 fun s =>
    respond s m 0x0B04 OK ((4, 64) :: (List.range 64).map fun i => (1, AMap.get 4 s.route.shares i))

/-- METER_SET (R352). -/
def meterSet (s : State) (m : Master) (part : Nat) (meter : BitVec 128) : State :=
  serve s m 0x0B05 fun s =>
    let w := meter.toNat
    if 64 ≤ part ∨ bits w 65 63 ≠ 0 ∨ bits w 32 16 < bits w 0 16 then respond s m 0x0B05 REFUSED
    else
      let x : Meter := { cir := bits w 0 16, cbs := bits w 16 16, pir := bits w 32 16, pbs := bits w 48 16, en := bitAt w 64
                         tc := bits w 16 16 * 1024, tp := bits w 48 16 * 1024 }
      respond (s.modRoute fun r => { r with metersNext := AMap.set r.metersNext part x }) m 0x0B05 OK

def dropOf (w : Nat) : Drop := { min := bits w 0 16, max := bits w 16 16, pmax := bits w 32 8, en := bitAt w 40 }

/-- DROP_SET (R353). -/
def dropSet (s : State) (m : Master) (yellow red : BitVec 64) : State :=
  serve s m 0x0B06 fun s =>
    let bad (w : Nat) : Bool := decide ((dropOf w).max ≤ (dropOf w).min) || bits w 41 23 != 0
    if bad yellow.toNat ∨ bad red.toNat then respond s m 0x0B06 REFUSED
    else respond (s.modRoute fun r => { r with dropsNext := some (dropOf yellow.toNat, dropOf red.toNat) }) m 0x0B06 OK

/-- RIFFLE_SET (R348, R350). -/
def riffleSet (s : State) (m : Master) (die index : Nat) (filter : BitVec 64) (events wrap : Bool) : State :=
  serve s m 0x0B07 fun s =>
    if 4 ≤ die ∨ 8 ≤ index ∨ bits filter.toNat 60 4 ≠ 0 then respond s m 0x0B07 REFUSED
    else
      let r : Riffle := AMap.get {} s.route.riffle die
      let r := { r with filters := AMap.set r.filters index filter, sampled := AMap.set r.sampled index 0, events := events, wrap := wrap }
      respond (s.modRoute fun x => { x with riffle := AMap.set x.riffle die r }) m 0x0B07 OK

/-- RIFFLE_READ (R354). -/
def riffleRead (s : State) (m : Master) (die seq : Nat) : State :=
  serve s m 0x0B08 fun s =>
    if 4 ≤ die then respond s m 0x0B08 REFUSED
    else
      let r : Riffle := AMap.get {} s.route.riffle die
      let oldest := r.nextSeq + 2 ^ 32 - r.recs.length
      let skip := if seq + 2 ^ 32 < oldest then 0 else (seq + 2 ^ 32 - oldest) % 2 ^ 32
      let recs := (r.recs.drop skip).take 60
      respond s m 0x0B08 OK ((4, recs.length) :: recs.map (fun x => (64, x)) ++
        [(4, oldest % 2 ^ 32), (4, (r.nextSeq + 2 ^ 32 - 1) % 2 ^ 32), (4, r.lost)])

/-- ROUTE_STATS. -/
def routeStats (s : State) (m : Master) (clear : Bool) : State :=
  serve s m 0x0B09 fun s =>
    let data := (List.range 13).map fun i => (4, AMap.get 0 s.route.stats i)
    respond (if clear then s.modRoute fun r => { r with stats := [] } else s) m 0x0B09 OK data

end Sys2Proof.Machine
end

