-- ==== Sys2Proof/Machine/Links.lean ====
section
/-! DEFINITION. Serial lanes and the link layer (R355–R376): frames, acknowledgement, replay, credits on the link, training,
rate steps, equalisation, retraining, idle, ports going down (R344), and the link commands. -/
namespace Sys2Proof.Machine

/-! ## Acceptance and the live sets (R344, R459) -/

/-- The port leaves its live and escape sets. -/
def leaveSets (x : Port) : Port := { x with inSets := false, joinAt := none }

/-- Discovery accepts a port; it joins its sets at the next frame boundary (R367, R459). The first acceptance begins phase
0x03, and the first active bank is built (R323, R456). Log: 112 DEDUCED. -/
def acceptPort (s : State) (p : Nat) : State :=
  let s := s.modPrt p fun x => { x with accepted := true, missing := false, quarantined := false, joinAt := some (s.time.lfc + 1) }
  let s := if s.route.active.entries.isEmpty then buildBank s else s
  let s := s.modFlt fun f => { f with fenced := f.fenced.filter fun u => ! (u.cls == 1 && u.inst == p && u.cause != 0 && u.cause != 3) }
  if s.flt.phase = 2 then setPhase s 3 else s

/-- A neighbour that does not match is quarantined (R460). -/
def quarantinePort (s : State) (p node peer : Nat) : State :=
  let s := s.modPrt p fun x => leaveSets { x with quarantined := true, accepted := false, missing := false }
  let s := raise s { die := dieOf 1 p, cls := 1, inst := p, cause := 3, node := node % 512 }
  pushEvent s 0x0301 (pack [(7, p), (9, node), (7, peer)])

/-- The next rate code that both ends permit (R368). -/
def nextRate (x : Port) : Option Nat :=
  if x.rate < 3 ∧ x.rate + 1 ≤ x.maxRate ∧ x.peerRates.testBit (x.rate + 1) ∧ ! x.rateCapped then some (x.rate + 1) else none

/-- A rate step begins once no replay or retraining is in progress: the port leaves its sets (R368, R374). -/
def beginStep (x : Port) : Port :=
  match nextRate x with
  | none => { x with stepDue := false }
  | some r =>
    if x.st = 2 ∧ x.replayCount = 0 then
      { leaveSets x with st := 3, prevRate := x.rate, target := r, stepBlocks := 0, rxDone := 0, readys := 0, trainStep := 3, stepDue := false }
    else { x with stepDue := true }

/-- At a frame boundary, accepted ports that train again, step or retrain rejoin their sets (R344). A port in its sets for which a step was
due, or that has stepped up before, takes the next step (R368). -/
def joinPorts (s : State) : State :=
  let join (x : Port) : Port :=
    match x.joinAt with
    | some f => if f ≤ s.time.lfc ∧ x.accepted ∧ ! x.quarantined ∧ x.st = 2 then { x with inSets := true, joinAt := none } else x
    | none => if x.st = 2 ∧ x.inSets ∧ (x.stepDue ∨ x.prevRate < x.rate) then beginStep x else x
  reachRegained { s with ports := AMap.mapVals (fun _ x => join x) s.ports }

/-! ## Ports going down and training (R344, R367, R372) -/

/-- The credits of a pool size for each partition of a link, or for the whole of an end-point link (R328, R337, R365). The
cells open to all partitions are granted under partition 0. -/
def initialReturns (s : State) (p : Nat) : AMap Nat :=
  (poolCells.zipIdx).flatMap fun (c, pool) =>
    if isEpPort s p then [(pool * 64, c)]
    else
      let r (q : Nat) : Nat := c * portShare s q / 256
      let openCells := c - sumBy r (List.range 64)
      (List.range 64).map fun q => (pool * 64 + q, r q + (if q = 0 then openCells else 0))

/-- A port starts training at step 1, at rate 0 with preset P1 (R367). -/
def startTraining (x : Port) : Port :=
  { leaveSets x with st := 1, rate := 0, prevRate := 0, trainStep := 1, detected := 0, laneLock := 0, rxDone := 0, readys := 0
                     target := 0, stepBlocks := 0, peerRates := 0, stepDue := false, taps := [], eqSt := [], rateCapped := false
                     txIdle := false, rxIdle := false, idleBlocks := 0, wakeBlocks := 0, accepted := false }

/-- A port goes down: out of its sets, its queue flushed, its credits cleared, with a record unless it was commanded
(R344, R372). Log: 114 DEDUCED, 115 DEDUCED. -/
def portDown (s : State) (p : Nat) (cause : Option Nat) : State :=
  let q := s.fab.outq.filter (·.port == p)
  let peer := match s.manPort p with | some e => if e.endPoint then none else some e.node | none => none
  let wasUp := match peer with | some n => (portsTo s n).any s.live | none => false
  let s := s.modPrt p fun x => { leaveSets x with
    st := 5, rate := 0, downs := satAdd 8 x.downs 1, accepted := false, credits := [], owed := [], returns := [], replay := []
    rx := [], replayCount := 0, nakDue := false, nakSent := false, laneLock := 0, rateCapped := false, txIdle := false, rxIdle := false
    stepDue := false, identSent := false }
  let s := s.modFab fun f => { f with outq := f.outq.filter (·.port != p) }
  let s := q.foldl (fun s x =>
    flushPacket (riffleEvent (s.modRoute fun r => { r with stats := bump r.stats 8 }) x.pkt p x.vc 2) x.pkt) s
  let s := match cause with
    | some c => raise s { die := dieOf 1 p, cls := 1, inst := p, cause := c, node := ((s.manPort p).map (·.node)).getD 0 }
    | none => s
  match peer with
  | some n => collLinksLost (if wasUp ∧ ! (portsTo s n).any s.live then reachNotice s n true else s)
  | none => s

/-- A retraining starts (R370); a fifth within one second (15,259 frames) takes the port down.
Log: 111 DEDUCED, 153 DEDUCED. -/
def startRetrain (s : State) (p : Nat) : State :=
  let x := s.prt p
  let recent := x.retrainAt.filter fun f => s.time.lfc < f + 15259
  if x.st ≠ 2 ∧ x.st ≠ 3 then s
  else
    let s := s.modPrt p fun x => { leaveSets x with
      st := 4, rate := if x.st = 3 then x.prevRate else x.rate, trainStep := 2, laneLock := 0, rxDone := 0, readys := 0
      retrains := satAdd 8 x.retrains 1, retrainAt := recent ++ [s.time.lfc], rateCapped := false, stepBlocks := 0
      txIdle := false, rxIdle := false, replayCount := 0 }
    if 4 ≤ recent.length then portDown s p (some 2) else s

/-- LINK_RETRAIN. -/
def doLinkRetrain (s : State) (p : Nat) : State := if s.present p then startRetrain s p else s

/-- LINK_DOWN: DOWN is written (R372). -/
def doLinkDown (s : State) (p : Nat) : State :=
  if ! s.present p then s
  else
    let s := s.modPrt p fun x => { x with down := true }
    if (s.prt p).st = 5 then s else portDown s p none

/-- What lets a port train: listed present, not held down, its port die not fenced (R372). -/
def mayTrain (s : State) (p : Nat) : Bool :=
  let x := s.prt p
  s.present p && ! x.down && ! x.heldDown && ! x.heldEpo && ! s.isUnitFenced 2 (p / 16) && decide (2 ≤ s.flt.phase) &&
    decide (s.flt.phase ≤ 7)

/-- TRAINING_RESTART (R372), and the release of a port after reset (R456). -/
def doTrainingRestart (s : State) (p : Nat) : State :=
  let x := s.prt p
  if mayTrain s p ∧ (x.st = 5 ∨ x.st = 0) then s.modPrt p fun x => { startTraining x with tries := 0 } else s

/-! ## Training blocks (R367–R371) -/

/-- A training block's check passes, and it is of the row's kind (R367). -/
def blockOk (body : BitVec 56) (msg : Nat) : Bool :=
  let b := body.toNat
  crc8 (leBytes 6 (bits b 0 48)) == bits b 48 8 && bits b 0 4 == msg && bits b 44 4 == 0

/-- A training block acts on a port that is listed present, from a lane 0–3. -/
def trainBlock (s : State) (p lane : Nat) (body : BitVec 56) (msg : Nat) (f : Port → Nat → State) : State :=
  if s.present p ∧ lane < 4 ∧ blockOk body msg then f (s.prt p) body.toNat else s

/-- DETECT: step 2 begins when it has come on all four lanes, each naming itself (R357, R367). -/
def doDetect (s : State) (p lane : Nat) (body : BitVec 56) : State :=
  trainBlock s p lane body 0 fun x b =>
    if x.st ≠ 1 ∨ x.trainStep ≠ 1 ∨ bits b 4 2 ≠ lane then s
    else
      let d := x.detected ||| 2 ^ lane
      s.setPrt p { x with detected := d, peerPort := bits b 6 7, peerNode := bits b 13 9, peerRates := bits b 22 4
                          trainStep := if d = 15 then 2 else 1 }

/-- LOCK: step 3 begins when all four lanes are in block lock. -/
def doLock (s : State) (p lane : Nat) (body : BitVec 56) : State :=
  trainBlock s p lane body 1 fun x _ =>
    if (x.st ≠ 1 ∧ x.st ≠ 4) ∨ x.trainStep ≠ 2 then s
    else
      let d := x.laneLock ||| 2 ^ lane
      s.setPrt p { x with laneLock := d, trainStep := if d = 15 then 3 else 2 }

/-- Limits of a lane's pre and post by rate (R369). -/
def preMax (rate : Nat) : Nat := if rate ≤ 1 then 4 else 12
def postMax (rate : Nat) : Nat := if rate ≤ 1 then 10 else 20
def mainMin (rate : Nat) : Nat := if rate ≤ 1 then 34 else 16

/-- The taps of a preset (R369): pre and post, main being what remains of 48. -/
def presetTaps (k : Nat) : Nat × Nat :=
  if k = 2 then (0, 6) else if k = 3 then (2, 8) else if k = 4 then (4, 12) else if k = 5 then (6, 16) else (0, 0)

def mkTaps (pre post : Nat) : Taps := { pre := pre, main := 48 - pre - post, post := post }

/-- The taps with a magnitude moved as requested: 1 increases the tap, which is not positive, and 2 decreases it. A request
beyond a limit leaves the taps unchanged (R369). -/
def moveTaps (rate : Nat) (t : Taps) (which req : Nat) : Taps :=
  let pre := if which = 0 then (if req = 1 then t.pre - 1 else t.pre + 1) else t.pre
  let post := if which = 1 then (if req = 1 then t.post - 1 else t.post + 1) else t.post
  if req ≠ 1 ∧ req ≠ 2 then t
  else if preMax rate < pre ∨ postMax rate < post ∨ 48 < pre + post + mainMin rate then t
  else mkTaps pre post

/-- A request to change main is honoured by moving pre or post, which the manual leaves open. -/
def moveMain (rate : Nat) (t : Taps) (req free : Nat) : Taps :=
  let a := moveTaps rate t (free % 2) req
  if a = t then moveTaps rate t (1 - free % 2) req else a

/-- What ST reports of a request (R367, R369): not updated, updated, or at the minimum or maximum where the tap could not move. -/
def tapStatus (preset req before after : Nat) : Nat :=
  if preset ≠ 0 then 1 else if req = 0 then 0 else if before ≠ after then 1 else if req = 2 then 2 else 3

/-- EQ: the peer's requests move this lane's taps; step 4 begins when the receivers are done (R367, R369). A following side
of a rate step has switched by then, and a leading one switches with its STEP blocks (R368). Log: 109 DEDUCED. -/
def doEq (s : State) (p lane : Nat) (body : BitVec 56) : State :=
  trainBlock s p lane body 2 fun x b =>
    let eqing := (x.st = 1 ∨ x.st = 4) ∧ x.trainStep = 3
    let stepping := x.st = 3 ∧ (x.rate = x.target ∨ s.self < x.peerNode ∨ isEpPort s p)
    if ! (decide eqing || decide stepping) ∨ bits b 28 2 = 3 ∨ bits b 30 2 = 3 ∨ bits b 32 2 = 3 ∨ 5 < bits b 34 3 then s
    else
      let rate := if stepping then x.target else x.rate
      let t : Taps := AMap.get {} x.taps lane
      let k := bits b 34 3
      let preset := if 3 < k ∧ rate ≤ 1 then 0 else k
      let t := if preset = 0 then t else mkTaps (presetTaps k).1 (presetTaps k).2
      let t1 := moveTaps rate t 0 (bits b 28 2)
      let t2 := moveTaps rate t1 1 (bits b 32 2)
      let (v, s) := if bits b 30 2 = 0 then (0, s) else s.draw
      let t3 := if bits b 30 2 = 0 then t2 else moveMain rate t2 (bits b 30 2) v
      let st := tapStatus preset (bits b 28 2) t.pre t1.pre + 4 * tapStatus preset (bits b 30 2) t2.main t3.main +
        16 * tapStatus preset (bits b 32 2) t1.post t2.post
      let d := if bitAt b 43 then x.rxDone ||| 2 ^ lane else x.rxDone
      s.setPrt p { x with taps := AMap.set x.taps lane t3, eqSt := AMap.set x.eqSt lane st, rxDone := d, rate := rate
                          trainStep := if d = 15 then 4 else x.trainStep }

/-- The kinds of training block that a port sends on its lanes now, in order (R367, R368, R370, R373). A port in service sends RATE once
it is in its sets, and IDLE before it idles. -/
def sentKinds (s : State) (p : Nat) : List Nat :=
  let x := s.prt p
  if x.st = 1 then (if x.trainStep = 1 then [0] else if x.trainStep = 2 then [1] else if x.trainStep = 3 then [2] else [5])
  else if x.st = 2 then (if x.txIdle then [6] else if x.inSets then [3] else [])
  else if x.st = 3 then
    (if (s.self < x.peerNode ∨ isEpPort s p) ∧ x.rate ≠ x.target then [4] else if x.trainStep = 4 then [5] else [2])
  else if x.st = 4 then (if x.trainStep = 2 then [8, 1] else if x.trainStep = 3 then [2] else [5])
  else []

/-- A training block that a port sends on a lane (R367). What its receiver asks of the peer, and whether it is done, are the receiver's
(R371): free values. -/
def sentBlock (s : State) (p lane kind : Nat) : Nat :=
  let x := s.prt p
  let v := if kind = 2 then Config.free (s.fresh + lane) else 0
  let b := pack [(4, kind), (2, lane), (7, p), (9, s.self), (4, 2 ^ (min x.maxRate 3 + 1) - 1), (2, if kind = 4 then x.target else 0),
    (2, bits v 0 2 % 3), (2, bits v 2 2 % 3), (2, bits v 4 2 % 3), (3, bits v 6 3 % 6), (6, AMap.get 0 x.eqSt lane), (1, bits v 9 1), (4, 0)]
  b + 2 ^ 48 * crc8 (leBytes 6 b)

/-- RATE. -/
def doRate (s : State) (p lane : Nat) (body : BitVec 56) : State :=
  trainBlock s p lane body 3 fun x b => if x.st = 2 then s.setPrt p (beginStep { x with peerRates := bits b 22 4 }) else s

/-- STEP: the following side switches at the 64th block (R368). Log: 110 DEDUCED. -/
def doStep (s : State) (p lane : Nat) (body : BitVec 56) : State :=
  trainBlock s p lane body 4 fun x b =>
    let x := if x.st = 2 then beginStep { x with peerRates := x.peerRates ||| 2 ^ bits b 26 2 } else x
    if x.st ≠ 3 ∨ bits b 26 2 ≠ x.target then s.setPrt p x
    else
      let n := x.stepBlocks + (if lane = 0 then 1 else 0)
      s.setPrt p { x with stepBlocks := n, rate := if 64 ≤ n then x.target else x.rate }

/-- Resend every unacknowledged frame, oldest first and unchanged (R363). -/
def resend (x : Port) : Port := { x with tx := x.tx ++ x.replay }

/-- A port whose training, step or retraining ends is active again. After training from step 1 the frames start anew and the
credits are granted (R361, R365). -/
def portActive (s : State) (p : Nat) (x : Port) : State :=
  if x.st = 1 then
    let s := s.setPrt p { x with st := 2, expected := 0, txFrom := x.tx.length, txSeq := 1023, acked := 1023, replay := [], rx := [], replayCount := 0, nakDue := false
                                 nakSent := false, credits := [], owed := [], returns := initialReturns s p, tries := 0 }
    match s.manPort p with
    | some e =>
      if e.endPoint then
        if x.peerNode = e.node ∧ x.peerPort = e.port then acceptPort s p else quarantinePort s p x.peerNode x.peerPort
      else s.modPrt p fun x => { x with identSent := true }
    | none => s
  else
    let y := { x with st := 2, txFrom := x.tx.length, joinAt := if x.accepted then some (s.time.lfc + 1) else none }
    s.setPrt p (let y := if x.st = 4 then resend y else y
                if y.stepDue then beginStep y else y)

/-- READY: 16 of them end step 4 (R367, R368, R370). -/
def doReady (s : State) (p lane : Nat) (body : BitVec 56) : State :=
  trainBlock s p lane body 5 fun x _ =>
    if lane ≠ 0 ∨ (x.st ≠ 1 ∧ x.st ≠ 3 ∧ x.st ≠ 4) ∨ x.trainStep ≠ 4 then s
    else if x.readys + 1 < 16 then s.setPrt p { x with readys := x.readys + 1 }
    else portActive s p { x with readys := 0 }

/-- IDLE: the peer's transmitter is idle after 16 blocks (R373). -/
def doIdle (s : State) (p lane : Nat) (body : BitVec 56) : State :=
  trainBlock s p lane body 6 fun x _ =>
    if x.st ≠ 2 ∨ lane ≠ 0 then s
    else s.setPrt p { x with idleBlocks := if 16 ≤ x.idleBlocks + 1 then 0 else x.idleBlocks + 1, rxIdle := x.rxIdle || decide (16 ≤ x.idleBlocks + 1)
                             wakeBlocks := 0 }

/-- WAKE: frames resume after 64 blocks; an idle entry is cancelled (R373). -/
def doWake (s : State) (p lane : Nat) (body : BitVec 56) : State :=
  trainBlock s p lane body 7 fun x _ =>
    if x.st ≠ 2 ∨ lane ≠ 0 then s
    else
      let n := x.wakeBlocks + 1
      s.setPrt p { x with idleBlocks := 0, wakeBlocks := if 64 ≤ n then 0 else n, rxIdle := x.rxIdle && decide (n < 64) }

/-- RETRAIN: the peer retrains; a rate step is abandoned (R370, R374). -/
def doRetrain (s : State) (p lane : Nat) (body : BitVec 56) : State :=
  trainBlock s p lane body 8 fun _ _ => startRetrain s p

/-- TRAINING_TIMEOUT: step 2 or 3 is late; training starts again up to three times (R367). -/
def doTrainingTimeout (s : State) (p : Nat) : State :=
  let x := s.prt p
  if x.st ≠ 1 then s
  else if x.tries < 3 then s.setPrt p { startTraining x with tries := x.tries + 1 }
  else portDown s p (some 1)

/-- RATE_STEP_TIMEOUT: the port returns to the previous rate (R368). -/
def doRateStepTimeout (s : State) (p : Nat) : State :=
  let x := s.prt p
  if x.st ≠ 3 then s
  else s.setPrt p { x with st := 2, txFrom := x.tx.length, rate := x.prevRate, rateCapped := true, joinAt := if x.accepted then some (s.time.lfc + 1) else none }

/-- RETRAIN_TIMEOUT: a retraining not complete within 1 ms takes the port down (R370, R372). -/
def doRetrainTimeout (s : State) (p : Nat) : State := if (s.prt p).st = 4 then portDown s p (some 1) else s

/-- SIGNAL_LOSS on a lane (R370). -/
def doSignalLoss (s : State) (p lane : Nat) : State := if lane < 4 then startRetrain s p else s

/-- IDLE_ENTRY (R373); in package standby every port may idle (R435). -/
def doIdleEntry (s : State) (p : Nat) : State :=
  let x := s.prt p
  if x.st = 2 ∧ (x.idleEn ∨ s.power.standby) ∧ ! x.txIdle ∧ x.replay.isEmpty ∧ x.returns.all (·.2 == 0) ∧ ! s.fab.outq.any (·.port == p) then
    s.setPrt p { x with txIdle := true }
  else s

/-! ## Replay (R363, R364) -/

/-- Frames cross a port in service, and until a rate step's switch, when what was sent is acknowledged (R368). -/
def carriesFrames (x : Port) : Bool := x.st == 2 || (x.st == 3 && x.rate != x.target)

/-- A replay; the eighth in a row retrains the port (R364). -/
def replayPort (s : State) (p : Nat) : State :=
  let x := s.prt p
  if x.replay.isEmpty then s
  else
    let s := s.setPrt p { resend x with replays := satAdd 16 x.replays 1, replayCount := x.replayCount + 1 }
    if 8 ≤ x.replayCount + 1 then startRetrain s p else s

/-- REPLAY_TIMEOUT. -/
def doReplayTimeout (s : State) (p : Nat) : State := if carriesFrames (s.prt p) then replayPort s p else s

/-- Frames acknowledged: those in the replay buffer up to a sequence number, when it names one of them (R363). -/
def ackedCount (x : Port) (seq : Nat) : Nat :=
  match findIdx (fun f : Frame => f.seq == seq) x.replay with
  | some i => i + 1
  | none => 0

/-- An acknowledgement; a NAK replays, unless a later acknowledgement has superseded it (R363). -/
def applyAck (s : State) (p ack : Nat) (nak : Bool) : State :=
  let x := s.prt p
  let n := ackedCount x ack
  let current := decide (0 < n) || ack == x.acked
  let s := if n = 0 then s else s.setPrt p { x with replay := x.replay.drop n, acked := ack, replayCount := 0 }
  if nak ∧ current then replayPort s p else s

/-! ## Frames in (R358, R362) -/

/-- The packet at the front of a byte stream: its bytes and the rest, filler skipped; `none` until it is whole. -/
def nextPacket (port : Nat) : Nat → Bytes → Option (Packet × Bytes) × Bytes
  | 0, d => (none, d)
  | n + 1, d =>
    if d.length < 8 then (none, d)
    else if leNat (d.take 8) = 0 then nextPacket port n (d.drop 8)
    else if d.length < 32 then (none, d)
    else
      let h := leNat (d.take 32)
      let op := bits h 56 8
      let k := if op = opRD ∨ op = opRDV then 0 else bits h 92 12
      let total := (32 + k + 7) / 8 * 8
      if d.length < total then (none, d)
      else (some (parsePacket h (slice d 32 k) port, d.drop total), d)

/-- A packet received from a link. What travels beside the header between packages of this model is restored: a copy from
the partner is for this package. Log: 70 DEDUCED, 83 DESIGN CHOICE. -/
def fromLink (s : State) (p : Packet) : Packet :=
  if p.fwd ∧ p.term ∧ fromPartner s p then { p with holder := some s.self } else p

/-- The whole packets of a port's stream enter their input queue. A port that is not accepted carries no packets (R459); a package whose
straps disagree with the manifest takes none but management and discovery traffic, that is CTRL (R18). Log: 213 DEDUCED. -/
def takePackets (s : State) (port : Nat) : Nat → State
  | 0 => s
  | n + 1 =>
    match nextPacket port 64 (s.prt port).rx with
    | (none, d) => s.modPrt port fun x => { x with rx := d }
    | (some (p, rest), _) =>
      let rest' (s : State) : State := s.modPrt port fun x => { x with rx := rest }
      if ! (s.prt port).accepted ∨ (strapMismatch s ∧ p.opcode ≠ opCTRL) then takePackets (freeCells (rest' s) { port := port, vc := p.vc, pkt := p }) port n
      else match admitPacket s (fromLink s p) with
        | none => s
        | some (s, none) =>
          takePackets (freeCells (rest' s) { port := port, vc := p.vc, pkt := p }) port n
        | some (s, some q) =>
          takePackets ((rest' s).modFab fun f => { f with inbuf := f.inbuf ++ [{ port := port, vc := q.vc, pkt := q }] }) port n

/-- A credit return takes effect (R365). -/
def applyReturn (x : Port) (f : Frame) : Port :=
  if 6 < f.pool ∨ f.count = 0 then x
  else { x with credits := AMap.modify 0 x.credits f.pool (· + f.count)
                owed := AMap.modify 0 x.owed (f.pool * 64 + f.part) (· - f.count) }

/-- LINK_FRAME (R362). The port answers with a frame of its own: a NAK that is due, a credit return, or an acknowledgement.
Log: 108 DESIGN CHOICE. -/
def doLinkFrame (s : State) (port : Nat) (f : Frame) : State :=
  let x := s.prt port
  if ! s.present port ∨ ! carriesFrames x ∨ f.payload.length ≠ 256 then s
  else
    -- the two lower rates have no FEC (R355)
    let fecBad := f.fecBad && decide (2 ≤ x.rate)
    let bad := fecBad || f.crc != frameCrc f
    let s :=
      if bad then s.setPrt port { x with crcErr := satAdd 16 x.crcErr 1, nakDue := ! x.nakSent
                                         fecUncorr := satAdd 15 x.fecUncorr (b2n fecBad) }
      else if f.seq = x.expected then
        let x := { x with expected := (x.expected + 1) % 1024, nakSent := false, nakDue := false, rx := x.rx ++ f.payload }
        let s := s.setPrt port (if f.side then applyReturn x f else x)
        let s := if f.side then s else applyAck s port f.ackSeq f.nak
        takePackets s port 300
      else if (f.seq + 1) % 1024 = x.expected then (if f.side then s else applyAck s port f.ackSeq f.nak)
      else s.setPrt port { x with nakDue := ! x.nakSent }
    let y := s.prt port
    if carriesFrames y then s.setPrt port (sendFrame { y with txIdle := false } (List.replicate 256 0) false) else s

/-! ## Link commands (R376) -/

/-- LINK_SET. -/
def linkSet (s : State) (m : Master) (ports : BitVec 128) (value : BitVec 32) : State :=
  serve s m 0x0390 fun s =>
    let v := value.toNat
    let ps := maskPorts ports.toNat
    if bits v 13 19 ≠ 0 ∨ bits v 3 8 = 0 ∨ ps.any (! s.present ·) then respond s m 0x0390 REFUSED
    else
      let s := ps.foldl (fun s p =>
        let s := s.modPrt p fun x => { x with maxRate := bits v 0 2, idleEn := bitAt v 2, idleUs := bits v 3 8, down := bitAt v 12 }
        let s := if bitAt v 12 ∧ (s.prt p).st ≠ 5 then portDown s p none else s
        if bitAt v 11 then startRetrain s p else s) s
      respond s m 0x0390 OK

/-- LINK_GET. Log: 113 DEDUCED. -/
def linkGet (s : State) (m : Master) (first count : Nat) : State :=
  serve s m 0x0391 fun s =>
    if count < 1 ∨ 100 < count ∨ 128 < first + count ∨ (range' first count).any (! s.present ·) then respond s m 0x0391 REFUSED
    else respond s m 0x0391 OK ((4, count) :: (range' first count).flatMap fun p =>
      [(4, regLinkStatus s p), (8, regLinkEq s p), (8, regLinkErr s p)])

/-- LINK_ERR_CLR (R375). -/
def doLinkErrClr (s : State) (p : Nat) : State :=
  if 128 ≤ p then s
  else s.modPrt p fun x => { x with crcErr := 0, replays := 0, retrains := 0, downs := 0, fecUncorr := 0 }

end Sys2Proof.Machine
end

