-- ==== Sys2Proof/Machine/Translation.lean ====
section
/-! DEFINITION. Contexts, segments and bindings (R37–R45), and host translation (R46–R62). -/
namespace Sys2Proof.Machine

/-! ## Contexts, segments, bindings (R37–R45) -/

/-- A loaded list, an outstanding DMA or a binding uses the context (R44). -/
def ctxInUse (s : State) (c : Nat) : Bool :=
  let owned (o : Owner) : Bool := match o with | .cmd _ _ _ _ => true | _ => false
  (s.groups.any fun g => g.2.lists.any fun l => l.ctx == c) ||
  (s.fab.tracks.any fun t => t.ctx == c && owned t.owner) || (s.xlat.accs.any fun a => a.ctx == c && owned a.owner) ||
  s.xlat.binds.any fun b => b.2 == c

/-- CTX_SET (R37, R44). The partition of a context that does not exist yet is not asked for. Log: 121 DEDUCED. -/
def ctxSet (s : State) (m : Master) (c : Nat) (d : BitVec 64) : State :=
  serve s m 0x0210 fun s =>
    let w := d.toNat
    let old := s.ctx c
    let new : Ctx := { old with valid := bitAt w 0, part := bits w 1 6, pasidEn := bitAt w 7, pasid := bits w 8 20,
                                hostwin := bitAt w 28 }
    if 4096 ≤ c then respond s m 0x0210 REFUSED
    else if ! mayManage s m new.part ∨ (old.valid ∧ ! mayManage s m old.part) then respond s m 0x0210 DENIED
    else if bits w 29 35 ≠ 0 ∨ (new.valid ∧ ! s.flt.parts.contains new.part) then respond s m 0x0210 REFUSED
    else if ctxInUse s c ∧ (new.part ≠ old.part ∨ new.pasid ≠ old.pasid ∨ (old.valid ∧ ! new.valid)) then respond s m 0x0210 BUSY
    else respond (s.setCtx c new) m 0x0210 OK

/-- CTX_CLEAR (R44). Log: 123 DEDUCED. -/
def ctxClear (s : State) (m : Master) (c : Nat) : State :=
  serve s m 0x0211 fun s =>
    if 4096 ≤ c then respond s m 0x0211 REFUSED
    else if ! mayManage s m (s.ctx c).part then respond s m 0x0211 DENIED
    else if ctxInUse s c then respond s m 0x0211 BUSY
    else respond (s.setCtx c { refusals := (s.ctx c).refusals, recordAt := (s.ctx c).recordAt }) m 0x0211 OK

/-- A segment descriptor (R39). -/
def segOf (w : Nat) : Seg :=
  { valid := bitAt w 0, rd := bitAt w 1, wr := bitAt w 2, at' := bitAt w 3, ct := bitAt w 4, tray := bits w 8 5,
    part := bits w 16 6, base := bits w 64 30, limit := bits w 96 30 }

/-- Reserved bits of a segment descriptor. -/
def segRsvd (w : Nat) : Bool := bits w 5 3 != 0 || bits w 13 3 != 0 || bits w 22 42 != 0 || bits w 94 2 != 0 || bits w 126 2 != 0

/-- R40: the bounds, the tray, and the other valid segments of the context. -/
def segOk (s : State) (c slot : Nat) (g : Seg) : Bool :=
  decide (g.base ≤ g.limit) && g.tray != s.tray &&
  (s.ctx c).segs.all fun x => x.1 == slot || ! x.2.valid || x.2.tray != g.tray ||
    decide (g.limit < x.2.base) || decide (x.2.limit < g.base)

/-- SEG_SET (R39, R40, R44). Log: 122 DEDUCED. -/
def segSet (s : State) (m : Master) (c slot : Nat) (d : BitVec 128) : State :=
  serve s m 0x0212 fun s =>
    let x := s.ctx c
    let g := segOf d.toNat
    if 4096 ≤ c ∨ 8 ≤ slot then respond s m 0x0212 REFUSED
    else if ! mayManage s m x.part ∨ ! mayManage s m g.part then respond s m 0x0212 DENIED
    else if segRsvd d.toNat ∨ ! x.valid ∨ ! segOk s c slot g then respond s m 0x0212 REFUSED
    else respond (s.setCtx c { x with segs := AMap.set x.segs slot g }) m 0x0212 OK

/-- SEG_CLEAR (R44). -/
def segClear (s : State) (m : Master) (c slot : Nat) : State :=
  serve s m 0x0213 fun s =>
    let x := s.ctx c
    if 4096 ≤ c ∨ 8 ≤ slot then respond s m 0x0213 REFUSED
    else if ! mayManage s m x.part then respond s m 0x0213 DENIED
    else respond (s.setCtx c { x with segs := AMap.erase x.segs slot }) m 0x0213 OK

/-- BIND_SET (R38, R44). -/
def bindSet (s : State) (m : Master) (node part c : Nat) : State :=
  serve s m 0x0214 fun s =>
    let x := s.ctx c
    if 16 ≤ node ∨ 64 ≤ part ∨ 4096 ≤ c then respond s m 0x0214 REFUSED
    else if ! mayManage s m x.part then respond s m 0x0214 DENIED
    else if ! s.man.endPoints.contains (s.tray * 16 + node) ∨ ! x.valid ∨ x.part ≠ part then respond s m 0x0214 REFUSED
    else respond (s.modXlat fun t => { t with binds := AMap.set t.binds (node * 64 + part) c }) m 0x0214 OK

/-- BIND_CLEAR (R44). -/
def bindClear (s : State) (m : Master) (node part : Nat) : State :=
  serve s m 0x0215 fun s =>
    if 16 ≤ node ∨ 64 ≤ part then respond s m 0x0215 REFUSED
    else if ! mayManage s m part then respond s m 0x0215 DENIED
    else respond (s.modXlat fun t => { t with binds := AMap.erase t.binds (node * 64 + part) }) m 0x0215 OK

/-- CTX_GET (R44). -/
def ctxGet (s : State) (m : Master) (c : Nat) : State :=
  serve s m 0x0216 fun s =>
    let x := s.ctx c
    if 4096 ≤ c then respond s m 0x0216 REFUSED
    else if ! mayManage s m x.part then respond s m 0x0216 DENIED
    else respond s m 0x0216 OK ((8, regCtx x) :: ((List.range 8).flatMap fun i =>
        let w := regSeg (AMap.get {} x.segs i)
        [(8, w % 2 ^ 64), (8, w / 2 ^ 64)]) ++ [(8, x.refusals)])

/-! ## Invalidation (R51–R54) -/

/-- The PASID that an Invalidation Request names; one outside 20 bits stands for a request without PASID.
Log: 119 DEDUCED. -/
def invPasid (p : Nat) : Option Nat := if p < 2 ^ 20 then some p else none

/-- An access uses a page of an invalidated range. -/
def accMeets (pasid : Option Nat) (base size : Nat) (a : HostAcc) : Bool :=
  a.pasid == pasid && ! a.untranslated && decide (a.addr < base + size) && decide (base < a.addr + max 1 a.len)

/-- An access once its translation is dropped: one that waits for a translation or has gone to the host becomes stale, one that has
not gone yet asks for a translation again (R49, R51). -/
def dropAcc (l : List HostAcc) (a : HostAcc) : HostAcc :=
  if a.st = 0 ∨ accGoes l a then { a with stale := true } else if a.st = 1 then { a with st := 0 } else a

/-- Drop the translations of a range from the cache and from the 64 copies of it, mark what is outstanding under them stale, and
discard what DMA transfers staged under them (R49, R51, R54). Log: 222 DESIGN CHOICE. -/
def dropTranslations (s : State) (pasid : Option Nat) (base size : Nat) : State :=
  let keep (e : AtcEntry) : Bool := ! (e.pasid == pasid && decide (e.base < base + size) && decide (base < e.base + e.size))
  let s := s.modXlat fun t => { t with
    atc := t.atc.filter keep
    copies := AMap.mapVals (fun _ l => l.filter keep) t.copies
    accs := t.accs.map fun a => if accMeets pasid base size a then dropAcc t.accs a else a }
  let lo := s.base + 0x400000000000 + base
  let hit (l : CmdList) (p : Nat × Nat) : Bool :=
    let x := s.ctx l.ctx
    (if x.pasidEn then some x.pasid else none) == pasid && decide (p.1 < lo + size) && decide (lo < p.1 + p.2) &&
      ! s.xlat.accs.any fun a => a.names == p.1
  { s with groups := AMap.mapVals (fun _ x => { x with queues := AMap.mapVals (fun _ q =>
      match x.list? q.list with
      | none => q
      | some l => { q with started := q.started.map fun r =>
          if r.opcode = 0x22 ∧ r.st = 0 then { r with reqd := r.reqd.filter fun p => ! hit l p } else r }) x.queues }) s.groups }

/-- Accesses made under dropped translations have all ended (R51). Log: 120 DEDUCED. -/
def invQuiet (s : State) (pasid : Option Nat) (base size : Nat) : Bool :=
  ! s.xlat.accs.any fun a => a.stale && a.st == 1 && accMeets pasid base size a

/-- Answer an XLAT_FLUSH whose accesses have all ended (R53). -/
def flushDone (s : State) : State :=
  match s.xlat.flush with
  | some (p, m) =>
    if invQuiet s (some p) 0 (2 ^ 64) then respond (s.modXlat fun t => { t with flush := none }) m 0x0217 OK else s
  | none => s

/-- XLAT_FLUSH (R53): the translations tagged with the PASID of the context's descriptor are dropped, as by an invalidation; the answer
waits for the accesses made under them. So also for a context whose PASID_EN is 0: the translations without PASID that its accesses
made stay. Log: 239 DESIGN CHOICE. -/
def xlatFlush (s : State) (m : Master) (c : Nat) : State :=
  serve s m 0x0217 fun s =>
    let x := s.ctx c
    if s.xlat.flush.isSome then s
    else if 4096 ≤ c then respond s m 0x0217 REFUSED
    else if ! mayManage s m x.part then respond s m 0x0217 DENIED
    else flushDone ((dropTranslations s (some x.pasid) 0 (2 ^ 64)).modXlat fun t => { t with flush := some (x.pasid, m) })

/-- ATS_INVALIDATION_REQUEST: at most 32 are in progress (R46). -/
def doInvalidate (s : State) (tag pasid base size : Nat) : State :=
  if s.host.wedged ∨ 32 ≤ s.xlat.invals.length ∨ s.xlat.invals.any (fun v => v.tag == tag) then s
  else (dropTranslations s (invPasid pasid) base size).modXlat fun t => { t with
    invals := t.invals ++ [{ tag := tag, pasid := pasid, base := base, size := size }] }

/-- INVALIDATION_COMPLETE: every access made under the dropped entries has ended (R51). -/
def doInvComplete (s : State) (tag : Nat) : State :=
  match s.xlat.invals.find? fun v => v.tag == tag with
  | some v =>
    if s.host.wedged ∨ ! invQuiet s (invPasid v.pasid) v.base v.size then s
    else s.modXlat fun t => { t with invals := t.invals.filter fun v => v.tag != tag }
  | none => s

/-! ## Translation (R48, R49, R56, R57) -/

/-- The command that an access serves is a DMA_ND at work, which alone may fault (R55). -/
def ndOwner (s : State) (o : Owner) : Bool :=
  match o with
  | .cmd g e q i => let r := theRun s g e q i
                    r.opcode == 0x22 && r.st == 0 && r.phase != 9
  | _ => false

/-- Take an access away: the fences that waited for it complete (R276), and what its engine held back behind it goes (R262). -/
def endAcc (s : State) (a : HostAcc) : State :=
  hostSend (closeAcc (s.modXlat fun t => { t with accs := t.accs.filter fun x => x.id != a.id }) a.id)

/-- An access of a served request ends: the request is answered once all of its accesses have (R47, R79). -/
def replyPart (s : State) (a : HostAcc) (req : Packet) (d : Bytes) : State :=
  let s := s.modXlat fun t => { t with accs := t.accs.map fun x => if x.id = a.id then { x with st := 2, data := d } else x }
  let all := s.xlat.accs.filter fun x => x.owner == a.owner
  if all.any fun x => x.st != 2 then s
  else
    let data := all.flatMap (·.data)
    let ok := all.all fun x => x.write || x.data.length == x.len
    answerFor (all.foldl endAcc s) req (if ok then OK else DENIED) (if ok then data else [])

/-- The bytes of a host access, or its failure, reach whoever waits for them. -/
def accEnds (s : State) (a : HostAcc) (status : Nat) (d : Bytes) : State :=
  collSettle (match a.owner, a.write with
    | .reply req, false => replyPart s a req d
    | o, w => ownerDone (endAcc s a) o (! w) a.names a.len status d [])

/-- The access of a DMA_ND reads part of a tile after the earliest undelivered one (R60). -/
def laterTile (s : State) (a : HostAcc) : Bool :=
  match a.owner with
  | .cmd g _ q i =>
    ! a.write && a.len != 0 &&
    (match queueList (s.grp g) 3 q with
     | some l => ! (tilePieces s (ndOf (cmdAt l i)) (theRun s g 3 q i).tiles).any fun p => p.1 == a.names
     | none => false)
  | _ => false

/-- A DMA_ND's access finds no usable translation. A fetch of a later tile is dropped (R60); else the transfer stops at the page, which
its page request will name (R57), and a write waits for the response. -/
def ndMiss (s : State) (a : HostAcc) : State :=
  let page := a.names - a.names % 4096
  let drop (r : Running) : Running :=
    { r with outstanding := r.outstanding - 1, reqd := r.reqd.filter fun p => p.1 != a.names }
  let stop (r : Running) : Running := { r with
    missing := (r.missing ++ [(page, a.write)]).eraseDups
    probes := (page * 2 + b2n a.write) :: r.probes
    fault := if r.faulting then r.fault else page
    faulting := true }
  if laterTile s a then modOwner (endAcc s a) a.owner fun r => { drop r with ahead := false }
  else if a.write ∧ a.len ≠ 0 then
    modOwner (s.modXlat fun t => { t with accs := t.accs.map fun x => if x.id = a.id then { x with st := 3 } else x }) a.owner stop
  else modOwner (endAcc s a) a.owner fun r => stop (drop r)

/-- An access finds no usable translation: a DMA_ND faults; any other access ends with DENIED and a record (R56, R57).
Log: 51 DESIGN CHOICE, 96 DEDUCED. -/
def xlatFault (s : State) (a : HostAcc) : State :=
  if ndOwner s a.owner then ndMiss s a
  else
    let s := match a.owner with
      | .cmd g e q i => raise s { die := 12 + g / 8, cls := 0x0D, inst := a.ctx, cause := 2, status := DENIED, addr := a.names,
                                  ctx := a.ctx, part := (s.ctx a.ctx).part, detail := (theRun s g e q i).opcode }
      | _ => s
    accEnds s a DENIED []

/-- A completion's range: a power of two of at least 4 KiB, aligned, around the access. -/
def xlatCovers (a : HostAcc) (base size : Nat) : Bool :=
  decide (4096 ≤ size) && size == 2 ^ log2 size && base % size == 0 && decide (base ≤ a.addr) &&
    decide (a.addr + max 1 a.len ≤ base + size)

/-- Enter a translation, most recently used first; ranges beyond 1 GiB are not cached (R46, R48). Of each of the
1,024 sets the 8 entries used last stay (log entry 12). Log: 118 DEDUCED. -/
def fillAtc (s : State) (e : AtcEntry) : State :=
  if 2 ^ 30 < e.size then s
  else s.modXlat fun t => { t with
    atc := keepWays (fun x => Config.atcSet x.pasid x.base % 1024) 8
      (e :: t.atc.filter fun x => ! (x.pasid == e.pasid && decide (x.base < e.base + e.size) && decide (e.base < x.base + x.size))) }

/-- TRANSLATION_COMPLETION for the access at an index. -/
def doTranslation (s : State) (i : Nat) (r w : Bool) (base size taddr : Nat) : State :=
  match s.xlat.accs[i]? with
  | none => s
  | some a =>
    if s.host.wedged ∨ a.st ≠ 0 then s
    else if a.stale then
      s.modXlat fun t => { t with accs := t.accs.mapIdx fun j x => if j = i then { x with stale := false } else x }
    else if (r || w) && ! xlatCovers a base size then s
    else
      let s := if r || w then fillAtc s { pasid := a.pasid, base := base, size := size, taddr := taddr, r := r, w := w } else s
      if (if a.write then w else r) then
        -- the engine's copy of the cache is filled from it (R48)
        let s := (atcUse s a.owner a.pasid a.addr a.write).1
        hostSend (s.modXlat fun t => { t with accs := t.accs.mapIdx fun j x => if j = i then { x with st := 1 } else x })
      else xlatFault s a

/-- HOST_READ_COMPLETION of a read that has been sent: data, or an Unsupported Request or Completer Abort, which ends the access with
DENIED (R49). What a DMA_ND fetched under a translation invalidated meanwhile is discarded (R54). -/
def doHostRead (s : State) (i : Nat) (ok : Bool) (d : Bytes) : State :=
  match s.xlat.accs[i]? with
  | none => s
  | some a =>
    if s.host.wedged ∨ ! accGoes s.xlat.accs a ∨ a.write ∨ (ok ∧ d.length ≠ a.len) then s
    else if ok ∧ a.stale ∧ ndOwner s a.owner then
      flushDone <| modOwner (endAcc s a) a.owner fun r => { r with
        outstanding := r.outstanding - 1, reqd := r.reqd.filter fun p => p.1 != a.names }
    else flushDone (accEnds s a (if ok then OK else DENIED) (if ok then d else []))

/-- PRI_STOPPED_CLEAR (R50). -/
def priClear (s : State) : State := if s.host.wedged then s else s.modXlat fun t => { t with priStopped := false }

/-! ## Configuration requests (R46, R49, R385, R456) -/

/-- With ATS disabled the cache is empty and what waits for a translation goes out untranslated (R49).
Log: 117 PRESUMED. -/
def atsSwitch (s : State) (on : Bool) : State :=
  if on then s.modXlat fun t => { t with atsOn := true }
  else hostSend (s.modXlat fun t => { t with
    atsOn := false, atc := [], copies := []
    accs := t.accs.map fun a => if a.st = 0 then { a with st := 1, untranslated := true, stale := false } else a })

/-- Send the interrupts that were pending on vectors no longer masked (R385). -/
def sendPending (s : State) (vs : List Nat) : State :=
  vs.foldl (fun s v =>
    let e : Msix := AMap.get {} s.host.msix v
    if e.pendingBit ∧ ! e.masked ∧ ! s.host.functionMask then
      s.modHost fun h => { h with msix := AMap.set h.msix v { e with pendingBit := false }, irqs := h.irqs ++ [v] }
    else s) s

/-- CONFIG_REQUEST: Retry Status until Ibfen runs; a wedged function answers nothing. -/
def doConfig (s : State) (op : ConfigOp) : State :=
  if s.host.wedged then s
  else if s.flt.phase < 2 then s.modHost fun h => { h with retryStatus := true }
  else
    let s := s.modHost fun h => { h with retryStatus := false }
    match op with
    | .read => s
    | .atsEnable on => atsSwitch s on
    | .priEnable on => s.modXlat fun t => { t with priEn := on }
    | .functionMask on =>
      let s := s.modHost fun h => { h with functionMask := on }
      sendPending s (s.host.msix.map (·.1))

end Sys2Proof.Machine
end

