-- ==== Sys2Proof/Machine/Host.lean ====
section
/-! DEFINITION. The host interface: BAR2 (R382, R383), doorbells (R384), interrupts (R385, R400), shared queues (R394–R399),
BAR0 writes (R379, R386), Sluice (R402–R407), the function's link and wedging (R381, R408), and the chapter's mailbox commands
(R393). -/
namespace Sys2Proof.Machine

/-- The function answers the host's memory requests: Ibfen runs or has run, and the function is not wedged (R389, R408, R456). -/
def hostUp (s : State) : Bool := ! s.host.wedged && decide (2 ≤ s.flt.phase) && s.flt.phase != 8

/-- The unit number of the host die in packets (R291). -/
def portHx : Nat := 36

/-! ## BAR2 (R382, R383) -/

/-- BAR2 is served for PARTITION of BAR2_MAP (R18, R383, R402, R433). Log: 125 DEDUCED. -/
def bar2Served (s : State) : Bool :=
  s.host.mapEn && s.host.hostParts.testBit s.host.mapPart && ! s.host.conf && ! s.power.epo && ! strapMismatch s

/-- A BAR2 request as PCI Express allows it: within the BAR, at most 512 bytes, within a 4 KiB block (R377). -/
def bar2Shape (offset len : Nat) : Bool :=
  decide (0 < len) && decide (len ≤ 512) && decide (offset + len ≤ 0x1000000000) && offset / 4096 == (offset + len - 1) / 4096

/-- The node offset that a BAR2 offset addresses. -/
def bar2Off (s : State) (offset : Nat) : Nat := s.host.mapWin * 0x1000000000 + offset

/-- A refused BAR2 access is recorded in HX and has no context (R43, R444). Log: 126 DEDUCED. -/
def bar2Refuse (s : State) (off op : Nat) : State := noteRefusal s 19 none (s.base + off) s.host.mapPart op

def hostAnswer (s : State) (a : Answer) : State := s.modHost fun h => { h with answer := a }

/-- Read at most 512 bytes of this node's pool that lie elsewhere, for an owner at the host die (R47). -/
def hostFetch (s : State) (off len part : Nat) (o : Owner) : State :=
  let a := s.base + off
  match placeOf s a with
  | .host v => (hostAccess s noCtx v len false [] o true a).getD (ownerDone s o true a len DENIED [] [])
  | _ => issue s { addr := heldAddr s s.self off, opcode := opRD, port := portHx, part := part, len := len, chk := true,
                   holder := some (ordLoc s s.self off).holder, names := some a } noCtx o none

/-- Write a range of this node's pool for the host die: accepted here with its mirror, held for a copying tile, or sent to where the
tile lies (R86, R100). -/
def hostStore (s : State) (off part : Nat) (d : Bytes) (o : Owner) : State :=
  let a := s.base + off
  if tileCopying s s.self off then acceptWrite s s.self off .package d part false
  else match placeOf s a with
  | .here node off =>
    let m := mirrored s node off
    let s := acceptWrite s node off .package d part false
    if m then mirrorWrite s node off d part o none else s
  | .host v => (hostAccess s noCtx v d.length true d o true a).elim s hostSend
  | .away =>
    (chunkPackets { opcode := opWR, port := portHx, part := part, holder := some (ordLoc s s.self off).holder }
      (heldAddr s s.self off) d).foldl
      (fun s p => issue s { p with names := some (a + (p.addr - heldAddr s s.self off)) } noCtx o none) s

/-- A BAR2 access that its hub die cannot serve yet stays there as a request of the host die's (R86, R449, R450). -/
def bar2Hold (s : State) (off len part : Nat) (d : Bytes) : State :=
  let p : Packet := { addr := s.base + off, opcode := if d.isEmpty then opRD else opWR, port := portHx, part := part, len := len
                      inPort := 0x7F, payload := d }
  holdIssue (countRange s 32 (s.base + off) len) p noCtx .bar2

/-- BAR2_READ. A held access is answered when it is served, as is one of a tile that lies elsewhere. -/
def doBar2Read (s : State) (offset len : Nat) : State :=
  if s.host.wedged then hostAnswer s .noCompletion
  else if ! hostUp s ∨ ! bar2Shape offset len then s
  else
    let s := leaveStandby s
    let off := bar2Off s offset
    let part := s.host.mapPart
    if ! bar2Served s then hostAnswer s .unsupportedRequest
    else match accCheck s s.self off len part false with
    | none => bar2Hold (hostAnswer s .none) off len part []
    | some 0 =>
      let s := countRange s 32 (s.base + off) len
      (match placeOf s (s.base + off) with
       | .here node off =>
         let key := keyOf s node off
         let s := meetErrors (drainTarget s (targetOf s node off)) key len
         hostAnswer s (if (badAtoms s key len part).isEmpty then .data (readMem s key len part) else .poisoned)
       | _ => hostFetch (hostAnswer s .none) off len part .bar2)
    | some 5 => hostAnswer s .poisoned
    | some 7 => hostAnswer (bar2Refuse s off opRD) .completerAbort
    | some _ => hostAnswer s .completerAbort

/-- BAR2_WRITE. -/
def doBar2Write (s : State) (offset : Nat) (d : Bytes) : State :=
  if ! hostUp s ∨ ! bar2Shape offset d.length then s
  else
    let s := leaveStandby s
    let off := bar2Off s offset
    if ! bar2Served s then s.modHost fun h => { h with bar2Drops := h.bar2Drops + 1 }
    else match accCheck s s.self off d.length s.host.mapPart true with
    | some 0 => hostStore (countRange s 32 (s.base + off) d.length) off s.host.mapPart d .bar2
    | some 7 => bar2Refuse s off opWR
    | some _ => s
    | none => bar2Hold s off d.length s.host.mapPart d

/-! ## Doorbells (R384) -/

/-- A BAR2 write sent before has not been accepted yet. -/
def bar2Pending (s : State) : Bool :=
  (s.fab.tracks.any fun t => t.owner == .bar2 && t.pkt.opcode == opWR) || s.xlat.accs.any fun a => a.owner == .bar2 && a.write

/-- LIST_DB (R384). -/
def doListDb (s : State) (g : Nat) (v : Nat) : State :=
  if ! hostUp s ∨ 32 ≤ g ∨ bar2Pending s then s else tryLoad (leaveStandby s) g hostLoader v

/-! ## MSI-X (R385) -/

/-- Set or clear a vector's mask. -/
def msixMask (s : State) (v : Nat) (on : Bool) : State :=
  sendPending (s.modHost fun h => { h with msix := AMap.modify {} h.msix v fun e => { e with masked := on } }) [v]

/-- MSIX_UNMASK. -/
def doUnmask (s : State) (v : Nat) : State := if ! hostUp s ∨ 2048 ≤ v then s else msixMask s v false

/-- A write to a 4-byte part of the MSI-X table. -/
def msixWrite (s : State) (off v : Nat) : State :=
  let i := off / 16
  let f (k : Msix → Msix) : State := s.modHost fun h => { h with msix := AMap.modify {} h.msix i k }
  if off % 16 = 0 then f fun e => { e with addr := e.addr / 2 ^ 32 * 2 ^ 32 + v }
  else if off % 16 = 4 then f fun e => { e with addr := e.addr % 2 ^ 32 + v * 2 ^ 32 }
  else if off % 16 = 8 then f fun e => { e with data := v }
  else if 1 < v then s else msixMask s i (v == 1)

/-! ## Shared queues (R394–R400) -/

/-- POP_READ. `misdirected`: the pop follows a link to a cell that another queue owns (R399). Log: 129 DEDUCED. -/
def doPop (s : State) (q : Nat) (whole misdirected : Bool) : State :=
  if s.host.wedged then hostAnswer s .noCompletion
  else if ! hostUp s ∨ 512 ≤ q then s
  else if ! whole then hostAnswer s (.data (List.replicate 64 0))
  else
    let x := s.squeue q
    let under (s : State) : State :=
      let x := s.squeue q
      hostAnswer (s.setSqueue q { x with underrun := true }) (.data (leBytes 64 x.lastPop))
    if x.stuck then under s
    else match x.entries with
    | [] => under s
    | e :: es =>
      if misdirected then
        under (raise (s.setSqueue q { x with broken := true, entries := [], lostCells := x.lostCells + x.entries.length })
          { die := 19, cls := 0x0F, inst := q, cause := 1 })
      else hostAnswer (s.setSqueue q { x with entries := es, lastPop := e, heldItr := x.heldItr && ! es.isEmpty }) (.data (leBytes 64 e))

/-- Write QCFG[q] (R395, R400). Log: 131 DEDUCED. -/
def setQcfg (s : State) (q v : Nat) : State :=
  let old := s.qcfg q
  let x := s.squeue q
  let ty := bits v 1 2
  if bits v 57 7 ≠ 0 ∨ ty = 3 ∨ bits v 31 16 = 0 then s
  else
    let en := bitAt v 0
    let new : QCfg := { en := en, ty := if old.en || en then old.ty else ty, quota := bits v 3 16, vec := bits v 19 11,
                        irqEn := bitAt v 30, thresh := bits v 31 16, itr := bits v 47 10 }
    let x := if old.en ∧ ! en then { x with entries := [], waiting := false, heldItr := false }
             else if en ∧ ! old.en then { x with lastPop := 0 } else x
    let s := (s.modHost fun h => { h with qcfg := AMap.set h.qcfg q new }).setSqueue q x
    if new.irqEn ∧ ! old.irqEn then checkIrq s q else s

def doQcfg (s : State) (q v : Nat) : State := if ! hostUp s ∨ 512 ≤ q then s else setQcfg s q v

/-- Re-arm a queue (R400). -/
def armQueue (s : State) (q : Nat) : State := checkIrq (s.setSqueue q { s.squeue q with armed := true }) q
def doArm (s : State) (q : Nat) : State := if ! hostUp s ∨ 512 ≤ q then s else armQueue s q

/-- Discard every entry and return the cells, the lost ones too (R396, R399). Log: 130 DEDUCED. -/
def resetQueue (s : State) (q : Nat) : State :=
  s.setSqueue q { s.squeue q with entries := [], lostCells := 0, waiting := false, heldItr := false }
def doQreset (s : State) (q : Nat) : State := if ! hostUp s ∨ 512 ≤ q then s else resetQueue s q

/-- Clear the flags written as 1 (R396). -/
def clearFlags (s : State) (q : Nat) (u o b : Bool) : State :=
  let x := s.squeue q
  s.setSqueue q { x with underrun := x.underrun && ! u, overflow := x.overflow && ! o, broken := x.broken && ! b }
def doFlags (s : State) (q : Nat) (u o b : Bool) : State := if ! hostUp s ∨ 512 ≤ q then s else clearFlags s q u o b

/-- A write of QSTATUS[q]: flags, ARM and QRESET (R396). -/
def writeQstatus (s : State) (q v : Nat) : State :=
  if bitAt v 23 ∨ bits v 56 8 ≠ 0 then s else
  let s := clearFlags s q (bitAt v 18) (bitAt v 19) (bitAt v 20)
  let s := if bitAt v 22 then resetQueue s q else s
  if bitAt v 21 then armQueue s q else s

/-- INTERRUPT_MODERATION_EXPIRY (R400). -/
def doModeration (s : State) (q : Nat) : State :=
  let x := s.squeue q
  if s.host.wedged ∨ ! x.waiting then s
  else checkIrq (s.setSqueue q { x with waiting := false, heldItr := x.heldItr || ! x.entries.isEmpty }) q

/-! ## Sluice (R402–R407) -/

def modSluice (s : State) (f : Sluice → Sluice) : State := s.modHost fun h => { h with sluice := f h.sluice }

/-- A descriptor is in flight: one was made available and has not completed. -/
def sluiceBusy (x : Sluice) : Bool := x.head != x.tail

/-- The key generation a descriptor is served under: the one it was fetched under (R403). -/
def sluiceGen (x : Sluice) : Nat := if x.flight.isSome then x.flightGen else x.gen

/-- SLUICE_DB (R404). -/
def doSluiceDb (s : State) (v : Nat) : State :=
  if ! hostUp s ∨ 2 ^ s.host.sluice.sizeLog2 ≤ v then s else modSluice s fun x => { x with tail := v }

/-- SLUICE_RING_WRITE (R404). -/
def doSluiceRing (s : State) (v : Nat) : State :=
  let n := bits v 0 4
  if ! hostUp s ∨ sluiceBusy s.host.sluice ∨ n < 6 ∨ 12 < n ∨ bits v 4 8 ≠ 0 then s
  else modSluice s fun x => { x with sizeLog2 := n, base := v / 2 ^ 12, head := x.head % 2 ^ n, tail := x.tail % 2 ^ n }

/-- The fields of a Sluice descriptor (R405). -/
structure SluiceDesc where
  dir : Bool := false
  len : Nat := 0
  host : Nat := 0
  dev : Nat := 0
  tags : Nat := 0
  ctr : Nat := 0
  part : Nat := 0
  cookie : Nat := 0
  cq : Nat := 0
  rsvd : Bool := false
deriving DecidableEq, Repr, Inhabited

def sluiceDesc (w : Nat) : SluiceDesc :=
  { dir := bitAt w 0, len := bits w 32 20 + 1, host := bits w 64 64, dev := bits w 128 56, tags := bits w 192 64,
    ctr := bits w 256 64, part := bits w 320 6, cookie := bits w 336 16, cq := bits w 352 9
    rsvd := bits w 1 31 != 0 || bits w 52 12 != 0 || bits w 184 8 != 0 || bits w 326 10 != 0 || bits w 361 151 != 0 }

/-- The segments of a transfer: index, offset, length (R406). -/
def sluiceSegs (n : Nat) : List (Nat × Nat × Nat) :=
  (List.range (ceilDiv n 4096)).map fun i => (i, 4096 * i, min 4096 (n - 4096 * i))

/-- The descriptor is well formed (R405). -/
def sluiceOk (s : State) (d : SluiceDesc) : Bool :=
  ! d.rsvd && d.host % 64 == 0 && d.dev % 64 == 0 && d.tags % 16 == 0 && addrNode d.dev == s.self &&
  decide (addrOff d.dev + d.len ≤ 0x020000000000) && s.host.hostParts.testBit d.part && (! d.dir || d.ctr == 0) &&
  (d.dir || (decide (d.ctr + ceilDiv d.len 4096 ≤ 2 ^ 64) &&
    (match s.host.sluice.lastH2d with | none => true | some k => decide (k < d.ctr))))

/-- The additional authenticated data of a segment (R406). -/
def sluiceAad (d : SluiceDesc) (off len : Nat) : Nat :=
  pack [(64, d.dev + off), (32, len), (8, b2n d.dir), (8, d.part), (16, 0)]

/-- Pieces of a segment that cross no 4 KiB block of the pool. -/
def sluicePieces (d : SluiceDesc) (off len : Nat) : List (Nat × Nat) := cutRange 4096 4096 4 (addrOff d.dev + off) len

/-- The worst outcome of the checks on a segment: refused, or lost or self-fenced, or good. -/
def sluiceCheck (s : State) (d : SluiceDesc) (off len : Nat) (wr : Bool) : Nat :=
  (sluicePieces d off len).foldl (fun st x =>
    if st ≠ OK then st else match accCheck s s.self x.1 x.2 d.part wr with | some 0 => OK | some 5 => POISONED | _ => DENIED) OK

/-- Host to pool: open and write the segments in turn; the status and the segments moved. -/
def sluiceIn (s : State) (d : SluiceDesc) : List (Nat × Nat × Nat) → List (Bytes × Nat) → State × Nat × Nat
  | [], _ => (s, OK, 0)
  | (i, off, len) :: ss, segs =>
    let x := s.host.sluice
    let (c, t) := segs.headD ([], 0)
    match Config.gcmOpen (sluiceKey s 0 x.gen) (sluiceNonce s 0 x.gen (d.ctr + i)) (sluiceAad d off len) c t with
    | none => (modSluice s fun x => { x with tagFails := x.tagFails + 1, st := if 16 ≤ x.tagFails + 1 then 2 else x.st }, DENIED, 0)
    | some p =>
      let st := sluiceCheck s d off len true
      if st ≠ OK then
        (if st = DENIED then noteRefusal s 19 none (d.dev + off) d.part opWR else s, st, 0)
      else
        let s := (sluicePieces d off len).foldl (fun s y =>
          hostStore s y.1 d.part (slice p (y.1 - (addrOff d.dev + off)) y.2) .none) (countRange s 32 (d.dev + off) len)
        let (s, st, n) := sluiceIn s d ss (segs.drop 1)
        (s, st, n + 1)

/-- The bytes of a segment and whether any atom of them is poisoned. -/
def sluiceRead (s : State) (d : SluiceDesc) (off len : Nat) : State × Bytes × Bool :=
  (sluicePieces d off len).foldl (fun (s, b, bad) y =>
    match placeOf s (s.base + y.1) with
    | .here node off =>
      let key := keyOf s node off
      let s := meetErrors (drainTarget s (targetOf s node off)) key y.2
      (s, b ++ readMem s key y.2 d.part, bad || ! (badAtoms s key y.2 d.part).isEmpty)
    | _ =>
      let x := s.host.sluice
      (s, b ++ Mem.readBytes x.fetched (s.base + y.1) y.2, bad || x.fetchBad.any (atomsOf (s.base + y.1) y.2).contains))
    (countRange s 32 (d.dev + off) len, [], false)

/-- Pool to host: seal the segments in turn and send them with their tags. -/
def sluiceOut (s : State) (d : SluiceDesc) : List (Nat × Nat × Nat) → State × Nat × Nat
  | [] => (s, OK, 0)
  | (i, off, len) :: ss =>
    let st := sluiceCheck s d off len false
    if st ≠ OK then (if st = DENIED then noteRefusal s 19 none (d.dev + off) d.part opRD else s, st, 0)
    else
      let (s, b, bad) := sluiceRead s d off len
      if bad then (s, POISONED, 0)
      else
        let x := s.host.sluice
        let g := sluiceGen x
        let (c, t) := Config.gcmSeal (sluiceKey s 1 g) (sluiceNonce s 1 g (AMap.get 0 x.nextD2h g)) (sluiceAad d off len) b
        let s := (modSluice s fun x => { x with nextD2h := AMap.set x.nextD2h g (AMap.get 0 x.nextD2h g + 1) }).modXlat fun t' => { t' with
          sent := t'.sent ++ [(d.host + off, c), (d.tags + 16 * i, leBytes 16 t)] }
        let (s, st, n) := sluiceOut s d ss
        (s, st, n + 1)

/-- The bytes of a transfer out of the pool that lie elsewhere and have not been asked for. -/
def sluiceAway (s : State) (d : SluiceDesc) : List (Nat × Nat) :=
  if ! d.dir then []
  else (cutRange 4096 512 (d.len / 256 + 3) (addrOff d.dev) d.len).filter fun x =>
    ! s.host.sluice.asked.contains x && accCheck s s.self x.1 x.2 d.part false == some OK &&
    (match placeOf s (s.base + x.1) with | .here _ _ => false | _ => true)

/-- An access of the transfer is held for a copying tile, a rebuild or a suspicion. -/
def sluiceHeld (s : State) (d : SluiceDesc) : Bool :=
  (cutRange 4096 4096 (d.len / 2048 + 3) (addrOff d.dev) d.len).any fun x => (accCheck s s.self x.1 x.2 d.part (! d.dir)).isNone

/-- Complete the descriptor at the head of the ring (R407). -/
def sluiceEnd (s : State) (d : SluiceDesc) (first gen : Nat) (r : Nat × Nat) : State :=
  let x := s.host.sluice
  let s := pushQueue s d.cq 0 (pack [(8, r.1), (8, 0xFF), (16, d.cookie), (12, x.head), (20, 0), (9, r.2), (23, 0), (64, first), (32, gen)])
  modSluice s fun x => { x with head := (x.head + 1) % 2 ^ x.sizeLog2, flight := none, asked := [], fetched := [], fetchBad := []
                                failed := false }

/-- SLUICE_DESCRIPTOR: the next descriptor, as host memory holds it, with the segments and tags that are read there.
Log: 132 DEDUCED. -/
def doSluice (s : State) (w : BitVec 512) (segs : List (Bytes × Nat)) : State :=
  let x := s.host.sluice
  let d := sluiceDesc w.toNat
  let ss := sluiceSegs d.len
  let g := sluiceGen x
  let next := AMap.get 0 x.nextD2h g
  if s.host.wedged ∨ x.st = 0 ∨ ! sluiceBusy x ∨ (x.flight.isSome ∧ x.flight ≠ some w) ∨ x.outstanding ≠ 0 then s
  else if x.st = 2 then sluiceEnd s d (if d.dir then next else d.ctr) g (DENIED, 0)
  else if ! sluiceOk s d then sluiceEnd s d (if d.dir then next else d.ctr) g (REFUSED, 0)
  else if sluiceHeld s d then s
  else if ! (sluiceAway s d).isEmpty then
    let away := sluiceAway s d
    let s := modSluice s fun x => { x with flight := some w, flightGen := g, asked := x.asked ++ away, outstanding := away.length }
    away.foldl (fun s y => hostFetch s y.1 y.2 d.part .sluice) s
  else if d.dir then
    if x.failed then sluiceEnd s d next g (DENIED, 0)
    else let (s', r) := sluiceOut s d ss
         sluiceEnd s' d next g r
  else if segs.length ≠ ss.length ∨ (ss.zip segs).any (fun y => y.2.1.length != y.1.2.2) then s
  else
    let s := modSluice s fun x => { x with lastH2d := some (d.ctr + ss.length - 1) }
    let (s', r) := sluiceIn s d ss segs
    sluiceEnd s' d d.ctr g r

/-- The transport of SPDM over PCI Express; a session of it is with the host (R377, R492). -/
def spdmHost : Nat := 0

/-- SLUICE_START (R393, R402, R406). Log: 133 DEDUCED. -/
def sluiceStart (s : State) (m : Master) (session : Nat) : State :=
  serve s m 0x0820 fun s =>
    let x := s.host.sluice
    if m ≠ .host ∨ ! s.mgmt.sessions.contains (session, spdmHost) ∨ (x.st = 2 ∧ x.session = session) then respond s m 0x0820 DENIED
    else if sluiceBusy x ∨ AMap.has s.mem.lends 15 then respond s m 0x0820 BUSY
    else
      respond (s.modHost fun h => { h with
        conf := true
        sluice := { st := 1, session := session, sizeLog2 := x.sizeLog2, base := x.base, head := x.head, tail := x.tail } }) m 0x0820 OK

/-- SLUICE_REKEY: its response still goes out under the old generation (R403). -/
def sluiceRekey (s : State) (m : Master) : State :=
  serve s m 0x0821 fun s =>
    let x := s.host.sluice
    if m ≠ .host ∨ x.st ≠ 1 then respond s m 0x0821 DENIED
    else
      let s := respond s m 0x0821 OK [(4, (x.gen + 1) % 2 ^ 32)]
      modSluice s fun x => { x with gen := (x.gen + 1) % 2 ^ 32, lastH2d := none }

/-! ## BAR0 writes (R379, R386) -/

/-- A write into a mailbox slot: aligned, 4 to 64 bytes; ignored while the slot is pending or in service (R379, R386). -/
def slotWrite (s : State) (off size v : Nat) : State :=
  let i := off / 4096
  let x : Slot := AMap.get {} s.mbx.hostSlots i
  if s.flt.phase = 7 ∨ ! [4, 8, 16, 32, 64].contains size ∨ off % size ≠ 0 ∨ x.st = 1 ∨ x.st = 2 then s
  else s.modMbx fun m => { m with hostSlots := AMap.set m.hostSlots i { x with frame := splice (slice x.frame 0 4096) (off % 4096) (leBytes size v) } }

/-- MS_ERRCNT.CLR (R103). -/
def msErrClr (s : State) (n : Nat) : State :=
  if ! hostUp s ∨ 32 ≤ n then s else s.modStk n fun x => { x with ce := 0, ue := 0 }

/-- A write to BAR0 as one access of `size` bytes. Whatever a register's rule does not take is ignored whole (R5, R379). MBX_DB
is written by its own row. Log: 127 DEDUCED. -/
def writeBar0 (s : State) (off size v : Nat) : State :=
  let v := v % 2 ^ (8 * size)
  if 0x10000 ≤ off ∧ off < 0x20000 then slotWrite s (off - 0x10000) size v
  else if size = 8 then
    if off = 0x050 then
      (if v < 2 ^ 18 then s.modHost fun h => { h with respq := bits v 0 9, evq := bits v 9 9 } else s)
    else if off = 0x058 then
      (if v < 2 ^ 12 then s.modHost fun h => { h with mapWin := bits v 0 5, mapPart := bits v 5 6, mapEn := bitAt v 11 } else s)
    else if off = 0x068 then doSluiceRing s v
    else if off = 0x070 then doSluiceDb s v
    else if 0x2000 ≤ off ∧ off < 0x3000 ∧ off % 32 = 24 then (if bitAt v 63 then doLinkErrClr s ((off - 0x2000) / 32) else s)
    else if 0x3000 ≤ off ∧ off < 0x3100 ∧ off % 8 = 0 then doListDb s ((off - 0x3000) / 8) v
    else if 0x30000 ≤ off ∧ off < 0x31000 ∧ off % 8 = 0 then setQcfg s ((off - 0x30000) / 8) v
    else if 0x31000 ≤ off ∧ off < 0x32000 ∧ off % 8 = 0 then writeQstatus s ((off - 0x31000) / 8) v
    else s
  else if size = 4 then
    if off = 0x020 then (if v < 0xE then s.modXlat fun t => { t with priTmo := v } else s)
    else if off = 0x028 then (if bitAt v 2 ∧ bits v 23 9 = 0 then priClear s else s)
    else if 0x1000 ≤ off ∧ off < 0x1200 ∧ off % 16 = 8 then (if bitAt v 31 ∧ bits v 24 7 = 0 then msErrClr s ((off - 0x1000) / 16) else s)
    else if 0x100000 ≤ off ∧ off < 0x108000 ∧ off % 4 = 0 then msixWrite s (off - 0x100000) v
    else s
  else s

/-- REGISTER_WRITE. -/
def doRegWrite (s : State) (off size v : Nat) : State := if hostUp s then writeBar0 s off size v else s

/-! ## The function's link, wedging (R381, R408) -/

/-- HOST_LINK_STATE_CHANGE; without Flit mode at most 32 GT/s (R377). -/
def doHostLink (s : State) (up flit : Bool) (speed width : Nat) : State :=
  if ! up then s.modHost fun h => { h with linkUp := false, flit := false, speed := 0, width := 0 }
  else if speed = 0 ∨ 7 < speed ∨ ! [1, 2, 4, 8].contains width ∨ (! flit ∧ 5 < speed) then s
  else s.modHost fun h => { h with linkUp := true, flit := flit, speed := speed, width := width }

/-- WEDGE_DETECT: WEDGED, and the fault of class 0x09 whose reaction fences HX. -/
def doWedge (s : State) : State :=
  if s.host.wedged ∨ s.flt.phase < 2 then s
  else raise (s.modHost fun h => { h with wedged := true }) { die := 19, cls := 9, cause := 1 }

/-! ## Mailbox commands (R393) -/

/-- IDENTIFY. -/
def identify (s : State) (m : Master) : State :=
  serve s m 0x0100 fun s =>
    respond s m 0x0100 OK [(2, 0x2048), (1, Config.stepping.toNat), (4, s.mgmt.update.running.version),
      (16, leNat (slice Config.serial 0 16)), (4, poolParcels s), (4, regStraps s),
      (16, pack ((List.range 128).map fun p => (1, b2n (s.present p))))]

def slotsPending (t : AMap Slot) : Nat := t.countP fun x => x.2.st == 1

/-- MBX_INFO. Log: 134 DEDUCED. -/
def mbxInfo (s : State) (m : Master) (clear : Bool) : State :=
  serve s m 0x0101 fun s =>
    let x := s.mbx
    let data := [(1, slotsPending x.hostSlots), (1, slotsPending x.mgmtSlots), (4, x.served), (4, x.supersededHost),
      (4, x.supersededMgmt), (4, x.ignored), (4, 65536 - s.usedCells), (4, s.host.qDrops)]
    let s := if clear then
        (s.modMbx fun x => { x with served := 0, supersededHost := 0, supersededMgmt := 0, ignored := 0 }).modHost
          fun h => { h with qDrops := 0 }
      else s
    respond s m 0x0101 OK data

/-- HOST_PARTS_SET. -/
def hostPartsSet (s : State) (m : Master) (mask : BitVec 64) : State :=
  serve s m 0x0201 fun s =>
    if m = .host then respond s m 0x0201 DENIED
    else respond (s.modHost fun h => { h with hostParts := mask.toNat }) m 0x0201 OK

/-- LIST_ABORT_CMD (R135, R393). -/
def listAbortCmd (s : State) (m : Master) (g id : Nat) : State :=
  serve s m 0x0220 fun s =>
    if 32 ≤ g ∨ 65536 ≤ id then respond s m 0x0220 REFUSED
    else match (s.grp g).list? id with
    | none => respond s m 0x0220 OK
    | some l =>
      if ! mayManage s m l.part then respond s m 0x0220 DENIED
      else respond (if (s.grp g).fenced ∨ l.checking then s else haltList s g id none true) m 0x0220 OK

end Sys2Proof.Machine
end

