-- ==== Sys2Proof/Machine/Time.lean ====
section
/-! DEFINITION. Rack time (R409–R420): RACKSYNC, time blocks, number sources, the states of the local frame count, and the
time commands. Ticks within a frame are not counted: where an offset within a frame matters it is a free value. -/
namespace Sys2Proof.Machine

/-- Frame numbers have 48 bits. -/
def frameMod : Nat := 2 ^ 48

/-! ## Number sources (R411, R412) -/

/-- A source heard in the last 4 frames on a port still active, with a valid HOPS. -/
def sourceOk (s : State) (p : Nat) (x : NumSource) : Bool :=
  decide (s.time.lfc < x.heardAt + 4) && decide (x.hops < 15) && ((s.prt p).st == 2 || (s.prt p).st == 3) && (s.prt p).accepted

/-- HOLD clear, then ALT clear, then the lowest HOPS, then the lowest port. -/
def sourceBetter (a b : Nat × NumSource) : Bool :=
  let key (x : Nat × NumSource) : Nat := pack [(7, x.1), (4, x.2.hops), (1, b2n x.2.alt), (1, b2n x.2.hold)]
  decide (key a < key b)

def selectSource (s : State) : Option (Nat × NumSource) :=
  bestBy sourceBetter (s.time.sources.filter fun x => sourceOk s x.1 x.2)

/-- Select the source again, and the HOPS sent. -/
def reselect (s : State) : State :=
  if isKeeper s.time then s.modTime fun t => { t with hops := 0, srcPort := 0x7F }
  else match selectSource s with
  | some (p, x) => s.modTime fun t => { t with hops := min 15 (x.hops + 1), srcPort := p }
  | none => s.modTime fun t => { t with hops := 15, srcPort := 0x7F }

/-- The rack number of the frame that the last RACKSYNC edge began. Log: 150 DEDUCED. -/
def rackNumber (t : TimeS) : Nat := (t.lastRack + t.edges) % frameMod

/-! ## States (R413, R415, R417) -/

/-- Leave LOCKED or STEERING for HOLDOVER. -/
def holdover (s : State) : State :=
  s.modTime fun t =>
    if t.st = .locked then { t with st := .holdover, holdSince := t.lfc, frameLen := 10240 }
    else if t.st = .steering then { t with st := .holdover, frameLen := 10240 }
    else t

/-- The pins become invalid (R410); a TIME_ACCEPT that waits is refused (R420). -/
def pinsLost (s : State) : State :=
  let s := holdover (s.modTime fun t => { t with pinsOk := false, goodFrames := 0 })
  match s.time.rebase with
  | some m => respond (s.modTime fun t => { t with rebase := none }) m 0x03A2 REFUSED
  | none => s

def lock (s : State) : State :=
  s.modTime fun t => { t with st := .locked, offset := 0, frameLen := 10240, holdS := 0, disagree := 0 }

/-- LFC takes a number at a RACKSYNC edge, whose local frame starts there (R413, R417). -/
def takeNumber (s : State) (n : Nat) : State := lock (s.modTime fun t => { t with lfc := n % frameMod, begun := true })

/-- Rack time minus local time, `tick` being the tick reached within the local frame. Log: 152 DEDUCED. -/
def offsetAt (rack lfc tick : Nat) : Int := (Int.ofNat rack - Int.ofNat lfc) * 10240 - Int.ofNat tick

/-- Enter LOCKED, STEERING or JUMPED by the offset (R413). -/
def steer (s : State) (off : Int) : State :=
  if off = 0 then lock s
  else
    let st : TState := if off.natAbs ≤ s.time.steerLimit * 10240 then .steering else .jumped
    s.modTime fun t => { t with
      st := st, offset := off, disagree := 0, holdSince := if t.st = .locked then t.lfc else t.holdSince }

/-- The length of a local frame while the offset is worked off (R415). -/
def steerLen (off : Int) : Nat :=
  if 0 < off then 10240 - min 5120 off.toNat else 10240 + min 512 (-off).toNat

/-- What an edge with valid pins does to the state. -/
def edgeState (s : State) : State :=
  let t := s.time
  if t.rebase.isSome then
    let s := (takeNumber s (rackNumber t)).modMem fun m => { m with lastInterval := 0 }
    match t.rebase with
    | some m => respond (s.modTime fun t => { t with rebase := none }) m 0x03A2 OK
    | none => s
  else if isKeeper t then
    (if t.st = .init then
      (if t.numbered then takeNumber s (rackNumber t)
       else if t.roleSince + 16 ≤ t.lfc then takeNumber s t.base else s)
     else if t.st = .locked then s else lock s)
  else if t.srcPort = 0x7F ∨ ! t.numbered then s
  else match t.st with
  | .init => takeNumber s (rackNumber t)
  | .holdover =>
    let (k, s) := s.drawTick
    steer s (offsetAt (rackNumber t) t.lfc k)
  | _ => s

/-- RACKSYNC_EDGE; `good`: it falls exactly 10,240 ticks after the previous one (R409, R410). -/
def doEdge (s : State) (good : Bool) : State :=
  let s := s.modTime fun t => { t with edges := t.edges + 1, sinceEdge := 0, edgeSeen := true }
  if ! good then pinsLost s
  else
    let s := s.modTime fun t => { t with goodFrames := min 16 (t.goodFrames + 1), pinsOk := t.pinsOk || decide (16 ≤ t.goodFrames + 1) }
    if s.time.pinsOk then edgeState s else s

/-- NUMBER_SOURCE_LOSS: no valid pair on any port for 64 frames (R413). -/
def doSourceLoss (s : State) : State :=
  let t := s.time
  if isKeeper t ∨ (t.st ≠ .locked ∧ t.st ≠ .steering) ∨ (t.sources.any fun x => decide (t.lfc < x.2.heardAt + 64)) then s
  else holdover s

/-- ALTERNATE_TAKEOVER: 16 frames without a block that has HOLD clear (R412). -/
def doTakeover (s : State) : State :=
  let t := s.time
  if t.role ≠ 2 ∨ t.altActive ∨ t.lfc < t.lastHoldClear + 16 then s
  else
    let s := reselect (s.modTime fun t => { t with altActive := true, altClearRun := 0, altClearAt := none })
    if t.pinsOk then lock s
    else s.modTime fun t => if t.st = .init then t else { t with st := .holdover, frameLen := 10240 }

/-- ALTERNATE_STOP: 16 frames of blocks with ALT clear (R412). -/
def doAltStop (s : State) : State :=
  if ! s.time.altActive ∨ s.time.altClearRun < 16 then s
  else reselect (s.modTime fun t => { t with altActive := false, lastHoldClear := t.lfc })

/-! ## Time blocks (R411) -/

/-- Compare the selected source's number with LFC, once a frame: three disagreements in a row move a LOCKED package (R413). -/
def checkNumber (s : State) (n : Nat) : State :=
  let t := s.time
  if t.st ≠ .locked ∨ isKeeper t then s
  else if n = t.lfc then s.modTime fun t => { t with disagree := 0 }
  else if t.disagree + 1 < 3 then s.modTime fun t => { t with disagree := t.disagree + 1 }
  else steer s (offsetAt n t.lfc 0)

/-- TIME_BLOCK: a pair arrives on an accepted active port that faces a Devik; `late`: at or after tick 5,120. -/
def doTimeBlock (s : State) (p : Nat) (first second : BitVec 56) (late : Bool) : State :=
  let w := first.toNat
  let x := s.prt p
  if first ≠ second ∨ bits w 54 2 ≠ 0 ∨ (x.st ≠ 2 ∧ x.st ≠ 3) ∨ ! x.accepted ∨ x.quarantined ∨ s.isEndPointPort p then s
  else
    let n := (bits w 0 48 + b2n late) % frameMod
    let hold := bitAt w 52
    let alt := bitAt w 53
    let src : NumSource := { number := n, hops := bits w 48 4, hold := hold, alt := alt, heardAt := s.time.lfc }
    let again := (AMap.get ({} : NumSource) s.time.sources p).heardAt == s.time.lfc && AMap.has s.time.sources p
    let s := s.modTime fun t => { t with
      sources := AMap.set t.sources p src
      lastHoldClear := if hold then t.lastHoldClear else t.lfc
      altClearRun := if alt then 0 else if t.altClearAt = some t.lfc then t.altClearRun
        else if t.altClearAt.any (fun a => t.lfc ≤ a + 1) then t.altClearRun + 1 else 1
      altClearAt := if alt then none else some t.lfc }
    let s := reselect s
    if bits w 48 4 = 15 then s
    else if s.time.srcPort = p ∨ (isKeeper s.time ∧ s.time.st = .init) then
      let s := s.modTime fun t => { t with lastRack := bits w 0 48, edges := 0, numbered := true }
      if again then s else checkNumber s n
    else s

/-! ## The local frame (R411, R413, R415, R416) -/

/-- The time block that a port sends. Log: 151 DEDUCED. -/
def timeBlockOf (t : TimeS) : Nat := pack [(48, t.lfc), (4, t.hops), (1, b2n (t.st != .locked)), (1, b2n t.altActive)]

/-- The time part of FRAME_START: the count advances, the state follows, time blocks go out. -/
def timeFrame (s : State) : State :=
  let t := s.time
  let s := s.modTime fun t => { t with
    lfc := if t.begun then t.lfc else (t.lfc + 1) % frameMod, begun := false, sinceEdge := t.sinceEdge + t.frameLen, edgeSeen := false }
  -- an edge that should have come is missing
  let s := if t.pinsOk ∧ ((t.st = .locked ∧ ! t.edgeSeen) ∨ (t.st ≠ .locked ∧ 20480 ≤ s.time.sinceEdge)) then pinsLost s else s
  let s := if s.time.st = .steering then
      (if s.time.offset = 0 then lock s
       else
        let n := steerLen s.time.offset
        s.modTime fun t => { t with frameLen := n, offset := t.offset + (Int.ofNat n - 10240) })
    else s
  let s := reselect s
  let s := s.modTime fun t => { t with
    holdS := if t.st = .locked ∨ t.st = .init then 0 else min 4095 ((t.lfc - t.holdSince) * 65536 / 1000000000) }
  { s with ports := AMap.mapVals (fun _ x => if x.st = 2 ∨ x.st = 3 then { x with timeTx := timeBlockOf s.time } else x) s.ports }

/-! ## Commands (R420) -/

/-- TIME_SET. -/
def timeSet (s : State) (m : Master) (role base steerLimit : Nat) : State :=
  serve s m 0x03A0 fun s =>
    if 2 < role ∨ frameMod ≤ base ∨ steerLimit = 0 ∨ 4096 < steerLimit then respond s m 0x03A0 REFUSED
    else
      let s := s.modTime fun t => { t with
        role := role, base := base, steerLimit := steerLimit, altActive := t.altActive && role == 2
        roleSince := if role = t.role then t.roleSince else t.lfc }
      respond (reselect s) m 0x03A0 OK

/-- TIME_GET. -/
def timeGet (s : State) (m : Master) : State :=
  serve s m 0x03A1 fun s => respond s m 0x03A1 OK [(8, regTimeStatus s), (8, s.time.lfc), (8, s.time.lastRack)]

/-- TIME_ACCEPT: the answer comes with the next RACKSYNC edge, at which LFC is re-based (R417). -/
def timeAccept (s : State) (m : Master) : State :=
  serve s m 0x03A2 fun s =>
    if s.time.rebase.isSome then s
    else if s.time.st ≠ .jumped ∨ ! s.time.pinsOk then respond s m 0x03A2 REFUSED
    else s.modTime fun t => { t with rebase := some m }

end Sys2Proof.Machine
end

