-- ==== Sys2Proof/Machine/Power.lean ====
section
/-! DEFINITION. Power, supply, temperature and low-power states (R421–R438), and emergency off (R433). -/
namespace Sys2Proof.Machine

/-! ## Caps, Weir and the plan (R421–R424) -/

/-- L of a frame (R422). -/
def weirLimit (cfg : PowerCfg) (cap prev : Nat) : Nat := min (max cap (prev - cfg.slewDown)) (prev + cfg.slewUp)

/-- A plan segment from a limit to a cap (R424). -/
def planSeg (cfg : PowerCfg) (start limit cap : Nat) : PlanSeg :=
  let up := decide (limit < cap)
  let diff := if up then cap - limit else limit - cap
  let slew := if up then cfg.slewUp else cfg.slewDown
  { start := start, lStart := limit, target := cap, rate := (if up then 1 else -1) * Int.ofNat (min slew diff), stop := start + ceilDiv diff slew }

/-- The limit that a segment gives a frame. -/
def segLimit (x : PlanSeg) (f : Nat) : Nat :=
  if x.stop ≤ f then x.target
  else ((Int.ofNat x.lStart + x.rate * Int.ofNat (f - x.start)).toNat)

/-- The pending step that comes first, and the effective cap it leads to. -/
def nextStep (s : State) : Option (Nat × Nat) :=
  let p := s.power
  let mgmt (c : Nat) : Nat := if p.safe then min p.cfg.safeCap p.cfg.hostCap else min c p.cfg.hostCap
  let host (c : Nat) : Nat := min (if p.safe then p.cfg.safeCap else p.cfg.cap) c
  match p.pendMgmt, p.pendHost with
  | some (c, f), some (d, g) => if g < f then some (host d, g) else if f < g then some (mgmt c, f) else some (min c d, f)
  | some (c, f), none => some (mgmt c, f)
  | none, some (d, g) => some (host d, g)
  | none, none => none

def segWord (x : PlanSeg) : Nat :=
  pack [(48, x.start), (12, x.lStart), (4, 0), (12, x.target), (10, unsigned 10 x.rate), (42, 0), (48, x.stop), (80, 0)]

/-- Write the plan and push it to the management network (R424). -/
def newPlan (s : State) : State :=
  let p := s.power
  let now := planSeg p.cfg s.time.lfc p.limit (capEff s)
  let next := (nextStep s).map fun (c, f) =>
    let before := segLimit now (f - 1)
    planSeg p.cfg f (weirLimit p.cfg c before) c
  pushEvent (s.modPower fun p => { p with planNow := now, planNext := next }) 0x0502 (segWord now)

/-- The frame's limit, and CAP_LAG with its event (R422, R423). -/
def setLimit (s : State) : State :=
  let cap := capEff s
  let l := weirLimit s.power.cfg cap s.power.power
  let lag := decide (cap < l)
  let s' := s.modPower fun p => { p with limit := l, capLag := lag }
  if lag = s.power.capLag then s' else pushEvent s' 0x0501 (pack [(1, b2n lag), (12, cap)])

/-- The power part of FRAME_START: `power` was measured in the frame that ends. Whether filler runs is the hardware's own.
Log: 156 DESIGN CHOICE. -/
def powerFrame (s : State) (power : Nat) : State :=
  let (v, s) := s.draw
  let s := s.modPower fun p => { p with power := power, filler := p.cfg.floorEn && bitAt v 0 }
  let s := if s.power.dipInFrame = 0 then s
    else (pushEvent s 0x0504 (pack [(16, s.power.dipInFrame), (12, s.power.dipMin)])).modPower fun p => { p with dipInFrame := 0, dipMin := 0 }
  setLimit s

/-- CAP_STEP: pending caps whose frame has come. -/
def doCapStep (s : State) : State :=
  let due (x : Option (Nat × Nat)) : Option Nat := match x with | some (c, f) => if f ≤ s.time.lfc then some c else none | none => none
  let a := due s.power.pendMgmt
  let b := due s.power.pendHost
  if a.isNone ∧ b.isNone then s
  else
    newPlan (setLimit (s.modPower fun p => { p with
      cfg := { p.cfg with cap := a.getD p.cfg.cap, hostCap := b.getD p.cfg.hostCap }
      pendMgmt := if a.isSome then none else p.pendMgmt
      pendHost := if b.isSome then none else p.pendHost }))

/-- A thermal or supply action is in force (R434). -/
def actionOn (s : State) : Bool := s.power.ladder != 0 || s.power.supply || s.power.trip

/-- An action begins: the power of the frame in which the first of them began (R434). -/
def beginAction (s : State) : State := if actionOn s then s else s.modPower fun p => { p with actionPower := p.power }

/-! ## POWER_SET and the other commands (R432, R438) -/

/-- POWER_SET. `cfg` is laid out as POWER_CFG; what the master does not set is zero. Log: 154 DEDUCED. -/
def powerSet (s : State) (m : Master) (capFrame : Nat) (cfg : BitVec 64) : State :=
  serve s m 0x0500 fun s =>
    let w := cfg.toNat
    let c := s.power.cfg
    let new : PowerCfg := { c with
      slewUp := bits w 12 6, slewDown := bits w 18 9, floorEn := bitAt w 27, safeCap := bits w 28 12, standbyEn := bitAt w 40
      gateEn := bitAt w 41, gateUs := bits w 42 10 }
    let cap := if m = .mgmt then bits w 0 12 else bits w 52 12
    let shape := if m = .mgmt then
        decide (bits w 52 12 = 0 ∧ 1 ≤ new.slewUp ∧ new.slewUp ≤ 40 ∧ 40 ≤ new.slewDown ∧ new.slewDown ≤ 400 ∧ 800 ≤ new.safeCap ∧
          new.safeCap ≤ 3000 ∧ 1 ≤ new.gateUs)
      else bits w 0 52 == 0
    if ! shape ∨ cap < 800 ∨ 3000 < cap ∨ s.time.lfc + 65536 < capFrame then respond s m 0x0500 REFUSED
    else
      let eff := if m = .mgmt then min cap c.hostCap else min (if s.power.safe then c.safeCap else c.cap) cap
      if actionOn s ∧ s.power.actionPower < eff ∧ capEff s < eff then respond s m 0x0500 SUPERSEDED
      else
        let late := decide (capFrame ≤ s.time.lfc)
        let f := if late then s.time.lfc + 1 else capFrame
        let s := if m = .mgmt then s.modPower fun p => { p with cfg := new, safe := false, pendMgmt := some (cap, f) }
          else s.modPower fun p => { p with pendHost := some (cap, f) }
        respond (newPlan s) m 0x0500 OK [(8, f), (1, b2n late)]

def pendFields (x : Option (Nat × Nat)) : List (Nat × Nat) := match x with | some (c, f) => [(2, c), (8, f)] | none => [(2, 0), (8, 0)]

/-- POWER_GET. Log: 155 DEDUCED. -/
def powerGet (s : State) (m : Master) : State :=
  serve s m 0x0501 fun s =>
    respond s m 0x0501 OK ([(8, regPowerCfg s), (8, regPowerStatus s)] ++ pendFields s.power.pendMgmt ++ pendFields s.power.pendHost)

/-- POWER_PLAN_GET. -/
def powerPlanGet (s : State) (m : Master) : State :=
  serve s m 0x0502 fun s =>
    respond s m 0x0502 OK [(32, segWord s.power.planNow), (32, match s.power.planNext with | some x => segWord x | none => 0)]

/-- POWER_HEARTBEAT. -/
def powerHeartbeat (s : State) (m : Master) : State :=
  serve s m 0x0503 fun s =>
    if m = .host then respond s m 0x0503 DENIED
    else respond (s.modPower fun p => { p with hbAt := some s.time.lfc }) m 0x0503 OK

/-- SAFE_SET: no heartbeat for 5 s, that is 76,294 frames (R432). -/
def doSafeSet (s : State) : State :=
  match s.power.hbAt with
  | none => s
  | some f =>
    if s.power.safe ∨ s.time.lfc < f + 76294 then s
    else
      let s := s.modPower fun p => { p with safe := true, pendMgmt := none, pendHost := none }
      newPlan (setLimit (pushEvent s 0x0503 (capEff s)))

/-- A flow loss begins: it is recorded (R430, R440). -/
def flowRecord (s s' : State) : State :=
  if ! flowLoss s ∧ flowLoss s' then raise s' { die := 18, cls := 0x0C, cause := 2 } else s'

/-- FLOW_REPORT. -/
def flowReport (s : State) (m : Master) (loss : Bool) : State :=
  serve s m 0x0505 fun s =>
    if m = .host then respond s m 0x0505 DENIED
    else respond (flowRecord s (s.modPower fun p => { p with flowReported := loss })) m 0x0505 OK

/-! ## Emergency off (R433) -/

/-- A package about to stop serving tells its partner and witnesses, once it performs no access to its mirrored parcels any
more (R466). Log: 177 DEDUCED. -/
def sendFailing (s : State) : State :=
  if s.flt.sentFailing ∨ s.flt.phase < 3 then s
  else
    let s := s.modFlt fun f => { f with sentFailing := true, selfFenced := true }
    (s.partner :: s.man.witnesses).foldl (fun s n => sendCtrl s n 4 s.self) s

/-- Accesses of a group's commands that are under way reach nobody any more. -/
def orphan (s : State) (g : Nat) : State :=
  let gone (o : Owner) : Owner := match o with
    | .cmd k e q i => if k = g then .none else .cmd k e q i
    | .frontEnd k a => if k = g then .none else .frontEnd k a
    | .coll k a b c => if k = g then .none else .coll k a b c
    | o => o
  -- a DMA_ND's writes that wait for a page response go no further
  let waits (a : HostAcc) : Bool := a.st == 3 && (match a.owner with | .cmd k _ _ _ => k == g | _ => false)
  let s := s.modXlat fun x => { x with accs := x.accs.filter (! waits ·), pri := x.pri.filter fun y => y.g != g }
  (s.modFab fun f => { f with tracks := f.tracks.map fun t => { t with owner := gone t.owner } }).modXlat fun x => { x with
    accs := x.accs.map fun a => { a with owner := gone a.owner } }

/-- Discard a group's lists without records. -/
def discardLists (s : State) (g : Nat) : State :=
  let s := loseAppends s fun o => match o with | .cmd k _ _ _ => k == g | _ => false
  let s := orphan s g
  let s := (s.grp g).lists.foldl (fun s l => freeList s g l.id) s
  s.modGrp g fun x => { x with loadReqs := [], abortReqs := [], fes := [] }

/-- What an engine group without power holds afterwards: its counters and the lines it had tagged have free values.
Log: 160 DEDUCED. -/
def loseContents (s : State) (g : Nat) : State :=
  let lines := (s.mem.tags.map (·.1)).filter fun l => decide (spadBase g ≤ l * 64) && decide (l * 64 < spadBase g + 0x2000000)
  let s := lines.foldl (fun s l =>
    let (v, s) := s.draw
    s.modMem fun m => { m with cells := Mem.writeBytes m.cells (l * 64) (leBytes 64 v) }) s
  let (v, s) := s.draw
  s.modGrp g fun x => { x with ctrs := AMap.mapVals (fun c _ => BitVec.ofNat 32 (v / 2 ^ (32 * c))) x.ctrs }

/-- Change the status that a command waiting on hardware will answer. -/
def endWait (code status : Nat) (w : HwWait) : HwWait :=
  if w.resp.code = code then { w with resp := { w.resp with status := status } } else w

/-- Power leaves the engine groups and the fabric SerDes (R431, R433). -/
def removePower (s : State) : State :=
  if s.power.epo ∧ ! s.power.resuming then s
  else
    let s := sendFailing s
    let s := (List.range 32).foldl (fun s g => loseContents (discardLists s g) g) s
    let s := (List.range 128).foldl (fun s p =>
      if ! s.present p then s
      else
        let s := s.modPrt p fun x => { x with heldEpo := true }
        if (s.prt p).st = 5 ∨ (s.prt p).st = 0 then s else portDown s p none) s
    let s := s.coll.nodes.foldl (fun s x => collAbortOp s x.1 3 0xFFF) s
    let s := s.modMem fun m => { m with stks := AMap.mapVals (fun _ x => { x with selfRefresh := true }) m.stks }
    let s := staleMirrors s
    let s := s.modMbx fun x => { x with
      hwWait := x.hwWait.map (endWait 0x0504 SUPERSEDED) }
    let s := s.modPower fun p => { p with epo := true, resuming := false }
    if 2 ≤ s.flt.phase ∧ s.flt.phase ≤ 7 then setPhase (s.modFlt fun f => { f with prevPhase := if f.phase = 7 then 6 else f.phase }) 9 else s

/-- EPO_ASSERT. Log: 178 DEDUCED. -/
def doEpo (s : State) : State := removePower (s.modPower fun p => { p with epoPin := true })

/-- EPO_DEASSERT. -/
def doEpoOff (s : State) : State :=
  if s.power.epoPin then s.modPower fun p => { p with epoPin := false, epoOff := s.time.lfc } else s

/-- POWER_RESUME: accepted 100 ms (1,526 frames) after EPO_N went away; the restore ends with SERIALISER_HARDWARE_WAIT_END. -/
def powerResume (s : State) (m : Master) : State :=
  serve s m 0x0504 fun s =>
    if m = .host then respond s m 0x0504 DENIED
    else if ! s.power.epo then respond s m 0x0504 REFUSED
    else if actionOn s then respond s m 0x0504 SUPERSEDED
    else if s.time.lfc < s.power.epoOff + 1526 ∨ s.power.resuming then respond s m 0x0504 BUSY
    else defer (s.modPower fun p => { p with resuming := true }) m 0x0504 OK

/-- Power is back: the stacks serve, the ports may train (R433). -/
def resumeDone (s : State) : State :=
  if ! s.power.resuming then s
  else
    let s := s.modPower fun p => { p with epo := false, resuming := false }
    let s := s.modMem fun m => { m with stks := AMap.mapVals (fun _ x => { x with selfRefresh := x.selfRefresh && x.evacuated && ! x.evacuating }) m.stks }
    let s : State := { s with ports := AMap.mapVals (fun _ (x : Port) => { x with heldEpo := false }) s.ports }
    let s := s.modFlt fun f => { f with sentFailing := false, selfFenced := ! leaseHeld s }
    if s.flt.phase = 9 then setPhase s s.flt.prevPhase else s

/-! ## Supply (R426, R427) -/

/-- SUPPLY_WARNING: the core rail falls below 690 mV. Log: 157 DEDUCED. -/
def doSupplyWarning (s : State) (mv : Nat) : State :=
  if mv < 640 ∨ 690 ≤ mv then s
  else
    let first := s.power.dipInFrame == 0
    let s := beginAction s
    let s := s.modPower fun p => { p with
      supply := true, dips := p.dips + 1, dipInFrame := p.dipInFrame + 1, dipMin := if first then mv else min p.dipMin mv }
    if first then raise s { die := 18, cls := 0x0C, cause := 3 } else s

/-- SUPPLY_THROTTLE_LIFT. -/
def doSupplyLift (s : State) : State := s.modPower fun p => { p with supply := false }

/-- REGULATOR_POLL: what a listed regulator answers; two polls without answer, 16 frames apart, are a fault (R440). -/
def doRegulator (s : State) (i : Nat) (answer : Option Bool) : State :=
  if 16 ≤ i ∨ s.man.regulators.length ≤ i ∨ s.flt.phase < 2 then s
  else
    let had := AMap.get false s.power.regFault i
    match answer with
    | none =>
      (match AMap.find s.power.regSilent i with
       | none => s.modPower fun p => { p with regSilent := AMap.set p.regSilent i s.time.lfc }
       | some f =>
         if s.time.lfc < f + 16 ∨ had then s
         else raise (s.modPower fun p => { p with regFault := AMap.set p.regFault i true }) { die := 18, cls := 0x0B, inst := i, cause := 2 })
    | some fault =>
      let s := s.modPower fun p => { p with regFault := AMap.set p.regFault i fault, regSilent := AMap.erase p.regSilent i }
      if fault ∧ ! had then raise s { die := 18, cls := 0x0B, inst := i, cause := 1 } else s

/-! ## Temperature (R70, R429–R431) -/

/-- The step that fits a temperature. -/
def stepFor (tj : Nat) (flow : Bool) : Nat :=
  if 112 ≤ tj then 4 else if 108 ≤ tj ∨ flow then 3 else if 104 ≤ tj then 2 else if 100 ≤ tj then 1 else 0

/-- Tj below which a step is left. -/
def exitTemp (k : Nat) : Nat := if k = 1 then 97 else if k = 2 then 101 else if k = 3 then 105 else 109

/-- One move of the throttle ladder (R429): straight up to the step that fits, or down by one step that has been cool for 16
frames. Log: 158 DEDUCED. -/
def ladderMove (s : State) : State :=
  let p := s.power
  let flow := flowLoss s
  let cool := [1, 2, 3, 4].foldl (fun t k =>
    if p.tj < exitTemp k ∧ ! (k = 3 ∧ flow) then (if AMap.has t k then t else AMap.set t k s.time.lfc) else AMap.erase t k) p.cool
  let s := s.modPower fun p => { p with cool := cool }
  let want := stepFor p.tj flow
  let s :=
    if p.ladder < want then
      raise ((beginAction s).modPower fun p => { p with ladder := want }) { die := 18, cls := 0x0C, cause := 1 }
    else if p.ladder ≠ 0 ∧ ((AMap.find cool p.ladder).any fun f => decide (f + 16 ≤ s.time.lfc)) then
      s.modPower fun p => { p with ladder := p.ladder - 1 }
    else s
  s.modPower fun p => { p with thermN := decide (3 ≤ p.ladder) || p.trip }

def closeTo (a b : Nat) : Bool := decide (a ≤ b + 2) && decide (b ≤ a + 2)

/-- Flow loss by the plate sensors: a rise of 4 °C within 16 frames at a power that changes by less than 10 %; gone after 1 s
(15,259 frames) near the readings before (R430). -/
def flowSense (s : State) (plates : List Nat) : State :=
  let p := s.power
  let log := p.plateLog.filter fun e => decide (s.time.lfc < e.1 + 16)
  let rise := log.find? fun e =>
    (plates.zip e.2.1).any (fun y => decide (y.2 + 4 ≤ y.1)) &&
    decide ((if e.2.2 < p.power then p.power - e.2.2 else e.2.2 - p.power) * 10 < e.2.2)
  let s := s.modPower fun p => { p with plateLog := log ++ [(s.time.lfc, plates, p.power)] }
  if ! p.flowSelf then
    match rise with
    | some e => s.modPower fun p => { p with flowSelf := true, platesRef := e.2.1, flowClear := none }
    | none => s
  else if (plates.zip p.platesRef).all fun y => closeTo y.1 y.2 then
    match p.flowClear with
    | none => s.modPower fun p => { p with flowClear := some s.time.lfc }
    | some f => if f + 15259 ≤ s.time.lfc then s.modPower fun p => { p with flowSelf := false, flowClear := none } else s
  else s.modPower fun p => { p with flowClear := none }

/-- THERMAL_SAMPLE: Tj, the stacks' temperatures and the plate sensors, in °C. -/
def doThermal (s : State) (tj : Nat) (stackTemps plates : List Nat) : State :=
  let s0 := s.modPower fun p => { p with tj := tj }
  let s := flowRecord s0 (flowSense s0 plates)
  let s := stackTemps.zipIdx.foldl (fun s (t, n) =>
    if n < 32 then s.modStk n fun k => { k with hot := decide (85 ≤ t) || (k.hot && decide (80 ≤ t)) } else s) s
  ladderMove s

/-- THERMAL_TRIP: power leaves as by EPO_N; the record waits for the next boot (R431, R440). Log: 159 DEDUCED. -/
def doTrip (s : State) : State :=
  if s.power.trip then s
  else
    let s := removePower (beginAction s)
    (s.modPower fun p => { p with trip := true, thermN := true }).modMgmt fun m => { m with tripLatch := true }

/-! ## Low power (R435) -/

/-- Copies of the translation cache, by number, lose what they hold (R454). -/
def dropCopies (s : State) (l : List Nat) : State :=
  s.modXlat fun t => { t with copies := t.copies.filter fun c => ! l.contains c.1 }

/-- GROUP_GATE: GATE_US have passed with no list held and no slot bound; the group's and its DMA engine's copies of the translation
cache are lost (R454). -/
def doGate (s : State) (g : Nat) : State :=
  let x := s.grp g
  if 32 ≤ g ∨ ! s.power.cfg.gateEn ∨ ! x.lists.isEmpty ∨ ! x.joins.isEmpty ∨ x.fenced ∨ s.power.gated.contains g then s
  else dropCopies (s.modPower fun p => { p with gated := p.gated ++ [g] }) [g, 32 + g]

/-- What package standby asks for. -/
def standbyOk (s : State) : Bool :=
  s.power.d3hot && s.power.cfg.standbyEn && ! s.power.standby && ! s.power.epo && s.groups.all (fun g => g.2.lists.isEmpty) &&
  s.coll.nodes.all (fun n => n.2.st != 1) && s.mem.moves.isEmpty && s.seqs.resvs.isEmpty && s.seqs.ctxs.all (fun c => ! c.2.migrating)

/-- Enter standby: groups gated, stacks in self-refresh, the translation and far-line caches dropped (R435, R454).
Log: 161 DEDUCED. -/
def enterStandby (s : State) : State :=
  if ! standbyOk s then s
  else
    let s := s.modPower fun p => { p with standby := true, gated := List.range 32 }
    let s := s.modXlat fun t => { t with atc := [], copies := [] }
    s.modMem fun m => { m with stks := AMap.mapVals (fun _ x => { x with selfRefresh := true }) m.stks, far := [] }

/-- D3HOT. -/
def doD3hot (s : State) : State := if hostUp s then enterStandby (s.modPower fun p => { p with d3hot := true }) else s
/-- D0. -/
def doD0 (s : State) : State := if hostUp s then leaveStandby (s.modPower fun p => { p with d3hot := false }) else s
/-- STANDBY_REENTRY: 10 ms without traffic while D3hot persists. -/
def doReentry (s : State) : State := enterStandby s

end Sys2Proof.Machine
end

