-- ==== Sys2Proof/Machine/Pair.lean ====
section
/-! DEFINITION. Pair recovery (R463–R470): heartbeats, leases, suspicion, promotion, handback, and the pair commands. -/
namespace Sys2Proof.Machine

/-- The heartbeat engine works: the fabric has power, and the package has not announced that it stops. -/
def pairRuns (s : State) : Bool := decide (3 ≤ s.flt.phase ∧ s.flt.phase ≤ 7) && ! s.power.epo && ! s.flt.sentFailing

/-- HEARTBEAT_SEND: to the partner and each witness (R463). -/
def doHeartbeatSend (s : State) : State :=
  if ! pairRuns s then s
  else
    let h := pack [(1, b2n s.flt.heardPartner.isSome), (48, s.flt.heardPartner.getD 0), (16, s.mem.mirrorPerStack)]
    (s.partner :: s.man.witnesses).foldl (fun s n => sendCtrl s n 5 h) s

/-- A package whose lease is held again serves its mirrored parcels (R463). -/
def regainLease (s : State) : State :=
  if s.flt.selfFenced ∧ leaseHeld s then
    let s := s.modFlt fun f => { f with selfFenced := false }
    if s.flt.pair = 4 then setPair s 0 else s
  else s

/-- A package that this one is a witness of: the manifest links it to both members of the pair (R463). -/
def witnessOf (s : State) (node : Nat) : Bool :=
  let linked (n : Nat) : Bool := s.man.links.any fun l => l == (s.self, n) || l == (n, s.self)
  linked node && linked (partnerOf node)

/-- The partner can accept mirror writes again: the mirrors of the directory, the move table and the sequence contexts are brought
current (R100, R101, R203). -/
def partnerBack (s : State) : State :=
  let s := s.modMem fun m => { m with partnerDown := false, mirrorLost := false }
  let s := mirrorEntries s (s.mem.dir.map (·.1))
  (s.seqs.ctxs.map (·.1)).foldl mirrorSeqAll s

/-- The partner's heartbeat: the first one since reset, or one after a suspicion, makes PAIR normal (R464, R469). -/
def partnerBeat (s : State) (heard mirror : Nat) : State :=
  let first := s.flt.heardPartner.isNone
  let s := s.modFlt fun f => { f with
    heardPartner := some s.time.lfc
    partnerHeardUs := if s.time.lfc < heard + 16 then some s.time.lfc else f.partnerHeardUs
    partnerMirror := mirror }
  let normal (s : State) : State :=
    partnerBack (s.modFab fun f => { f with dead := f.dead.filter (· != s.partner) })
  let s := if first then
      pushEvent (normal (s.modFlt fun f => { f with pair := 0 })) 0x0303 (pack [(3, 6), (3, 0), (48, s.time.lfc)])
    else if s.flt.pair = 1 then setPair (normal s) 0 else s
  regainLease s

/-- HEARTBEAT. A witness answers with the frame in which it last heard the sender's partner. -/
def doHeartbeat (s : State) (node heard mirror : Nat) : State :=
  if ! pairRuns s ∨ 512 ≤ node ∨ node = s.self ∨ 15248 < mirror then s
  else if node = s.partner then partnerBeat s heard mirror
  else
    let s := s.modFlt fun f => { f with heardNode := AMap.set f.heardNode node s.time.lfc }
    if witnessOf s node then sendCtrl s node 6 (AMap.get 0 s.flt.heardNode (partnerOf node)) else s

/-- Enough witnesses for a majority (R463). Log: 180 DEDUCED. -/
def majority (s : State) (n : Nat) : Bool := decide (s.man.witnesses.length / 2 + 1 ≤ n)

/-- WITNESS_ACK. While the partner is suspect and a majority reports it alive, writes complete at the home alone (R465). -/
def doWitnessAck (s : State) (node heard : Nat) : State :=
  if ! pairRuns s ∨ ! s.man.witnesses.contains node then s
  else
    let s := s.modFlt fun f => { f with
      witnessAcks := AMap.set f.witnessAcks node s.time.lfc, ackHeard := AMap.set f.ackHeard node heard }
    let alive := s.man.witnesses.countP fun w => (AMap.find s.flt.ackHeard w).any fun h => decide (s.time.lfc < h + 32)
    let s := if s.flt.pair = 1 ∧ majority s alive then s.modMem fun m => { m with partnerDown := true } else s
    regainLease s

/-- LEASE_LAPSE: the package self-fences. -/
def doLeaseLapse (s : State) : State :=
  if leaseHeld s ∨ s.flt.selfFenced ∨ s.flt.phase < 3 then s
  else raise (setPair (s.modFlt fun f => { f with selfFenced := true }) 4) { die := 18, cls := 0x11, cause := 3, node := s.partner % 512 }

/-- PAIR_SUSPECT: three frames without a heartbeat (R464). -/
def doPairSuspect (s : State) : State :=
  match s.flt.heardPartner with
  | none => s
  | some h =>
    if s.flt.pair ≠ 0 ∨ s.time.lfc < h + 3 ∨ ! pairRuns s then s
    else
      let s := s.modFab fun f => { f with dead := if f.dead.contains s.partner ∨ 64 ≤ f.dead.length then f.dead else f.dead ++ [s.partner] }
      raise (setPair s 1) { die := 18, cls := 0x11, cause := 1, node := s.partner % 512 }

/-! ## Promotion (R467, R468) -/

/-- Install one entry of the partner's directory (R467). A parcel whose home is a mirror frame here becomes a guest when the mirror is
current; one homed in another package stays there; a guest of this package is entered already. A parcel with bytes that only the
partner or a lend region of its had, or in a mirror that is not current, is lost. A moving parcel keeps its tiles at its two homes by
its present bits, or is resident when both are here. Log: 67 DEDUCED. -/
def promoteEntry (s : State) (p : Nat) (e : DirEntry) : State :=
  let present := AMap.get [] s.mem.mirrorMoves p
  let s := s.modMem fun m => { m with mirrorDir := AMap.erase m.mirrorDir p, mirrorMoves := AMap.erase m.mirrorMoves p }
  let frame (l : Loc) : Bool := inPackage l s.self && decide (dataFrames s ≤ l.frame)
  let gone (l : Loc) : Bool := l.kind != 1 || l.holder == s.partner || (frame l && e.unmirrored)
  let here := inPackage e.home s.self && (e.st == 1 || inPackage e.src s.self)
  let unmirrored := e.unmirrored || frame e.home || (e.st == 2 && frame e.src)
  if e.st = 0 ∨ (entOf s s.partner p).st = 1 then s
  else if e.st = 3 ∨ gone e.home ∨ (e.st = 2 ∧ gone e.src) then setEntOf s s.partner p { e with st := 3, home := {}, src := {} }
  else if here then setEntOf s s.partner p { e with st := 1, src := {}, unmirrored := unmirrored }
  else if e.st = 1 then setEntOf s s.partner p e
  else (setEntOf s s.partner p { e with unmirrored := unmirrored }).modMem fun m => { m with
    moves := AMap.set m.moves (s.partner * 2 ^ 20 + p) { present := present } }

/-- What becomes of an own parcel that was homed at the partner, or moved from or to it: its mirror, here, becomes the home when that is
current, in a frame of this package; else it is lost. -/
def recoverOwn (s : State) (p : Nat) : State :=
  let e := s.ent p
  let at' (n : Nat) (l : Loc) : Bool := inPackage l n
  let whole := (at' s.partner e.home || at' s.self e.home) && (e.st == 1 || at' s.partner e.src || at' s.self e.src)
  let s := match (if e.mirror && ! e.unmirrored && whole then mirrorFrame s else none) with
    | some l => s.setEnt p { e with st := 1, src := {}, home := l, unmirrored := true }
    | none => s.setEnt p { e with st := 3, home := {}, src := {} }
  endMove serveHeld s p

/-- Events 0x0304, 14 contexts each (R447). -/
def reinstated (s : State) : Nat → List (Nat × Nat) → State
  | 0, _ => s
  | n + 1, l =>
    if l.isEmpty then s
    else
      let now := l.take 14
      let w := pack ([(9, s.partner), (4, now.length), (3, 0)] ++ now.flatMap fun x => [(14, x.1), (14, x.2)])
      reinstated (pushEvent s 0x0304 w) n (l.drop 14)

/-- Reinstate the partner's sequence contexts under new numbers (R223). Log: 69 DESIGN CHOICE. -/
def reinstateSeqs (s : State) : State :=
  let (s, l) := s.seqs.mirror.foldl (fun (s, l) x =>
    if 16384 ≤ s.seqs.ctxs.length then (s, l)
    else
      let c := freeSeqCtx s
      (s.setSeqCtx c { x.2 with res := x.2.len, migrating := false, mig := none },
       l ++ [(x.1, c)])) ((s, []) : State × List (Nat × Nat))
  reinstated (s.modSeq fun q => { q with mirror := [] }) l.length l

/-- The promotion completes: PAIR is serving both; guests that the partner homed for other packages, and own parcels there, are recovered
from their mirrors too. Log: 68 DEDUCED. -/
def promote (s : State) : State :=
  let s := s.modMem fun m => { m with partnerDown := true }
  let s := s.modFlt fun f => { f with servingPartner := true }
  let s := s.mem.mirrorDir.foldl (fun s x => if x.1 < 2 ^ 20 then promoteEntry s x.1 x.2 else promoteGuest s x.1) s
  let s := ((s.mem.dir.filter fun x => (x.2.st == 1 && inPackage x.2.home s.partner) ||
    (x.2.st == 2 && (inPackage x.2.home s.partner || inPackage x.2.src s.partner))).map (·.1)).foldl recoverOwn s
  let s := collNodeLost (reinstateSeqs s) s.partner
  let s := s.modFab fun f => { f with dead := f.dead.filter (· != s.partner) }
  raise (setPair s 3) { die := 18, cls := 0x11, cause := 2, node := s.partner % 512 }

/-- PROMOTION: a majority of at least three witnesses has heard nothing of the partner for 32 frames (R464, R469). -/
def doPromotion (s : State) (reports : List WitnessReport) : State :=
  match s.flt.heardPartner with
  | none => s
  | some h =>
    let silent := s.man.witnesses.countP fun w => reports.any fun r => r.node == w && decide (r.heard + 32 ≤ s.time.lfc)
    if s.flt.pair ≠ 1 ∨ s.time.lfc < h + 48 ∨ s.man.witnesses.length < 3 ∨ ! majority s silent ∨ ! leaseHeld s then s
    else promote (setPair s 2)

/-- FAILING: the partner has stopped serving (R466). Log: 181 DEDUCED. -/
def doFailing (s : State) (node : Nat) : State :=
  if node ≠ s.partner ∨ s.flt.heardPartner.isNone ∨ s.flt.pair = 2 ∨ s.flt.pair = 3 ∨ ! pairRuns s then s
  else promote (setPair s 2)

/-! ## Handback (R470) -/

/-- Hand an entry of the partner's directory back: a parcel homed here stays as a guest, another's entry goes (R470). -/
def handBack (s : State) (x : Nat × DirEntry) : State :=
  let s := sendMsg s s.partner msgHandback
    [(20, x.1 % 2 ^ 20), (256, regDir x.2), (4, x.2.home.region), (4, x.2.src.region)]
  if x.2.st = 1 ∧ inPackage x.2.home s.self then s
  else s.modMem fun m => { m with guests := AMap.erase m.guests x.1, moves := AMap.erase m.moves x.1 }

/-- Guests of the partner's node. -/
def partnerGuests (s : State) : List (Nat × DirEntry) := s.mem.guests.filter fun x => x.1 / 2 ^ 20 == s.partner && x.2.st != 0

/-- HANDBACK: at the frame that PAIR_RESTORE named. Log: 183 DEDUCED. -/
def doHandback (s : State) : State :=
  match s.flt.handbackAt with
  | none => s
  | some x =>
    if s.flt.pair ≠ 3 ∨ s.time.lfc < x then s
    else
      let s := s.modFlt fun f => { f with handbackAt := none, servingPartner := false }
      setPair ((partnerGuests s).foldl handBack (partnerBack s)) 5

/-- At a placement interval while PAIR is restoring, own parcels that the partner holds move back under BUDGET; with no guest of the
other node in either package, as this one sees it, PAIR is normal (R470). -/
def pairInterval (s : State) : State :=
  if s.flt.pair ≠ 5 ∨ ! pairRuns s then s
  else
    let away := (s.mem.dir.filter fun x => x.2.st != 0 && (inPackage x.2.home s.partner || (x.2.st == 2 && inPackage x.2.src s.partner))).map (·.1)
    let s := (away.filter fun p => (s.ent p).st == 1).foldl (fun s p =>
      if ! moveRoom s ∨ moveStopped s then s
      else match fullestStack s (List.range 32) with
        | some n => startMove (chargeMove s (s.ent p).owner) p (ownLoc s n (lowestFreeFrame s n)) [] 2 false
        | none => s) s
    if (partnerGuests s).isEmpty ∧ away.isEmpty then raise (setPair s 0) { die := 18, cls := 0x11, cause := 4, node := s.partner % 512 }
    else s

/-! ## Commands (R473) -/

/-- PAIR_GET. -/
def pairGet (s : State) (m : Master) : State :=
  serve s m 0x0303 fun s =>
    let ws := s.man.witnesses.filter fun w => (AMap.find s.flt.witnessAcks w).any fun f => decide (s.time.lfc < f + 16)
    respond s m 0x0303 OK ([(1, pairReads s), (8, s.flt.heardPartner.getD 0), (4, ws.length)] ++ (ws.map fun w => (2, w)) ++
      [(1, b2n (leaseHeld s))])

/-- PAIR_FAILOVER: the promotion ends with SERIALISER_HARDWARE_WAIT_END (R469). Log: 182 DEDUCED. -/
def pairFailover (s : State) (m : Master) (solo : Bool) : State :=
  serve s m 0x0304 fun s =>
    if m = .host then respond s m 0x0304 DENIED
    else
      let s := s.modFlt fun f => { f with solo := f.solo || solo, selfFenced := f.selfFenced && ! solo }
      if s.flt.heardPartner.isNone ∨ s.flt.servingPartner then respond s m 0x0304 OK
      else defer (setPair s 2) m 0x0304 OK

/-- The promotion that PAIR_FAILOVER asked for completes. -/
def failoverDone (s : State) : State := if s.flt.pair = 2 then promote s else s

/-- PAIR_RESTORE. -/
def pairRestore (s : State) (m : Master) (frame : Nat) : State :=
  serve s m 0x0305 fun s =>
    if s.flt.pair ≠ 3 ∨ frame < s.time.lfc + 2 then respond s m 0x0305 REFUSED
    else respond (s.modFlt fun f => { f with handbackAt := some frame, solo := false }) m 0x0305 OK

end Sys2Proof.Machine
end

