-- ==== Sys2Proof/Machine/Levee.lean ====
section
/-! DEFINITION. Levee (R448–R451): fencing each kind of unit, and returning a unit to service. -/
namespace Sys2Proof.Machine

/-! ## Groups and stacks (R448, R449) -/

/-- The first command of a list that has not completed. -/
def firstOpen (x : Group) (l : CmdList) : Nat :=
  let waiting := x.queues.flatMap fun q => if q.2.list = l.id then q.2.fifo ++ q.2.started.map (·.idx) else []
  min (waiting.foldl min l.next) (l.cmds.length - 1)

/-- The final record of a list on a fenced group: TIMEOUT, ABORTED, FINAL, and the first command not completed. COUNT and
DETAIL are free. Log: 163 DEDUCED. -/
def fencedRecord (s : State) (g : Nat) (l : CmdList) : State :=
  let i := firstOpen (s.grp g) l
  let c := cmdAt l i
  let (t, s) := s.drawTick
  let (v, s) := s.draw
  let w := recordWord l TIMEOUT (cOp c) (cQueue c) (cEngine c) i (bits v 0 32) 0 (bits v 32 256) false false false true s.time.lfc t 0 0
  let w := stampRecord w l.seqNo true
  let a := ringSlot l
  let own := decide (s.base + spadBase g ≤ a) && decide (a < s.base + spadBase g + 0x2000000)
  let s := if own then s else writeRecord s g l a w
  if cNotify c then pushRecord s l w else s

/-- Fence an engine group: its loaded lists end with final records; its scratchpad contents and counters are lost. -/
def fenceGroup (s : State) (g : Nat) : State :=
  if (s.grp g).fenced then s
  else
    let s := s.modGrp g fun x => { x with fenced := true }
    let s := ((s.grp g).lists.filter (! ·.checking)).foldl (fun s l => fencedRecord s g l) s
    let s := discardLists s g
    let s := s.modMem fun m => { m with lanes := m.lanes.filter fun i => match i with
      | .write t _ _ _ _ _ => t != .spad g
      | .inc k _ _ _ _ => k != g }
    let s := dropCopies s [g, 32 + g]
    s.modPower fun p => { p with gated := p.gated.filter (· != g) }

/-- A location in a stack of this package. -/
def onStack (s : State) (n : Nat) (l : Loc) : Bool := l.kind == 1 && l.holder == s.self && l.stack == n

/-- What becomes of an own parcel that has bytes in a fenced stack: promoted from the partner's mirror when that is current,
in a mirror frame whose number is free, else lost (R449). A parcel in motion within the package ends its move; one that moves
to or from another place is lost. Log: 65 DEDUCED. -/
def strandParcel (s : State) (p : Nat) : State :=
  let e := s.ent p
  let away := e.st == 2 && ! (inPackage e.home s.self && inPackage e.src s.self)
  let s := s.modMem fun m => { m with
    cells := Mem.clear m.cells (p * 0x200000) 0x200000
    poison := m.poison.filter fun a => a / 0x8000 != p
    upsets := m.upsets.filter fun x => x.1 / 0x8000 != p
    resyncing := m.resyncing.filter (· != p)
    lanes := m.lanes.filter fun i => match i with
      | .write _ _ key _ _ _ => key / 0x200000 != p
      | .inc _ _ _ _ _ => true }
  let s :=
    if e.mirror ∧ ! e.unmirrored ∧ ! away then
      let (v, s) := s.draw
      s.setEnt p { e with st := 1, home := { kind := 1, stack := v % 32, frame := v / 32 % 32768, holder := s.partner }, src := {}, unmirrored := true }
    else s.setEnt p { e with st := 3, home := {}, src := {} }
  let s := if away then (livePackages s).foldl (fun s n => sendMsg s n msgDrop [(20, p), (32, 0)]) (locDrop s s.self p) else s
  endMove serveHeld (mirrorEntry s p) p

/-- Fence a stack with its group: the parcels in it are promoted or lost, with event 0x0403 for the promoted ones.
Log: 71 DEDUCED. -/
def fenceStack (s : State) (n : Nat) : State :=
  if (s.stk n).fenced then s
  else
    let s := fenceGroup s n
    let s := s.modStk n fun x => { x with fenced := true, joined := false, evacuating := false, activating := false }
    let mine := (s.mem.dir.filter fun e => (e.2.st == 1 && onStack s n e.2.home) ||
      (e.2.st == 2 && (onStack s n e.2.home || onStack s n e.2.src))).map (·.1)
    let s := mine.foldl strandParcel s
    let promoted := mine.filter fun p => (s.ent p).st == 1
    let guests := (s.mem.guests.filter fun x => (x.2.st == 1 && onStack s n x.2.home) ||
      (x.2.st == 2 && (onStack s n x.2.home || onStack s n x.2.src))).map (·.1)
    let s := dropMirrorsOn (guests.foldl strandGuest s) n
    match promoted with
    | [] => s
    | p :: _ => pushEvent s 0x0403 (pack [(20, p), (32, promoted.length)])

/-! ## The other units -/

/-- A fenced port die: its 16 ports go down, and packets in its input buffers are lost. -/
def fencePortDie (s : State) (k : Nat) : State :=
  let s := (range' (k * 16) 16).foldl (fun s p =>
    if ! s.present p ∨ (s.prt p).st = 5 ∨ (s.prt p).st = 0 then s else portDown s p none) s
  s.modFab fun f => { f with inbuf := f.inbuf.filter fun q => ! (decide (k * 16 ≤ q.port) && decide (q.port < k * 16 + 16)) }

/-- A fenced hub die: its stacks and groups, its far-line copies, and the directory it held, which the next die rebuilds
(R450). -/
def fenceHub (s : State) (h : Nat) : State :=
  let s := (range' (h * 8) 8).foldl fenceStack s
  let s := s.modMem fun m => { m with far := m.far.filter fun c => c.hd != h }
  s.modFlt fun f => { f with directoryRebuild := f.directoryRebuild.filter (· != h) ++ [h] }

/-- The groups that a sequencer die serves: its own 16, and the other's when that one is fenced (R119). -/
def dieGroups (s : State) (d : Nat) : List Nat :=
  if s.isUnitFenced 8 (1 - d) then List.range 32 else range' (d * 16) 16

/-- The loads of a group that are between steps 1 and 3 of R133 answer BUSY with REASON 3 (R449). -/
def dropLoads (s : State) (g : Nat) : State :=
  let x := s.grp g
  let open' := x.loadReqs.filter fun r => ! x.lists.any fun l => l.checking && l.addr == r.2 % 2 ^ 56
  open'.foldl (fun s r => (endLoad s g (r.2 % 2 ^ 56) BUSY 3 0 0).modGrp g fun x => { x with loadReqs := x.loadReqs.erase r }) s

/-- The ATOMICs in flight of a group end with DENIED, performed or not (R449). -/
def dropAtomics (s : State) (g : Nat) : State :=
  (List.range 16).foldl (fun s q =>
    match queueList (s.grp g) 0 q with
    | none => s
    | some l =>
      (((s.grp g).que 0 q).started.filter fun r => r.opcode == 0x38 && r.st == 0 && (r.phase == 1 || r.phase == 4)).foldl (fun s r =>
        let s := s.modFab fun f => { f with tracks := f.tracks.map fun t => if t.owner == .cmd g 0 q r.idx then { t with owner := .none } else t }
        endRun s g 0 q r.idx DENIED fun r => { r with outstanding := 0, count := 4 * 2 ^ bits (cmdAt l r.idx) 452 2 }) s) s

/-- A fenced sequencer die: list loads in progress answer BUSY with REASON 3, and ATOMICs in flight end with DENIED
(R449). -/
def fenceSequencer (s : State) (d : Nat) : State := (dieGroups s d).foldl (fun s g => dropAtomics (dropLoads s g) g) s

/-- A fenced port leaves its sets; one fenced by UNIT_FENCE is held down, without a record of a downed port (R440, R448). -/
def fencePort (s : State) (p cause : Nat) : State :=
  let s := s.modPrt p fun x => { leaveSets x with heldDown := x.heldDown || cause == 0 }
  if (cause = 0 ∨ cause = 1 ∨ cause = 2) ∧ (s.prt p).st ≠ 5 ∧ s.present p then portDown s p none else s

/-- Instances of each class (R440). -/
def classCount (cls : Nat) : Nat :=
  [0, 128, 8, 4, 4, 32, 32, 4, 2, 1, 1, 16, 1, 4096, 512, 512, 1, 1, 1].getD cls 0

/-- Fence a unit (R448). A fenced crossbar die switches no packet. A port that is fenced for another cause is held down by
UNIT_FENCE, whose fence only UNIT_RETURN ends. Log: 214 DEDUCED. -/
def fenceUnit (s : State) (cls inst cause : Nat) : State :=
  if cls = 0 ∨ 9 < cls ∨ classCount cls ≤ inst then s
  else if s.isUnitFenced cls inst then
    (if cls = 1 ∧ cause = 0 then
      fencePort (s.modFlt fun f => { f with
        fenced := f.fenced.map fun u => if u.cls = 1 ∧ u.inst = inst then { u with cause := 0, block := false } else u }) inst 0
    else s)
  else
    let again := AMap.get 0 s.flt.returnedAt (cls * 65536 + inst)
    let block := bitAt (s.reactionOf cls inst cause) 3 && (again == 0 || decide (again + 15259 ≤ s.time.lfc + 1))
    let s := s.modFlt fun f => { f with fenced := f.fenced ++ [{ cls := cls, inst := inst, cause := cause, at' := s.time.lfc, block := block }] }
    if cls = 1 then fencePort s inst cause
    else if cls = 2 then fencePortDie s inst
    else if cls = 3 then confluenceFenced s inst
    else if cls = 5 then fenceStack s inst
    else if cls = 6 then fenceGroup s inst
    else if cls = 7 then fenceHub s inst
    else if cls = 8 then fenceSequencer s inst
    else if cls = 4 then s
    else s.modHost fun h => { h with wedged := true }

/-! ## Return (R451) -/

/-- A returned group: every granule unallocated, every tag none, every counter at its default. -/
def freshGroup (s : State) (g : Nat) : State :=
  let s := (dropCopies s [g, 32 + g]).modMem fun m => { m with
    cells := Mem.clear m.cells (spadBase g) 0x2000000
    upsets := m.upsets.filter fun x => ! (decide (spadBase g ≤ x.1 * 64) && decide (x.1 * 64 < spadBase g + 0x2000000))
    poison := m.poison.filter fun a => ! (decide (spadBase g ≤ a * 64) && decide (a * 64 < spadBase g + 0x2000000))
    tags := m.tags.filter fun t => ! (decide (spadBase g ≤ t.1 * 64) && decide (t.1 * 64 < spadBase g + 0x2000000)) }
  s.setGrp g { fmtAll := s.flt.calibrated, clock := if s.flt.calibrated then 2 else 1 }

/-- A returned stack rejoins with every frame free, and its group with it. -/
def freshStack (s : State) (n : Nat) : State :=
  freshGroup (s.modStk n fun _ => { joined := true }) n

/-- A fenced unit that R451 lets return. -/
def mayReturn (s : State) (cls inst : Nat) : Bool :=
  s.isUnitFenced cls inst && cls != 4 && cls != 9 && ! (cls == 6 && (s.stk inst).fenced)

/-- Return a unit to service as new; the frame is noted for R451's second. -/
def returnUnit (s : State) (cls inst : Nat) : State :=
  let s := s.modFlt fun f => { f with
    fenced := f.fenced.filter fun u => ! ((u.cls == cls && u.inst == inst) || (cls == 5 && u.cls == 6 && u.inst == inst) ||
      (cls == 7 && (u.cls == 5 || u.cls == 6) && u.inst / 8 == inst))
    returnedAt := AMap.set f.returnedAt (cls * 65536 + inst) (s.time.lfc + 1) }
  if cls = 1 then
    let s := s.modPrt inst fun x => { x with heldDown := false, accepted := false }
    if mayTrain s inst then s.setPrt inst { startTraining (s.prt inst) with tries := 0 } else s
  else if cls = 5 then freshStack s inst
  else if cls = 6 then freshGroup s inst
  else if cls = 7 then (range' (inst * 8) 8).foldl freshStack s
  else s

/-- Requests in the fabric's hands at a unit: DIRECTORY_REBUILD_DONE lets the held accesses go on (R450). -/
def doRebuildDone (s : State) (hd : Nat) : State :=
  s.modFlt fun f => { f with directoryRebuild := f.directoryRebuild.filter (· != hd) }

end Sys2Proof.Machine
end

