-- ==== Sys2Proof/Machine/Resets.lean ====
section
/-! DEFINITION. History entries (R444–R446), the log in flash (R481, R482), the resets and what each clears (R452–R454), and
bring-up (R456, R489). -/
namespace Sys2Proof.Machine

/-! ## The log and the history (R444–R446, R481, R482) -/

/-- Write one log record to flash; a full partition loses its oldest block of 2,048 records. -/
def logStore (s : State) (ty frame body : Nat) : State :=
  s.modMgmt fun m =>
    let log := if 524288 ≤ m.log.length then m.log.drop 2048 else m.log
    { m with log := log ++ [pack [(32, m.lseq), (8, ty), (8, 0), (48, frame), (32, m.boot), (896, body)]], lseq := (m.lseq + 1) % 2 ^ 32 }

/-- LOG_WRITE: the oldest buffered record goes to flash, unless a flash command of update occupies it. -/
def doLogWrite (s : State) : State :=
  match s.mgmt.logBuf with
  | [] => s
  | (ty, f, body) :: rest =>
    if s.mgmt.update.writing.isSome ∨ s.flt.phase < 2 then s
    else logStore (s.modMgmt fun m => { m with logBuf := rest }) ty f body

/-- The history entry of a capture (R445). -/
def entryWord (c : Capture) (seq lostBefore : Nat) : Nat :=
  pack [(16, seq), (48, c.frame), (14, c.tick), (2, 0), (8, c.cls), (16, c.inst), (8, c.cause), (8, c.reaction), (8, c.status),
        (8, min lostBefore 255), (64, c.addr), (12, c.ctx), (6, c.part), (9, c.node), (29, 0), (256, c.detail)]

/-- Write a history entry, with its events and its log record; the queue keeps 32. -/
def writeEntry (s : State) (c : Capture) : State :=
  let f := s.flt
  let seq := (f.seq + 1) % 65536
  let w := entryWord c seq f.lostBefore
  let s := s.modFlt fun f => { f with seq := seq, history := (f.history ++ [w]).drop (f.history.length + 1 - 32), lostBefore := 0 }
  let s := if f.lostBefore = 0 then s else pushEvent s 0x0602 (pack [(16, min f.lost 65535), (8, min f.lostBefore 255)])
  let s := if bitAt c.reaction 0 then pushEvent s 0x0601 (pack [(16, seq), (176, bits w 80 176)]) else s
  logAdd s 1 w

/-! ## What a reset of the package leaves (R454, R474) -/

/-- The package after power-on (`md` false) or RESET_N (`md` true, MD memory kept): what R454 and R474 keep, and what the
world outside holds — the straps, EPO_N, the sensors. -/
def resetState (s : State) (md : Bool) (straps : Straps) : State :=
  let m := s.mgmt
  let f := s.flt
  { pending := s.pending
    fresh := s.fresh
    straps := straps
    power := { epoPin := s.power.epoPin, epo := s.power.epoPin, tj := s.power.tj }
    flt := if md then
        { history := f.history, seq := f.seq, acked := f.acked, errPending := f.errPending, lost := f.lost, lostBefore := f.lostBefore
          savedCaptures := f.savedCaptures ++ f.captures }
      else {}
    mgmt := { heldEvents := if md then m.heldEvents else []
              log := m.log
              logBuf := if md then m.logBuf else []
              logDropped := if md then m.logDropped else 0
              lseq := m.lseq
              boot := m.boot
              manifestBytes := m.manifestBytes
              manifest := m.manifest
              flashReactions := m.flashReactions
              netSgmii := m.netSgmii
              netAddrs := m.netAddrs
              minSvn := m.minSvn
              revoked := m.revoked
              ownerKeys := m.ownerKeys
              anchors := m.anchors
              sensors := m.sensors
              tripLatch := m.tripLatch
              update := { flash := if m.update.writing.isSome then none else m.update.flash } } }

/-- A reset of the package, which then boots: PHASE 0x01 (R452, R456). A trip is left only below 90 °C (R431).
Log: 176 DEDUCED. -/
def resetPackage (s : State) (md : Bool) (straps : Straps) : State :=
  if s.power.trip ∧ 90 ≤ s.power.tj then s else setPhase (resetState (sendFailing s) md straps) 1

/-- Straps are sampled where their values exist (R15). -/
def strapsOk (role side slot : Nat) : Bool := decide (role < 2) && decide (side < 2) && decide (slot < 32)

/-- POWER_ON and SUPPLY_RESET. -/
def doPowerOn (s : State) (role side slot : Nat) : State :=
  if strapsOk role side slot then resetPackage s false { role := role, side := side, slot := slot } else s

/-- RESET_N. -/
def doResetN (s : State) (role side slot : Nat) : State :=
  if strapsOk role side slot then resetPackage s true { role := role, side := side, slot := slot } else s

/-- The PKG reaction acts as RESET_N (R439): the straps are sampled again (R15, R454). No row tells what the pins carry then, so that the
sample is a free value. Log: 241 DESIGN CHOICE. -/
def packageReaction (s : State) : State :=
  let (v, s) := s.draw
  resetPackage s true { role := v % 2, side := v / 2 % 2, slot := v / 4 % 32 }

/-! ## The HX function (R453, R454) -/

/-- What a reset of the HX function returns to its default: BAR0 registers of type RW, MSI-X, queues, host slots, the
translation cache, HOST_CAP, Sluice's keys with its session, which leaves STATE 2 while CONF is set. WEDGED stays (R408). -/
def resetFunction (s : State) : State :=
  let h := s.host
  let x := h.sluice
  let s : State := { s with host := { linkUp := h.linkUp, flit := h.flit, speed := h.speed, width := h.width, conf := h.conf
                                      wedged := h.wedged, hostParts := h.hostParts
                                      sluice := { st := if x.st = 0 then 0 else 2, session := x.session } } }
  let s := atsSwitch (s.modXlat fun t => { t with
    priTmo := 7, priEn := false, priStopped := false, accs := t.accs.filter fun a => a.owner != .bar2 && a.owner != .sluice }) false
  let s := s.modFab fun f => { f with tracks := f.tracks.map fun t =>
    if t.owner == .bar2 ∨ t.owner == .sluice then { t with owner := .none } else t }
  let s := s.modMbx fun m => { m with
    hostSlots := []
    arrivals := m.arrivals.filter fun a => a.master != .host
    hwWait := m.hwWait.map fun w => match w.ref with
      | some r => if r.master = .host then { w with ref := none } else w
      | none => w }
  let s := s.modPower fun p => { p with cfg := { p.cfg with hostCap := 3000 }, pendHost := none, d3hot := false }
  s.modMgmt fun m => { m with sessions := m.sessions.filter fun e => e.2 != spdmTransportHost }
where
  /-- The transport over PCI Express (R492). -/
  spdmTransportHost : Nat := 0

/-- PERST_N. -/
def doPerst (s : State) : State :=
  if s.flt.phase < 2 ∨ s.flt.phase = 8 then s else resetFunction (leaveStandby s)

/-! ## WARM_RESET (R453) -/

/-- Every operation with a node on the package aborts with NODE. -/
def abortAllNodes (s : State) : State := s.coll.nodes.foldl (fun s x => collAbortOp s x.1 3 0xFFF) s

/-- WARM_RESET: lists and collective operations abort and the HX function resets, during phase 0x07; the response waits for
the end. Log: 179 DEDUCED. -/
def warmReset (s : State) (m : Master) : State :=
  serve s m 0x0605 fun s =>
    let s := (List.range 32).foldl (fun s g =>
      if (s.grp g).fenced then s else (s.grp g).lists.foldl (fun s l => haltList s g l.id none true) s) s
    let s := defer (abortAllNodes s) m 0x0605 OK
    let s := resetFunction s
    let s := s.modMgmt fun x => { x with oagalLevel := 0, nonce := none, jtag := false, sessions := [] }
    setPhase (s.modFlt fun f => { f with prevPhase := f.phase }) 7

/-- The warm reset is complete: lists, queue states and counters are at their defaults (R454). -/
def warmEnd (s : State) : State :=
  if s.flt.phase ≠ 7 then s
  else
    let s := (List.range 32).foldl (fun s g => (discardLists s g).modGrp g fun x => { x with ctrs := [], queues := [], joins := [], lastLoad := {} }) s
    setPhase s s.flt.prevPhase

/-! ## Boot and bring-up (R456, R489) -/

/-- The role that the manifest gives this package in rack time (R412). -/
def manifestRole (s : State) : Nat :=
  if s.man.timekeeper = some s.self then 1 else if s.man.alternate = some s.self then 2 else 0

/-- The straps that disagree with the manifest's own entry: ROLE in bit 0, SIDE in bit 1, SLOT in bit 2. Log: 242 DESIGN CHOICE. -/
def strapsWrong (s : State) : Nat :=
  let own := s.man.own
  pack [(1, b2n (own.spine != (s.straps.role == 1))), (1, b2n (own.sideB != (s.straps.side == 1))), (1, b2n (own.node / 16 != s.tray))]

/-- Discovery compares the straps with the manifest, reports the fields that disagree, and takes the roles it names (R18, R412). -/
def readManifest (s : State) : State :=
  let s := s.modTime fun t => { t with role := manifestRole s, roleSince := t.lfc }
  if strapMismatch s then raise s { die := 18, cls := 0x12, cause := 1, node := s.man.own.node % 512, detail := strapsWrong s } else s

/-- The digests that run after a boot: one for each component, in every die it runs in. Instance 0xFF stands for all. -/
def imageDigests (i : Image) : AMap Nat := i.comps.foldl (fun t c => AMap.set t (c.id * 256 + 255) c.digest) []

/-- The image in flash passes Headwater's check of its signature, key and security version (R486–R488). -/
def bootable (s : State) (i : Image) : Bool := decide (s.mgmt.minSvn ≤ i.svn) && ! s.mgmt.revoked.contains i.keyPair

/-- HEADWATER_BOOT: steps 1 to 5 of R489. A failed step enters recovery with a boot record naming it. -/
def doBoot (s : State) (selfTest : Bool) : State :=
  if s.flt.phase ≠ 1 then s
  else
    let dropped := s.mgmt.logDropped
    let s := s.modMgmt fun m => { m with boot := (m.boot + 1) % 2 ^ 32, logDropped := 0 }
    let recovery (s : State) (step : Nat) : State := setPhase (logAdd s 6 (pack [(8, step), (32, dropped)])) 8
    if ! selfTest then recovery s 1
    else
      let buf := s.mgmt.logBuf
      let s := buf.foldl (fun s r => logStore s r.1 r.2.1 r.2.2) (s.modMgmt fun m => { m with logBuf := [] })
      let caps := s.flt.savedCaptures
      let s := caps.foldl writeEntry (s.modFlt fun f => { f with savedCaptures := [], reactions := s.mgmt.flashReactions })
      let s := if s.mgmt.tripLatch then
          writeEntry (s.modMgmt fun m => { m with tripLatch := false })
            { die := 18, cls := 0x0C, cause := 4, reaction := s.reactionOf 0x0C 0 4, frame := s.time.lfc }
        else s
      match s.mgmt.update.flash with
      | none => recovery s 3
      | some i =>
        if ! bootable s i then recovery s 3
        else
          let s := s.modUpd fun u => { u with running := i, digests := imageDigests i, skipped := [] }
          let s := logAdd s 6 (pack [(8, 0), (32, dropped)])
          let s := readManifest (setPhase s 2)
          if s.power.epo then setPhase (s.modFlt fun f => { f with prevPhase := 2 }) 9 else s

/-- Every stack has joined or been fenced: phase 0x05 (R456). -/
def stacksDone (s : State) : State :=
  if s.flt.phase = 4 ∧ (List.range 32).all fun n => (s.stk n).joined || (s.stk n).fenced || decide (3 ≤ (s.stk n).trainFails) then
    setPhase s 5
  else s

/-- STACK_JOIN: a stack passes training, or fails; three failures fence it (R456). Log: 72 DEDUCED. -/
def doStackJoin (s : State) (n : Nat) (ok : Bool) : State :=
  let k := s.stk n
  if 32 ≤ n ∨ s.flt.phase < 2 ∨ 5 < s.flt.phase ∨ k.joined ∨ k.fenced ∨ s.power.epo then s
  else if ok then
    let s := s.modStk n fun k => { k with joined := true }
    stacksDone (if s.flt.phase < 4 then setPhase s 4 else s)
  else
    let s := s.modStk n fun k => { k with trainFails := k.trainFails + 1 }
    if k.trainFails + 1 < 3 then s
    else
      let s := raise s { die := dieOf 5 n, cls := 5, inst := n, cause := 1 }
      stacksDone (if s.flt.phase < 4 ∧ (List.range 32).all fun n => (s.stk n).fenced || decide (3 ≤ (s.stk n).trainFails) then setPhase s 4 else s)

/-- CALIBRATION_COMPLETE: 850 MHz and every format (R140, R456). -/
def doCalibrated (s : State) : State :=
  if s.flt.phase ≠ 5 then s
  else
    let s := (List.range 32).foldl (fun s g => s.modGrp g fun x => { x with fmtAll := true, clock := 2 }) s
    setPhase (s.modFlt fun f => { f with calibrated := true }) 6

end Sys2Proof.Machine
end

