-- ==== Sys2Proof/Machine/Discovery.lean ====
section
/-! DEFINITION. Signed objects (R484–R487), the manifest and discovery (R458–R462), and the commands of R473 for topology
and partitions. -/
namespace Sys2Proof.Machine

/-! ## Signed objects (R484–R487) -/

/-- Bytes of a signature block (R485). -/
def sigLen : Nat := 16736

/-- The key identifiers a signature block names. -/
def sigKeys (block : Bytes) : Nat × Nat := (leNat (slice block 72 16), leNat (slice block 88 16))

/-- A signature block verifies over the bytes it covers, for a TYPE and the pairs trusted for it (R486). -/
def verifies (ty : Nat) (covered block : Bytes) (trusted : Nat × Nat → Bool) : Bool :=
  let w := leNat (slice block 0 128)
  let rcd := bits w 64 512
  let (rsa, slh) := sigKeys block
  block.length == sigLen && bits w 0 32 == 0x42474953 && bits w 32 8 == 1 && bits w 40 24 == 0 && bits w 832 192 == 0 &&
  bits rcd 0 32 == ty && bits rcd 32 64 == covered.length && bits rcd 96 384 == Config.sha384 covered && bits rcd 480 32 == 0 &&
  trusted (rsa, slh) && Config.rsaVerifies rsa rcd (leNat (slice block 128 384)) && Config.slhVerifies slh rcd (leNat (slice block 512 16224))

/-- The body and the signature block of an object. -/
def splitObject (d : Bytes) : Bytes × Bytes := (d.take (d.length - sigLen), d.drop (d.length - sigLen))

def objectOk (ty : Nat) (d : Bytes) (trusted : Nat × Nat → Bool) : Bool :=
  let (body, block) := splitObject d
  decide (sigLen ≤ d.length) && verifies ty body block trusted

/-- The owner pair is trusted for manifests, credential changes and tokens (R487). -/
def ownerTrust (s : State) (k : Nat × Nat) : Bool := s.mgmt.ownerKeys == some k

/-! ## Acceptance (R459–R461) -/

/-- DISC_DONE is set once every present port is accepted, quarantined or missing (R459). Log: 171 DEDUCED. -/
def latchDisc (s : State) : State :=
  if s.flt.discDone ∨ ! discoveryDone s then s else s.modFlt fun f => { f with discDone := true }

/-- IDENTITY_BLOCK: the operands are what the signed body holds (log entry 6). Log: 192 DEDUCED. -/
def doIdentity (s : State) (p node peer version : Nat) (object : Bytes) : State :=
  let x := s.prt p
  match s.manPort p with
  | none => s
  | some e =>
    if 128 ≤ p ∨ e.endPoint ∨ x.st ≠ 2 ∨ x.accepted ∨ x.quarantined ∨ s.flt.phase < 2 ∨ s.flt.phase = 8 then s
    else
      let good := objectOk 3 object (fun k => Config.identityPair k.1 k.2) && node == e.node && peer == e.port && version == s.man.version
      latchDisc (if good then acceptPort s p else quarantinePort s p node peer)

/-- PORT_MISSING: not accepted within 2 s of its release (R461). -/
def doPortMissing (s : State) (p : Nat) : State :=
  let x := s.prt p
  match s.manPort p with
  | none => s
  | some e =>
    if 128 ≤ p ∨ x.accepted ∨ x.quarantined ∨ x.missing ∨ x.heldDown ∨ x.down ∨ x.heldEpo ∨ s.flt.phase < 2 ∨ s.flt.phase = 8 then s
    else
      let s := s.modPrt p fun x => leaveSets { x with missing := true }
      let s := raise s { die := dieOf 1 p, cls := 1, inst := p, cause := 4, node := e.node % 512 }
      latchDisc (pushEvent s 0x0302 (pack [(7, p), (9, e.node), (7, e.port), (8, min (livePorts s).length 255)]))

/-- A port trains from step 1 and is discovered again; a port no longer listed is powered off (R24, R460). -/
def rediscover (s : State) (p : Nat) : State :=
  let s := s.modFlt fun f => { f with
    fenced := f.fenced.filter fun u => ! (u.cls == 1 && u.inst == p && u.cause != 0), discDone := false }
  let s := s.modPrt p fun x => leaveSets { x with quarantined := false, accepted := false, missing := false }
  if mayTrain s p then s.setPrt p { startTraining (s.prt p) with tries := 0 }
  else s.modPrt p fun x => { x with st := if s.present p then x.st else 0 }

/-- QUARANTINE_CLEAR (R460). Log: 172 DEDUCED. -/
def quarantineClear (s : State) (m : Master) (p : Nat) : State :=
  serve s m 0x0302 fun s =>
    if 128 ≤ p ∨ ! s.present p then respond s m 0x0302 REFUSED
    else respond (if (s.prt p).quarantined then latchDisc (rediscover s p) else s) m 0x0302 OK

/-! ## The manifest (R458, R473) -/

/-- Put a verified manifest in force: discovery is repeated on the ports whose entries change, those in service going down
first, and on those quarantined. The change of measurement 11 is logged (R493). Log: 215 DEDUCED. -/
def useManifest (s : State) (d : Bytes) : State :=
  let new := Config.manifestOf (splitObject d).1
  let changed := (List.range 128).filter fun p =>
    AMap.find s.man.ports p != AMap.find new.ports p || (s.prt p).quarantined
  let s := changed.foldl (fun s p => if (s.prt p).accepted then portDown s p none else s) s
  let s := logAdd (s.modMgmt fun m => { m with manifest := some new, manifestBytes := d, manifestFrags := [] }) 4 5
  readManifest (latchDisc (changed.foldl rediscover s))

/-- MANIFEST_LOAD: fragments in order; the last one verifies the whole. Log: 174 DEDUCED. -/
def manifestLoad (s : State) (m : Master) (index count : Nat) (fragment : Bytes) : State :=
  serve s m 0x0300 fun s =>
    let got := if index = 0 then [] else s.mgmt.manifestFrags
    if s.mgmt.ownerKeys.isNone ∨ count = 0 ∨ count ≤ index ∨ 4032 < fragment.length ∨ got.length ≠ index then respond s m 0x0300 REFUSED
    else
      let all := got ++ [fragment]
      if index + 1 < count then respond (s.modMgmt fun g => { g with manifestFrags := all }) m 0x0300 OK
      else
        let d := all.flatMap id
        if objectOk 2 d (ownerTrust s) then defer (useManifest s d) m 0x0300 OK
        else defer (s.modMgmt fun g => { g with manifestFrags := [] }) m 0x0300 REFUSED

/-- A port's state as DISCOVERY_GET tells it, in the order of R473's text. Log: 173 DEDUCED. -/
def portState (s : State) (p : Nat) : Nat :=
  let x := s.prt p
  if ! s.present p then 5
  else if x.heldDown ∨ x.down ∨ x.heldEpo then 4
  else if x.quarantined then 2
  else if x.missing then 3
  else if x.accepted then 1 else 0

/-- DISCOVERY_GET. -/
def discoveryGet (s : State) (m : Master) (first count : Nat) : State :=
  serve s m 0x0301 fun s =>
    if count < 1 ∨ 100 < count ∨ 128 < first + count then respond s m 0x0301 REFUSED
    else respond s m 0x0301 OK ((4, count) :: (range' first count).flatMap fun p =>
      [(1, portState s p), (2, (s.prt p).peerNode), (1, (s.prt p).peerPort)])

/-! ## Partitions (R462, R473) -/

/-- PART_START. -/
def partStart (s : State) (m : Master) (part : Nat) : State :=
  serve s m 0x0202 fun s =>
    if 63 < part then respond s m 0x0202 REFUSED
    else if ! mayManage s m part then respond s m 0x0202 DENIED
    else
      let c := partCheck s
      let s :=
        if c = MISMATCH ∧ ! strapMismatch s then raise s { die := 18, cls := 0x12, cause := 2, node := s.partner % 512, part := part }
        else if c = REFUSED then raise s { die := 18, cls := 0x12, cause := 3, part := part }
        else s
      respond (if c = OK ∧ ! s.flt.parts.contains part then s.modFlt fun f => { f with parts := f.parts ++ [part] } else s) m 0x0202 c

/-- An object of a partition exists. -/
def partInUse (s : State) (part : Nat) : Bool :=
  (s.xlat.ctxs.any fun c => c.2.valid && c.2.part == part) || (s.groups.any fun g => g.2.lists.any fun l => l.part == part) ||
  (s.seqs.ctxs.any fun c => dPart c.2.desc.toNat == part) || (s.coll.defs.any fun d => d.2.part == part) ||
  (s.coll.nodes.any fun n => n.2.part == part)

/-- PART_STOP. -/
def partStop (s : State) (m : Master) (part : Nat) : State :=
  serve s m 0x0203 fun s =>
    if 63 < part then respond s m 0x0203 REFUSED
    else if ! mayManage s m part then respond s m 0x0203 DENIED
    else if partInUse s part then respond s m 0x0203 BUSY
    else respond (s.modFlt fun f => { f with parts := f.parts.filter (· != part) }) m 0x0203 OK

end Sys2Proof.Machine
end

