-- ==== Sys2Proof/Machine/Faults.lean ====
section
/-! DEFINITION. Faults: capture and reaction (R439, R444), the history commands (R441, R443, R446, R472), and fencing and
return by command (R451). -/
namespace Sys2Proof.Machine

/-! ## Capture and reaction (R439, R444) -/

/-- One fault: it is captured while its die's register is free, else its record is lost; its reaction takes effect.
Log: 166 DEDUCED. -/
def takeFault (s : State) (c : Capture) : State :=
  let r := s.reactionOf c.cls c.inst c.cause
  let (t, s) := s.drawTick
  let c := { c with reaction := r, tick := t }
  let s := s.modFlt fun f =>
    if f.captures.any fun x => x.die == c.die then
      { f with lost := f.lost + 1, lostBefore := f.lostBefore + 1, errPending := f.errPending || bitAt r 2 }
    else { f with captures := f.captures ++ [c] }
  let s := if bitAt r 5 then fenceUnit s c.cls c.inst c.cause else s
  if bitAt r 4 then packageReaction s else s

/-- Faults raised past the last round find their dies' registers full: their records are lost (R444). -/
def loseRaised (s : State) : State :=
  match s.flt.raised with
  | [] => s
  | l => s.modFlt fun f => { f with raised := [], lost := f.lost + l.length, lostBefore := f.lostBefore + l.length }

/-- Take the faults that a step has raised, and those that taking them raises. Log: 167 DESIGN CHOICE. -/
def settleN : Nat → State → State
  | 0, s => loseRaised s
  | n + 1, s =>
    match s.flt.raised with
    | [] => s
    | l => settleN n (l.foldl takeFault (s.modFlt fun f => { f with raised := [] }))

/-- A step ends with its faults taken. -/
def settle (s : State) : State := settleN 4 s

/-- A class and instance that exist (R440). Log: 169 DEDUCED. -/
def sourceOk' (cls inst : Nat) : Bool := decide (1 ≤ cls ∧ cls ≤ 18) && (decide (inst < classCount cls) || (cls == 0x0D && inst == 0xFFFF))

/-- Causes of a class (R440). -/
def causeCount (cls : Nat) : Nat := [0, 4, 2, 1, 2, 4, 3, 2, 2, 2, 2, 2, 4, 3, 3, 1, 2, 4, 3].getD cls 0

/-- The die of a fault that FAULT_RAISE or FAULT_INJECT names: for an access, the port die, hub die or HX is not told, and
hub die 0 stands for it. Log: 168 DEDUCED. -/
def raiseDie (cls inst : Nat) : Nat := if cls = 0x0D ∨ cls = 0x0E then 12 else dieOf cls inst

/-- FAULT_RAISE: fault sources are enabled once Headwater has started Ibfen (R444). A trip is recorded at the next boot. -/
def doFaultRaise (s : State) (cls inst cause status addr ctx part node : Nat) : State :=
  if ! sourceOk' cls inst ∨ cause = 0 ∨ causeCount cls < cause ∨ s.flt.phase < 2 ∨ (cls = 0x0C ∧ cause = 4) ∨ (cls = 1 ∧ ! s.present inst) then s
  else raise s { die := raiseDie cls inst, cls := cls, inst := inst, cause := cause, status := status % 256, addr := addr % 2 ^ 56
                 ctx := ctx % 4096, part := part % 64, node := node % 512 }

/-- HISTORY_ENTRY_WRITE: Ibfen handles a captured fault, those with NMI first (R439, R444). -/
def doEntryWrite (s : State) : State :=
  if s.flt.phase < 2 ∨ s.flt.phase = 7 ∨ s.flt.phase = 8 ∨ s.mgmt.halted then s
  else match (s.flt.captures.find? fun c => bitAt c.reaction 1).orElse fun _ => s.flt.captures.head? with
  | none => s
  | some c => writeEntry (s.modFlt fun f => { f with captures := f.captures.erase c }) c

/-- NO_PROGRESS_TIMEOUT (R440): an engine with ready work made no progress for 100 ms. -/
def doNoProgress (s : State) (g e : Nat) : State :=
  if 32 ≤ g ∨ 4 ≤ e ∨ ! groupRuns s g ∨ ! (List.range 16).any (queueReady (s.grp g) e) then s
  else raise s { die := dieOf 6 g, cls := 6, inst := g, cause := 2 }

/-- WATCHDOG_EXPIRY and LOCKSTEP_MISMATCH (R440); mismatches go undetected during a handover (R500). -/
def doMdFault (s : State) (cause : Nat) : State :=
  if s.flt.phase < 2 ∨ (cause = 1 ∧ s.mgmt.update.handover) then s else raise s { die := 18, cls := 0x0A, cause := cause }

/-! ## Commands (R472) -/

/-- FAULT_GET: the entries from a SEQ on. -/
def faultGet (s : State) (m : Master) (first : Nat) : State :=
  serve s m 0x0600 fun s =>
    if 65535 < first then respond s m 0x0600 REFUSED
    else
      let l := s.flt.history.filter fun h => decide ((bits h 0 16 + 65536 - first) % 65536 < 32768)
      respond s m 0x0600 OK ((4, l.length) :: (l.map fun h => (64, h)) ++ [(2, s.flt.seq), (2, min s.flt.lost 65535)])

/-- Bits fixed for every cause of a class. -/
def classFixed (cls : Nat) : Nat := if cls = 1 ∨ cls = 6 then 0 else fixedReaction cls 1

/-- The byte gives each cause of the class its default reaction. -/
def isDefault (cls r : Nat) : Bool := (range' 1 (causeCount cls)).all fun k => (r ||| fixedReaction cls k) == defaultReaction cls k

/-- FAULT_SET (R440, R441): the reaction takes effect, and its record waits for the flash. Log: 164 DEDUCED. -/
def faultSet (s : State) (m : Master) (cls inst r : Nat) : State :=
  serve s m 0x0601 fun s =>
    if ! (inst = 0xFFFF ∧ 1 ≤ cls ∧ cls ≤ 18 ∨ sourceOk' cls inst) ∨ 63 < r ∨ (bitAt r 5 ∧ 9 < cls) ∨ (bitAt r 3 ∧ (cls = 4 ∨ cls = 9 ∨ cls = 0x0A)) ∨
        (r &&& classFixed cls) ≠ classFixed cls then respond s m 0x0601 REFUSED
    else
      let key := cls * 65536 + inst
      let wide := AMap.has s.flt.reactions (cls * 65536 + 0xFFFF)
      let drop := isDefault cls r && (inst == 0xFFFF || ! wide)
      let s := s.modFlt fun f =>
        let t := if inst = 0xFFFF then f.reactions.filter fun e => e.1 / 65536 != cls else AMap.erase f.reactions key
        { f with reactions := if drop then t else AMap.set t key r, toFlash := AMap.set f.toFlash key (if drop then none else some r) }
      respond s m 0x0601 OK

/-- FAULT_RECORD_FLASH: the oldest waiting reaction goes to the boot configuration, unless an update occupies the flash
(R441). -/
def doRecordFlash (s : State) : State :=
  match s.flt.toFlash with
  | [] => s
  | (k, r) :: rest =>
    if s.mgmt.update.writing.isSome then s
    else
      let s := s.modMgmt fun m =>
        let t := if k % 65536 = 0xFFFF then m.flashReactions.filter fun e => e.1 / 65536 != k / 65536 else AMap.erase m.flashReactions k
        { m with flashReactions := match r with | some r => AMap.set t k r | none => t }
      s.modFlt fun f => { f with toFlash := rest }

/-- FAULT_ACK (R443). -/
def faultAck (s : State) (m : Master) (seq : Nat) : State :=
  serve s m 0x0602 fun s =>
    if 65535 < seq then respond s m 0x0602 REFUSED
    else respond (s.modFlt fun f => { f with acked := seq, errPending := false }) m 0x0602 OK

/-- UNIT_FENCE: an entry with cause 0, whose reaction fences the unit. -/
def unitFence (s : State) (m : Master) (cls inst : Nat) : State :=
  serve s m 0x0603 fun s =>
    if cls < 1 ∨ 9 < cls ∨ classCount cls ≤ inst ∨ (cls = 1 ∧ ! s.present inst) then respond s m 0x0603 REFUSED
    else defer (raise s { die := dieOf cls inst, cls := cls, inst := inst, cause := 0 }) m 0x0603 OK

/-- UNIT_RETURN (R451): the block reset and self-test end with SERIALISER_HARDWARE_WAIT_END. Log: 170 DEDUCED. -/
def unitReturn (s : State) (m : Master) (cls inst : Nat) (selfTest : Bool) : State :=
  serve s m 0x0604 fun s =>
    if cls = 5 ∧ (s.stk inst).activating then respond s m 0x0604 BUSY
    else if ! mayReturn s cls inst then respond s m 0x0604 REFUSED
    else defer (if selfTest then returnUnit s cls inst else s) m 0x0604 (if selfTest then OK else REFUSED)

/-- BLOCK_RETURN: 10 ms after fencing with BLOCK, Ibfen returns the unit once (R451). -/
def doBlockReturn (s : State) (cls inst : Nat) (selfTest : Bool) : State :=
  match s.flt.fenced.find? fun u => u.cls == cls && u.inst == inst with
  | none => s
  | some u =>
    if ! u.block ∨ s.time.lfc < u.at' + 152 ∨ s.flt.phase < 2 ∨ ! mayReturn s cls inst then s
    else
      let s := s.modFlt fun f => { f with fenced := f.fenced.map fun v => if v = u then { v with block := false } else v }
      if selfTest then returnUnit s cls inst else s

/-- Faults of a class, one after another. -/
def injectN (s : State) (c : Capture) : Nat → State
  | 0 => s
  | n + 1 => injectN (raise s c) c n

/-- FAULT_INJECT while test access is unlocked, at Oagal level 2 or above (R507). -/
def faultInject (s : State) (m : Master) (cls inst cause count : Nat) : State :=
  serve s m 0x0606 fun s =>
    if ! sourceOk' cls inst ∨ cause = 0 ∨ causeCount cls < cause ∨ count < 1 ∨ 255 < count then respond s m 0x0606 REFUSED
    else if s.mgmt.oagalLevel < 2 then respond s m 0x0606 DENIED
    else respond (injectN s { die := raiseDie cls inst, cls := cls, inst := inst, cause := cause } count) m 0x0606 OK

end Sys2Proof.Machine
end

