-- ==== Sys2Proof/Machine/Frame.lean ====
section
/-! DEFINITION. The frame boundary: what FRAME_START does to time, power, ports and routing. -/
namespace Sys2Proof.Machine

/-- FRAME_START: the local frame count advances (R413), Weir sets the limit (R422), ports rejoin their sets (R344), and
shares, meters and drop profiles take effect (R336, R354). -/
def doFrameStart (s : State) (power : Nat) : State :=
  if s.flt.phase = 0 then s else routeFrame (joinPorts (powerFrame (timeFrame s) power))

/-- PLACEMENT_INTERVAL (R92), with the return of the partner's guests after a handback (R470). -/
def doInterval (s : State) : State :=
  let t := doPlacementInterval s
  if t.mem.lastInterval = s.mem.lastInterval then t else pairInterval t

end Sys2Proof.Machine
end

