-- ==== Sys2Proof/Machine/Mgmt.lean ====
section
/-! DEFINITION. The management die (R474–R509): sensors and the log, the management network, ownership, SPDM, measurements,
updates and their activation. -/
namespace Sys2Proof.Machine

/-- Commands of groups 0x07 and 0x08 are the management network's (R509). -/
def serveMgmt (s : State) (m : Master) (code : Nat) (f : State → State) : State :=
  serve s m code fun s => if m = .host then respond s m code DENIED else f s

/-! ## Sensors and the log (R480–R482) -/

/-- Readings from an id on: what was last sampled, else a free value, since no command brings it. Log: 162 DEDUCED. -/
def readSensors (s : State) : Nat → Nat → State × List Nat
  | _, 0 => (s, [])
  | i, n + 1 =>
    let (v, s) : Nat × State := match AMap.find s.mgmt.sensors i with
      | some v => (v, s)
      | none => let (v, s) := s.draw; (v % 65536, s)
    let (s, l) := readSensors s (i + 1) n
    (s, v :: l)

/-- The plate sensors as THERMAL_SAMPLE reads them, in units of 0.125 °C. -/
def notePlates (s : State) (plates : List Nat) : State :=
  s.modMgmt fun m => { m with sensors := (plates.zipIdx.filter fun x => decide (x.2 < 8)).foldl (fun t x => AMap.set t (88 + x.2) (x.1 * 8 % 65536)) m.sensors }

/-- SENSOR_GET. -/
def sensorGet (s : State) (m : Master) (first count : Nat) : State :=
  serve s m 0x0110 fun s =>
    if count < 1 ∨ 176 < count ∨ 176 < first + count then respond s m 0x0110 REFUSED
    else
      let (s, l) := readSensors s first count
      respond s m 0x0110 OK ((4, count) :: l.map fun v => (2, v))

/-- Log records in flash from an LSEQ on. -/
def logFrom (s : State) (first count : Nat) : List Nat := (s.mgmt.log.filter fun r => decide (first ≤ bits r 0 32)).take count

/-- LOG_READ. -/
def logRead (s : State) (m : Master) (first count : Nat) : State :=
  serve s m 0x0111 fun s =>
    if count < 1 ∨ 31 < count ∨ 2 ^ 32 ≤ first then respond s m 0x0111 REFUSED
    else
      let l := logFrom s first count
      let oldest := (s.mgmt.log.head?.map fun r => bits r 0 32).getD s.mgmt.lseq
      let newest := (s.mgmt.log.getLast?.map fun r => bits r 0 32).getD s.mgmt.lseq
      respond s m 0x0111 OK ((4, l.length) :: (l.map fun r => (128, r)) ++ [(4, oldest), (4, newest)])

/-- A security record (TYPE 4), or a session record of Oagal (TYPE 5). -/
def logSecurity (s : State) (what : Nat) : State := logAdd s 4 what

/-! ## The management network (R476–R479) -/

/-- The management port is served (R389, R456, R490). -/
def netUp (s : State) : Bool := decide (2 ≤ s.flt.phase)

/-- MGMT_CONNECTION_OPEN: TLS 1.3 only; a chain to an anchor once one is installed; at most four. -/
def doConnOpen (s : State) (tls13 : Bool) (chain : Bytes) : State :=
  let m := s.mgmt
  if ! netUp s ∨ ! tls13 ∨ (! m.anchors.isEmpty ∧ ! m.anchors.any (Config.chainsTo chain)) ∨ 4 ≤ m.conns.length then s
  else
    let used := m.conns.map fun c => c.1 - 1
    let id := 1 + firstFree used.length 0 used
    s.modMgmt fun m => { m with conns := AMap.set m.conns id { out := m.heldEvents.map fun e => (3, 0, leBytes 64 e) }, heldEvents := [] }

/-- MGMT_CONNECTION_CLOSE: its finished slots are freed; responses still to come will be discarded. -/
def doConnClose (s : State) (c : Nat) : State :=
  if ! AMap.has s.mgmt.conns c then s
  else
    let s := s.modMgmt fun m => { m with conns := AMap.erase m.conns c }
    s.modMbx fun m => { m with mgmtSlots := m.mgmtSlots.filter fun x => ! (x.2.conn == c && x.2.st == 3) }

/-- A request frame with a reserved header bit set, which makes it REFUSED (R5, R387). -/
def spoilFrame (f : Bytes) : Bytes := leBytes 32 (leNat (slice f 0 32) ||| 2 ^ 45) ++ f.drop 32

/-- MGMT_MESSAGE. A request whose prefix has a reserved bit set is REFUSED (R5, R478). Log: 143 DEDUCED. -/
def doMessage (s : State) (c kind slot rsvd length : Nat) (body : Bytes) : State :=
  if ! netUp s ∨ ! AMap.has s.mgmt.conns c ∨ 15 < slot ∨ body.length ≠ length then s
  else if kind = 0 ∨ 5 < kind ∨ ((kind = 1 ∨ kind = 2) ∧ length ≠ 4096) ∨ (kind = 3 ∧ length ≠ 64) then doConnClose s c
  else if kind ≠ 1 then s
  else
    let x : Slot := AMap.get {} s.mbx.mgmtSlots slot
    if x.st = 1 ∨ x.st = 2 then s.modMbx fun m => { m with ignored := m.ignored + 1 }
    else s.modMbx fun m => { m with
      mgmtSlots := AMap.set m.mgmtSlots slot { frame := if rsvd = 0 then body else spoilFrame body, st := 1, conn := c }
      arrivals := m.arrivals ++ [{ master := .mgmt, slot := slot, gen := s.host.sluice.gen }] }

/-! ## Ownership and credentials (R488, R491) -/

/-- A credential is accepted: the claim code before there is an owner, a signed object of TYPE 6 afterwards. -/
def authOk (s : State) : CredAuth → Bool
  | .claim code => s.mgmt.ownerKeys.isNone && code == Config.claimCode
  | .signed o => s.mgmt.ownerKeys.isSome && objectOk 6 o (ownerTrust s)

/-- OWNER_SET. -/
def ownerSet (s : State) (m : Master) (auth : CredAuth) (rsa slh : Bytes) : State :=
  serveMgmt s m 0x0800 fun s =>
    if ! authOk s auth then defer s m 0x0800 DENIED
    else defer (logSecurity (s.modMgmt fun g => { g with ownerKeys := some (Config.keyId rsa, Config.keyId slh) }) 1) m 0x0800 OK

/-- CRED_SET. -/
def credSet (s : State) (m : Master) (auth : CredAuth) (anchors : List Bytes) : State :=
  serveMgmt s m 0x0801 fun s =>
    if anchors.isEmpty ∨ 4 < anchors.length then respond s m 0x0801 REFUSED
    else if ! authOk s auth then defer s m 0x0801 DENIED
    else defer (logSecurity (s.modMgmt fun g => { g with anchors := anchors }) 2) m 0x0801 OK

/-- CRED_GET. -/
def credGet (s : State) (m : Master) : State :=
  serveMgmt s m 0x0802 fun s =>
    let k := s.mgmt.ownerKeys.getD (0, 0)
    respond s m 0x0802 OK ([(16, k.1), (16, k.2), (4, s.mgmt.anchors.length)] ++ s.mgmt.anchors.map fun a => (48, Config.sha384 a))

/-- SVN_RAISE. -/
def svnRaise (s : State) (m : Master) : State :=
  serveMgmt s m 0x0803 fun s =>
    let n := max s.mgmt.minSvn s.mgmt.update.running.svn
    defer (logSecurity (s.modMgmt fun g => { g with minSvn := n }) 3) m 0x0803 OK [(1, n)]

/-- KEY_REVOKE. -/
def keyRevoke (s : State) (m : Master) (pair : Nat) : State :=
  serveMgmt s m 0x0804 fun s =>
    if 3 < pair ∨ s.mgmt.update.running.keyPair = pair then respond s m 0x0804 REFUSED
    else defer (logSecurity (s.modMgmt fun g => { g with revoked := if g.revoked.contains pair then g.revoked else g.revoked ++ [pair] }) 4)
      m 0x0804 OK

/-- Oagal returns to level 0; the end of an unlock is logged (R508). -/
def oagalLock0 (s : State) : State :=
  if s.mgmt.oagalLevel = 0 then s
  else logAdd (s.modMgmt fun g => { g with oagalLevel := 0, jtag := false }) 5 0

/-- OAGAL_LOCK. -/
def oagalLockCmd (s : State) (m : Master) : State :=
  serveMgmt s m 0x0805 fun s => respond (oagalLock0 s) m 0x0805 OK

/-! ## Attestation (R492–R494) -/

def natBytes (l : List (Nat × Nat)) : Bytes := layBody l []

/-- Dies in which a component runs: instances of UPDATE_ACTIVATE's mask, port dies for the SerDes firmware. -/
def compInstances (c : Nat) : Nat := [0, 1, 2, 4, 8, 32, 4, 1].getD c 0

/-- The digest that an instance runs. -/
def runDigest (s : State) (c i : Nat) : Nat :=
  let t := s.mgmt.update.digests
  (AMap.find t (c * 256 + i)).getD (AMap.get 0 t (c * 256 + 255))

/-- The digest of a component in an image. -/
def Image.digest (i : Image) (c : Nat) : Option Nat := (i.comps.find? fun x => x.id == c).map (·.digest)

/-- The content of a measurement block, in this model's own byte form: the manual lists the contents only. -/
def measured (s : State) (i : Nat) : Bytes :=
  let m := s.mgmt
  if i = 2 then natBytes ([(1, m.minSvn), (4, 4)] ++ ((List.range 4).flatMap fun k =>
      [(16, (Config.firmwarePair k).1), (16, (Config.firmwarePair k).2), (1, b2n (m.revoked.contains k))]) ++ [(1, b2n m.ownerKeys.isSome)])
  else if i = 3 then natBytes [(48, m.update.running.header)]
  else if 4 ≤ i ∧ i ≤ 10 then natBytes ((List.range (compInstances (i - 3))).map fun k => (48, runDigest s (i - 3) k))
  else if i = 11 then m.manifestBytes
  else if i = 12 then natBytes [(16, (m.ownerKeys.getD (0, 0)).1), (16, (m.ownerKeys.getD (0, 0)).2)] ++ m.anchors.flatMap id
  else natBytes [(1, b2n s.host.conf), (1, m.oagalLevel), (1, b2n (decide (2 ≤ m.oagalLevel)))]

/-- A measurement (R493). Log: 191 DEDUCED. -/
def measurement (s : State) (i : Nat) : Nat := if i = 1 then Config.romDigest else Config.sha384 (measured s i)

/-- The signed digest record of an object (R484). -/
def digestRecord (ty : Nat) (body : Bytes) : Nat := pack [(32, ty), (64, body.length), (384, Config.sha384 body), (32, 0)]

/-- The dual-signed evidence (R494). -/
def evidenceOf (s : State) (nonce : Bytes) : Bytes :=
  let body := slice nonce 0 32 ++ slice Config.serial 0 16 ++ leBytes 8 s.time.lfc ++ (range' 1 13).flatMap fun i => leBytes 48 (measurement s i)
  body ++ Config.identitySign (digestRecord 4 body)

/-- A transport on which SPDM can be spoken: 0 the PCI Express link, else an open management connection (R492). -/
def spdmUp (s : State) (t : Nat) : Bool :=
  s.flt.phase != 8 && (if t = spdmHost then hostUp s && s.host.linkUp else netUp s && AMap.has s.mgmt.conns t)

/-- The transport a session counts under: PCI Express, or the management network. -/
def sessionSide (t : Nat) : Nat := if t = spdmHost then 0 else 1

def spdmAnswer (s : State) (t code : Nat) : State := s.modMgmt fun m => { m with spdmOut := m.spdmOut ++ [(t, code)] }

/-- A session that the transport holds. -/
def hasSession (s : State) (t n : Nat) : Bool := s.mgmt.sessions.any fun e => e.1 == n && sessionSide e.2 == sessionSide t

/-- SPDM_REQUEST. The response codes are those of the SPDM standard that R492 names. Log: 190 PRESUMED. -/
def doSpdm (s : State) (t : Nat) (r : SpdmReq) : State :=
  let inSession (n code : Nat) : State := spdmAnswer s t (if hasSession s t n then code else 0x7F)
  if ! spdmUp s t then s
  else match r with
  | .getVersion => spdmAnswer s t 0x04
  | .getCapabilities => spdmAnswer s t 0x61
  | .negotiateAlgorithms => spdmAnswer s t 0x63
  | .getDigests => spdmAnswer s t 0x01
  | .getCertificate => spdmAnswer s t 0x02
  | .challenge => spdmAnswer s t 0x03
  | .keyExchange =>
    if 4 ≤ s.mgmt.sessions.countP (fun e => sessionSide e.2 == sessionSide t) then spdmAnswer s t 0x7F
    else spdmAnswer (s.modMgmt fun m => { m with sessions := m.sessions ++ [(m.nextSession, t)], nextSession := m.nextSession + 1 }) t 0x64
  | .finish n => inSession n 0x65
  | .heartbeat n => inSession n 0x68
  | .keyUpdate n => inSession n 0x69
  | .endSession n =>
    if hasSession s t n then
      spdmAnswer (s.modMgmt fun m => { m with sessions := m.sessions.filter fun e => ! (e.1 == n && sessionSide e.2 == sessionSide t) }) t 0x6C
    else spdmAnswer s t 0x7F
  | .other _ => spdmAnswer s t 0x7F

/-- GET_MEASUREMENTS: the block, or the evidence, as the state is now. -/
def doMeasure (s : State) (t i : Nat) (nonce : Bytes) : State :=
  if ! spdmUp s t then s
  else if 1 ≤ i ∧ i ≤ 13 then spdmAnswer (s.modMgmt fun m => { m with evidence := leBytes 48 (measurement s i) }) t 0x60
  else if i = 0xEF ∧ nonce.length = 32 then spdmAnswer (s.modMgmt fun m => { m with evidence := evidenceOf s nonce }) t 0x60
  else spdmAnswer s t 0x7F

/-- SPDM_HEARTBEAT_MISS: the session ends, and is recorded (class 0x10 cause 2). -/
def doSpdmMiss (s : State) (n : Nat) : State :=
  if ! s.mgmt.sessions.any (·.1 == n) then s
  else raise (s.modMgmt fun m => { m with sessions := m.sessions.filter fun e => e.1 != n }) { die := 18, cls := 0x10, cause := 2 }

/-! ## Updates (R496–R498) -/

/-- UPDATE_BEGIN: at most 48 MiB. Log: 186 DEDUCED. -/
def updateBegin (s : State) (m : Master) (n : Nat) : State :=
  serveMgmt s m 0x0700 fun s =>
    let u := s.mgmt.update
    if 48 * 2 ^ 20 < n then respond s m 0x0700 REFUSED
    else if u.opened ∨ u.activation.isSome then respond s m 0x0700 BUSY
    else respond (s.modUpd fun u => { u with opened := true, size := n, data := [], verified := none, committed := false }) m 0x0700 OK

/-- UPDATE_DATA: verification becomes void (R505). -/
def updateData (s : State) (m : Master) (off : Nat) (d : Bytes) : State :=
  serveMgmt s m 0x0701 fun s =>
    let u := s.mgmt.update
    if ! u.opened ∨ 4000 < d.length ∨ u.size < off + d.length then respond s m 0x0701 REFUSED
    else if u.writing.isSome then respond s m 0x0701 BUSY
    else respond (s.modUpd fun u => { u with data := Mem.writeBytes u.data off d, verified := none }) m 0x0701 OK

/-- A component entry (R496). -/
def compOf (e : Nat) : Comp :=
  { id := bits e 0 16, cver := bits e 32 32, offset := bits e 64 32, clen := bits e 96 32, digest := bits e 128 384 }

/-- The image that staged bytes hold, when it passes R486, R488 and the digests of R496. -/
def parseImage (s : State) (d : Bytes) : Option Image :=
  let h := slice d 0 4096
  let block := d.drop (d.length - sigLen)
  let w := leNat (slice h 0 64)
  let n := bits w 104 8
  let entries := (List.range n).map fun i => leNat (slice h (64 + 64 * i) 64)
  let pair := (List.range 4).find? fun k => ! s.mgmt.revoked.contains k && Config.firmwarePair k == sigKeys block
  match pair with
  | none => none
  | some k =>
    if decide (4096 + sigLen ≤ d.length) && bits w 0 32 == 0x4D495645 && decide (s.mgmt.minSvn ≤ bits w 32 8) && decide (bits w 32 8 < 64) &&
        bits w 72 32 == d.length && decide (n ≤ 62) && bits w 112 400 == 0 && verifies 1 h block (fun x => Config.firmwarePair k == x) &&
        entries.all (fun e => let c := compOf e
          decide (1 ≤ c.id ∧ c.id ≤ 7) && bits e 16 16 == 0 && decide (c.offset + c.clen ≤ d.length) &&
          Config.sha384 (slice d c.offset c.clen) == c.digest) then
      some { svn := bits w 32 8, version := bits w 40 32, keyPair := k, comps := entries.map compOf, header := Config.sha384 h }
    else none

/-- The staged bytes. -/
def staged (u : Update) : Bytes := Mem.readBytes u.data 0 u.size

/-- UPDATE_VERIFY. -/
def updateVerify (s : State) (m : Master) : State :=
  serveMgmt s m 0x0702 fun s =>
    let u := s.mgmt.update
    if ! u.opened then respond s m 0x0702 REFUSED
    else match parseImage s (staged u) with
    | none => defer (s.modUpd fun u => { u with verified := none }) m 0x0702 REFUSED
    | some i =>
      defer (logAdd (s.modUpd fun u => { u with verified := some i }) 3 1) m 0x0702 OK
        ([(4, i.version), (1, i.svn), (4, i.comps.length)] ++ i.comps.map fun c =>
          (64, pack [(16, c.id), (16, 0), (32, c.cver), (32, c.offset), (32, c.clen), (384, c.digest)]))

/-- UPDATE_COMMIT: until it ends there is no bootable image; `ok` is whether the write succeeds (R498).
Log: 185 DEDUCED. -/
def updateCommit (s : State) (m : Master) (ok : Bool) : State :=
  serveMgmt s m 0x0703 fun s =>
    let u := s.mgmt.update
    if u.writing.isSome then respond s m 0x0703 BUSY
    else if ! u.opened ∨ u.verified.isNone then respond s m 0x0703 REFUSED
    else defer (s.modUpd fun u => { u with writing := some ok, flash := none }) m 0x0703 OK

/-- The image being written: the one verified when the write began, whatever has been revoked since (R497). -/
def writtenImage (s : State) : Option Image :=
  match s.mgmt.update.verified with
  | some i => some i
  | none => parseImage (s.modMgmt fun g => { g with revoked := [], minSvn := 0 }) (staged s.mgmt.update)

/-- The flash write of UPDATE_COMMIT ends: whether it succeeded. An image committed in recovery restarts Headwater (R490). -/
def commitDone (s : State) : State × Bool :=
  match s.mgmt.update.writing with
  | none => (s, true)
  | some false => (s.modUpd fun u => { u with writing := none, flashInvalid := true }, false)
  | some true =>
    let i := writtenImage s
    let s := s.modUpd fun u => { u with writing := none, flash := i, flashInvalid := false, opened := false, committed := true, data := [] }
    let s := logAdd s 3 2
    (if s.flt.phase = 8 then setPhase s 1 else s, true)

/-- UPDATE_ABORT. -/
def updateAbort (s : State) (m : Master) : State :=
  serveMgmt s m 0x0706 fun s =>
    let u := s.mgmt.update
    if u.committed then respond s m 0x0706 REFUSED
    else if u.writing.isSome then respond s m 0x0706 BUSY
    else respond (s.modUpd fun u => { u with opened := false, size := 0, data := [], verified := none }) m 0x0706 OK

/-- UPDATE_STATUS: staging (0 none, 1 open, 2 verified, 3 writing), FLASH_INVALID, every instance's running digest, each
component's committed digest, the instances skipped. -/
def updateStatus (s : State) (m : Master) : State :=
  serveMgmt s m 0x0705 fun s =>
    let u := s.mgmt.update
    let st := if u.writing.isSome then 3 else if u.verified.isSome ∧ u.opened then 2 else if u.opened then 1 else 0
    let runs := (range' 1 7).flatMap fun c => (List.range (compInstances c)).map fun i => (48, runDigest s c i)
    let com := (range' 1 7).map fun c => (48, (u.flash.bind fun i => i.digest c).getD 0)
    respond s m 0x0705 OK ([(1, st), (1, b2n u.flashInvalid), (4, runs.length)] ++ runs ++ [(4, com.length)] ++ com ++
      [(4, u.skipped.length)] ++ u.skipped.map fun k => (2, k))

/-! ## Activation (R499–R505) -/

def modAct (s : State) (f : Activation → Activation) : State := s.modUpd fun u => { u with activation := u.activation.map f }

/-- An instance runs the committed version. -/
def instanceDone (s : State) (c i : Nat) : State :=
  s.modUpd fun u => { u with digests := AMap.set u.digests (c * 256 + i) ((u.flash.bind fun x => x.digest c).getD 0) }

def instanceSkipped (s : State) (c i : Nat) : State := s.modUpd fun u => { u with skipped := u.skipped ++ [c * 256 + i] }

/-- The ports that the port dies under activation take in a round (R502). -/
def roundPorts (dies : List Nat) (r : Nat) : List Nat := dies.map fun k => k * 16 + (r + k) % 16

/-- The first instance's turn comes: list loads to a stack answer BUSY from now on (R503), and the port dies enter round 0 (R502). -/
def beginInstance (s : State) : State :=
  match s.mgmt.update.activation with
  | none => s
  | some a =>
    match a.left with
    | [] => s
    | n :: _ =>
      if a.comp = 5 then
        modAct (s.modStk n fun k => { k with activating := true }) fun a => { a with evacuating := false, since := s.time.lfc }
      else if a.comp = 4 then modAct s fun a => { a with round := 0, ports := roundPorts a.left 0 }
      else s

/-- One round of the SerDes firmware goes on (R502): the ports that serve retrain, a port that is stepping or retraining is taken when that
ends, one that is down, absent or quarantined is skipped, and the next round comes when the last one's ports have retrained. Whether the
last round has ended. Log: 187 DEDUCED. -/
def serdesStep (s : State) (a : Activation) : State × Bool :=
  if a.ports.isEmpty then
    if (roundPorts a.left a.round).any fun p => (s.prt p).st == 4 then (s, false)
    else if 15 ≤ a.round then (s, true)
    else (modAct s fun a => { a with round := a.round + 1, ports := roundPorts a.left (a.round + 1) }, false)
  else
    let (busy, rest) := a.ports.partition fun p => (s.prt p).st == 3 || (s.prt p).st == 4
    let s := (rest.filter fun p => (s.prt p).st == 2 && ! (s.prt p).quarantined).foldl startRetrain s
    (modAct s fun a => { a with ports := busy }, false)

/-- The activation of a stack goes on (R503): it waits up to 1 s for a group without a list, is evacuated, and then returns with every frame
free; what cannot be carried out skips the stack. Whether its turn has ended. -/
def stackStep (s : State) (a : Activation) (n : Nat) : State × Bool :=
  let skip (s : State) : State × Bool :=
    (instanceSkipped (s.modStk n fun k => { k with
      activating := false, evacuating := false, evacuated := k.evacuated && ! a.evacuating }) 5 n, true)
  if (s.stk n).fenced then skip s
  else if ! a.evacuating then
    if ! (s.grp n).lists.isEmpty then (if s.time.lfc < a.since + 15259 then (s, false) else skip s)
    else if ! a.force ∧ (parcelsOn s n).any (fun p => (s.ent p).pin == 2) then skip s
    else (startEvac (modAct s fun a => { a with evacuating := true }) n, false)
  else if (s.stk n).evacuating then
    if (fullestStack s ((List.range 32).filter (· != n))).isNone then skip s else (s, false)
  else (instanceDone (dropMirrorsOn (freshStack s n) n) 5 n, true)

/-- The activation goes on at an instance boundary: its status once it has ended. Log: 189 DEDUCED. -/
def activateStep (s : State) : State × Option Nat :=
  match s.mgmt.update.activation with
  | none => (s, some OK)
  | some a =>
    let stop (s : State) (st : Nat) : State × Option Nat :=
      (s.modUpd fun u => { u with activation := none, handover := false }, some st)
    if s.power.epo then
      stop (match a.left with
        | i :: _ => if a.comp = 5 then s.modStk i fun k => { k with
            activating := false, evacuating := k.evacuating && ! a.evacuating, evacuated := k.evacuated && ! a.evacuating } else s
        | [] => s) SUPERSEDED
    else if a.comp = 1 then stop s REFUSED
    else match a.left with
    | [] => stop s OK
    | i :: rest =>
      if a.comp = 4 then
        let (s, ended) := serdesStep s a
        if ended then stop (logAdd (a.left.foldl (fun s k => if s.isUnitFenced 2 k then instanceSkipped s 4 k else instanceDone s 4 k) s) 3 3) OK
        else (s, none)
      else
        let (s, ended) := if a.comp = 5 then stackStep s a i
          else (if s.isUnitFenced 8 i then instanceSkipped s 2 i else instanceDone s 2 i, true)
        if ! ended then (s, none)
        else
          let s := modAct s fun a => { a with left := rest }
          if rest.isEmpty then stop (logAdd s 3 3) OK else (beginInstance s, none)

/-- UPDATE_ACTIVATE. Instances that already run the committed version are done at once. -/
def updateActivate (s : State) (m : Master) (c mask : Nat) (force : Bool) : State :=
  serveMgmt s m 0x0704 fun s =>
    let u := s.mgmt.update
    match u.flash.bind fun i => i.digest c with
    | none => respond s m 0x0704 REFUSED
    | some d =>
      let todo := (List.range (compInstances c)).filter fun i => mask.testBit i && runDigest s c i != d
      if compInstances c = 0 ∨ 2 ^ compInstances c ≤ mask then respond s m 0x0704 REFUSED
      else if u.activation.isSome then respond s m 0x0704 BUSY
      else if todo.isEmpty then respond s m 0x0704 OK
      else if c = 2 ∧ todo.any (fun i => s.isUnitFenced 8 (1 - i)) then respond s m 0x0704 BUSY
      else if c = 3 ∨ c = 6 ∨ c = 7 then
        if pairReads s ≠ 0 then respond s m 0x0704 BUSY else packageReaction (sendFailing s)
      else
        let s := s.modUpd fun u => { u with activation := some { comp := c, left := todo, force := force }, skipped := [], handover := c == 1 }
        beginInstance (defer s m 0x0704 OK)

/-- HANDOVER_SWITCH: with no command in service, the new Ibfen takes over (R500). Log: 188 DEDUCED. -/
def doHandover (s : State) : State :=
  if ! s.mgmt.update.handover ∨ s.mbx.cur.isSome ∨ s.power.epo then s
  else
    let s := logAdd (instanceDone s 1 0) 3 4
    s.modUpd fun u => { u with handover := false, activation := u.activation.map fun a => { a with comp := 0, left := [] } }

end Sys2Proof.Machine
end

