-- ==== Sys2Proof/Machine/Mailbox.lean ====
section
/-! DEFINITION. The mailbox (R386–R393): request frames and bodies (R387, R388), conflict keys (R391), arrival, service in
arrival order, and commands that wait on hardware (R389, R390). -/
namespace Sys2Proof.Machine

/-! ## Request bodies (R388) -/

/-- A field of a request: a number or a flag in the fewest bytes that hold its range; a mask or block of `n` bytes at 8-byte
alignment; a counted list of items given by their fields; counted bytes; a counted list of counted byte strings. -/
inductive Fld
  | num (n : Nat)
  | flag
  | blk (n : Nat)
  | items (fields : List Nat)
  | bytes
  | strings
deriving DecidableEq, Repr

/-- The value of a field. -/
inductive Val
  | num (n : Nat)
  | list (l : List Nat)
  | bytes (b : Bytes)
  | strings (l : List Bytes)
deriving DecidableEq, Repr

/-- An offset rounded up to a multiple of an alignment. -/
def alignUp (off a : Nat) : Nat := ceilDiv off a * a

/-- Fields of given sizes from an offset on: their values and the end. -/
def takeFields (b : Bytes) : List Nat → Nat → List Nat × Nat
  | [], off => ([], off)
  | n :: ns, off =>
    let a := alignUp off (min n 8)
    let (l, e) := takeFields b ns (a + n)
    (leNat (slice b a n) :: l, e)

/-- Counted byte strings. -/
def takeStrings (b : Bytes) : Nat → Nat → List Bytes × Nat
  | 0, off => ([], off)
  | k + 1, off =>
    let a := alignUp off 4
    let n := leNat (slice b a 4)
    let (l, e) := takeStrings b k (a + 4 + min n 4096)
    (slice b (a + 4) (min n 4096) :: l, e)

/-- A body as its fields; nothing when its length is not theirs, or a flag is neither 0 nor 1. Log: 141 DEDUCED. -/
def parseBody (b : Bytes) : List Fld → Nat → Option (List Val)
  | [], off => if off = b.length then some [] else none
  | f :: fs, off =>
    if b.length < off then none
    else match f with
    | .num n => let a := alignUp off n
                (parseBody b fs (a + n)).map (Val.num (leNat (slice b a n)) :: ·)
    | .flag => if 1 < leNat (slice b off 1) then none else (parseBody b fs (off + 1)).map (Val.num (leNat (slice b off 1)) :: ·)
    | .blk n => let a := alignUp off 8
                (parseBody b fs (a + n)).map (Val.num (leNat (slice b a n)) :: ·)
    | .items ns =>
      let a := alignUp off 4
      let k := leNat (slice b a 4)
      if b.length < k then none
      else
        let (l, e) := takeFields b ((List.replicate k ns).flatten) (a + 4)
        (parseBody b fs e).map (Val.list l :: ·)
    | .bytes =>
      let a := alignUp off 4
      let k := leNat (slice b a 4)
      if b.length < k then none else (parseBody b fs (a + 4 + k)).map (Val.bytes (slice b (a + 4) k) :: ·)
    | .strings =>
      let a := alignUp off 4
      let k := leNat (slice b a 4)
      if b.length < k then none
      else
        let (l, e) := takeStrings b k (a + 4)
        (parseBody b fs e).map (Val.strings l :: ·)

def argN (v : List Val) (i : Nat) : Nat := match v[i]? with | some (.num n) => n | _ => 0
def argF (v : List Val) (i : Nat) : Bool := argN v i == 1
def argL (v : List Val) (i : Nat) : List Nat := match v[i]? with | some (.list l) => l | _ => []
def argB (v : List Val) (i : Nat) : Bytes := match v[i]? with | some (.bytes b) => b | _ => []
def argS (v : List Val) (i : Nat) : List Bytes := match v[i]? with | some (.strings l) => l | _ => []

/-- Pairs of a flat list. -/
def pairUp : List Nat → List (Nat × Nat)
  | a :: b :: t => (a, b) :: pairUp t
  | _ => []

/-! ## Conflict keys (R391) -/

/-- The object a command changes. Log: 139 DEDUCED. -/
inductive Key
  | ctx (c : Nat)
  | bind (node part : Nat)
  | hostParts
  | list (g id : Nat)
  | part (p : Nat)
  | port (p : Nat)
  | pktCtrl
  | dead (node : Nat)
  | policy (p : Nat)
  | placement
  | parcel (p : Nat)
  | stack (n : Nat)
  | lend (r : Nat)
  | power
  | fault (cls inst : Nat)
  | update
  | security
  | seq (c : Nat)
  | group (g : Nat)
  | collDie (d : Nat)
  | route
  | shares
  | meter (p : Nat)
  | drops
  | riffle (d : Nat)
deriving DecidableEq, Repr

/-- Two keys name one object; instance 0xFFFF of a fault source names every instance of its class. -/
def Key.meets (a b : Key) : Bool :=
  match a, b with
  | .fault c i, .fault d j => c == d && (i == j || i == 0xFFFF || j == 0xFFFF)
  | _, _ => a == b

def keysMeet (a b : List Key) : Bool := a.any fun x => b.any x.meets

/-! ## The commands by code -/

/-- A command: its code, the fields of its body, what it does, and its conflict keys. -/
structure Cmd where
  code : Nat
  flds : List Fld
  run : State → Master → List Val → State
  keys : List Val → List Key := fun _ => []

/-- An outcome of the physical world for a command that arrives in a frame: a free value. Log: 145 DESIGN CHOICE. -/
def withChance (s : State) (f : State → Bool → State) : State :=
  let (v, s) := s.draw
  f s (v % 2 == 0)

/-- Groups 0x01 and 0x02. -/
def cmds12 : List Cmd :=
  [ { code := 0x0100, flds := [], run := fun s m _ => identify s m }
  , { code := 0x0101, flds := [.flag], run := fun s m v => mbxInfo s m (argF v 0) }
  , { code := 0x0110, flds := [.num 1, .num 1], run := fun s m v => sensorGet s m (argN v 0) (argN v 1) }
  , { code := 0x0111, flds := [.num 4, .num 1], run := fun s m v => logRead s m (argN v 0) (argN v 1) }
  , { code := 0x0201, flds := [.blk 8], run := fun s m v => hostPartsSet s m (BitVec.ofNat 64 (argN v 0)), keys := fun _ => [.hostParts] }
  , { code := 0x0202, flds := [.num 1], run := fun s m v => partStart s m (argN v 0), keys := fun v => [.part (argN v 0)] }
  , { code := 0x0203, flds := [.num 1], run := fun s m v => partStop s m (argN v 0), keys := fun v => [.part (argN v 0)] }
  , { code := 0x0210, flds := [.num 2, .blk 8], run := fun s m v => ctxSet s m (argN v 0) (BitVec.ofNat 64 (argN v 1))
      keys := fun v => [.ctx (argN v 0)] }
  , { code := 0x0211, flds := [.num 2], run := fun s m v => ctxClear s m (argN v 0), keys := fun v => [.ctx (argN v 0)] }
  , { code := 0x0212, flds := [.num 2, .num 1, .blk 16]
      run := fun s m v => segSet s m (argN v 0) (argN v 1) (BitVec.ofNat 128 (argN v 2)), keys := fun v => [.ctx (argN v 0)] }
  , { code := 0x0213, flds := [.num 2, .num 1], run := fun s m v => segClear s m (argN v 0) (argN v 1)
      keys := fun v => [.ctx (argN v 0)] }
  , { code := 0x0214, flds := [.num 1, .num 1, .num 2], run := fun s m v => bindSet s m (argN v 0) (argN v 1) (argN v 2)
      keys := fun v => [.bind (argN v 0) (argN v 1)] }
  , { code := 0x0215, flds := [.num 1, .num 1], run := fun s m v => bindClear s m (argN v 0) (argN v 1)
      keys := fun v => [.bind (argN v 0) (argN v 1)] }
  , { code := 0x0216, flds := [.num 2], run := fun s m v => ctxGet s m (argN v 0) }
  , { code := 0x0217, flds := [.num 2], run := fun s m v => xlatFlush s m (argN v 0), keys := fun v => [.ctx (argN v 0)] }
  , { code := 0x0220, flds := [.num 1, .num 2], run := fun s m v => listAbortCmd s m (argN v 0) (argN v 1)
      keys := fun v => [.list (argN v 0) (argN v 1)] } ]

/-- Group 0x03. -/
def cmds3 : List Cmd :=
  [ { code := 0x0300, flds := [.num 2, .num 2, .bytes], run := fun s m v => manifestLoad s m (argN v 0) (argN v 1) (argB v 2) }
  , { code := 0x0301, flds := [.num 1, .num 1], run := fun s m v => discoveryGet s m (argN v 0) (argN v 1) }
  , { code := 0x0302, flds := [.num 1], run := fun s m v => quarantineClear s m (argN v 0), keys := fun v => [.port (argN v 0)] }
  , { code := 0x0303, flds := [], run := fun s m _ => pairGet s m }
  , { code := 0x0304, flds := [.flag], run := fun s m v => pairFailover s m (argF v 0) }
  , { code := 0x0305, flds := [.num 8], run := fun s m v => pairRestore s m (argN v 0) }
  , { code := 0x0380, flds := [.num 2, .flag], run := fun s m v => pktCtrlSet s m (argN v 0) (argF v 1), keys := fun _ => [.pktCtrl] }
  , { code := 0x0381, flds := [.num 2], run := fun s m v => deadSet s m (argN v 0), keys := fun v => [.dead (argN v 0)] }
  , { code := 0x0382, flds := [.num 2], run := fun s m v => deadClear s m (argN v 0), keys := fun v => [.dead (argN v 0)] }
  , { code := 0x0383, flds := [.flag], run := fun s m v => pktStats s m (argF v 0) }
  , { code := 0x0390, flds := [.blk 16, .num 4]
      run := fun s m v => linkSet s m (BitVec.ofNat 128 (argN v 0)) (BitVec.ofNat 32 (argN v 1))
      keys := fun v => ((List.range 128).filter (argN v 0).testBit).map .port }
  , { code := 0x0391, flds := [.num 1, .num 1], run := fun s m v => linkGet s m (argN v 0) (argN v 1) }
  , { code := 0x03A0, flds := [.num 1, .num 8, .num 2], run := fun s m v => timeSet s m (argN v 0) (argN v 1) (argN v 2) }
  , { code := 0x03A1, flds := [], run := fun s m _ => timeGet s m }
  , { code := 0x03A2, flds := [], run := fun s m _ => timeAccept s m } ]

/-- Group 0x04. -/
def cmds4 : List Cmd :=
  [ { code := 0x0400, flds := [.num 1, .blk 16], run := fun s m v => policySet s m (argN v 0) (BitVec.ofNat 128 (argN v 1))
      keys := fun v => [.policy (argN v 0)] }
  , { code := 0x0401, flds := [.num 1], run := fun s m v => policyGet s m (argN v 0) }
  , { code := 0x0402, flds := [.blk 8], run := fun s m v => budgetSet s m (BitVec.ofNat 64 (argN v 0)), keys := fun _ => [.placement] }
  , { code := 0x0403, flds := [.num 4, .num 2, .num 1, .num 1, .num 1, .num 1]
      run := fun s m v => parcelSet s m (argN v 0) (argN v 1) (argN v 2) (argN v 3) (argN v 4) (argN v 5)
      keys := fun v => (range' (argN v 0) (min (argN v 1) 1024)).map .parcel }
  , { code := 0x0404, flds := [.num 4], run := fun s m v => parcelGet s m (argN v 0) }
  , { code := 0x0405, flds := [.num 4, .num 4], run := fun s m v => moveCmd s m (argN v 0) (BitVec.ofNat 32 (argN v 1))
      keys := fun v => [.parcel (argN v 0)] }
  , { code := 0x0406, flds := [.num 1, .flag], run := fun s m v => evacuate s m (argN v 0) (argF v 1), keys := fun v => [.stack (argN v 0)] }
  , { code := 0x0407, flds := [.num 1, .num 2, .num 8, .num 2]
      run := fun s m v => lendSet s m (argN v 0) (argN v 0 == 15) (argN v 1) (argN v 2) (argN v 3), keys := fun v => [.lend (argN v 0)] }
  , { code := 0x0408, flds := [.num 1], run := fun s m v => lendClear s m (argN v 0), keys := fun v => [.lend (argN v 0)] }
  , { code := 0x0409, flds := [.num 2], run := fun s m v => mirrorReserveSet s m (argN v 0), keys := fun _ => [.placement] }
  , { code := 0x040A, flds := [.num 1], run := fun s m v => maintSet s m (argN v 0), keys := fun _ => [.placement] }
  , { code := 0x040B, flds := [.flag], run := fun s m v => placeStats s m (argF v 0) } ]

/-- POWER_SET's settings as POWER_CFG holds them (R437). -/
def powerCfgOf (v : List Val) : Nat :=
  pack [(12, argN v 0), (6, argN v 2), (9, argN v 3), (1, argN v 4), (12, argN v 5), (1, argN v 6), (1, argN v 7), (10, argN v 8), (12, 0)]

/-- Fields of POWER_SET wider than their register fields (R388, R437). -/
def powerFieldsOk (v : List Val) : Bool :=
  decide (argN v 0 < 4096) && decide (argN v 2 < 64) && decide (argN v 3 < 512) && decide (argN v 5 < 4096) && decide (argN v 8 < 1024)

/-- Groups 0x05 and 0x06. POWER_SET's body depends on the master. Log: 144 DESIGN CHOICE. -/
def cmds56 (m : Master) : List Cmd :=
  [ (if m = .mgmt then
      { code := 0x0500, flds := [.num 2, .num 8, .num 1, .num 2, .flag, .num 2, .flag, .flag, .num 2]
        run := fun s m v => if powerFieldsOk v then powerSet s m (argN v 1) (BitVec.ofNat 64 (powerCfgOf v))
                            else powerSet s m (argN v 1) 0
        keys := fun _ => [.power] }
    else
      { code := 0x0500, flds := [.num 2, .num 8]
        run := fun s m v => powerSet s m (argN v 1) (if argN v 0 < 4096 then BitVec.ofNat 64 (argN v 0 * 2 ^ 52) else 0)
        keys := fun _ => [.power] })
  , { code := 0x0501, flds := [], run := fun s m _ => powerGet s m }
  , { code := 0x0502, flds := [], run := fun s m _ => powerPlanGet s m }
  , { code := 0x0503, flds := [], run := fun s m _ => powerHeartbeat s m }
  , { code := 0x0504, flds := [], run := fun s m _ => powerResume s m, keys := fun _ => [.power] }
  , { code := 0x0505, flds := [.flag], run := fun s m v => flowReport s m (argF v 0) }
  , { code := 0x0600, flds := [.num 2], run := fun s m v => faultGet s m (argN v 0) }
  , { code := 0x0601, flds := [.num 1, .num 2, .num 1], run := fun s m v => faultSet s m (argN v 0) (argN v 1) (argN v 2)
      keys := fun v => [.fault (argN v 0) (argN v 1)] }
  , { code := 0x0602, flds := [.num 2], run := fun s m v => faultAck s m (argN v 0) }
  , { code := 0x0603, flds := [.num 1, .num 2], run := fun s m v => unitFence s m (argN v 0) (argN v 1)
      keys := fun v => [.fault (argN v 0) (argN v 1)] }
  , { code := 0x0604, flds := [.num 1, .num 2], run := fun s m v => withChance s fun s ok => unitReturn s m (argN v 0) (argN v 1) ok
      keys := fun v => [.fault (argN v 0) (argN v 1)] }
  , { code := 0x0605, flds := [], run := fun s m _ => warmReset s m }
  , { code := 0x0606, flds := [.num 1, .num 2, .num 1, .num 1]
      run := fun s m v => faultInject s m (argN v 0) (argN v 1) (argN v 2) (argN v 3), keys := fun v => [.fault (argN v 0) (argN v 1)] } ]

/-- Groups 0x07 and 0x08. -/
def cmds78 : List Cmd :=
  [ { code := 0x0700, flds := [.num 4], run := fun s m v => updateBegin s m (argN v 0), keys := fun _ => [.update] }
  , { code := 0x0701, flds := [.num 4, .bytes], run := fun s m v => updateData s m (argN v 0) (argB v 1), keys := fun _ => [.update] }
  , { code := 0x0702, flds := [], run := fun s m _ => updateVerify s m, keys := fun _ => [.update] }
  , { code := 0x0703, flds := [], run := fun s m _ => withChance s fun s ok => updateCommit s m ok, keys := fun _ => [.update] }
  , { code := 0x0704, flds := [.num 1, .blk 4, .flag], run := fun s m v => updateActivate s m (argN v 0) (argN v 1) (argF v 2)
      keys := fun _ => [.update] }
  , { code := 0x0705, flds := [], run := fun s m _ => updateStatus s m }
  , { code := 0x0706, flds := [], run := fun s m _ => updateAbort s m, keys := fun _ => [.update] }
  , { code := 0x0800, flds := [.blk 16, .bytes, .bytes]
      run := fun s m v => ownerSet s m (.claim (leBytes 16 (argN v 0))) (argB v 1) (argB v 2), keys := fun _ => [.security] }
  , { code := 0x0801, flds := [.blk 16, .strings], run := fun s m v => credSet s m (.claim (leBytes 16 (argN v 0))) (argS v 1)
      keys := fun _ => [.security] }
  , { code := 0x0802, flds := [], run := fun s m _ => credGet s m }
  , { code := 0x0803, flds := [], run := fun s m _ => svnRaise s m, keys := fun _ => [.security] }
  , { code := 0x0804, flds := [.num 1], run := fun s m v => keyRevoke s m (argN v 0), keys := fun _ => [.security] }
  , { code := 0x0805, flds := [], run := fun s m _ => oagalLockCmd s m, keys := fun _ => [.security] }
  , { code := 0x0820, flds := [.num 4], run := fun s m v => sluiceStart s m (argN v 0), keys := fun _ => [.security] }
  , { code := 0x0821, flds := [], run := fun s m _ => sluiceRekey s m, keys := fun _ => [.security] } ]

/-- Groups 0x09 and 0x0A. -/
def cmds9A : List Cmd :=
  [ { code := 0x0900, flds := [.blk 64], run := fun s m v => seqRegister s m (BitVec.ofNat 512 (argN v 0)) }
  , { code := 0x0901, flds := [.num 2, .num 2], run := fun s m v => seqGet s m (argN v 0) (argN v 1) }
  , { code := 0x0902, flds := [.num 2], run := fun s m v => seqRelease s m (argN v 0), keys := fun v => [.seq (argN v 0)] }
  , { code := 0x0903, flds := [.num 2, .num 4], run := fun s m v => seqTruncate s m (argN v 0) (argN v 1), keys := fun v => [.seq (argN v 0)] }
  , { code := 0x0904, flds := [.num 2, .num 2, .num 1, .flag]
      run := fun s m v => seqMigrate s m (argN v 0) (argN v 1) (argN v 2) (argF v 3), keys := fun v => [.seq (argN v 0)] }
  , { code := 0x0905, flds := [.flag], run := fun s m v => seqStats s m (argF v 0) }
  , { code := 0x0A00, flds := [.num 2, .num 1, .num 2, .num 2, .num 2]
      run := fun s m v => collCreate s m (argN v 0) (argN v 1) (argN v 2) (argN v 3) (argN v 4), keys := fun v => [.group (argN v 0)] }
  , { code := 0x0A01, flds := [.num 2, .num 2, .items [8], .items [2, 1]]
      run := fun s m v => collMembers s m (argN v 0) (argN v 1) ((argL v 2).map (BitVec.ofNat 64)) (pairUp (argL v 3))
      keys := fun v => [.group (argN v 0)] }
  , { code := 0x0A02, flds := [.num 2], run := fun s m v => collCommit s m (argN v 0), keys := fun v => [.group (argN v 0)] }
  , { code := 0x0A03, flds := [.num 2], run := fun s m v => collDestroy s m (argN v 0), keys := fun v => [.group (argN v 0)] }
  , { code := 0x0A04, flds := [.num 2], run := fun s m v => collReset s m (argN v 0), keys := fun v => [.group (argN v 0)] }
  , { code := 0x0A05, flds := [.num 2], run := fun s m v => collAbort s m (argN v 0), keys := fun v => [.group (argN v 0)] }
  , { code := 0x0A06, flds := [.num 2], run := fun s m v => collGet s m (argN v 0) }
  , { code := 0x0A07, flds := [.num 1, .num 4], run := fun s m v => collCellsSet s m (argN v 0) (argN v 1), keys := fun v => [.collDie (argN v 0)] }
  , { code := 0x0A08, flds := [.flag], run := fun s m v => collStats s m (argF v 0) } ]

/-- Group 0x0B. -/
def cmdsB : List Cmd :=
  [ { code := 0x0B00, flds := [.num 2, .num 1, .items [128]]
      run := fun s m v => routeStage s m (argN v 0) (argN v 1) ((argL v 2).map (BitVec.ofNat 1024)), keys := fun _ => [.route] }
  , { code := 0x0B01, flds := [.num 2, .num 8, .num 1, .blk 64, .num 2]
      run := fun s m v => routeCommit s m (argN v 0) (argN v 1) (argN v 2) (BitVec.ofNat 512 (argN v 3)) (argN v 4), keys := fun _ => [.route] }
  , { code := 0x0B02, flds := [.num 1, .num 1, .num 1], run := fun s m v => routeGet s m (argN v 0) (argN v 1) (argN v 2) }
  , { code := 0x0B03, flds := [.items [1]], run := fun s m v => shareSet s m (argL v 0), keys := fun _ => [.shares] }
  , { code := 0x0B04, flds := [], run := fun s m _ => shareGet s m }
  , { code := 0x0B05, flds := [.num 1, .blk 16], run := fun s m v => meterSet s m (argN v 0) (BitVec.ofNat 128 (argN v 1))
      keys := fun v => [.meter (argN v 0)] }
  , { code := 0x0B06, flds := [.blk 8, .blk 8], run := fun s m v => dropSet s m (BitVec.ofNat 64 (argN v 0)) (BitVec.ofNat 64 (argN v 1))
      keys := fun _ => [.drops] }
  , { code := 0x0B07, flds := [.num 1, .num 1, .blk 8, .flag, .flag]
      run := fun s m v => riffleSet s m (argN v 0) (argN v 1) (BitVec.ofNat 64 (argN v 2)) (argF v 3) (argF v 4)
      keys := fun v => [.riffle (argN v 0)] }
  , { code := 0x0B08, flds := [.num 1, .num 4], run := fun s m v => riffleRead s m (argN v 0) (argN v 1) }
  , { code := 0x0B09, flds := [.flag], run := fun s m v => routeStats s m (argF v 0) } ]

/-- The command of a code. -/
def cmdOf (m : Master) (code : Nat) : Option Cmd :=
  let l := match code / 256 with
    | 1 | 2 => cmds12
    | 3 => cmds3
    | 4 => cmds4
    | 5 | 6 => cmds56 m
    | 7 | 8 => cmds78
    | 9 | 10 => cmds9A
    | 11 => cmdsB
    | _ => []
  l.find? fun c => c.code == code

/-! ## Request frames (R387, R402, R403) -/

/-- A request as Ibfen reads it: its code and tag, and the status that its frame alone earns it, or its command. -/
structure Request where
  code : Nat := 0
  tag : Nat := 0
  enc : Bool := false
  ctr : Nat := 0
  tagFailed : Bool := false
  answer : Nat ⊕ (Cmd × List Val) := .inl REFUSED

/-- The body of an encrypted request, decrypted with the mailbox request key of a generation (R403). Log: 142 DEDUCED. -/
def openBody (s : State) (gen ctr : Nat) (hdr body : Bytes) (gtag : Nat) : Option Bytes :=
  Config.gcmOpen (sluiceKey s 4 gen) (sluiceNonce s 4 gen ctr) (leNat hdr) body gtag

/-- A frame as a request of a master that arrived under a key generation. -/
def requestOf (s : State) (m : Master) (gen : Nat) (frame : Bytes) : Request :=
  let f := slice frame 0 4096
  let h := leNat (slice f 0 32)
  let code := bits h 0 16
  let len := bits h 32 12
  let enc := bitAt h 44
  let ctr := bits h 64 64
  let gtag := bits h 128 128
  let r : Request := { code := code, tag := bits h 16 16 }
  let body := slice f 32 len
  match cmdOf m code with
  | none => r
  | some c =>
    let read (r : Request) (b : Bytes) : Request :=
      match parseBody b c.flds 0 with
      | none => r
      | some v => { r with answer := .inr (c, v) }
    if bits h 45 3 ≠ 0 ∨ bits h 48 8 ≠ 1 ∨ bits h 56 8 ≠ 0 ∨ 4064 < len ∨ (! enc ∧ (ctr ≠ 0 ∨ gtag ≠ 0)) then r
    else if enc then
      if m = .mgmt then r
      else if s.host.sluice.st ≠ 1 then { r with answer := .inl DENIED }
      else if (AMap.find s.host.sluice.lastMbq gen).any fun n => decide (ctr ≤ n) then r
      else match openBody s gen ctr (slice f 0 16) body gtag with
        | none => { r with tagFailed := true, answer := .inl DENIED }
        | some b => read { r with enc := true, ctr := ctr } b
    else if m = .host ∧ s.host.conf ∧ code ≠ 0x0100 ∧ ¬ (code = 0x0820 ∧ s.host.sluice.st = 2) then { r with answer := .inl DENIED }
    else read r body

def Request.keys (r : Request) : List Key := match r.answer with | .inl _ => [] | .inr (c, v) => c.keys v

/-! ## Precedence between the masters (R390) -/

/-- A management request with one of the keys is pending or in service. -/
def outranks (s : State) (keys : List Key) : Bool :=
  ! keys.isEmpty && s.mbx.mgmtSlots.any fun x => (x.2.st == 1 || x.2.st == 2) && keysMeet keys (requestOf s .mgmt 0 x.2.frame).keys

/-- The key of an arrived host request. -/
def arrivalKeys (s : State) (a : Arrival) : List Key :=
  (requestOf s a.master a.gen (AMap.get ({} : Slot) s.mbx.hostSlots a.slot).frame).keys

/-- A management command that came by a way of its own outranks the host requests that wait with a key of its own. -/
def outrankWaiting (s : State) (keys : List Key) : State :=
  if keys.isEmpty then s
  else s.modMbx fun m => { m with arrivals := m.arrivals.map fun a =>
    if a.master == .host && keysMeet (arrivalKeys s a) keys then { a with outranked := true } else a }

/-- A command that reaches Ibfen by a row of its own: it starts when none is in service, and a host command with the key of a
management request that waits completes SUPERSEDED (R389, R390). Log: 137 DEDUCED, 138 DEDUCED. -/
def direct (s : State) (m : Master) (code : Nat) (keys : List Key) (f : State → State) : State :=
  if s.mbx.cur.isSome then s
  else if m = .host then (if outranks s keys then serve s m code fun s => respond s m code SUPERSEDED else f s)
  else f (outrankWaiting s keys)

/-! ## Arrival and service -/

/-- MBX_DB (R386): the slot becomes pending; a doorbell for a slot that is pending or in service is ignored and counted.
Log: 135 DEDUCED. -/
def doMbxDb (s : State) (slot : Nat) : State :=
  if ! hostUp s ∨ 15 < slot then s
  else
    let x : Slot := AMap.get {} s.mbx.hostSlots slot
    if x.st = 1 ∨ x.st = 2 ∨ s.flt.phase = 7 then s.modMbx fun m => { m with ignored := m.ignored + 1 }
    else
      let a : Arrival := { master := .host, slot := slot, gen := s.host.sluice.gen }
      let s := s.modMbx fun m => { m with hostSlots := AMap.set m.hostSlots slot { x with st := 1 } }
      s.modMbx fun m => { m with arrivals := m.arrivals ++ [{ a with outranked := outranks s (arrivalKeys s a) }] }

/-- Requests that can be taken: the host's wait for ever once HX is wedged (R408). Log: 148 DEDUCED. -/
def servable (s : State) (a : Arrival) : Bool := a.master == .mgmt || ! s.host.wedged

def slotOf (s : State) (a : Arrival) : Slot :=
  AMap.get {} (match a.master with | .host => s.mbx.hostSlots | .mgmt => s.mbx.mgmtSlots) a.slot

/-- A tag that fails counts in the session (R404, R406). -/
def noteTagFail (s : State) : State :=
  modSluice s fun x => { x with tagFails := satAdd 8 x.tagFails 1, st := if 16 ≤ x.tagFails + 1 then 2 else x.st }

/-- A command whose start must wait (R105, R53, R417): the parcel moves, or the command before has not ended.
Log: 146 DEDUCED. -/
def mustWait (s : State) (before : State) (code : Nat) : Bool :=
  s.mbx.cur.isSome && ([0x0403, 0x0405].contains code || (code == 0x0217 && before.xlat.flush.isSome) || (code == 0x03A2 && before.time.rebase.isSome))

/-- MAILBOX_SERVICE_START (R389): the oldest request enters service. Log: 140 DEDUCED. -/
def doServiceStart (s : State) : State :=
  if s.mbx.cur.isSome ∨ s.flt.phase < 2 ∨ s.flt.phase = 7 ∨ s.mgmt.halted then s
  else match s.mbx.arrivals.findIdx? (servable s) with
  | none => s
  | some i =>
    let a := s.mbx.arrivals.getD i {}
    let x := slotOf s a
    let r := requestOf s a.master a.gen x.frame
    let superseded := a.master == .host && (a.outranked || outranks s r.keys)
    let ref : SlotRef := { master := a.master, slot := a.slot, tag := r.tag, enc := r.enc, gen := a.gen }
    let s1 := s.modMbx fun m => { m with arrivals := m.arrivals.eraseIdx i, cur := some ref }
    let s1 := s1.modMbx fun m => match a.master with
      | .host => { m with hostSlots := AMap.set m.hostSlots a.slot { x with st := 2 } }
      | .mgmt => { m with mgmtSlots := AMap.set m.mgmtSlots a.slot { x with st := 2 } }
    let s1 := if r.enc then modSluice s1 fun x => { x with lastMbq := AMap.set x.lastMbq a.gen r.ctr } else s1
    let s1 := if r.tagFailed then noteTagFail s1 else s1
    match r.answer with
    | .inl st => respond s1 a.master r.code st
    | .inr (c, v) =>
      if superseded then respond s1 a.master r.code SUPERSEDED
      else
        let t := c.run s1 a.master v
        if mustWait t s r.code then s else t

/-! ## Commands that wait on hardware (R389) -/

/-- What the wait's end does, and the command's status; none while it goes on: an activation at work, or a PARCEL_SET whose zeros are not
all written (R104, R503). -/
def finishWait (s : State) (w : HwWait) : State × Option Nat :=
  let st := w.resp.status
  if w.resp.code = 0x0504 then (if st = OK then resumeDone s else s, some st)
  else if w.resp.code = 0x0605 then (warmEnd s, some st)
  else if w.resp.code = 0x0304 then (failoverDone s, some st)
  else if w.resp.code = 0x0703 then
    let (s, ok) := commitDone s
    if ok then (s, some st) else let (v, s) := s.draw; (s, some (v % 7 + 1))
  else if w.resp.code = 0x0704 then activateStep s
  else if w.resp.code = 0x0403 then (s, if clearingOut s then none else some st)
  else (s, some st)

/-- SERIALISER_HARDWARE_WAIT_END. -/
def doWaitEnd (s : State) (i : Nat) : State :=
  match s.mbx.hwWait[i]? with
  | none => s
  | some w =>
    let (s, st) := finishWait s w
    match st with
    | none => s
    | some st =>
      let r : Response := { w.resp with status := st, data := if st = OK then w.resp.data else [] }
      let s := s.modMbx fun x => { x with
        hwWait := x.hwWait.eraseIdx i
        resp := r
        served := x.served + 1
        supersededHost := x.supersededHost + (if st = SUPERSEDED ∧ r.master = .host then 1 else 0)
        supersededMgmt := x.supersededMgmt + (if st = SUPERSEDED ∧ r.master = .mgmt then 1 else 0) }
      match w.ref with
      | none => s
      | some ref => deliver s ref r

/-! ## Writes to BAR0 -/

/-- A write to BAR0, the mailbox doorbell among them. -/
def bar0Store (s : State) (off size v : Nat) : State :=
  if off = 0x040 ∧ size = 8 then (if v < 16 then doMbxDb s v else s) else writeBar0 s off size v

/-- REGISTER_WRITE. -/
def doRegisterWrite (s : State) (off size v : Nat) : State := if hostUp s then bar0Store s off size v else s

end Sys2Proof.Machine
end

