-- ==== Sys2Proof/Machine/Oagal.lean ====
section
/-! DEFINITION. Oagal, the serial console of the management die (R506–R508). A command above the level in force, or one that
the package's state does not offer, prints nothing and changes nothing. -/
namespace Sys2Proof.Machine

/-- What the command prints, as (bytes, value). Log: 197 DESIGN CHOICE. -/
def oagalPrint (s : State) (l : List (Nat × Nat)) : State := s.modMgmt fun m => { m with oagalOut := l }

/-- The console answers: Ibfen has run, and no warm reset is under way; in recovery Headwater answers for `status`,
`challenge` and `recover` (R490). Log: 194 DEDUCED. -/
def oagalUp (s : State) : Bool := decide (2 ≤ s.flt.phase) && s.flt.phase != 7

/-- A command of a level, outside recovery. -/
def oagalAt (s : State) (level : Nat) (f : State → State) : State :=
  if ! oagalUp s ∨ s.flt.phase = 8 ∨ s.mgmt.oagalLevel < level then s else f s

/-- A session record of the log (TYPE 5). -/
def logSession (s : State) (what : Nat) : State := logAdd s 5 what

/-- Frames of a time in seconds, at 65.536 µs each, rounded up. -/
def secFrames (sec : Nat) : Nat := ceilDiv (sec * 10 ^ 9) 65536

/-- OAGAL_STATUS. -/
def doOagalStatus (s : State) : State :=
  if ! oagalUp s then s
  else
    oagalPrint s ([(1, s.flt.phase), (1, pairReads s), (1, tstateCode s.time.st), (1, s.mgmt.oagalLevel), (16, leNat (slice Config.serial 0 16)),
      (6, Config.mac.toNat)] ++ s.mgmt.netAddrs.map fun b => (1, b.toNat))

/-- OAGAL_CHALLENGE: a new nonce; any earlier one lapses. -/
def doOagalChallenge (s : State) : State :=
  if ! oagalUp s then s
  else
    let (v, s) := s.draw
    let n := v % 2 ^ 128
    oagalPrint (s.modMgmt fun m => { m with nonce := some n, nonceAt := s.time.lfc }) [(16, n)]

/-- OAGAL_NONCE_EXPIRY: ten minutes after its issue. -/
def doNonceExpiry (s : State) : State :=
  if s.mgmt.nonce.isNone ∨ s.time.lfc < s.mgmt.nonceAt + secFrames 600 then s
  else s.modMgmt fun m => { m with nonce := none }

/-- A key pair that R487 trusts for a token of a level. -/
def tokenTrust (s : State) (level : Nat) (k : Nat × Nat) : Bool := ownerTrust s k || (decide (level ≤ 2) && k == Config.servicePair)

/-- The level and duration of a token that the package accepts (R508). -/
def tokenOk (s : State) (token : Bytes) : Option (Nat × Nat) :=
  let w := leNat (slice token 0 128)
  let level := bits w 256 2
  let dur := bits w 264 17
  if token.length == 16864 && level != 0 && bits w 258 6 == 0 && decide (1 ≤ dur ∧ dur ≤ 86400) && bits w 281 743 == 0 &&
      bits w 0 128 == leNat (slice Config.serial 0 16) && s.mgmt.nonce == some (bits w 128 128) && objectOk 5 token (tokenTrust s level) then
    some (level, dur)
  else none

/-- OAGAL_UNLOCK. Log: 195 DEDUCED. -/
def doOagalUnlock (s : State) (token : Bytes) : State :=
  oagalAt s 0 fun s =>
    match tokenOk s token with
    | none => s
    | some (level, dur) =>
      logSession (s.modMgmt fun m => { m with nonce := none, oagalLevel := level, oagalUntil := s.time.lfc + secFrames dur }) level

/-- OAGAL_UNLOCK_EXPIRY: the DURATION has passed. -/
def doUnlockExpiry (s : State) : State :=
  if s.mgmt.oagalLevel = 0 ∨ s.time.lfc < s.mgmt.oagalUntil then s else oagalLock0 s

/-- OAGAL_SERIAL_LOCK. -/
def doOagalLock (s : State) : State := oagalAt s 0 oagalLock0

/-- OAGAL_RECOVER, in recovery only: the image is staged, verified and committed, and Headwater starts again (R490, R497). -/
def doOagalRecover (s : State) (image : Bytes) (flashOk : Bool) : State :=
  if s.flt.phase ≠ 8 ∨ 48 * 2 ^ 20 < image.length ∨ s.mgmt.update.writing.isSome then s
  else
    let s := s.modUpd fun u => { u with opened := true, size := image.length, data := Mem.writeBytes [] 0 image, verified := none, committed := false }
    match parseImage s image with
    | none => s
    | some i => (commitDone (logAdd (s.modUpd fun u => { u with verified := some i, writing := some flashOk, flash := none }) 3 1)).1

/-- OAGAL_SENSORS: the readings of SENSOR_GET, all 176. -/
def doOagalSensors (s : State) : State :=
  oagalAt s 1 fun s =>
    let (s, l) := readSensors s 0 176
    oagalPrint s (l.map fun v => (2, v))

/-- OAGAL_LOG: the log's records in flash. Log: 196 DEDUCED. -/
def doOagalLog (s : State) : State := oagalAt s 1 fun s => oagalPrint s (s.mgmt.log.map fun r => (128, r))

/-- OAGAL_HIST: the fault history. -/
def doOagalHist (s : State) : State := oagalAt s 1 fun s => oagalPrint s (s.flt.history.map fun h => (64, h))

/-- The 8 bytes of BAR0 at an offset: a register of 8 bytes, two halves of 4 bytes, or the bytes of a mailbox slot (R379). -/
def bar0Word (s : State) (off : Nat) : Nat :=
  if 0x10000 ≤ off ∧ off < 0x20000 then
    leNat (slice (AMap.get ({} : Slot) s.mbx.hostSlots ((off - 0x10000) / 4096)).frame (off % 4096) 8)
  else match readBar0 s off 8 with
  | some v => v
  | none => (readBar0 s off 4).getD 0 + 2 ^ 32 * (readBar0 s (off + 4) 4).getD 0

/-- OAGAL_RD: an offset of BAR0, or a fabric address in a control window of this node. -/
def doOagalRd (s : State) (addr : Nat) : State :=
  oagalAt s 1 fun s =>
    if addr % 8 ≠ 0 then s
    else if addr < 0x200000 then oagalPrint s [(8, bar0Word s addr)]
    else if s.base ≤ addr ∧ isCtlOff (addr - s.base) then
      let (t, s) := s.drawTick
      match readCtl s (addr - s.base) 8 t with
      | some b => oagalPrint s [(8, leNat b)]
      | none => s
    else s

/-- OAGAL_MBX: a frame in the management network's rank; at level 1 only commands without a conflict key. A response that
waits on hardware is not printed. -/
def doOagalMbx (s : State) (frame : Bytes) : State :=
  oagalAt s 1 fun s =>
    if frame.length ≠ 4096 ∨ s.mbx.cur.isSome ∨ s.mgmt.halted then s
    else
      let r := requestOf s .mgmt 0 frame
      if s.mgmt.oagalLevel < 2 ∧ ! r.keys.isEmpty then s
      else
        let s1 := outrankWaiting (s.modMbx fun m => { m with resp := {} }) r.keys
        let t := match r.answer with
          | .inl st => respond s1 .mgmt r.code st
          | .inr (c, v) => c.run s1 .mgmt v
        let x := t.mbx.resp
        oagalPrint t (if x.code = 0 then [] else [(2, x.code), (1, x.status)] ++ x.data)

/-- The partition in whose name the management network writes a control window: a counter's own. -/
def ctlPart (s : State) (off : Nat) : Nat :=
  match winOf off with
  | .gcw g o => (ctrOwner s g (o / 8)).getD 0
  | _ => 0

/-- OAGAL_WR: as `rd`, 8 bytes. Log: 198 DEDUCED. -/
def doOagalWr (s : State) (addr v : Nat) : State :=
  oagalAt s 2 fun s =>
    if addr % 8 ≠ 0 then s
    else if addr < 0x200000 then
      (if (readBar0 s addr 8).isSome ∨ (0x10000 ≤ addr ∧ addr < 0x20000) then bar0Store s addr 8 v
       else bar0Store (bar0Store s addr 4 (bits v 0 32)) (addr + 4) 4 (bits v 32 32))
    else if s.base ≤ addr ∧ isCtlOff (addr - s.base) then
      (writeCtl s (addr - s.base) (ctlPart s (addr - s.base)) opWR (leBytes 8 v) none).1
    else s

/-- OAGAL_NET: the management port's mode and its static addresses. -/
def doOagalNet (s : State) (sgmii : Bool) (addrs : Bytes) : State :=
  oagalAt s 2 fun s => s.modMgmt fun m => { m with netSgmii := sgmii, netAddrs := addrs }

/-- OAGAL_INJECT: as FAULT_INJECT. -/
def doOagalInject (s : State) (cls inst cause count : Nat) : State :=
  oagalAt s 2 fun s =>
    if ! sourceOk' cls inst ∨ cause = 0 ∨ causeCount cls < cause ∨ count < 1 ∨ 255 < count then s
    else injectN s { die := raiseDie cls inst, cls := cls, inst := inst, cause := cause } count

/-- OAGAL_JTAG: the private instructions are enabled while the level holds. Log: 193 DEDUCED. -/
def doOagalJtag (s : State) : State := oagalAt s 3 fun s => s.modMgmt fun m => { m with jtag := true }

/-- OAGAL_HALT: both management cores stop together. -/
def doOagalHalt (s : State) : State := oagalAt s 3 fun s => s.modMgmt fun m => { m with halted := true }

/-- OAGAL_STEP: both halted cores take one step together. -/
def doOagalStep (s : State) : State :=
  oagalAt s 3 fun s => if s.mgmt.halted then s.modMgmt fun m => { m with steps := m.steps + 1 } else s

end Sys2Proof.Machine
end

