-- ==== Sys2Proof/Machine/Vector.lean ====
section
/-! DEFINITION. VOP and VRED (R112, R163–R166, R185, R198, R216). -/
namespace Sys2Proof.Machine

/-- One VOP row's FP32 results: `a`, `b` and `d` are the FP32 codes of SRC0, SRC1 and DST's row (R165). -/
def vopRow (fn : Nat) (a b d : List Nat) : List Nat :=
  let z (f : Nat → Nat → Nat) : List Nat := a.zipWith f b
  if fn = 0x01 then z fAdd
  else if fn = 0x02 then z fSub
  else if fn = 0x03 ∨ fn = 0x0E then z fMul
  else if fn = 0x04 then (List.range a.length).map fun i => fFma (a.getD i 0) (b.getD i 0) (d.getD i 0)
  else if fn = 0x05 then z fMax
  else if fn = 0x06 then z fMin
  else if fn = 0x07 then a.map fExp
  else if fn = 0x08 then a.map fExp2
  else if fn = 0x09 then a.map fRcp
  else if fn = 0x0A then a.map fRsqrt
  else if fn = 0x0C then a.map fSilu
  else if fn = 0x0D then (List.range a.length).map fun i =>
    let k := i / 2 * 2
    let (x, y, c, t) := (a.getD k 0, a.getD (k + 1) 0, b.getD k 0, b.getD (k + 1) 0)
    if i % 2 = 0 then fSub (fMul x c) (fMul y t) else fAdd (fMul x t) (fMul y c)
  else a

/-- Lane-cycles per element (R165). -/
def laneCycles (fn : Nat) : Nat :=
  if fn = 0x0C then 4 else if fn = 0x0D ∨ fn = 0x10 then 3 else if fn = 0x0F ∨ fn = 0x11 then 2 else 1

/-- The FP32 codes of an operand's row (R112, R201). -/
def Operand.rowF32 (x : Operand) (r cols : Nat) : List Nat :=
  (List.range cols).map fun c => toF32 (scaledElem x.d.fmt (x.code r c) (x.scale r c))

def Operand.rowBad (x : Operand) (r cols : Nat) : List Bool := (List.range cols).map fun c => x.isBad r c

/-- Atoms of a run in which an element is poisoned: `w` bits an element. Log: 40 DEDUCED. -/
def badRunAtoms (addr w : Nat) (bad : List Bool) : List Nat :=
  if bad.all (! ·) then []
  else ((List.range bad.length).filter fun i => bad.getD i false).flatMap fun i =>
    [(addr + i * w / 8) / 64, (addr + (i * w + w - 1) / 8) / 64]

/-- One row to write: its address, its bytes, its poisoned atoms, its FP32 results and which are poisoned. -/
structure OutRow where
  addr : Nat
  d : Bytes
  bad : List Nat
  vals : List Nat
  vbad : List Bool

/-- Write a vector command's rows, and end its work. DETAIL names the first poisoned block, of 512 elements in raster order, where a
matrix product's does (R163, R179). Log: 235 DESIGN CHOICE. -/
def writeRows (s : State) (g q : Nat) (l : CmdList) (r : Running) (op : Nat) (rows : List OutRow) (extra : List OutRow)
    (count cycles : Nat) : State :=
  let s := (rows ++ extra).foldl (fun s y => writeFor s g 2 q r.idx l.ctx y.addr y.d (fun t => y.bad.contains t) op) s
  let special := ((List.range rows.length).flatMap fun i =>
    match rows[i]? with
    | some y => ((List.range y.vals.length).filter fun j => fSpecial (y.vals.getD j 0) && ! y.vbad.getD j false).map fun j => (i, j)
    | none => []).head?
  let bad := rows.any fun y => ! y.bad.isEmpty
  let first := (rows.zipIdx.flatMap fun y => (List.range y.1.vbad.length).filterMap fun j =>
    if y.1.vbad.getD j false then some (y.2 * y.1.vbad.length + j) else none).head?
  writesIssued s g 2 q r.idx (if bad then POISONED else OK) fun r => { r with
    count := count
    naninf := special.isSome
    nanRow := (special.getD (0, 0)).1
    nanCol := (special.getD (0, 0)).2
    detail := pack [(32, cycles), (32, 0), (32, first.getD 0 / 512)] }

/-- A vector command whose operand is refused ends with DENIED (R56). -/
def vecDenied (s : State) (g q : Nat) (l : CmdList) (r : Running) (op ad : Nat) : State :=
  endRun (refuseRun s g 2 q r.idx l.ctx l.part ad op DENIED) g 2 q r.idx DENIED

/-- The lanes that a running ATTN leaves to the vector queues (R118). -/
def vecLanes (s : State) (g : Nat) : Nat :=
  if (s.grp g).queues.any (fun q => q.2.started.any fun r => r.opcode == 0x28 && r.st == 0) then 128 else 512

/-- Slices of a vector command of some lane-cycles: 256 cycles each (R117, R165). -/
def vecSlices (s : State) (g cycles : Nat) : Nat := ceilDiv (ceilDiv cycles (vecLanes s g)) 256

/-- SRC1 of a VOP: rows, by function, broadcast and immediate (R164). -/
def src1Shape (c rows cols : Nat) : Nat × Nat :=
  if bits c 480 8 = 0x0E then (1, rows) else (if bitAt c 490 then 1 else rows, cols)

/-- SRC1 is read at all. -/
def src1Read (c : Nat) : Bool := ! isUnary (bits c 480 8) && ! bitAt c 491

/-- The element-wise functions. Log: 20 DEDUCED. -/
def vopElems (s : State) (g q : Nat) (l : CmdList) (r : Running) (c : Nat) : State :=
  let a := descAt c 64
  let b := descAt c 192
  let o := descAt c 320
  let rows := bits c 448 16 + 1
  let cols := bits c 464 16 + 1
  let fn := bits c 480 8
  let dst := operandRuns o rows cols false
  let (r1, c1) := src1Shape c rows cols
  let (s, xa) := loadOperand s g 2 q r.idx l.part a rows cols false dst
  let (s, xb) := if src1Read c then
      loadOperand s g 2 q r.idx l.part (if fn = 0x0E then { b with ld := 0 } else b) r1 c1 false dst else (s, {})
  let (s, xd) := if fn = 0x04 then loadOperand s g 2 q r.idx l.part o rows cols false [] else (s, {})
  match (xa.denied.orElse fun _ => xb.denied).orElse fun _ => xd.denied with
  | some ad => vecDenied s g q l r 0x18 ad
  | none =>
    let imm := bits c 192 32
    let rowB (i : Nat) : List Nat :=
      if bitAt c 491 then List.replicate cols imm
      else if isUnary fn then []
      else if fn = 0x0E then List.replicate cols ((xb.rowF32 0 rows).getD i 0)
      else xb.rowF32 (if bitAt c 490 then 0 else i) cols
    let badB (i : Nat) : List Bool :=
      if bitAt c 491 ∨ isUnary fn then List.replicate cols false
      else if fn = 0x0E then List.replicate cols ((xb.rowBad 0 rows).getD i false)
      else xb.rowBad (if bitAt c 490 then 0 else i) cols
    let sr (i j : Nat) : Option Nat := if bitAt c 488 ∧ isNarrow o.fmt then some (srBits l.id r.idx g i j) else none
    let sp := bitAt c 489
    let vals (i : Nat) : List Nat :=
      vopRow fn (xa.rowF32 i cols) (rowB i) (if fn = 0x04 then xd.rowF32 i cols else [])
    let bads (i : Nat) : List Bool :=
      let one := (xa.rowBad i cols).zipWith (· || ·) (badB i)
      let one := if fn = 0x04 then one.zipWith (· || ·) (xd.rowBad i cols) else one
      let n := if fn = 0x0D then 2 else if fn = 0x0F then 32 else 1
      (List.range cols).map fun j => ((one.drop (j / n * n)).take n).any id
    let at' (i : Nat) : Nat := (o.addr + i * o.ld) % 2 ^ 56
    if fn = 0x0F then
      let (sd, _, sc) := scaleDesc o rows cols false
      let mx (i : Nat) : List (Nat × List Nat) :=
        let blks := chunksOf 32 (cols + 1) (vals i)
        (List.range blks.length).map fun t => mxBlock o.fmt sp (fun k => sr i (32 * t + k)) (blks.getD t [])
      let main := (List.range rows).map fun i =>
        ({ addr := at' i, d := packElems o.fmt ((mx i).flatMap (·.2)), bad := badRunAtoms (at' i) (fmtBits o.fmt) (bads i)
           vals := vals i, vbad := bads i } : OutRow)
      let scales := (List.range rows).map fun i =>
        let ad := (sd.addr + i * sd.ld) % 2 ^ 56
        ({ addr := ad, d := packElems fE8M0 ((mx i).map (·.1))
           bad := badRunAtoms ad 8 ((List.range sc).map fun t => (bads i).getD (32 * t) false), vals := [], vbad := [] } : OutRow)
      writeRows s g q l r 0x18 main scales (rows * cols) (rows * cols * 2)
    else
      let main := (List.range rows).map fun i =>
        let v := vals i
        ({ addr := at' i
           d := packElems o.fmt ((List.range cols).map fun j => encElem o.fmt sp (sr i j) (f32 (v.getD j 0)))
           bad := badRunAtoms (at' i) (fmtBits o.fmt) (bads i), vals := v, vbad := bads i } : OutRow)
      writeRows s g q l r 0x18 main [] (rows * cols) (rows * cols * laneCycles fn)

/-- An attention partial as bytes read from its entry. -/
def readEntry (s : State) (g q i part addr dim : Nat) (vol : Bool) (dst : List (Nat × Nat)) :
    State × (Nat × Nat × List Nat) × Bool × Option Nat :=
  let (s, d, bad, den) := readFor s g 2 q i part addr (64 + 4 * dim) vol
  let (s, d) := blur s d addr dst
  (s, (leNat (slice d 0 4), leNat (slice d 4 4), unpackElems fFP32 (slice d 64 (4 * dim)) dim), ! bad.isEmpty, den)

/-- Entries of an array of partials. -/
def readEntries (s : State) (g q i part : Nat) (d : Desc) (n dim : Nat) (dst : List (Nat × Nat)) :
    State × List ((Nat × Nat × List Nat) × Bool) × Option Nat :=
  (List.range n).foldl (fun (s, l, den) k =>
    let (s, x, bad, dn) := readEntry s g q i part ((d.addr + k * d.ld) % 2 ^ 56) dim d.vol dst
    (s, l ++ [(x, bad)], den.orElse fun _ => dn)) (s, [], none)

/-- MERGE and FINISH (R165, R216). -/
def vopPartials (s : State) (g q : Nat) (l : CmdList) (r : Running) (c : Nat) : State :=
  let a := descAt c 64
  let b := descAt c 192
  let o := descAt c 320
  let n := bits c 448 16 + 1
  let dim := bits c 464 16 + 1
  let fn := bits c 480 8
  let dst := if fn = 0x10 then entryRuns o n dim else operandRuns o n dim false
  let (s, xa, da) := readEntries s g q r.idx l.part a n dim dst
  let (s, xb, db) := if fn = 0x10 then readEntries s g q r.idx l.part b n dim dst else (s, [], none)
  match da.orElse fun _ => db with
  | some ad => vecDenied s g q l r 0x18 ad
  | none =>
    let part (x : Nat × Nat × List Nat) : Part := { m := x.1, s := x.2.1, o := x.2.2 }
    let at' (i : Nat) : Nat := (o.addr + i * o.ld) % 2 ^ 56
    let rows := (List.range n).map fun i =>
      let x := xa.getD i ((0, 0, []), false)
      if fn = 0x10 then
        let y := xb.getD i ((0, 0, []), false)
        let z := mergePart (part x.1) (part y.1)
        let bad := x.2 || y.2
        ({ addr := at' i, d := partBytes z, bad := if bad then atomsOf (at' i) (64 + 4 * dim) else []
           vals := z.o, vbad := List.replicate dim bad } : OutRow)
      else
        let v := finishPart (part x.1)
        let sr (j : Nat) : Option Nat := if bitAt c 488 ∧ isNarrow o.fmt then some (srBits l.id r.idx g i j) else none
        ({ addr := at' i
           d := packElems o.fmt ((List.range dim).map fun j => encElem o.fmt (bitAt c 489) (sr j) (f32 (v.getD j 0)))
           bad := if x.2 then atomsOf (at' i) (eBytes o.fmt dim) else [], vals := v, vbad := List.replicate dim x.2 } : OutRow)
    writeRows s g q l r 0x18 rows [] (n * dim) (n * dim * laneCycles fn)

/-- VOP: fetch the sources, then compute. -/
def doVop (s : State) (g q : Nat) : State :=
  runCommand s g 2 q 0x18 fun s l r c =>
    let a := descAt c 64
    let b := descAt c 192
    let o := descAt c 320
    let rows := bits c 448 16 + 1
    let cols := bits c 464 16 + 1
    let fn := bits c 480 8
    let ent (d : Desc) : List (Nat × Nat × Bool) := (entryRuns d rows cols).map fun x => (x.1, x.2, d.vol)
    if fn = 0x10 ∨ fn = 0x11 then
      fetchThen s g 2 q l r 0x18 (vecSlices s g (rows * cols * laneCycles fn)) (ent a ++ (if fn = 0x10 then ent b else []))
        (if fn = 0x10 then entryRuns o rows cols else operandRuns o rows cols false) fun s r => vopPartials s g q l r c
    else
      let (r1, c1) := src1Shape c rows cols
      fetchThen s g 2 q l r 0x18 (vecSlices s g (rows * cols * laneCycles fn))
        (operandRanges a rows cols false ++
         (if src1Read c then operandRanges (if fn = 0x0E then { b with ld := 0 } else b) r1 c1 false else []) ++
         (if fn = 0x04 then operandRanges o rows cols false else []))
        (operandRuns o rows cols false)
        fun s r => vopElems s g q l r c

/-- A row's reduction (R166). Log: 21 DEDUCED. -/
def vredRow (fn : Nat) (row : List Nat) : Nat :=
  if fn = 1 then passReduce fAdd row
  else if fn = 2 then passReduce fMax row
  else if fn = 3 then passReduce fMin row
  else if fn = 4 then passReduce fAdd (row.map fun x => fMul x x)
  else passReduce fMax (row.map fAbs)

/-- A reduction computes and writes its results. -/
def vredRun (s : State) (g q : Nat) (l : CmdList) (r : Running) (c : Nat) : State :=
  let a := descAt c 64
  let o := descAt c 320
  let rows := bits c 448 16 + 1
  let cols := bits c 464 16 + 1
  let (s, xa) := loadOperand s g 2 q r.idx l.part a rows cols false [(o.addr, 4 * rows)]
  match xa.denied with
  | some ad => vecDenied s g q l r 0x19 ad
  | none =>
    let out := (List.range rows).map fun i =>
      let v := vredRow (bits c 480 8) (xa.rowF32 i cols)
      let bad := (xa.rowBad i cols).any id
      let ad := (o.addr + 4 * i) % 2 ^ 56
      ({ addr := ad, d := [], bad := if bad then [ad / 64] else [], vals := [v], vbad := [bad] } : OutRow)
    let all : OutRow := { addr := o.addr, d := out.flatMap fun y => y.vals.flatMap (leBytes 4)
                          bad := out.flatMap (·.bad), vals := [], vbad := [] }
    writeRows s g q l r 0x19 out [all] rows (rows * cols)

/-- VRED: fetch the source, then reduce. -/
def doVred (s : State) (g q : Nat) : State :=
  runCommand s g 2 q 0x19 fun s l r c =>
    let (rows, cols) := (bits c 448 16 + 1, bits c 464 16 + 1)
    fetchThen s g 2 q l r 0x19 (vecSlices s g (rows * cols)) (operandRanges (descAt c 64) rows cols false)
      [((descAt c 320).addr, 4 * rows)]
      fun s r => vredRun s g q l r c

end Sys2Proof.Machine
end

