-- ==== Sys2Proof/Machine/MeanMailbox.lean ====
section
/-! DEFINITION. The meanings: The mailbox commands as rows of their own. Every step ends with the faults it raised taken (R439). -/
namespace Sys2Proof.Machine

/-- The next state of a command: its effect, and the reactions to the faults it raised. -/
def done (s : State) : Host.Outcome State Fault Refusal := .next (settle s)

/-- IDENTIFY (R393). -/
def execIdentify (m : Master) (s : State) : Host.Outcome State Fault Refusal :=
  done (direct s m 0x0100 [] fun s => identify s m)

/-- MBX_INFO (R393). -/
def execMbxInfo (m : Master) (clear : Bool) (s : State) : Host.Outcome State Fault Refusal :=
  done (direct s m 0x0101 [] fun s => mbxInfo s m clear)

/-- SENSOR_GET (R480). -/
def execSensorGet (m : Master) (first count : Nat) (s : State) : Host.Outcome State Fault Refusal :=
  done (direct s m 0x0110 [] fun s => sensorGet s m first count)

/-- LOG_READ (R481). -/
def execLogRead (m : Master) (first count : Nat) (s : State) : Host.Outcome State Fault Refusal :=
  done (direct s m 0x0111 [] fun s => logRead s m first count)

/-- HOST_PARTS_SET (R382). -/
def execHostPartsSet (m : Master) (mask : BitVec 64) (s : State) : Host.Outcome State Fault Refusal :=
  done (direct s m 0x0201 [.hostParts] fun s => hostPartsSet s m mask)

/-- PART_START (R462). -/
def execPartStart (m : Master) (part : Nat) (s : State) : Host.Outcome State Fault Refusal :=
  done (direct s m 0x0202 [.part part] fun s => partStart s m part)

/-- PART_STOP (R473). -/
def execPartStop (m : Master) (part : Nat) (s : State) : Host.Outcome State Fault Refusal :=
  done (direct s m 0x0203 [.part part] fun s => partStop s m part)

/-- CTX_SET (R44). -/
def execCtxSet (m : Master) (ctx : Nat) (desc : BitVec 64) (s : State) : Host.Outcome State Fault Refusal :=
  done (direct s m 0x0210 [.ctx ctx] fun s => ctxSet s m ctx desc)

/-- CTX_CLEAR (R44). -/
def execCtxClear (m : Master) (ctx : Nat) (s : State) : Host.Outcome State Fault Refusal :=
  done (direct s m 0x0211 [.ctx ctx] fun s => ctxClear s m ctx)

/-- SEG_SET (R40). -/
def execSegSet (m : Master) (ctx slot : Nat) (desc : BitVec 128) (s : State) : Host.Outcome State Fault Refusal :=
  done (direct s m 0x0212 [.ctx ctx] fun s => segSet s m ctx slot desc)

/-- SEG_CLEAR (R44). -/
def execSegClear (m : Master) (ctx slot : Nat) (s : State) : Host.Outcome State Fault Refusal :=
  done (direct s m 0x0213 [.ctx ctx] fun s => segClear s m ctx slot)

/-- BIND_SET (R38). -/
def execBindSet (m : Master) (node part ctx : Nat) (s : State) : Host.Outcome State Fault Refusal :=
  done (direct s m 0x0214 [.bind node part] fun s => bindSet s m node part ctx)

/-- BIND_CLEAR (R44). -/
def execBindClear (m : Master) (node part : Nat) (s : State) : Host.Outcome State Fault Refusal :=
  done (direct s m 0x0215 [.bind node part] fun s => bindClear s m node part)

/-- CTX_GET (R44). -/
def execCtxGet (m : Master) (ctx : Nat) (s : State) : Host.Outcome State Fault Refusal :=
  done (direct s m 0x0216 [] fun s => ctxGet s m ctx)

/-- XLAT_FLUSH (R53). -/
def execXlatFlush (m : Master) (ctx : Nat) (s : State) : Host.Outcome State Fault Refusal :=
  done (direct s m 0x0217 [.ctx ctx] fun s => xlatFlush s m ctx)

/-- LIST_ABORT_CMD (R393). -/
def execListAbortCmd (m : Master) (g listId : Nat) (s : State) : Host.Outcome State Fault Refusal :=
  done (direct s m 0x0220 [.list g listId] fun s => listAbortCmd s m g listId)

/-- MANIFEST_LOAD (R473). -/
def execManifestLoad (m : Master) (index count : Nat) (fragment : Bytes) (s : State) : Host.Outcome State Fault Refusal :=
  done (direct s m 0x0300 [] fun s => manifestLoad s m index count fragment)

/-- DISCOVERY_GET (R473). -/
def execDiscoveryGet (m : Master) (first count : Nat) (s : State) : Host.Outcome State Fault Refusal :=
  done (direct s m 0x0301 [] fun s => discoveryGet s m first count)

/-- QUARANTINE_CLEAR (R460). -/
def execQuarantineClear (m : Master) (port : Nat) (s : State) : Host.Outcome State Fault Refusal :=
  done (direct s m 0x0302 [.port port] fun s => quarantineClear s m port)

/-- PAIR_GET (R473). -/
def execPairGet (m : Master) (s : State) : Host.Outcome State Fault Refusal :=
  done (direct s m 0x0303 [] fun s => pairGet s m)

/-- PAIR_FAILOVER (R469). -/
def execPairFailover (m : Master) (solo : Bool) (s : State) : Host.Outcome State Fault Refusal :=
  done (direct s m 0x0304 [] fun s => pairFailover s m solo)

/-- PAIR_RESTORE (R470). -/
def execPairRestore (m : Master) (frame : Nat) (s : State) : Host.Outcome State Fault Refusal :=
  done (direct s m 0x0305 [] fun s => pairRestore s m frame)

/-- PKT_CTRL_SET (R314). -/
def execPktCtrlSet (m : Master) (loadTmo : Nat) (localise : Bool) (s : State) : Host.Outcome State Fault Refusal :=
  done (direct s m 0x0380 [.pktCtrl] fun s => pktCtrlSet s m loadTmo localise)

/-- DEAD_SET (R315). -/
def execDeadSet (m : Master) (node : Nat) (s : State) : Host.Outcome State Fault Refusal :=
  done (direct s m 0x0381 [.dead node] fun s => deadSet s m node)

/-- DEAD_CLEAR (R316). -/
def execDeadClear (m : Master) (node : Nat) (s : State) : Host.Outcome State Fault Refusal :=
  done (direct s m 0x0382 [.dead node] fun s => deadClear s m node)

/-- PKT_STATS (R316). -/
def execPktStats (m : Master) (clear : Bool) (s : State) : Host.Outcome State Fault Refusal :=
  done (direct s m 0x0383 [] fun s => pktStats s m clear)

/-- LINK_SET (R376). -/
def execLinkSet (m : Master) (ports : BitVec 128) (value : BitVec 32) (s : State) : Host.Outcome State Fault Refusal :=
  done (direct s m 0x0390 (((List.range 128).filter ports.toNat.testBit).map .port) fun s => linkSet s m ports value)

/-- LINK_GET (R376). -/
def execLinkGet (m : Master) (first count : Nat) (s : State) : Host.Outcome State Fault Refusal :=
  done (direct s m 0x0391 [] fun s => linkGet s m first count)

/-- TIME_SET (R420). -/
def execTimeSet (m : Master) (role base steerLimit : Nat) (s : State) : Host.Outcome State Fault Refusal :=
  done (direct s m 0x03A0 [] fun s => timeSet s m role base steerLimit)

/-- TIME_GET (R420). -/
def execTimeGet (m : Master) (s : State) : Host.Outcome State Fault Refusal :=
  done (direct s m 0x03A1 [] fun s => timeGet s m)

/-- TIME_ACCEPT (R417). -/
def execTimeAccept (m : Master) (s : State) : Host.Outcome State Fault Refusal :=
  done (direct s m 0x03A2 [] fun s => timeAccept s m)

/-- POLICY_SET (R97). -/
def execPolicySet (m : Master) (part : Nat) (block : BitVec 128) (s : State) : Host.Outcome State Fault Refusal :=
  done (direct s m 0x0400 [.policy part] fun s => policySet s m part block)

/-- POLICY_GET (R105). -/
def execPolicyGet (m : Master) (part : Nat) (s : State) : Host.Outcome State Fault Refusal :=
  done (direct s m 0x0401 [] fun s => policyGet s m part)

/-- BUDGET_SET (R98). -/
def execBudgetSet (m : Master) (settings : BitVec 64) (s : State) : Host.Outcome State Fault Refusal :=
  done (direct s m 0x0402 [.placement] fun s => budgetSet s m settings)

/-- PARCEL_SET (R104). -/
def execParcelSet (m : Master) (first count op owner cls pin : Nat) (s : State) : Host.Outcome State Fault Refusal :=
  done (direct s m 0x0403 ((range' first (min count 1024)).map .parcel) fun s => parcelSet s m first count op owner cls pin)

/-- PARCEL_GET (R105). -/
def execParcelGet (m : Master) (parcel : Nat) (s : State) : Host.Outcome State Fault Refusal :=
  done (direct s m 0x0404 [] fun s => parcelGet s m parcel)

/-- MOVE (R105). -/
def execMove (m : Master) (parcel : Nat) (dest : BitVec 32) (s : State) : Host.Outcome State Fault Refusal :=
  done (direct s m 0x0405 [.parcel parcel] fun s => moveCmd s m parcel dest)

/-- EVACUATE (R99). -/
def execEvacuate (m : Master) (stack : Nat) (force : Bool) (s : State) : Host.Outcome State Fault Refusal :=
  done (direct s m 0x0406 [.stack stack] fun s => evacuate s m stack force)

/-- LEND_SET (R79). -/
def execLendSet (m : Master) (region : Nat) (host : Bool) (holder base count : Nat) (s : State) : Host.Outcome State Fault Refusal :=
  done (direct s m 0x0407 [.lend region] fun s => lendSet s m region host holder base count)

/-- LEND_CLEAR (R79). -/
def execLendClear (m : Master) (region : Nat) (s : State) : Host.Outcome State Fault Refusal :=
  done (direct s m 0x0408 [.lend region] fun s => lendClear s m region)

/-- MIRROR_RESERVE_SET (R76). -/
def execMirrorReserveSet (m : Master) (perStack : Nat) (s : State) : Host.Outcome State Fault Refusal :=
  done (direct s m 0x0409 [.placement] fun s => mirrorReserveSet s m perStack)

/-- MAINT_SET (R73). -/
def execMaintSet (m : Master) (hours : Nat) (s : State) : Host.Outcome State Fault Refusal :=
  done (direct s m 0x040A [.placement] fun s => maintSet s m hours)

/-- PLACE_STATS (R105). -/
def execPlaceStats (m : Master) (clear : Bool) (s : State) : Host.Outcome State Fault Refusal :=
  done (direct s m 0x040B [] fun s => placeStats s m clear)

/-- POWER_SET (R421). -/
def execPowerSet (m : Master) (capFrame : Nat) (cfg : BitVec 64) (s : State) : Host.Outcome State Fault Refusal :=
  done (direct s m 0x0500 [.power] fun s => powerSet s m capFrame cfg)

/-- POWER_GET (R438). -/
def execPowerGet (m : Master) (s : State) : Host.Outcome State Fault Refusal :=
  done (direct s m 0x0501 [] fun s => powerGet s m)

/-- POWER_PLAN_GET (R424). -/
def execPowerPlanGet (m : Master) (s : State) : Host.Outcome State Fault Refusal :=
  done (direct s m 0x0502 [] fun s => powerPlanGet s m)

/-- POWER_HEARTBEAT (R432). -/
def execPowerHeartbeat (m : Master) (s : State) : Host.Outcome State Fault Refusal :=
  done (direct s m 0x0503 [] fun s => powerHeartbeat s m)

/-- POWER_RESUME (R433). -/
def execPowerResume (m : Master) (s : State) : Host.Outcome State Fault Refusal :=
  done (direct s m 0x0504 [.power] fun s => powerResume s m)

/-- FLOW_REPORT (R430). -/
def execFlowReport (m : Master) (loss : Bool) (s : State) : Host.Outcome State Fault Refusal :=
  done (direct s m 0x0505 [] fun s => flowReport s m loss)

/-- FAULT_GET (R472). -/
def execFaultGet (m : Master) (seq : Nat) (s : State) : Host.Outcome State Fault Refusal :=
  done (direct s m 0x0600 [] fun s => faultGet s m seq)

/-- FAULT_SET (R440). -/
def execFaultSet (m : Master) (cls inst reaction : Nat) (s : State) : Host.Outcome State Fault Refusal :=
  done (direct s m 0x0601 [.fault cls inst] fun s => faultSet s m cls inst reaction)

/-- FAULT_ACK (R443). -/
def execFaultAck (m : Master) (seq : Nat) (s : State) : Host.Outcome State Fault Refusal :=
  done (direct s m 0x0602 [] fun s => faultAck s m seq)

/-- UNIT_FENCE (R472). -/
def execUnitFence (m : Master) (cls inst : Nat) (s : State) : Host.Outcome State Fault Refusal :=
  done (direct s m 0x0603 [.fault cls inst] fun s => unitFence s m cls inst)

/-- UNIT_RETURN (R451). -/
def execUnitReturn (m : Master) (cls inst : Nat) (selfTest : Bool) (s : State) : Host.Outcome State Fault Refusal :=
  done (direct s m 0x0604 [.fault cls inst] fun s => unitReturn s m cls inst selfTest)

/-- WARM_RESET (R453). -/
def execWarmReset (m : Master) (s : State) : Host.Outcome State Fault Refusal :=
  done (direct s m 0x0605 [] fun s => warmReset s m)

/-- FAULT_INJECT (R472). -/
def execFaultInject (m : Master) (cls inst cause count : Nat) (s : State) : Host.Outcome State Fault Refusal :=
  done (direct s m 0x0606 [.fault cls inst] fun s => faultInject s m cls inst cause count)

/-- UPDATE_BEGIN (R497). -/
def execUpdateBegin (m : Master) (bytes : Nat) (s : State) : Host.Outcome State Fault Refusal :=
  done (direct s m 0x0700 [.update] fun s => updateBegin s m bytes)

/-- UPDATE_DATA (R497). -/
def execUpdateData (m : Master) (offset : Nat) (data : Bytes) (s : State) : Host.Outcome State Fault Refusal :=
  done (direct s m 0x0701 [.update] fun s => updateData s m offset data)

/-- UPDATE_VERIFY (R497). -/
def execUpdateVerify (m : Master) (s : State) : Host.Outcome State Fault Refusal :=
  done (direct s m 0x0702 [.update] fun s => updateVerify s m)

/-- UPDATE_COMMIT (R498). -/
def execUpdateCommit (m : Master) (flashOk : Bool) (s : State) : Host.Outcome State Fault Refusal :=
  done (direct s m 0x0703 [.update] fun s => updateCommit s m flashOk)

/-- UPDATE_ACTIVATE (R499). -/
def execUpdateActivate (m : Master) (comp : Nat) (mask : Nat) (force : Bool) (s : State) : Host.Outcome State Fault Refusal :=
  done (direct s m 0x0704 [.update] fun s => updateActivate s m comp mask force)

/-- UPDATE_STATUS (R509). -/
def execUpdateStatus (m : Master) (s : State) : Host.Outcome State Fault Refusal :=
  done (direct s m 0x0705 [] fun s => updateStatus s m)

/-- UPDATE_ABORT (R509). -/
def execUpdateAbort (m : Master) (s : State) : Host.Outcome State Fault Refusal :=
  done (direct s m 0x0706 [.update] fun s => updateAbort s m)

/-- OWNER_SET (R491). -/
def execOwnerSet (m : Master) (auth : CredAuth) (rsaKey slhKey : Bytes) (s : State) : Host.Outcome State Fault Refusal :=
  done (direct s m 0x0800 [.security] fun s => ownerSet s m auth rsaKey slhKey)

/-- CRED_SET (R491). -/
def execCredSet (m : Master) (auth : CredAuth) (anchors : List Bytes) (s : State) : Host.Outcome State Fault Refusal :=
  done (direct s m 0x0801 [.security] fun s => credSet s m auth anchors)

/-- CRED_GET (R509). -/
def execCredGet (m : Master) (s : State) : Host.Outcome State Fault Refusal :=
  done (direct s m 0x0802 [] fun s => credGet s m)

/-- SVN_RAISE (R488). -/
def execSvnRaise (m : Master) (s : State) : Host.Outcome State Fault Refusal :=
  done (direct s m 0x0803 [.security] fun s => svnRaise s m)

/-- KEY_REVOKE (R488). -/
def execKeyRevoke (m : Master) (pair : Nat) (s : State) : Host.Outcome State Fault Refusal :=
  done (direct s m 0x0804 [.security] fun s => keyRevoke s m pair)

/-- OAGAL_LOCK (R509). -/
def execOagalLock (m : Master) (s : State) : Host.Outcome State Fault Refusal :=
  done (direct s m 0x0805 [.security] fun s => oagalLockCmd s m)

/-- SLUICE_START (R402). -/
def execSluiceStart (m : Master) (session : Nat) (s : State) : Host.Outcome State Fault Refusal :=
  done (direct s m 0x0820 [.security] fun s => sluiceStart s m session)

/-- SLUICE_REKEY (R403). -/
def execSluiceRekey (m : Master) (s : State) : Host.Outcome State Fault Refusal :=
  done (direct s m 0x0821 [.security] fun s => sluiceRekey s m)

/-- SEQ_REGISTER (R206). -/
def execSeqRegister (m : Master) (desc : BitVec 512) (s : State) : Host.Outcome State Fault Refusal :=
  done (direct s m 0x0900 [] fun s => seqRegister s m desc)

/-- SEQ_GET (R224). -/
def execSeqGet (m : Master) (ctx first : Nat) (s : State) : Host.Outcome State Fault Refusal :=
  done (direct s m 0x0901 [] fun s => seqGet s m ctx first)

/-- SEQ_RELEASE (R224). -/
def execSeqRelease (m : Master) (ctx : Nat) (s : State) : Host.Outcome State Fault Refusal :=
  done (direct s m 0x0902 [.seq ctx] fun s => seqRelease s m ctx)

/-- SEQ_TRUNCATE (R224). -/
def execSeqTruncate (m : Master) (ctx len : Nat) (s : State) : Host.Outcome State Fault Refusal :=
  done (direct s m 0x0903 [.seq ctx] fun s => seqTruncate s m ctx len)

/-- SEQ_MIGRATE (R221). -/
def execSeqMigrate (m : Master) (ctx dest stripeBase : Nat) (move : Bool) (s : State) : Host.Outcome State Fault Refusal :=
  done (direct s m 0x0904 [.seq ctx] fun s => seqMigrate s m ctx dest stripeBase move)

/-- SEQ_STATS (R224). -/
def execSeqStats (m : Master) (clear : Bool) (s : State) : Host.Outcome State Fault Refusal :=
  done (direct s m 0x0905 [] fun s => seqStats s m clear)

/-- COLL_CREATE (R258). -/
def execCollCreate (m : Master) (group part n window tmo : Nat) (s : State) : Host.Outcome State Fault Refusal :=
  done (direct s m 0x0A00 [.group group] fun s => collCreate s m group part n window tmo)

/-- COLL_MEMBERS (R226). -/
def execCollMembers (m : Master) (group first : Nat) (entries : List (BitVec 64)) (dies : List (Nat × Nat)) (s : State) : Host.Outcome State Fault Refusal :=
  done (direct s m 0x0A01 [.group group] fun s => collMembers s m group first entries dies)

/-- COLL_COMMIT (R229). -/
def execCollCommit (m : Master) (group : Nat) (s : State) : Host.Outcome State Fault Refusal :=
  done (direct s m 0x0A02 [.group group] fun s => collCommit s m group)

/-- COLL_DESTROY (R258). -/
def execCollDestroy (m : Master) (group : Nat) (s : State) : Host.Outcome State Fault Refusal :=
  done (direct s m 0x0A03 [.group group] fun s => collDestroy s m group)

/-- COLL_RESET (R255). -/
def execCollReset (m : Master) (group : Nat) (s : State) : Host.Outcome State Fault Refusal :=
  done (direct s m 0x0A04 [.group group] fun s => collReset s m group)

/-- COLL_ABORT (R255). -/
def execCollAbort (m : Master) (group : Nat) (s : State) : Host.Outcome State Fault Refusal :=
  done (direct s m 0x0A05 [.group group] fun s => collAbort s m group)

/-- COLL_GET (R258). -/
def execCollGet (m : Master) (group : Nat) (s : State) : Host.Outcome State Fault Refusal :=
  done (direct s m 0x0A06 [] fun s => collGet s m group)

/-- COLL_CELLS_SET (R228). -/
def execCollCellsSet (m : Master) (die share : Nat) (s : State) : Host.Outcome State Fault Refusal :=
  done (direct s m 0x0A07 [.collDie die] fun s => collCellsSet s m die share)

/-- COLL_STATS (R258). -/
def execCollStats (m : Master) (clear : Bool) (s : State) : Host.Outcome State Fault Refusal :=
  done (direct s m 0x0A08 [] fun s => collStats s m clear)

/-- ROUTE_STAGE (R354). -/
def execRouteStage (m : Master) (version first : Nat) (entries : List (BitVec 1024)) (s : State) : Host.Outcome State Fault Refusal :=
  done (direct s m 0x0B00 [.route] fun s => routeStage s m version first entries)

/-- ROUTE_COMMIT (R345). -/
def execRouteCommit (m : Master) (version drain drainFrames : Nat) (affected : BitVec 512) (root : Nat) (s : State) : Host.Outcome State Fault Refusal :=
  done (direct s m 0x0B01 [.route] fun s => routeCommit s m version drain drainFrames affected root)

/-- ROUTE_GET (R354). -/
def execRouteGet (m : Master) (bank first count : Nat) (s : State) : Host.Outcome State Fault Refusal :=
  done (direct s m 0x0B02 [] fun s => routeGet s m bank first count)

/-- SHARE_SET (R336). -/
def execShareSet (m : Master) (shares : List Nat) (s : State) : Host.Outcome State Fault Refusal :=
  done (direct s m 0x0B03 [.shares] fun s => shareSet s m shares)

/-- SHARE_GET (R354). -/
def execShareGet (m : Master) (s : State) : Host.Outcome State Fault Refusal :=
  done (direct s m 0x0B04 [] fun s => shareGet s m)

/-- METER_SET (R352). -/
def execMeterSet (m : Master) (part : Nat) (meter : BitVec 128) (s : State) : Host.Outcome State Fault Refusal :=
  done (direct s m 0x0B05 [.meter part] fun s => meterSet s m part meter)

/-- DROP_SET (R353). -/
def execDropSet (m : Master) (yellow red : BitVec 64) (s : State) : Host.Outcome State Fault Refusal :=
  done (direct s m 0x0B06 [.drops] fun s => dropSet s m yellow red)

/-- RIFFLE_SET (R348). -/
def execRiffleSet (m : Master) (die index : Nat) (filter : BitVec 64) (events wrap : Bool) (s : State) : Host.Outcome State Fault Refusal :=
  done (direct s m 0x0B07 [.riffle die] fun s => riffleSet s m die index filter events wrap)

/-- RIFFLE_READ (R348). -/
def execRiffleRead (m : Master) (die seq : Nat) (s : State) : Host.Outcome State Fault Refusal :=
  done (direct s m 0x0B08 [] fun s => riffleRead s m die seq)

/-- ROUTE_STATS (R354). -/
def execRouteStats (m : Master) (clear : Bool) (s : State) : Host.Outcome State Fault Refusal :=
  done (direct s m 0x0B09 [] fun s => routeStats s m clear)

end Sys2Proof.Machine
end

