-- ==== Sys2Proof/Machine/MeanFabric.lean ====
section
/-! DEFINITION. The meanings: Packets, collectives, routing and links. Every step ends with the faults it raised taken (R439). -/
namespace Sys2Proof.Machine

/-- INV (R273). -/
def execInv (p : Packet) (s : State) : Host.Outcome State Fault Refusal :=
  done (packetRow s isInvPacket p)

/-- CTX_FENCE (R276). -/
def execCtxFence (p : Packet) (s : State) : Host.Outcome State Fault Refusal :=
  done (packetRow s isFenceWrite p)

/-- RD (R294). -/
def execRd (p : Packet) (s : State) : Host.Outcome State Fault Refusal :=
  done (packetRow s (opIs opRD) p)

/-- RDV (R272). -/
def execRdv (p : Packet) (s : State) : Host.Outcome State Fault Refusal :=
  done (packetRow s (opIs opRDV) p)

/-- WR (R294). -/
def execWr (p : Packet) (s : State) : Host.Outcome State Fault Refusal :=
  done (packetRow s (opIs opWR) p)

/-- WRP (R301). -/
def execWrp (p : Packet) (s : State) : Host.Outcome State Fault Refusal :=
  done (packetRow s (opIs opWRP) p)

/-- ATOM (R295). -/
def execAtom (p : Packet) (s : State) : Host.Outcome State Fault Refusal :=
  done (packetRow s (opIs opATOM) p)

/-- RED (R296). -/
def execRed (p : Packet) (s : State) : Host.Outcome State Fault Refusal :=
  done (packetRow s (opIs opRED) p)

/-- CTRL (R298). -/
def execCtrl (p : Packet) (s : State) : Host.Outcome State Fault Refusal :=
  done (packetRow s (opIs opCTRL) p)

/-- CPL (R299). -/
def execCpl (p : Packet) (s : State) : Host.Outcome State Fault Refusal :=
  done (packetRow s (opIs opCPL) p)

/-- CPL_DATA (R307). -/
def execCplData (p : Packet) (s : State) : Host.Outcome State Fault Refusal :=
  done (packetRow s (opIs opCPLD) p)

/-- CPL_POSTED (R301). -/
def execCplPosted (p : Packet) (s : State) : Host.Outcome State Fault Refusal :=
  done (packetRow s (opIs opCPLP) p)

/-- JOIN (R253). -/
def execJoin (p : Packet) (s : State) : Host.Outcome State Fault Refusal :=
  done (packetRow s (opIs opJOIN) p)

/-- CONTRIB (R243). -/
def execContrib (p : Packet) (s : State) : Host.Outcome State Fault Refusal :=
  done (packetRow s (opIs opCONTRIB) p)

/-- PARTIAL (R243). -/
def execPartialPkt (p : Packet) (s : State) : Host.Outcome State Fault Refusal :=
  done (packetRow s (opIs opPARTIAL) p)

/-- RESULT (R245). -/
def execResult (p : Packet) (s : State) : Host.Outcome State Fault Refusal :=
  done (packetRow s (opIs opRESULT) p)

/-- ACK (R247). -/
def execAck (p : Packet) (s : State) : Host.Outcome State Fault Refusal :=
  done (packetRow s (opIs opACK) p)

/-- NACK (R244). -/
def execNack (p : Packet) (s : State) : Host.Outcome State Fault Refusal :=
  done (packetRow s (opIs opNACK) p)

/-- DONE (R253). -/
def execDone (p : Packet) (s : State) : Host.Outcome State Fault Refusal :=
  done (packetRow s (opIs opDONE) p)

/-- ABORT (R255). -/
def execAbort (p : Packet) (s : State) : Host.Outcome State Fault Refusal :=
  done (packetRow s (opIs opABORT) p)

/-- RESET (R255). -/
def execReset (p : Packet) (s : State) : Host.Outcome State Fault Refusal :=
  done (packetRow s (opIs opRESET) p)

/-- CONFLUENCE_COMBINE (R241). -/
def execConfluenceCombine (die : Nat) (s : State) : Host.Outcome State Fault Refusal :=
  done (doCombine s die)

/-- RESULT_VERDICT (R245). -/
def execResultVerdict (g slot chunk : Nat) (s : State) : Host.Outcome State Fault Refusal :=
  done (memberVerdict s g slot chunk)

/-- COLL_TIMEOUT (R254). -/
def execCollTimeout (group : Nat) (s : State) : Host.Outcome State Fault Refusal :=
  done (doCollTimeout s group)

/-- COLL_WAIT_TIMEOUT (R254). -/
def execCollWaitTimeout (g slot : Nat) (s : State) : Host.Outcome State Fault Refusal :=
  done (doCollWaitTimeout s g slot)

/-- COLL_NODE_INSTALL (R258). -/
def execCollNodeInstall (desc : NodeDesc) (install : Bool) (s : State) : Host.Outcome State Fault Refusal :=
  done (doNodeInstall s desc install)

/-- CHUNK_VERDICT (R306). -/
def execChunkVerdict (srcNode port block : Nat) (s : State) : Host.Outcome State Fault Refusal :=
  done (doChunkVerdict s srcNode port block)

/-- CHUNK_OPEN_TIMEOUT (R306). -/
def execChunkOpenTimeout (srcNode port block : Nat) (s : State) : Host.Outcome State Fault Refusal :=
  done (doChunkTimeout s srcNode port block)

/-- ACCESS_PERFORMED (R260). -/
def execAccessPerformed (target : Target) (lane : Lane) (badSymbols : Nat) (s : State) : Host.Outcome State Fault Refusal :=
  done (doAccessPerformed s target lane badSymbols)

/-- LOAD_TIMEOUT (R313). -/
def execLoadTimeout (index : Nat) (s : State) : Host.Outcome State Fault Refusal :=
  done (doLoadTimeout s index)

/-- TAG_HOLD_EXPIRY (R293). -/
def execTagHoldExpiry (index : Nat) (s : State) : Host.Outcome State Fault Refusal :=
  done (doTagExpiry s index)

/-- BUSY_RETRY (R317). -/
def execBusyRetry (index : Nat) (s : State) : Host.Outcome State Fault Refusal :=
  done (doBusyRetry s index)

/-- PACKET_ROUTE (R320). -/
def execPacketRoute (port vc : Nat) (s : State) : Host.Outcome State Fault Refusal :=
  done (doPacketRoute s port vc)

/-- OUTPUT_ARBITRATION (R334). -/
def execOutputArbitration (port : Nat) (s : State) : Host.Outcome State Fault Refusal :=
  done (doOutputArb s port)

/-- ESCAPE_MOVE (R331). -/
def execEscapeMove (port vc : Nat) (s : State) : Host.Outcome State Fault Refusal :=
  done (doEscapeMove s port vc)

/-- RED_PROMOTION (R340). -/
def execRedPromotion (port : Nat) (s : State) : Host.Outcome State Fault Refusal :=
  done (doRedPromotion s port)

/-- PACKET_AGED (R318). -/
def execPacketAged (port vc : Nat) (s : State) : Host.Outcome State Fault Refusal :=
  done (doPacketAged s port vc)

/-- QUEUE_COUNT_EXCHANGE (R321). -/
def execQueueCountExchange (die : Nat) (s : State) : Host.Outcome State Fault Refusal :=
  done (doCountExchange s die)

/-- REACH (R325). -/
def execReach (port node : Nat) (lost : Bool) (s : State) : Host.Outcome State Fault Refusal :=
  done (doReach s port node lost)

/-- DRAINED (R346). -/
def execDrained (node frame : Nat) (s : State) : Host.Outcome State Fault Refusal :=
  done (doDrained s node frame)

/-- LINK_FRAME (R362). -/
def execLinkFrame (port : Nat) (frame : Frame) (s : State) : Host.Outcome State Fault Refusal :=
  done (doLinkFrame s port frame)

/-- REPLAY_TIMEOUT (R363). -/
def execReplayTimeout (port : Nat) (s : State) : Host.Outcome State Fault Refusal :=
  done (doReplayTimeout s port)

/-- TIME_BLOCK (R411). -/
def execTimeBlock (port : Nat) (first second : BitVec 56) (late : Bool) (s : State) : Host.Outcome State Fault Refusal :=
  done (doTimeBlock s port first second late)

/-- DETECT (R367). -/
def execDetect (port lane : Nat) (body : BitVec 56) (s : State) : Host.Outcome State Fault Refusal :=
  done (doDetect s port lane body)

/-- LOCK (R367). -/
def execLock (port lane : Nat) (body : BitVec 56) (s : State) : Host.Outcome State Fault Refusal :=
  done (doLock s port lane body)

/-- EQ (R369). -/
def execEq (port lane : Nat) (body : BitVec 56) (s : State) : Host.Outcome State Fault Refusal :=
  done (doEq s port lane body)

/-- RATE (R368). -/
def execRate (port lane : Nat) (body : BitVec 56) (s : State) : Host.Outcome State Fault Refusal :=
  done (doRate s port lane body)

/-- STEP (R368). -/
def execStep (port lane : Nat) (body : BitVec 56) (s : State) : Host.Outcome State Fault Refusal :=
  done (doStep s port lane body)

/-- READY (R367). -/
def execReady (port lane : Nat) (body : BitVec 56) (s : State) : Host.Outcome State Fault Refusal :=
  done (latchDisc (doReady s port lane body))

/-- IDLE (R373). -/
def execIdle (port lane : Nat) (body : BitVec 56) (s : State) : Host.Outcome State Fault Refusal :=
  done (doIdle s port lane body)

/-- WAKE (R373). -/
def execWake (port lane : Nat) (body : BitVec 56) (s : State) : Host.Outcome State Fault Refusal :=
  done (doWake s port lane body)

/-- RETRAIN (R370). -/
def execRetrain (port lane : Nat) (body : BitVec 56) (s : State) : Host.Outcome State Fault Refusal :=
  done (doRetrain s port lane body)

/-- TRAINING_TIMEOUT (R367). -/
def execTrainingTimeout (port : Nat) (s : State) : Host.Outcome State Fault Refusal :=
  done (latchDisc (doTrainingTimeout s port))

/-- RATE_STEP_TIMEOUT (R368). -/
def execRateStepTimeout (port : Nat) (s : State) : Host.Outcome State Fault Refusal :=
  done (doRateStepTimeout s port)

/-- RETRAIN_TIMEOUT (R370). -/
def execRetrainTimeout (port : Nat) (s : State) : Host.Outcome State Fault Refusal :=
  done (doRetrainTimeout s port)

/-- SIGNAL_LOSS (R370). -/
def execSignalLoss (port lane : Nat) (s : State) : Host.Outcome State Fault Refusal :=
  done (doSignalLoss s port lane)

/-- TRAINING_RESTART (R372). -/
def execTrainingRestart (port : Nat) (s : State) : Host.Outcome State Fault Refusal :=
  done (doTrainingRestart s port)

/-- IDLE_ENTRY (R373). -/
def execIdleEntry (port : Nat) (s : State) : Host.Outcome State Fault Refusal :=
  done (doIdleEntry s port)

/-- IDENTITY_BLOCK (R459): the part code is signed with the rest and compared with nothing. -/
def execIdentityBlock (port _partCode node peerPort version : Nat) (object : Bytes) (s : State) : Host.Outcome State Fault Refusal :=
  done (doIdentity s port node peerPort version object)

/-- PORT_MISSING (R461). -/
def execPortMissing (port : Nat) (s : State) : Host.Outcome State Fault Refusal :=
  done (doPortMissing s port)

/-- RESULT_RETAIN_EXPIRY (R247). -/
def execResultRetainExpiry (group chunk : Nat) (s : State) : Host.Outcome State Fault Refusal :=
  done (doRetainExpiry s group chunk)

/-- ROUTE_HOLD_START (R346). -/
def execRouteHoldStart (s : State) : Host.Outcome State Fault Refusal :=
  done (doHoldStart s)

/-- ROUTE_DRAINED_SEND (R346). -/
def execRouteDrainedSend (s : State) : Host.Outcome State Fault Refusal :=
  done (doDrainedSend s)

/-- ROUTE_SWITCH (R346). -/
def execRouteSwitch (s : State) : Host.Outcome State Fault Refusal :=
  done (doRouteSwitch s)

/-- ROUTE_FALLBACK_SWITCH (R346). -/
def execRouteFallbackSwitch (s : State) : Host.Outcome State Fault Refusal :=
  done (doFallbackSwitch s)

/-- ROUTE_RETIRE (R346). -/
def execRouteRetire (s : State) : Host.Outcome State Fault Refusal :=
  done (doRouteRetire s)

end Sys2Proof.Machine
end

