-- ==== Sys2Proof/Machine/MeanHost.lean ====
section
/-! DEFINITION. The meanings: Mailbox service, the management network, Oagal and the host interface. Every step ends with the faults it raised taken (R439). -/
namespace Sys2Proof.Machine

/-- LINK_RETRAIN (R370). -/
def execLinkRetrain (port : Nat) (s : State) : Host.Outcome State Fault Refusal :=
  done (doLinkRetrain s port)

/-- LINK_DOWN (R372). -/
def execLinkDown (port : Nat) (s : State) : Host.Outcome State Fault Refusal :=
  done (doLinkDown s port)

/-- MGMT_CONNECTION_OPEN (R477). -/
def execMgmtConnectionOpen (tls13 : Bool) (chain : Bytes) (s : State) : Host.Outcome State Fault Refusal :=
  done (doConnOpen s tls13 chain)

/-- MGMT_MESSAGE (R478). -/
def execMgmtMessage (conn kind slot rsvd length : Nat) (body : Bytes) (s : State) : Host.Outcome State Fault Refusal :=
  done (doMessage s conn kind slot rsvd length body)

/-- SPDM_REQUEST (R492). -/
def execSpdmRequest (transport : Nat) (req : SpdmReq) (s : State) : Host.Outcome State Fault Refusal :=
  done (doSpdm s transport req)

/-- GET_MEASUREMENTS (R493). -/
def execGetMeasurements (transport index : Nat) (nonce : Bytes) (s : State) : Host.Outcome State Fault Refusal :=
  done (doMeasure s transport index nonce)

/-- OAGAL_UNLOCK (R508). -/
def execOagalUnlock (token : Bytes) (s : State) : Host.Outcome State Fault Refusal :=
  done (doOagalUnlock s token)

/-- OAGAL_RECOVER (R507). -/
def execOagalRecover (image : Bytes) (flashOk : Bool) (s : State) : Host.Outcome State Fault Refusal :=
  done (doOagalRecover s image flashOk)

/-- OAGAL_RD (R507). -/
def execOagalRd (addr : Nat) (s : State) : Host.Outcome State Fault Refusal :=
  done (doOagalRd s addr)

/-- OAGAL_MBX (R507). -/
def execOagalMbx (frame : Bytes) (s : State) : Host.Outcome State Fault Refusal :=
  done (doOagalMbx s frame)

/-- OAGAL_WR (R507). -/
def execOagalWr (addr : Nat) (value : BitVec 64) (s : State) : Host.Outcome State Fault Refusal :=
  done (doOagalWr s addr value.toNat)

/-- CONFIG_REQUEST (R456). -/
def execConfigRequest (op : ConfigOp) (s : State) : Host.Outcome State Fault Refusal :=
  done (doConfig s op)

/-- TRANSLATION_COMPLETION (R49). -/
def execTranslationCompletion (index : Nat) (readOk writeOk : Bool) (base size taddr : Nat) (s : State) : Host.Outcome State Fault Refusal :=
  done (doTranslation s index readOk writeOk base size taddr)

/-- ATS_INVALIDATION_REQUEST (R51). -/
def execAtsInvalidationRequest (tag pasid base size : Nat) (s : State) : Host.Outcome State Fault Refusal :=
  done (doInvalidate s tag pasid base size)

/-- INVALIDATION_COMPLETE (R51). -/
def execInvalidationComplete (tag : Nat) (s : State) : Host.Outcome State Fault Refusal :=
  done (doInvComplete s tag)

/-- HOST_READ_COMPLETION (R47). -/
def execHostReadCompletion (index : Nat) (ok : Bool) (data : Bytes) (s : State) : Host.Outcome State Fault Refusal :=
  done (doHostRead s index ok data)

/-- BAR2_READ (R383). -/
def execBar2Read (offset len : Nat) (s : State) : Host.Outcome State Fault Refusal :=
  done (doBar2Read s offset len)

/-- BAR2_WRITE (R383). -/
def execBar2Write (offset : Nat) (data : Bytes) (s : State) : Host.Outcome State Fault Refusal :=
  done (doBar2Write s offset data)

/-- POP_READ (R398). -/
def execPopRead (q : Nat) (whole misdirected : Bool) (s : State) : Host.Outcome State Fault Refusal :=
  done (doPop s q whole misdirected)

/-- QCFG_WRITE (R395). -/
def execQcfgWrite (q : Nat) (value : BitVec 64) (s : State) : Host.Outcome State Fault Refusal :=
  done (doQcfg s q value.toNat)

/-- QUEUE_ARM (R400). -/
def execQueueArm (q : Nat) (s : State) : Host.Outcome State Fault Refusal :=
  done (doArm s q)

/-- QRESET (R396). -/
def execQreset (q : Nat) (s : State) : Host.Outcome State Fault Refusal :=
  done (doQreset s q)

/-- QSTATUS_FLAG_CLEAR (R396). -/
def execQstatusFlagClear (q : Nat) (underrun overflow broken : Bool) (s : State) : Host.Outcome State Fault Refusal :=
  done (doFlags s q underrun overflow broken)

/-- MSIX_UNMASK (R385). -/
def execMsixUnmask (vec : Nat) (s : State) : Host.Outcome State Fault Refusal :=
  done (doUnmask s vec)

/-- SLUICE_DB (R404). -/
def execSluiceDb (value : BitVec 64) (s : State) : Host.Outcome State Fault Refusal :=
  done (doSluiceDb s value.toNat)

/-- SLUICE_RING_WRITE (R404). -/
def execSluiceRingWrite (value : BitVec 64) (s : State) : Host.Outcome State Fault Refusal :=
  done (doSluiceRing s value.toNat)

/-- SLUICE_DESCRIPTOR (R406). -/
def execSluiceDescriptor (desc : BitVec 512) (segments : List (Bytes × Nat)) (s : State) : Host.Outcome State Fault Refusal :=
  done (doSluice s desc segments)

/-- LINK_ERR_CLR (R375). -/
def execLinkErrClr (port : Nat) (s : State) : Host.Outcome State Fault Refusal :=
  done (doLinkErrClr s port)

/-- REGISTER_WRITE (R5). -/
def execRegisterWrite (offset size value : Nat) (s : State) : Host.Outcome State Fault Refusal :=
  done (doRegisterWrite s offset size value)

/-- MBX_DB (R386). -/
def execMbxDb (slot : Nat) (s : State) : Host.Outcome State Fault Refusal :=
  done (doMbxDb s slot)

/-- SERIALISER_HARDWARE_WAIT_END (R389). -/
def execSerialiserHardwareWaitEnd (index : Nat) (s : State) : Host.Outcome State Fault Refusal :=
  done (doWaitEnd s index)

/-- MGMT_CONNECTION_CLOSE (R479). -/
def execMgmtConnectionClose (conn : Nat) (s : State) : Host.Outcome State Fault Refusal :=
  done (doConnClose s conn)

/-- HOST_LINK_STATE_CHANGE (R381). -/
def execHostLinkStateChange (up flit : Bool) (speed width : Nat) (s : State) : Host.Outcome State Fault Refusal :=
  done (doHostLink s up flit speed width)

/-- SPDM_HEARTBEAT_MISS (R492). -/
def execSpdmHeartbeatMiss (session : Nat) (s : State) : Host.Outcome State Fault Refusal :=
  done (doSpdmMiss s session)

/-- OAGAL_NET (R507). -/
def execOagalNet (sgmii : Bool) (addrs : Bytes) (s : State) : Host.Outcome State Fault Refusal :=
  done (doOagalNet s sgmii addrs)

/-- OAGAL_INJECT (R507). -/
def execOagalInject (cls inst cause count : Nat) (s : State) : Host.Outcome State Fault Refusal :=
  done (doOagalInject s cls inst cause count)

/-- INTERRUPT_MODERATION_EXPIRY (R400). -/
def execInterruptModerationExpiry (q : Nat) (s : State) : Host.Outcome State Fault Refusal :=
  done (doModeration s q)

/-- MS_ERRCNT_CLR (R103). -/
def execMsErrcntClr (stack : Nat) (s : State) : Host.Outcome State Fault Refusal :=
  done (msErrClr s stack)

/-- MAILBOX_SERVICE_START (R389). -/
def execMailboxServiceStart (s : State) : Host.Outcome State Fault Refusal :=
  done (doServiceStart s)

/-- OAGAL_STATUS (R507). -/
def execOagalStatus (s : State) : Host.Outcome State Fault Refusal :=
  done (doOagalStatus s)

/-- OAGAL_CHALLENGE (R507). -/
def execOagalChallenge (s : State) : Host.Outcome State Fault Refusal :=
  done (doOagalChallenge s)

/-- OAGAL_SERIAL_LOCK (R507). -/
def execOagalSerialLock (s : State) : Host.Outcome State Fault Refusal :=
  done (doOagalLock s)

/-- OAGAL_SENSORS (R507). -/
def execOagalSensors (s : State) : Host.Outcome State Fault Refusal :=
  done (doOagalSensors s)

/-- OAGAL_LOG (R507). -/
def execOagalLog (s : State) : Host.Outcome State Fault Refusal :=
  done (doOagalLog s)

/-- OAGAL_HIST (R507). -/
def execOagalHist (s : State) : Host.Outcome State Fault Refusal :=
  done (doOagalHist s)

/-- OAGAL_JTAG (R507). -/
def execOagalJtag (s : State) : Host.Outcome State Fault Refusal :=
  done (doOagalJtag s)

/-- OAGAL_HALT (R507). -/
def execOagalHalt (s : State) : Host.Outcome State Fault Refusal :=
  done (doOagalHalt s)

/-- OAGAL_STEP (R507). -/
def execOagalStep (s : State) : Host.Outcome State Fault Refusal :=
  done (doOagalStep s)

/-- OAGAL_NONCE_EXPIRY (R507). -/
def execOagalNonceExpiry (s : State) : Host.Outcome State Fault Refusal :=
  done (doNonceExpiry s)

/-- OAGAL_UNLOCK_EXPIRY (R508). -/
def execOagalUnlockExpiry (s : State) : Host.Outcome State Fault Refusal :=
  done (doUnlockExpiry s)

/-- PRI_STOPPED_CLEAR (R50). -/
def execPriStoppedClear (s : State) : Host.Outcome State Fault Refusal :=
  done (priClear s)

/-- WEDGE_DETECT (R408). -/
def execWedgeDetect (s : State) : Host.Outcome State Fault Refusal :=
  done (doWedge s)

end Sys2Proof.Machine
end

