-- ==== Sys2Proof/Machine/MeanLists.lean ====
section
/-! DEFINITION. The meanings: Command lists, their commands and their engines. Every step ends with the faults it raised taken (R439). -/
namespace Sys2Proof.Machine

/-- LIST_DB (R384). -/
def execListDb (g : Nat) (value : BitVec 64) (s : State) : Host.Outcome State Fault Refusal :=
  done (doListDb s g value.toNat)

/-- LIST_LOAD (R133). -/
def execListLoad (g part : Nat) (value : BitVec 64) (s : State) : Host.Outcome State Fault Refusal :=
  done (doListLoad s g part value.toNat)

/-- LIST_ABORT (R135). -/
def execListAbort (g part : Nat) (value : BitVec 64) (s : State) : Host.Outcome State Fault Refusal :=
  done (doListAbort s g part value.toNat)

/-- COUNTER_ADD (R126). -/
def execCounterAdd (g ctr part : Nat) (amount : BitVec 32) (s : State) : Host.Outcome State Fault Refusal :=
  done (doCounterAdd s g ctr part amount.toNat)

/-- COUNTER_INCREASE_APPLY (R266). -/
def execCounterIncreaseApply (g : Nat) (s : State) : Host.Outcome State Fault Refusal :=
  done (doIncApply s g)

/-- COMMAND_DISPATCH (R114). -/
def execCommandDispatch (g listId : Nat) (s : State) : Host.Outcome State Fault Refusal :=
  done (doDispatch s g listId)

/-- SLICE_ARBITRATION (R115). -/
def execSliceArbitration (g engine : Nat) (s : State) : Host.Outcome State Fault Refusal :=
  done (doSlice s g engine)

/-- NOP (R156). -/
def execNop (g engine queue : Nat) (s : State) : Host.Outcome State Fault Refusal :=
  done (doNop s g engine queue)

/-- WAIT (R154). -/
def execWait (g engine queue : Nat) (s : State) : Host.Outcome State Fault Refusal :=
  done (doWait s g engine queue)

/-- SIGNAL (R155). -/
def execSignal (g engine queue : Nat) (s : State) : Host.Outcome State Fault Refusal :=
  done (doSignal s g engine queue)

/-- FENCE (R274). -/
def execFence (g engine queue : Nat) (s : State) : Host.Outcome State Fault Refusal :=
  done (doFence s g engine queue)

/-- TRAP (R158). -/
def execTrap (g engine queue : Nat) (s : State) : Host.Outcome State Fault Refusal :=
  done (doTrap s g engine queue)

/-- HALT (R159). -/
def execHalt (g engine queue : Nat) (s : State) : Host.Outcome State Fault Refusal :=
  done (doHalt s g engine queue)

/-- MMA (R161). -/
def execMma (g queue : Nat) (s : State) : Host.Outcome State Fault Refusal :=
  done (doMma s g queue 0x10 false)

/-- MMA_SCALED (R162). -/
def execMmaScaled (g queue : Nat) (s : State) : Host.Outcome State Fault Refusal :=
  done (doMma s g queue 0x11 true)

/-- VOP (R165). -/
def execVop (g queue : Nat) (s : State) : Host.Outcome State Fault Refusal :=
  done (doVop s g queue)

/-- VRED (R166). -/
def execVred (g queue : Nat) (s : State) : Host.Outcome State Fault Refusal :=
  done (doVred s g queue)

/-- LOADT (R168). -/
def execLoadt (g queue : Nat) (s : State) : Host.Outcome State Fault Refusal :=
  done (doMove s g queue 0x20)

/-- STORET (R168). -/
def execStoret (g queue : Nat) (s : State) : Host.Outcome State Fault Refusal :=
  done (doMove s g queue 0x21)

/-- DMA_ND (R170). -/
def execDmaNd (g queue : Nat) (s : State) : Host.Outcome State Fault Refusal :=
  done (doDmaNd s g queue)

/-- ATTN (R172). -/
def execAttn (g queue : Nat) (s : State) : Host.Outcome State Fault Refusal :=
  done (doAttn s g queue)

/-- KVAPPEND (R173). -/
def execKvappend (g queue : Nat) (s : State) : Host.Outcome State Fault Refusal :=
  done (doKvappend s g queue)

/-- APPEND_LENGTH_ADVANCE (R212). -/
def execAppendLengthAdvance (ctx layer : Nat) (s : State) : Host.Outcome State Fault Refusal :=
  done (doLengthAdvance s ctx layer)

/-- COLL_JOIN (R174). -/
def execCollJoin (g queue : Nat) (s : State) : Host.Outcome State Fault Refusal :=
  done (doCollJoin s g queue)

/-- COLL_SCHEDULED_START (R252). -/
def execCollScheduledStart (g queue : Nat) (s : State) : Host.Outcome State Fault Refusal :=
  done (doScheduledStart s g queue)

/-- COLL_WAIT (R175). -/
def execCollWait (g queue : Nat) (s : State) : Host.Outcome State Fault Refusal :=
  done (doCollWait s g queue)

/-- ATOMIC (R176). -/
def execAtomic (g queue : Nat) (s : State) : Host.Outcome State Fault Refusal :=
  done (doAtomic s g queue)

/-- COMMAND_COMPLETE (R147). -/
def execCommandComplete (g engine queue index : Nat) (s : State) : Host.Outcome State Fault Refusal :=
  done (doComplete s g engine queue index)

/-- LIST_RELEASE (R134). -/
def execListRelease (g listId : Nat) (s : State) : Host.Outcome State Fault Refusal :=
  done (doListRelease s g listId)

/-- WAIT_TIMEOUT (R154). -/
def execWaitTimeout (g engine queue : Nat) (s : State) : Host.Outcome State Fault Refusal :=
  done (doWaitTimeout s g engine queue)

/-- FENCE_TIMEOUT (R157). -/
def execFenceTimeout (g engine queue : Nat) (s : State) : Host.Outcome State Fault Refusal :=
  done (doFenceTimeout s g engine queue)

/-- TILE_DELIVERED (R58). -/
def execTileDelivered (g queue : Nat) (s : State) : Host.Outcome State Fault Refusal :=
  done (doTileDelivered s g queue)

/-- PAGE_REQUEST_RESPONSE (R61). -/
def execPageRequestResponse (g queue code : Nat) (s : State) : Host.Outcome State Fault Refusal :=
  done (doPageResponse s g queue code)

/-- PRI_TIMEOUT (R62). -/
def execPriTimeout (g queue : Nat) (s : State) : Host.Outcome State Fault Refusal :=
  done (doPriTimeout s g queue)

end Sys2Proof.Machine
end

