-- ==== Sys2Proof/Machine/MeanSystem.lean ====
section
/-! DEFINITION. The meanings: Pair recovery, time, placement, power, resets and faults. Every step ends with the faults it raised taken (R439). -/
namespace Sys2Proof.Machine

/-- HEARTBEAT (R463). -/
def execHeartbeat (node heard mirrorPerStack : Nat) (s : State) : Host.Outcome State Fault Refusal :=
  done (doHeartbeat s node heard mirrorPerStack)

/-- WITNESS_ACK (R463). -/
def execWitnessAck (node heard : Nat) (s : State) : Host.Outcome State Fault Refusal :=
  done (doWitnessAck s node heard)

/-- PROMOTION (R467). -/
def execPromotion (reports : List WitnessReport) (s : State) : Host.Outcome State Fault Refusal :=
  done (doPromotion s reports)

/-- FAILING (R466). -/
def execFailing (node : Nat) (s : State) : Host.Outcome State Fault Refusal :=
  done (doFailing s node)

/-- SEQ_MIGRATE_RECORD (R221). -/
def execSeqMigrateRecord (r : SeqRecord) (s : State) : Host.Outcome State Fault Refusal :=
  done (doMigrateRecord s r)

/-- SEQ_MIGRATE_REPLY (R221). -/
def execSeqMigrateReply (ctx : Nat) (newCtx : Option Nat) (s : State) : Host.Outcome State Fault Refusal :=
  done (doMigrateReply s ctx newCtx)

/-- FRAME_START (R413). -/
def execFrameStart (power : Nat) (s : State) : Host.Outcome State Fault Refusal :=
  done (doFrameStart s power)

/-- RACKSYNC_EDGE (R409). -/
def execRacksyncEdge (good : Bool) (s : State) : Host.Outcome State Fault Refusal :=
  done (doEdge s good)

/-- PATROL_SCRUB (R73). -/
def execPatrolScrub (stack atom badSymbols : Nat) (s : State) : Host.Outcome State Fault Refusal :=
  done (doPatrolScrub s stack atom badSymbols)

/-- REFRESH_SLOT (R70). -/
def execRefreshSlot (index : Nat) (s : State) : Host.Outcome State Fault Refusal :=
  done (doRefreshSlot s index)

/-- TILE_FLIP (R86). -/
def execTileFlip (parcel : Nat) (s : State) : Host.Outcome State Fault Refusal :=
  done (doTileFlip serveHeld s parcel)

/-- MOVE_COMPLETE (R85). -/
def execMoveComplete (parcel : Nat) (s : State) : Host.Outcome State Fault Refusal :=
  done (doMoveComplete s parcel)

/-- THERMAL_SAMPLE (R429). -/
def execThermalSample (tj : Nat) (stackTemps plates : List Nat) (s : State) : Host.Outcome State Fault Refusal :=
  done (notePlates (doThermal s tj stackTemps plates) plates)

/-- SUPPLY_WARNING (R426). -/
def execSupplyWarning (millivolts : Nat) (s : State) : Host.Outcome State Fault Refusal :=
  done (doSupplyWarning s millivolts)

/-- SUPPLY_RESET (R426). -/
def execSupplyReset (role side slot : Nat) (s : State) : Host.Outcome State Fault Refusal :=
  done (doPowerOn s role side slot)

/-- REGULATOR_POLL (R427). -/
def execRegulatorPoll (index : Nat) (answer : Option Bool) (s : State) : Host.Outcome State Fault Refusal :=
  done (doRegulator s index answer)

/-- PMB_ALERT (R427). -/
def execPmbAlert (index : Nat) (fault : Bool) (s : State) : Host.Outcome State Fault Refusal :=
  done (doRegulator s index (some fault))

/-- GROUP_GATE (R435). -/
def execGroupGate (g : Nat) (s : State) : Host.Outcome State Fault Refusal :=
  done (doGate s g)

/-- POWER_ON (R452). -/
def execPowerOn (role side slot : Nat) (s : State) : Host.Outcome State Fault Refusal :=
  done (doPowerOn s role side slot)

/-- RESET_N (R452). -/
def execResetN (role side slot : Nat) (s : State) : Host.Outcome State Fault Refusal :=
  done (doResetN s role side slot)

/-- HEADWATER_BOOT (R489). -/
def execHeadwaterBoot (selfTest : Bool) (s : State) : Host.Outcome State Fault Refusal :=
  done (doBoot s selfTest)

/-- STACK_JOIN (R456). -/
def execStackJoin (stack : Nat) (ok : Bool) (s : State) : Host.Outcome State Fault Refusal :=
  done (doStackJoin s stack ok)

/-- FAULT_RAISE (R444). -/
def execFaultRaise (cls inst cause status addr ctx part node : Nat) (s : State) : Host.Outcome State Fault Refusal :=
  done (doFaultRaise s cls inst cause status addr ctx part node)

/-- TILE_COPY_ABANDON (R87). -/
def execTileCopyAbandon (parcel : Nat) (s : State) : Host.Outcome State Fault Refusal :=
  done (doTileAbandon serveHeld s parcel)

/-- BLOCK_RETURN (R451). -/
def execBlockReturn (cls inst : Nat) (selfTest : Bool) (s : State) : Host.Outcome State Fault Refusal :=
  done (doBlockReturn s cls inst selfTest)

/-- DIRECTORY_REBUILD_DONE (R450). -/
def execDirectoryRebuildDone (hd : Nat) (s : State) : Host.Outcome State Fault Refusal :=
  done (doRebuildDone s hd)

/-- NO_PROGRESS_TIMEOUT (R440). -/
def execNoProgressTimeout (g engine : Nat) (s : State) : Host.Outcome State Fault Refusal :=
  done (doNoProgress s g engine)

/-- HEARTBEAT_SEND (R463). -/
def execHeartbeatSend (s : State) : Host.Outcome State Fault Refusal :=
  done (doHeartbeatSend s)

/-- LEASE_LAPSE (R463). -/
def execLeaseLapse (s : State) : Host.Outcome State Fault Refusal :=
  done (doLeaseLapse s)

/-- PAIR_SUSPECT (R464). -/
def execPairSuspect (s : State) : Host.Outcome State Fault Refusal :=
  done (doPairSuspect s)

/-- HANDBACK (R470). -/
def execHandback (s : State) : Host.Outcome State Fault Refusal :=
  done (doHandback s)

/-- RACKCLK_LOSS (R410). -/
def execRackclkLoss (s : State) : Host.Outcome State Fault Refusal :=
  done (pinsLost s)

/-- NUMBER_SOURCE_LOSS (R413). -/
def execNumberSourceLoss (s : State) : Host.Outcome State Fault Refusal :=
  done (doSourceLoss s)

/-- ALTERNATE_TAKEOVER (R412). -/
def execAlternateTakeover (s : State) : Host.Outcome State Fault Refusal :=
  done (doTakeover s)

/-- ALTERNATE_STOP (R412). -/
def execAlternateStop (s : State) : Host.Outcome State Fault Refusal :=
  done (doAltStop s)

/-- CAP_STEP (R421). -/
def execCapStep (s : State) : Host.Outcome State Fault Refusal :=
  done (doCapStep s)

/-- PLACEMENT_INTERVAL (R93). -/
def execPlacementInterval (s : State) : Host.Outcome State Fault Refusal :=
  done (doInterval s)

/-- THERMAL_TRIP (R431). -/
def execThermalTrip (s : State) : Host.Outcome State Fault Refusal :=
  done (doTrip s)

/-- SUPPLY_THROTTLE_LIFT (R426). -/
def execSupplyThrottleLift (s : State) : Host.Outcome State Fault Refusal :=
  done (doSupplyLift s)

/-- SAFE_SET (R432). -/
def execSafeSet (s : State) : Host.Outcome State Fault Refusal :=
  done (doSafeSet s)

/-- EPO_ASSERT (R433). -/
def execEpoAssert (s : State) : Host.Outcome State Fault Refusal :=
  done (doEpo s)

/-- EPO_DEASSERT (R433). -/
def execEpoDeassert (s : State) : Host.Outcome State Fault Refusal :=
  done (doEpoOff s)

/-- D3HOT (R435). -/
def execD3hot (s : State) : Host.Outcome State Fault Refusal :=
  done (doD3hot s)

/-- D0 (R435). -/
def execD0 (s : State) : Host.Outcome State Fault Refusal :=
  done (doD0 s)

/-- STANDBY_REENTRY (R435). -/
def execStandbyReentry (s : State) : Host.Outcome State Fault Refusal :=
  done (doReentry s)

/-- PERST_N (R452). -/
def execPerstN (s : State) : Host.Outcome State Fault Refusal :=
  done (doPerst s)

/-- CALIBRATION_COMPLETE (R140). -/
def execCalibrationComplete (s : State) : Host.Outcome State Fault Refusal :=
  done (doCalibrated s)

/-- HISTORY_ENTRY_WRITE (R444). -/
def execHistoryEntryWrite (s : State) : Host.Outcome State Fault Refusal :=
  done (doEntryWrite s)

/-- WATCHDOG_EXPIRY (R440). -/
def execWatchdogExpiry (s : State) : Host.Outcome State Fault Refusal :=
  done (doMdFault s 2)

/-- LOCKSTEP_MISMATCH (R440). -/
def execLockstepMismatch (s : State) : Host.Outcome State Fault Refusal :=
  done (doMdFault s 1)

/-- LOG_WRITE (R482). -/
def execLogWrite (s : State) : Host.Outcome State Fault Refusal :=
  done (doLogWrite s)

/-- FAULT_RECORD_FLASH (R441). -/
def execFaultRecordFlash (s : State) : Host.Outcome State Fault Refusal :=
  done (doRecordFlash s)

/-- HANDOVER_SWITCH (R500). -/
def execHandoverSwitch (s : State) : Host.Outcome State Fault Refusal :=
  done (doHandover s)

end Sys2Proof.Machine
end

