-- ==== Sys2Proof/Machine/Dispatch.lean ====
section
/-! DEFINITION. The meaning of every command, one arm for each. -/
namespace Sys2Proof.Machine

def exec (i : Instr) (s : State) : Host.Outcome State Fault Refusal :=
  match i with
  | .identify m => Sys2Proof.Machine.execIdentify m s
  | .mbxInfo m clear => Sys2Proof.Machine.execMbxInfo m clear s
  | .sensorGet m first count => Sys2Proof.Machine.execSensorGet m first count s
  | .logRead m first count => Sys2Proof.Machine.execLogRead m first count s
  | .hostPartsSet m mask => Sys2Proof.Machine.execHostPartsSet m mask s
  | .partStart m part => Sys2Proof.Machine.execPartStart m part s
  | .partStop m part => Sys2Proof.Machine.execPartStop m part s
  | .ctxSet m ctx desc => Sys2Proof.Machine.execCtxSet m ctx desc s
  | .ctxClear m ctx => Sys2Proof.Machine.execCtxClear m ctx s
  | .segSet m ctx slot desc => Sys2Proof.Machine.execSegSet m ctx slot desc s
  | .segClear m ctx slot => Sys2Proof.Machine.execSegClear m ctx slot s
  | .bindSet m node part ctx => Sys2Proof.Machine.execBindSet m node part ctx s
  | .bindClear m node part => Sys2Proof.Machine.execBindClear m node part s
  | .ctxGet m ctx => Sys2Proof.Machine.execCtxGet m ctx s
  | .xlatFlush m ctx => Sys2Proof.Machine.execXlatFlush m ctx s
  | .listAbortCmd m g listId => Sys2Proof.Machine.execListAbortCmd m g listId s
  | .manifestLoad m index count fragment => Sys2Proof.Machine.execManifestLoad m index count fragment s
  | .discoveryGet m first count => Sys2Proof.Machine.execDiscoveryGet m first count s
  | .quarantineClear m port => Sys2Proof.Machine.execQuarantineClear m port s
  | .pairGet m => Sys2Proof.Machine.execPairGet m s
  | .pairFailover m solo => Sys2Proof.Machine.execPairFailover m solo s
  | .pairRestore m frame => Sys2Proof.Machine.execPairRestore m frame s
  | .pktCtrlSet m loadTmo localise => Sys2Proof.Machine.execPktCtrlSet m loadTmo localise s
  | .deadSet m node => Sys2Proof.Machine.execDeadSet m node s
  | .deadClear m node => Sys2Proof.Machine.execDeadClear m node s
  | .pktStats m clear => Sys2Proof.Machine.execPktStats m clear s
  | .linkSet m ports value => Sys2Proof.Machine.execLinkSet m ports value s
  | .linkRetrain port => Sys2Proof.Machine.execLinkRetrain port s
  | .linkDown port => Sys2Proof.Machine.execLinkDown port s
  | .linkGet m first count => Sys2Proof.Machine.execLinkGet m first count s
  | .timeSet m role base steerLimit => Sys2Proof.Machine.execTimeSet m role base steerLimit s
  | .timeGet m => Sys2Proof.Machine.execTimeGet m s
  | .timeAccept m => Sys2Proof.Machine.execTimeAccept m s
  | .policySet m part block => Sys2Proof.Machine.execPolicySet m part block s
  | .policyGet m part => Sys2Proof.Machine.execPolicyGet m part s
  | .budgetSet m settings => Sys2Proof.Machine.execBudgetSet m settings s
  | .parcelSet m first count op owner cls pin => Sys2Proof.Machine.execParcelSet m first count op owner cls pin s
  | .parcelGet m parcel => Sys2Proof.Machine.execParcelGet m parcel s
  | .move m parcel dest => Sys2Proof.Machine.execMove m parcel dest s
  | .evacuate m stack force => Sys2Proof.Machine.execEvacuate m stack force s
  | .lendSet m region host holder base count => Sys2Proof.Machine.execLendSet m region host holder base count s
  | .lendClear m region => Sys2Proof.Machine.execLendClear m region s
  | .mirrorReserveSet m perStack => Sys2Proof.Machine.execMirrorReserveSet m perStack s
  | .maintSet m hours => Sys2Proof.Machine.execMaintSet m hours s
  | .placeStats m clear => Sys2Proof.Machine.execPlaceStats m clear s
  | .powerSet m capFrame cfg => Sys2Proof.Machine.execPowerSet m capFrame cfg s
  | .powerGet m => Sys2Proof.Machine.execPowerGet m s
  | .powerPlanGet m => Sys2Proof.Machine.execPowerPlanGet m s
  | .powerHeartbeat m => Sys2Proof.Machine.execPowerHeartbeat m s
  | .powerResume m => Sys2Proof.Machine.execPowerResume m s
  | .flowReport m loss => Sys2Proof.Machine.execFlowReport m loss s
  | .faultGet m seq => Sys2Proof.Machine.execFaultGet m seq s
  | .faultSet m cls inst reaction => Sys2Proof.Machine.execFaultSet m cls inst reaction s
  | .faultAck m seq => Sys2Proof.Machine.execFaultAck m seq s
  | .unitFence m cls inst => Sys2Proof.Machine.execUnitFence m cls inst s
  | .unitReturn m cls inst selfTest => Sys2Proof.Machine.execUnitReturn m cls inst selfTest s
  | .warmReset m => Sys2Proof.Machine.execWarmReset m s
  | .faultInject m cls inst cause count => Sys2Proof.Machine.execFaultInject m cls inst cause count s
  | .updateBegin m bytes => Sys2Proof.Machine.execUpdateBegin m bytes s
  | .updateData m offset data => Sys2Proof.Machine.execUpdateData m offset data s
  | .updateVerify m => Sys2Proof.Machine.execUpdateVerify m s
  | .updateCommit m flashOk => Sys2Proof.Machine.execUpdateCommit m flashOk s
  | .updateActivate m comp mask force => Sys2Proof.Machine.execUpdateActivate m comp mask force s
  | .updateStatus m => Sys2Proof.Machine.execUpdateStatus m s
  | .updateAbort m => Sys2Proof.Machine.execUpdateAbort m s
  | .ownerSet m auth rsaKey slhKey => Sys2Proof.Machine.execOwnerSet m auth rsaKey slhKey s
  | .credSet m auth anchors => Sys2Proof.Machine.execCredSet m auth anchors s
  | .credGet m => Sys2Proof.Machine.execCredGet m s
  | .svnRaise m => Sys2Proof.Machine.execSvnRaise m s
  | .keyRevoke m pair => Sys2Proof.Machine.execKeyRevoke m pair s
  | .oagalLock m => Sys2Proof.Machine.execOagalLock m s
  | .sluiceStart m session => Sys2Proof.Machine.execSluiceStart m session s
  | .sluiceRekey m => Sys2Proof.Machine.execSluiceRekey m s
  | .seqRegister m desc => Sys2Proof.Machine.execSeqRegister m desc s
  | .seqGet m ctx first => Sys2Proof.Machine.execSeqGet m ctx first s
  | .seqRelease m ctx => Sys2Proof.Machine.execSeqRelease m ctx s
  | .seqTruncate m ctx len => Sys2Proof.Machine.execSeqTruncate m ctx len s
  | .seqMigrate m ctx dest stripeBase move => Sys2Proof.Machine.execSeqMigrate m ctx dest stripeBase move s
  | .seqStats m clear => Sys2Proof.Machine.execSeqStats m clear s
  | .collCreate m group part n window tmo => Sys2Proof.Machine.execCollCreate m group part n window tmo s
  | .collMembers m group first entries dies => Sys2Proof.Machine.execCollMembers m group first entries dies s
  | .collCommit m group => Sys2Proof.Machine.execCollCommit m group s
  | .collDestroy m group => Sys2Proof.Machine.execCollDestroy m group s
  | .collReset m group => Sys2Proof.Machine.execCollReset m group s
  | .collAbort m group => Sys2Proof.Machine.execCollAbort m group s
  | .collGet m group => Sys2Proof.Machine.execCollGet m group s
  | .collCellsSet m die share => Sys2Proof.Machine.execCollCellsSet m die share s
  | .collStats m clear => Sys2Proof.Machine.execCollStats m clear s
  | .routeStage m version first entries => Sys2Proof.Machine.execRouteStage m version first entries s
  | .routeCommit m version drain drainFrames affected root => Sys2Proof.Machine.execRouteCommit m version drain drainFrames affected root s
  | .routeGet m bank first count => Sys2Proof.Machine.execRouteGet m bank first count s
  | .shareSet m shares => Sys2Proof.Machine.execShareSet m shares s
  | .shareGet m => Sys2Proof.Machine.execShareGet m s
  | .meterSet m part meter => Sys2Proof.Machine.execMeterSet m part meter s
  | .dropSet m yellow red => Sys2Proof.Machine.execDropSet m yellow red s
  | .riffleSet m die index filter events wrap => Sys2Proof.Machine.execRiffleSet m die index filter events wrap s
  | .riffleRead m die seq => Sys2Proof.Machine.execRiffleRead m die seq s
  | .routeStats m clear => Sys2Proof.Machine.execRouteStats m clear s
  | .mgmtConnectionOpen tls13 chain => Sys2Proof.Machine.execMgmtConnectionOpen tls13 chain s
  | .mgmtMessage conn kind slot rsvd length body => Sys2Proof.Machine.execMgmtMessage conn kind slot rsvd length body s
  | .spdmRequest transport req => Sys2Proof.Machine.execSpdmRequest transport req s
  | .getMeasurements transport index nonce => Sys2Proof.Machine.execGetMeasurements transport index nonce s
  | .oagalUnlock token => Sys2Proof.Machine.execOagalUnlock token s
  | .oagalRecover image flashOk => Sys2Proof.Machine.execOagalRecover image flashOk s
  | .oagalRd addr => Sys2Proof.Machine.execOagalRd addr s
  | .oagalMbx frame => Sys2Proof.Machine.execOagalMbx frame s
  | .oagalWr addr value => Sys2Proof.Machine.execOagalWr addr value s
  | .configRequest op => Sys2Proof.Machine.execConfigRequest op s
  | .listDb g value => Sys2Proof.Machine.execListDb g value s
  | .listLoad g part value => Sys2Proof.Machine.execListLoad g part value s
  | .listAbort g part value => Sys2Proof.Machine.execListAbort g part value s
  | .counterAdd g ctr part amount => Sys2Proof.Machine.execCounterAdd g ctr part amount s
  | .counterIncreaseApply g => Sys2Proof.Machine.execCounterIncreaseApply g s
  | .commandDispatch g listId => Sys2Proof.Machine.execCommandDispatch g listId s
  | .sliceArbitration g engine => Sys2Proof.Machine.execSliceArbitration g engine s
  | .nop g engine queue => Sys2Proof.Machine.execNop g engine queue s
  | .wait g engine queue => Sys2Proof.Machine.execWait g engine queue s
  | .signal g engine queue => Sys2Proof.Machine.execSignal g engine queue s
  | .fence g engine queue => Sys2Proof.Machine.execFence g engine queue s
  | .trap g engine queue => Sys2Proof.Machine.execTrap g engine queue s
  | .halt g engine queue => Sys2Proof.Machine.execHalt g engine queue s
  | .mma g queue => Sys2Proof.Machine.execMma g queue s
  | .mmaScaled g queue => Sys2Proof.Machine.execMmaScaled g queue s
  | .vop g queue => Sys2Proof.Machine.execVop g queue s
  | .vred g queue => Sys2Proof.Machine.execVred g queue s
  | .loadt g queue => Sys2Proof.Machine.execLoadt g queue s
  | .storet g queue => Sys2Proof.Machine.execStoret g queue s
  | .dmaNd g queue => Sys2Proof.Machine.execDmaNd g queue s
  | .attn g queue => Sys2Proof.Machine.execAttn g queue s
  | .kvappend g queue => Sys2Proof.Machine.execKvappend g queue s
  | .appendLengthAdvance ctx layer => Sys2Proof.Machine.execAppendLengthAdvance ctx layer s
  | .collJoin g queue => Sys2Proof.Machine.execCollJoin g queue s
  | .collScheduledStart g queue => Sys2Proof.Machine.execCollScheduledStart g queue s
  | .collWait g queue => Sys2Proof.Machine.execCollWait g queue s
  | .atomic g queue => Sys2Proof.Machine.execAtomic g queue s
  | .commandComplete g engine queue index => Sys2Proof.Machine.execCommandComplete g engine queue index s
  | .listRelease g listId => Sys2Proof.Machine.execListRelease g listId s
  | .waitTimeout g engine queue => Sys2Proof.Machine.execWaitTimeout g engine queue s
  | .fenceTimeout g engine queue => Sys2Proof.Machine.execFenceTimeout g engine queue s
  | .tileDelivered g queue => Sys2Proof.Machine.execTileDelivered g queue s
  | .pageRequestResponse g queue code => Sys2Proof.Machine.execPageRequestResponse g queue code s
  | .translationCompletion index readOk writeOk base size taddr => Sys2Proof.Machine.execTranslationCompletion index readOk writeOk base size taddr s
  | .atsInvalidationRequest tag pasid base size => Sys2Proof.Machine.execAtsInvalidationRequest tag pasid base size s
  | .invalidationComplete tag => Sys2Proof.Machine.execInvalidationComplete tag s
  | .hostReadCompletion index ok data => Sys2Proof.Machine.execHostReadCompletion index ok data s
  | .bar2Read offset len => Sys2Proof.Machine.execBar2Read offset len s
  | .bar2Write offset data => Sys2Proof.Machine.execBar2Write offset data s
  | .popRead q whole misdirected => Sys2Proof.Machine.execPopRead q whole misdirected s
  | .qcfgWrite q value => Sys2Proof.Machine.execQcfgWrite q value s
  | .queueArm q => Sys2Proof.Machine.execQueueArm q s
  | .qreset q => Sys2Proof.Machine.execQreset q s
  | .qstatusFlagClear q underrun overflow broken => Sys2Proof.Machine.execQstatusFlagClear q underrun overflow broken s
  | .msixUnmask vec => Sys2Proof.Machine.execMsixUnmask vec s
  | .sluiceDb value => Sys2Proof.Machine.execSluiceDb value s
  | .sluiceRingWrite value => Sys2Proof.Machine.execSluiceRingWrite value s
  | .sluiceDescriptor desc segments => Sys2Proof.Machine.execSluiceDescriptor desc segments s
  | .linkErrClr port => Sys2Proof.Machine.execLinkErrClr port s
  | .registerWrite offset size value => Sys2Proof.Machine.execRegisterWrite offset size value s
  | .inv p => Sys2Proof.Machine.execInv p s
  | .ctxFence p => Sys2Proof.Machine.execCtxFence p s
  | .rd p => Sys2Proof.Machine.execRd p s
  | .rdv p => Sys2Proof.Machine.execRdv p s
  | .wr p => Sys2Proof.Machine.execWr p s
  | .wrp p => Sys2Proof.Machine.execWrp p s
  | .atom p => Sys2Proof.Machine.execAtom p s
  | .red p => Sys2Proof.Machine.execRed p s
  | .ctrl p => Sys2Proof.Machine.execCtrl p s
  | .cpl p => Sys2Proof.Machine.execCpl p s
  | .cplData p => Sys2Proof.Machine.execCplData p s
  | .cplPosted p => Sys2Proof.Machine.execCplPosted p s
  | .join p => Sys2Proof.Machine.execJoin p s
  | .contrib p => Sys2Proof.Machine.execContrib p s
  | .partialPkt p => Sys2Proof.Machine.execPartialPkt p s
  | .result p => Sys2Proof.Machine.execResult p s
  | .ack p => Sys2Proof.Machine.execAck p s
  | .nack p => Sys2Proof.Machine.execNack p s
  | .done p => Sys2Proof.Machine.execDone p s
  | .abort p => Sys2Proof.Machine.execAbort p s
  | .reset p => Sys2Proof.Machine.execReset p s
  | .confluenceCombine die => Sys2Proof.Machine.execConfluenceCombine die s
  | .resultVerdict g slot chunk => Sys2Proof.Machine.execResultVerdict g slot chunk s
  | .collTimeout group => Sys2Proof.Machine.execCollTimeout group s
  | .collWaitTimeout g slot => Sys2Proof.Machine.execCollWaitTimeout g slot s
  | .collNodeInstall desc install => Sys2Proof.Machine.execCollNodeInstall desc install s
  | .chunkVerdict srcNode port block => Sys2Proof.Machine.execChunkVerdict srcNode port block s
  | .chunkOpenTimeout srcNode port block => Sys2Proof.Machine.execChunkOpenTimeout srcNode port block s
  | .accessPerformed target lane badSymbols => Sys2Proof.Machine.execAccessPerformed target lane badSymbols s
  | .loadTimeout index => Sys2Proof.Machine.execLoadTimeout index s
  | .tagHoldExpiry index => Sys2Proof.Machine.execTagHoldExpiry index s
  | .busyRetry index => Sys2Proof.Machine.execBusyRetry index s
  | .packetRoute port vc => Sys2Proof.Machine.execPacketRoute port vc s
  | .outputArbitration port => Sys2Proof.Machine.execOutputArbitration port s
  | .escapeMove port vc => Sys2Proof.Machine.execEscapeMove port vc s
  | .redPromotion port => Sys2Proof.Machine.execRedPromotion port s
  | .packetAged port vc => Sys2Proof.Machine.execPacketAged port vc s
  | .queueCountExchange die => Sys2Proof.Machine.execQueueCountExchange die s
  | .reach port node lost => Sys2Proof.Machine.execReach port node lost s
  | .drained node frame => Sys2Proof.Machine.execDrained node frame s
  | .linkFrame port frame => Sys2Proof.Machine.execLinkFrame port frame s
  | .replayTimeout port => Sys2Proof.Machine.execReplayTimeout port s
  | .timeBlock port first second late => Sys2Proof.Machine.execTimeBlock port first second late s
  | .detect port lane body => Sys2Proof.Machine.execDetect port lane body s
  | .lock port lane body => Sys2Proof.Machine.execLock port lane body s
  | .eq port lane body => Sys2Proof.Machine.execEq port lane body s
  | .rate port lane body => Sys2Proof.Machine.execRate port lane body s
  | .step port lane body => Sys2Proof.Machine.execStep port lane body s
  | .ready port lane body => Sys2Proof.Machine.execReady port lane body s
  | .idle port lane body => Sys2Proof.Machine.execIdle port lane body s
  | .wake port lane body => Sys2Proof.Machine.execWake port lane body s
  | .retrain port lane body => Sys2Proof.Machine.execRetrain port lane body s
  | .trainingTimeout port => Sys2Proof.Machine.execTrainingTimeout port s
  | .rateStepTimeout port => Sys2Proof.Machine.execRateStepTimeout port s
  | .retrainTimeout port => Sys2Proof.Machine.execRetrainTimeout port s
  | .signalLoss port lane => Sys2Proof.Machine.execSignalLoss port lane s
  | .trainingRestart port => Sys2Proof.Machine.execTrainingRestart port s
  | .idleEntry port => Sys2Proof.Machine.execIdleEntry port s
  | .identityBlock port partCode node peerPort version object => Sys2Proof.Machine.execIdentityBlock port partCode node peerPort version object s
  | .portMissing port => Sys2Proof.Machine.execPortMissing port s
  | .heartbeat node heard mirrorPerStack => Sys2Proof.Machine.execHeartbeat node heard mirrorPerStack s
  | .witnessAck node heard => Sys2Proof.Machine.execWitnessAck node heard s
  | .promotion reports => Sys2Proof.Machine.execPromotion reports s
  | .failing node => Sys2Proof.Machine.execFailing node s
  | .seqMigrateRecord r => Sys2Proof.Machine.execSeqMigrateRecord r s
  | .seqMigrateReply ctx newCtx => Sys2Proof.Machine.execSeqMigrateReply ctx newCtx s
  | .frameStart power => Sys2Proof.Machine.execFrameStart power s
  | .racksyncEdge good => Sys2Proof.Machine.execRacksyncEdge good s
  | .patrolScrub stack atom badSymbols => Sys2Proof.Machine.execPatrolScrub stack atom badSymbols s
  | .refreshSlot index => Sys2Proof.Machine.execRefreshSlot index s
  | .tileFlip parcel => Sys2Proof.Machine.execTileFlip parcel s
  | .moveComplete parcel => Sys2Proof.Machine.execMoveComplete parcel s
  | .thermalSample tj stackTemps plates => Sys2Proof.Machine.execThermalSample tj stackTemps plates s
  | .supplyWarning millivolts => Sys2Proof.Machine.execSupplyWarning millivolts s
  | .supplyReset role side slot => Sys2Proof.Machine.execSupplyReset role side slot s
  | .regulatorPoll index answer => Sys2Proof.Machine.execRegulatorPoll index answer s
  | .pmbAlert index fault => Sys2Proof.Machine.execPmbAlert index fault s
  | .groupGate g => Sys2Proof.Machine.execGroupGate g s
  | .powerOn role side slot => Sys2Proof.Machine.execPowerOn role side slot s
  | .resetN role side slot => Sys2Proof.Machine.execResetN role side slot s
  | .headwaterBoot selfTest => Sys2Proof.Machine.execHeadwaterBoot selfTest s
  | .stackJoin stack ok => Sys2Proof.Machine.execStackJoin stack ok s
  | .faultRaise cls inst cause status addr ctx part node => Sys2Proof.Machine.execFaultRaise cls inst cause status addr ctx part node s
  | .mbxDb slot => Sys2Proof.Machine.execMbxDb slot s
  | .serialiserHardwareWaitEnd index => Sys2Proof.Machine.execSerialiserHardwareWaitEnd index s
  | .mgmtConnectionClose conn => Sys2Proof.Machine.execMgmtConnectionClose conn s
  | .hostLinkStateChange up flit speed width => Sys2Proof.Machine.execHostLinkStateChange up flit speed width s
  | .spdmHeartbeatMiss session => Sys2Proof.Machine.execSpdmHeartbeatMiss session s
  | .oagalNet sgmii addrs => Sys2Proof.Machine.execOagalNet sgmii addrs s
  | .oagalInject cls inst cause count => Sys2Proof.Machine.execOagalInject cls inst cause count s
  | .priTimeout g queue => Sys2Proof.Machine.execPriTimeout g queue s
  | .interruptModerationExpiry q => Sys2Proof.Machine.execInterruptModerationExpiry q s
  | .msErrcntClr stack => Sys2Proof.Machine.execMsErrcntClr stack s
  | .resultRetainExpiry group chunk => Sys2Proof.Machine.execResultRetainExpiry group chunk s
  | .tileCopyAbandon parcel => Sys2Proof.Machine.execTileCopyAbandon parcel s
  | .blockReturn cls inst selfTest => Sys2Proof.Machine.execBlockReturn cls inst selfTest s
  | .directoryRebuildDone hd => Sys2Proof.Machine.execDirectoryRebuildDone hd s
  | .noProgressTimeout g engine => Sys2Proof.Machine.execNoProgressTimeout g engine s
  | .mailboxServiceStart => Sys2Proof.Machine.execMailboxServiceStart s
  | .oagalStatus => Sys2Proof.Machine.execOagalStatus s
  | .oagalChallenge => Sys2Proof.Machine.execOagalChallenge s
  | .oagalSerialLock => Sys2Proof.Machine.execOagalSerialLock s
  | .oagalSensors => Sys2Proof.Machine.execOagalSensors s
  | .oagalLog => Sys2Proof.Machine.execOagalLog s
  | .oagalHist => Sys2Proof.Machine.execOagalHist s
  | .oagalJtag => Sys2Proof.Machine.execOagalJtag s
  | .oagalHalt => Sys2Proof.Machine.execOagalHalt s
  | .oagalStep => Sys2Proof.Machine.execOagalStep s
  | .oagalNonceExpiry => Sys2Proof.Machine.execOagalNonceExpiry s
  | .oagalUnlockExpiry => Sys2Proof.Machine.execOagalUnlockExpiry s
  | .priStoppedClear => Sys2Proof.Machine.execPriStoppedClear s
  | .routeHoldStart => Sys2Proof.Machine.execRouteHoldStart s
  | .routeDrainedSend => Sys2Proof.Machine.execRouteDrainedSend s
  | .routeSwitch => Sys2Proof.Machine.execRouteSwitch s
  | .routeFallbackSwitch => Sys2Proof.Machine.execRouteFallbackSwitch s
  | .routeRetire => Sys2Proof.Machine.execRouteRetire s
  | .heartbeatSend => Sys2Proof.Machine.execHeartbeatSend s
  | .leaseLapse => Sys2Proof.Machine.execLeaseLapse s
  | .pairSuspect => Sys2Proof.Machine.execPairSuspect s
  | .handback => Sys2Proof.Machine.execHandback s
  | .rackclkLoss => Sys2Proof.Machine.execRackclkLoss s
  | .numberSourceLoss => Sys2Proof.Machine.execNumberSourceLoss s
  | .alternateTakeover => Sys2Proof.Machine.execAlternateTakeover s
  | .alternateStop => Sys2Proof.Machine.execAlternateStop s
  | .capStep => Sys2Proof.Machine.execCapStep s
  | .placementInterval => Sys2Proof.Machine.execPlacementInterval s
  | .thermalTrip => Sys2Proof.Machine.execThermalTrip s
  | .supplyThrottleLift => Sys2Proof.Machine.execSupplyThrottleLift s
  | .safeSet => Sys2Proof.Machine.execSafeSet s
  | .epoAssert => Sys2Proof.Machine.execEpoAssert s
  | .epoDeassert => Sys2Proof.Machine.execEpoDeassert s
  | .d3hot => Sys2Proof.Machine.execD3hot s
  | .d0 => Sys2Proof.Machine.execD0 s
  | .standbyReentry => Sys2Proof.Machine.execStandbyReentry s
  | .perstN => Sys2Proof.Machine.execPerstN s
  | .calibrationComplete => Sys2Proof.Machine.execCalibrationComplete s
  | .historyEntryWrite => Sys2Proof.Machine.execHistoryEntryWrite s
  | .wedgeDetect => Sys2Proof.Machine.execWedgeDetect s
  | .watchdogExpiry => Sys2Proof.Machine.execWatchdogExpiry s
  | .lockstepMismatch => Sys2Proof.Machine.execLockstepMismatch s
  | .logWrite => Sys2Proof.Machine.execLogWrite s
  | .faultRecordFlash => Sys2Proof.Machine.execFaultRecordFlash s
  | .handoverSwitch => Sys2Proof.Machine.execHandoverSwitch s

end Sys2Proof.Machine
end

