-- ==== Sys2Proof/Safety.lean ====
section
/-! DEFINITION. What claims about runs speak of: states whose faults have all been taken, memory in its canonical form, a
mailbox that is free to start a command, and the answer it gives. -/
namespace Sys2Proof.Machine

/-- Every fault that a step raised has been handed to the capture registers, and its reaction has taken effect
(R439, R444). A step ends so. -/
abbrev State.Settled (s : State) : Prop := s.flt.raised = []

/-- The bytes of the pool and the scratchpads stand in their canonical form. -/
abbrev State.MemCanonical (s : State) : Prop := Mem.wf s.mem.cells = true

/-- No command is in service, and no request of the management network with one of the keys waits: a command that reaches
the mailbox starts at once (R389, R390). Log: 201 DEDUCED. -/
abbrev State.Starts (s : State) (m : Master) (keys : List Key) : Prop :=
  s.mbx.cur = none ∧ (m = .mgmt ∨ outranks s keys = false)

/-- A command of this code from this master is served: the phase, the credentials and emergency off do not keep it from
being so (R389, R392, R433, R457, R491). -/
abbrev State.Serves (s : State) (m : Master) (code : Nat) : Prop := gate s m code = some none

/-- A mailbox command runs: no fault is still to be taken, it starts, and it is served. -/
abbrev State.Takes (s : State) (m : Master) (code : Nat) (keys : List Key) : Prop :=
  s.Settled ∧ s.Starts m keys ∧ s.Serves m code

/-- The state on which a mailbox command runs: a command of the management network marks the waiting host requests with a key of
its own, and nothing else differs (R390). -/
def State.begun (s : State) (m : Master) (keys : List Key) : State :=
  match m with
  | .host => s
  | .mgmt => outrankWaiting s keys

/-- The state with a command answered: its response, one more command served, none in service (R389, R393). -/
def State.answered (s : State) (m : Master) (code status : Nat) (data : List (Nat × Nat) := []) : State :=
  s.modMbx fun x => { x with
    resp := { master := m, code := code, status := status, data := data }
    served := x.served + 1
    cur := none }

/-- The state with a command that waits for hardware, with the answer it will have (R389). -/
def State.deferred (s : State) (m : Master) (code status : Nat) (data : List (Nat × Nat) := []) : State :=
  s.modMbx fun x => { x with
    hwWait := x.hwWait ++ [{ resp := { master := m, code := code, status := status, data := data }, ref := none }]
    cur := none }

/-! ## The mailbox's rows -/

/-- The master and the code of a command that is a row of the mailbox (R388); every other row is `none`. -/
def mailboxCode : Instr → Option (Master × Nat)
  | .identify m => some (m, 0x0100)
  | .mbxInfo m _ => some (m, 0x0101)
  | .sensorGet m _ _ => some (m, 0x0110)
  | .logRead m _ _ => some (m, 0x0111)
  | .hostPartsSet m _ => some (m, 0x0201)
  | .partStart m _ => some (m, 0x0202)
  | .partStop m _ => some (m, 0x0203)
  | .ctxSet m _ _ => some (m, 0x0210)
  | .ctxClear m _ => some (m, 0x0211)
  | .segSet m _ _ _ => some (m, 0x0212)
  | .segClear m _ _ => some (m, 0x0213)
  | .bindSet m _ _ _ => some (m, 0x0214)
  | .bindClear m _ _ => some (m, 0x0215)
  | .ctxGet m _ => some (m, 0x0216)
  | .xlatFlush m _ => some (m, 0x0217)
  | .listAbortCmd m _ _ => some (m, 0x0220)
  | .manifestLoad m _ _ _ => some (m, 0x0300)
  | .discoveryGet m _ _ => some (m, 0x0301)
  | .quarantineClear m _ => some (m, 0x0302)
  | .pairGet m => some (m, 0x0303)
  | .pairFailover m _ => some (m, 0x0304)
  | .pairRestore m _ => some (m, 0x0305)
  | .pktCtrlSet m _ _ => some (m, 0x0380)
  | .deadSet m _ => some (m, 0x0381)
  | .deadClear m _ => some (m, 0x0382)
  | .pktStats m _ => some (m, 0x0383)
  | .linkSet m _ _ => some (m, 0x0390)
  | .linkGet m _ _ => some (m, 0x0391)
  | .timeSet m _ _ _ => some (m, 0x03A0)
  | .timeGet m => some (m, 0x03A1)
  | .timeAccept m => some (m, 0x03A2)
  | .policySet m _ _ => some (m, 0x0400)
  | .policyGet m _ => some (m, 0x0401)
  | .budgetSet m _ => some (m, 0x0402)
  | .parcelSet m _ _ _ _ _ _ => some (m, 0x0403)
  | .parcelGet m _ => some (m, 0x0404)
  | .move m _ _ => some (m, 0x0405)
  | .evacuate m _ _ => some (m, 0x0406)
  | .lendSet m _ _ _ _ _ => some (m, 0x0407)
  | .lendClear m _ => some (m, 0x0408)
  | .mirrorReserveSet m _ => some (m, 0x0409)
  | .maintSet m _ => some (m, 0x040A)
  | .placeStats m _ => some (m, 0x040B)
  | .powerSet m _ _ => some (m, 0x0500)
  | .powerGet m => some (m, 0x0501)
  | .powerPlanGet m => some (m, 0x0502)
  | .powerHeartbeat m => some (m, 0x0503)
  | .powerResume m => some (m, 0x0504)
  | .flowReport m _ => some (m, 0x0505)
  | .faultGet m _ => some (m, 0x0600)
  | .faultSet m _ _ _ => some (m, 0x0601)
  | .faultAck m _ => some (m, 0x0602)
  | .unitFence m _ _ => some (m, 0x0603)
  | .unitReturn m _ _ _ => some (m, 0x0604)
  | .warmReset m => some (m, 0x0605)
  | .faultInject m _ _ _ _ => some (m, 0x0606)
  | .updateBegin m _ => some (m, 0x0700)
  | .updateData m _ _ => some (m, 0x0701)
  | .updateVerify m => some (m, 0x0702)
  | .updateCommit m _ => some (m, 0x0703)
  | .updateActivate m _ _ _ => some (m, 0x0704)
  | .updateStatus m => some (m, 0x0705)
  | .updateAbort m => some (m, 0x0706)
  | .ownerSet m _ _ _ => some (m, 0x0800)
  | .credSet m _ _ => some (m, 0x0801)
  | .credGet m => some (m, 0x0802)
  | .svnRaise m => some (m, 0x0803)
  | .keyRevoke m _ => some (m, 0x0804)
  | .oagalLock m => some (m, 0x0805)
  | .sluiceStart m _ => some (m, 0x0820)
  | .sluiceRekey m => some (m, 0x0821)
  | .seqRegister m _ => some (m, 0x0900)
  | .seqGet m _ _ => some (m, 0x0901)
  | .seqRelease m _ => some (m, 0x0902)
  | .seqTruncate m _ _ => some (m, 0x0903)
  | .seqMigrate m _ _ _ _ => some (m, 0x0904)
  | .seqStats m _ => some (m, 0x0905)
  | .collCreate m _ _ _ _ _ => some (m, 0x0A00)
  | .collMembers m _ _ _ _ => some (m, 0x0A01)
  | .collCommit m _ => some (m, 0x0A02)
  | .collDestroy m _ => some (m, 0x0A03)
  | .collReset m _ => some (m, 0x0A04)
  | .collAbort m _ => some (m, 0x0A05)
  | .collGet m _ => some (m, 0x0A06)
  | .collCellsSet m _ _ => some (m, 0x0A07)
  | .collStats m _ => some (m, 0x0A08)
  | .routeStage m _ _ _ => some (m, 0x0B00)
  | .routeCommit m _ _ _ _ _ => some (m, 0x0B01)
  | .routeGet m _ _ _ => some (m, 0x0B02)
  | .shareSet m _ => some (m, 0x0B03)
  | .shareGet m => some (m, 0x0B04)
  | .meterSet m _ _ => some (m, 0x0B05)
  | .dropSet m _ _ => some (m, 0x0B06)
  | .riffleSet m _ _ _ _ _ => some (m, 0x0B07)
  | .riffleRead m _ _ => some (m, 0x0B08)
  | .routeStats m _ => some (m, 0x0B09)
  | _ => none

/-! ## Commands of a list -/

/-- The next command of a queue, number `i` of list `l` with this opcode, can begin: the group issues commands, the queue holds its
engine's slice where the opcode needs one, a sequencer die serves where the opcode needs one, and no started command bears its
number (R114, R115, R119, R146). -/
abbrev State.Works (s : State) (g e q op : Nat) (l : CmdList) (i : Nat) : Prop :=
  s.Settled ∧ groupRuns s g = true ∧ (isControlOp op = true ∨ holdsSlice s g e q = true) ∧
  (isProtocolOp op = true → sequencerServes s = true) ∧
  current s g e q op = some (l, { idx := i, opcode := op }, true) ∧ ∀ r ∈ ((s.grp g).que e q).started, r.idx ≠ i

/-- The state in which that command has begun. -/
def State.work (s : State) (g e q op i : Nat) : State := beginRun s g e q { idx := i, opcode := op }

/-- The state in which the step of a queue has ended: but for a control command, its engine's slice is over (R115). -/
def State.sliceOver (s : State) (g e op : Nat) : State := if isControlOp op then s else endSlice s g e

/-- A queue goes on with a command of this opcode, or begins one (`new`): as `Works`, for a command that may have been started
before (R114, R115, R119, R146). -/
abbrev State.Goes (s : State) (g e q op : Nat) (l : CmdList) (r : Running) (new : Bool) : Prop :=
  s.Settled ∧ groupRuns s g = true ∧ holdsSlice s g e q = true ∧ (isProtocolOp op = true → sequencerServes s = true) ∧
  current s g e q op = some (l, r, new) ∧ ∀ x ∈ ((s.grp g).que e q).started, x.idx = r.idx → new = false ∧ x = r

/-- The state in which that command has begun, if it had not. -/
def State.begunRun (s : State) (g e q : Nat) (r : Running) (new : Bool) : State := if new then beginRun s g e q r else s

/-- The state in which it fetches its operands. -/
def State.going (s : State) (g e q : Nat) (r : Running) (new : Bool) : State :=
  modRun (s.begunRun g e q r new) g e q r.idx fun r => { r with phase := if r.phase = 0 then 1 else r.phase }

/-- A started command has all its operands: every access of it has ended and none was refused, every piece that must come from
elsewhere has come, and nothing holds a range of it (R86, R262, R450). -/
abbrev State.Fetched (s : State) (g e part : Nat) (r : Running) (ranges : List (Nat × Nat × Bool)) : Prop :=
  r.outstanding = 0 ∧ r.denied = none ∧ wantedPieces s r ranges = [] ∧
  ranges.any (fun x => rangeHeld s part x.1 x.2.1 false || engineConflict s g e x.1 x.2.1) = false

/-- No range of data, where it is served here, is refused to a read of a partition (R32, R35, R43). -/
def State.readable (s : State) (part : Nat) (ranges : List (Nat × Nat × Bool)) : Bool :=
  ranges.all fun x => (cutRange 4096 4096 (x.2.1 / 2048 + 3) x.1 x.2.1).all fun y =>
    match placeOf s y.1 with
    | .here node off => ! isCtlOff off && (accCheck s node off y.2 part false == some OK || accCheck s node off y.2 part false == some POISONED)
    | _ => true

/-- Every range is data served here that a partition may write, with no mirror to write as well and no copy in progress (R32, R35,
R86, R100). -/
def State.writable (s : State) (part : Nat) (ranges : List (Nat × Nat)) : Bool :=
  ranges.all fun x => (cutRange 4096 4096 (x.2 / 2048 + 3) x.1 x.2).all fun y =>
    match placeOf s y.1 with
    | .here node off => ! isCtlOff off && accCheck s node off y.2 part true == some OK && ! mirrored s node off && ! tileCopying s node off
    | _ => false

/-- The row answers a next state in which the command has reached its completion event with its result (R136, R178). -/
abbrev Ends (i : Instr) (s : State) (g e q k : Nat) : Prop :=
  ∃ t : State, exec i s = .next (settle t) ∧ (theRun t g e q k).st = 1 ∧
    ((theRun t g e q k).status = OK ∨ (theRun t g e q k).status = POISONED)

/-! ### Operands of the engines' commands -/

/-- What a matrix product reads (R160, R161). -/
def mmaReads (c : Nat) : List (Nat × Nat × Bool) :=
  operandRanges (descAt c 64) (bits c 448 16 + 1) (bits c 480 16 + 1) false ++
  operandRanges (descAt c 192) (bits c 480 16 + 1) (bits c 464 16 + 1) true ++
  (if bitAt c 499 then operandRanges (descAt c 320) (bits c 448 16 + 1) (bits c 464 16 + 1) false else [])

/-- What it writes. -/
def mmaWrites (c : Nat) : List (Nat × Nat) := descRuns (descAt c 320) (bits c 448 16 + 1) (bits c 464 16 + 1)

/-- What a VOP with an element-wise function reads (R164). -/
def vopReads (c : Nat) : List (Nat × Nat × Bool) :=
  operandRanges (descAt c 64) (bits c 448 16 + 1) (bits c 464 16 + 1) false ++
  (if src1Read c then operandRanges (if bits c 480 8 = 0x0E then { descAt c 192 with ld := 0 } else descAt c 192)
    (src1Shape c (bits c 448 16 + 1) (bits c 464 16 + 1)).1 (src1Shape c (bits c 448 16 + 1) (bits c 464 16 + 1)).2 false else []) ++
  (if bits c 480 8 = 0x04 then operandRanges (descAt c 320) (bits c 448 16 + 1) (bits c 464 16 + 1) false else [])

/-- What MERGE and FINISH read (R164, R165). -/
def entryReads (c : Nat) : List (Nat × Nat × Bool) :=
  let ent (d : Desc) : List (Nat × Nat × Bool) := (entryRuns d (bits c 448 16 + 1) (bits c 464 16 + 1)).map fun x => (x.1, x.2, d.vol)
  ent (descAt c 64) ++ (if bits c 480 8 = 0x10 then ent (descAt c 192) else [])

/-- What a VOP writes (R164). -/
def vopWrites (c : Nat) : List (Nat × Nat) :=
  if bits c 480 8 = 0x10 then entryRuns (descAt c 320) (bits c 448 16 + 1) (bits c 464 16 + 1)
  else operandRuns (descAt c 320) (bits c 448 16 + 1) (bits c 464 16 + 1) false

/-- Lane-cycles of a VOP (R165). -/
def vopCycles (c : Nat) : Nat := (bits c 448 16 + 1) * (bits c 464 16 + 1) * laneCycles (bits c 480 8)

/-- What an ATTN reads once it attends: its queries, and the rows of every position that a token attends (R172, R214). -/
def attnReads (x : AttnCmd) (d : Nat) (r : Running) : List (Nat × Nat × Bool) :=
  (List.range (x.t * x.heads)).map (fun k => (x.q + k * eBytes x.qfmt (dDim d), eBytes x.qfmt (dDim d), false)) ++
  (x.kvHeads d).flatMap fun h => (x.positions d r.stripes r).flatMap fun p =>
    [(kvRow d x.layer h p 0, dRb d, false), (kvRow d x.layer h p 1, dRb d, false)]

/-- What it writes: an output, or a partial, for each token and head (R171, R214). -/
def attnWrites (x : AttnCmd) (d : Nat) : List (Nat × Nat) :=
  let n := if x.partial' then 64 + 4 * dDim d else eBytes x.ofmt (dDim d)
  (List.range (x.t * x.heads)).map fun k => (x.o + k * n, n)

/-- The rows of an append: the source and the cache row of each (R173, R208). -/
def appendPairs (c d first : Nat) : List ((Nat × Nat) × (Nat × Nat)) :=
  let hkv := dHkv d + 1
  (List.range (2 * (bits c 216 12 + 1) * hkv)).map fun n =>
    (newRow (bits c 233 4) hkv (dDim d) (if n / hkv % 2 = 0 then bits c 64 56 else bits c 128 56) (n / (2 * hkv)) (n % hkv),
     (kvRow d (bits c 206 10) (n % hkv) (first + n / (2 * hkv)) (n / hkv % 2), dRb d))

/-- Requests that the runs not written yet take at most: a read and a write for every 2,048 bytes (R117). -/
def runsLeft (r : Running) (runs : List (Nat × Nat × Nat)) : Nat :=
  sumBy (fun k => match runs[k]? with | some x => 2 * ceilDiv x.2.2 2048 | none => 0)
    ((List.range runs.length).filter fun k => ! r.written.contains k)

/-- Only engine group `g` differs, and neither its loaded lists nor its counters do. -/
def State.OnlyQueues (s t : State) (g : Nat) : Prop :=
  t = { s with groups := t.groups } ∧ (∀ k, k ≠ g → t.grp k = s.grp k) ∧
  (t.grp g).lists = (s.grp g).lists ∧ (t.grp g).ctrs = (s.grp g).ctrs

/-! ## Packets -/

/-- A packet that the routing stage has delivered to its unit of this package, and that no earlier one with a common atom still waits
before (R263, R320). -/
abbrev State.Delivered (s : State) (p : Packet) : Prop :=
  s.Settled ∧ shaped p = true ∧ s.fab.delivered.contains p = true ∧
  behindParked (s.fab.delivered.takeWhile (· != p)) p = false

/-- The state on which a delivered packet is served. -/
def State.taking (s : State) (p : Packet) : State := s.modFab fun f => { f with delivered := f.delivered.erase p }

/-- The state after a packet has been served, or an access has ended: what the members of collective operations waited for goes on, and
the faults raised are taken (R245, R439). -/
def State.served (s : State) : State := settle (collSettle s)

/-- A packet that arrives from outside: nothing of the package holds it yet, and the package is not in standby (R320, R435). Where it
is served at once, `s.Ahead` says that no request waits for a common atom (R263). -/
abbrev State.Arriving (s : State) (p : Packet) : Prop :=
  s.Settled ∧ shaped p = true ∧ s.fab.delivered.contains p = false ∧ (s.fab.inbuf.any fun x => x.pkt == p) = false ∧
    s.power.standby = false

/-- No request that waits here touches an atom of the packet (R263). -/
abbrev State.Ahead (s : State) (p : Packet) : Prop := behindParked s.fab.delivered p = false

/-- The node of a group on this package, in its slot, and the relative of that node that a packet comes from (R236). -/
abbrev State.Relative (s : State) (p : Packet) (slot who : Nat) (n : CollNode) : Prop :=
  s.Delivered p ∧ nodeOf s p.group = some (slot, n) ∧ s.node slot = n ∧ relativeOf s n p = some who ∧ (p.part = n.part ∨ p.vc = 5)

end Sys2Proof.Machine
end

