-- ==== Sys2Proof/Certificates/Slice0/Obligations.lean ====
section
/-! DEFINITION. The statements for the provers. -/
open Sys2Proof Sys2Proof.Machine

/-! ## The block as a whole -/

/-- A step runs the command at the front of the queue on the state with the queue's rest. With an empty queue the block idles, which is
the model's own choice (log entry 9). -/
def Obligations.AStepRunsTheCommandAtTheFrontOfTheQueue : Prop :=
  (∀ (c : Instr) (s : State), step { s with pending := c :: s.pending } = exec c s) ∧
  (∀ s : State, s.pending = [] → step s = .next s)

/-- No step stops, and none leaves a fault untaken: from a state whose faults have all been taken, every command, in service or not, is
followed by another such state (R439, R444). -/
def Obligations.EveryStepAnswersAndTakesItsFaults : Prop :=
  (∀ s t : State, s.Settled → step s = .next t → t.Settled) ∧ (∀ s : State, ∃ t : State, step s = .next t) ∧
  ∀ (c : Instr) (s : State), ∃ t : State, exec c s = .next t ∧ t.Settled

/-- The state after reset has taken every fault and holds memory in its canonical form; what the spec gives a reset value for has it: the
counters (R126), POWER_CFG and POWER_STATUS (R438), the two queues that are enabled (R395), and PHASE (R455). -/
def Obligations.ResetLeavesTheStatedValues : Prop :=
  State.reset.Settled ∧ State.reset.MemCanonical ∧ State.reset.pending = [] ∧ State.reset.mbx.cur = none ∧ State.reset.flt.phase = 0 ∧
  (∀ g c, (State.reset.grp g).ctr c = 0) ∧
  State.reset.power.cfg = { cap := 3000, slewUp := 40, slewDown := 400, floorEn := true, safeCap := 1500, standbyEn := false, gateEn := true
                            gateUs := 100, hostCap := 3000 } ∧
  capEff State.reset = 3000 ∧ State.reset.power.limit = 0 ∧ State.reset.power.power = 0 ∧ State.reset.power.capLag = false ∧
  State.reset.power.safe = false ∧
  ((State.reset.qcfg 0).en = true ∧ (State.reset.qcfg 0).ty = 1 ∧ (State.reset.qcfg 0).quota = 1024) ∧
  ((State.reset.qcfg 1).en = true ∧ (State.reset.qcfg 1).ty = 2 ∧ (State.reset.qcfg 1).quota = 64) ∧
  (∀ q, 2 ≤ q → (State.reset.qcfg q).en = false ∧ (State.reset.qcfg q).thresh = 1)

/-- Ibfen serves one command at a time, and only where a mailbox can be reached: while one is in service, another row of the mailbox
changes nothing, and so it does in a phase in which no mailbox is reached. That the row is not kept but may be sent again is the
model's choice (R389, log entry 2). -/
def Obligations.MailboxRowsAreHeldBackWhileOneIsServed : Prop :=
  (∀ (c : Instr) (m : Master) (code : Nat) (s : State), mailboxCode c = some (m, code) → s.Settled → s.mbx.cur ≠ none →
    exec c s = .next s) ∧
  (∀ (c : Instr) (m : Master) (code : Nat) (s : State), mailboxCode c = some (m, code) → s.Settled → s.mbx.cur = none → s.mbx.arrivals = [] →
    s.mbx.mgmtSlots = [] → gate s m code = none → exec c s = .next s)

/-- Who may command what. A row of the mailbox that the phase, the credentials or emergency off bar completes with the status they give,
without effect; a host command with the key of a waiting management request completes with SUPERSEDED; what only the management network may
order is DENIED to the host (R389, R390, R392, R393, R433, R457, R490, R509). -/
def Obligations.BarredCommandsCompleteWithTheirStatusAndNoEffect : Prop :=
  (∀ (c : Instr) (m : Master) (code st : Nat) (s : State), mailboxCode c = some (m, code) → s.Settled → s.mbx.cur = none → s.mbx.arrivals = [] →
    s.mbx.mgmtSlots = [] → gate s m code = some (some st) →
    ∃ t : State, exec c s = .next t ∧ t = { s with mbx := t.mbx } ∧ t.mbx.resp = { master := m, code := code, status := st, data := [] } ∧
      t.mbx.cur = none ∧ t.mbx.served = s.mbx.served + 1) ∧
  (∀ (s : State) (f : Nat) (w : BitVec 64), s.Settled → s.mbx.cur = none → outranks s [.power] = true → s.Serves .host 0x0500 →
    ∃ t : State, exec (.powerSet .host f w) s = .next t ∧ t = { s with mbx := t.mbx } ∧ t.mbx.resp.status = SUPERSEDED) ∧
  (∀ (c : Instr) (code : Nat) (s : State), mailboxCode c = some (.host, code) →
    code / 256 = 7 ∨ (0x0800 ≤ code ∧ code ≤ 0x0805) ∨ [0x0201, 0x0304, 0x0503, 0x0504, 0x0505].contains code = true → s.Settled →
    s.mbx.cur = none → s.mbx.mgmtSlots = [] → s.Serves .host code →
    exec c s = .next (s.answered .host code DENIED))

/-- Taking the faults of a step. A fault in a die whose capture register is free is captured, with the reaction in force and its tick,
and one in a die whose register is occupied is lost and counted, with ERR asserted where its reaction says so; the tick is a free
value (R439, R444, log entry 7). Fencing and package resets are left to the statements about them. -/
def Obligations.FaultsAreCapturedOrCountedAsLost : Prop :=
  ∀ (s : State) (c : Capture), s.flt.raised = [c] → bitAt (s.reactionOf c.cls c.inst c.cause) 5 = false →
    bitAt (s.reactionOf c.cls c.inst c.cause) 4 = false →
    ((∀ x ∈ s.flt.captures, x.die ≠ c.die) →
      settle s = State.modFlt { s with fresh := s.fresh + 1 } fun f => { f with raised := [], captures := f.captures ++
        [{ c with reaction := s.reactionOf c.cls c.inst c.cause, tick := Config.free s.fresh % 10240 }] }) ∧
    ((∃ x ∈ s.flt.captures, x.die = c.die) →
      settle s = State.modFlt { s with fresh := s.fresh + 1 } fun f => { f with
        raised := [], lost := f.lost + 1, lostBefore := f.lostBefore + 1
        errPending := f.errPending || bitAt (s.reactionOf c.cls c.inst c.cause) 2 })

/-- A completion that would carry data carries, with any status but OK, as many bytes of 0xFF as its LEN says, and has POISON set
(R303). -/
def Obligations.DataCompletionsWithoutOkCarryThePoisonValue : Prop :=
  ∀ (s : State) (req : Packet) (status : Nat) (data : Bytes), (mkCpl s req status data).opcode = opCPLD → status ≠ OK →
    (mkCpl s req status data).payload = List.replicate (mkCpl s req status data).len 0xFF ∧ (mkCpl s req status data).poison = true

/-- While a ladder step, a supply throttle or a trip is in force, a POWER_SET that would raise the effective cap above the power of the
frame in which the action began completes with SUPERSEDED, and so does a POWER_RESUME of a package in emergency off; neither
changes anything (R434; one outside emergency off is REFUSED, R438). -/
def Obligations.ActionsOutrankARiseOfTheCap : Prop :=
  (∀ (s : State) (f cap : Nat), s.Takes .host 0x0500 [.power] → actionOn s = true → 800 ≤ cap → cap ≤ 3000 → f ≤ s.time.lfc + 65536 →
    s.power.actionPower < min (if s.power.safe then s.power.cfg.safeCap else s.power.cfg.cap) cap →
    capEff s < min (if s.power.safe then s.power.cfg.safeCap else s.power.cfg.cap) cap →
    ∃ t : State, exec (.powerSet .host f (BitVec.ofNat 64 (cap * 2 ^ 52))) s = .next t ∧ t = { s with mbx := t.mbx } ∧
      t.mbx.resp = { master := .host, code := 0x0500, status := SUPERSEDED, data := [] }) ∧
  (∀ (s : State) (f : Nat) (w : BitVec 64), s.Takes .mgmt 0x0500 [.power] → actionOn s = true → bits w.toNat 52 12 = 0 →
    800 ≤ bits w.toNat 0 12 → bits w.toNat 0 12 ≤ 3000 → 1 ≤ bits w.toNat 12 6 → bits w.toNat 12 6 ≤ 40 → 40 ≤ bits w.toNat 18 9 →
    bits w.toNat 18 9 ≤ 400 → 800 ≤ bits w.toNat 28 12 → bits w.toNat 28 12 ≤ 3000 → 1 ≤ bits w.toNat 42 10 → f ≤ s.time.lfc + 65536 →
    s.power.actionPower < min (bits w.toNat 0 12) s.power.cfg.hostCap → capEff s < min (bits w.toNat 0 12) s.power.cfg.hostCap →
    ∃ t : State, exec (.powerSet .mgmt f w) s = .next t ∧ t = { s with mbx := t.mbx } ∧
      t.mbx.resp = { master := .mgmt, code := 0x0500, status := SUPERSEDED, data := [] }) ∧
  (∀ (s : State), s.Takes .mgmt 0x0504 [.power] → s.power.epo = true → actionOn s = true →
    ∃ t : State, exec (.powerResume .mgmt) s = .next t ∧ t = { s with mbx := t.mbx } ∧
      t.mbx.resp = { master := .mgmt, code := 0x0504, status := SUPERSEDED, data := [] })

/-- The rows of a sequence's cache. Every row of a position below MAX_POS lies whole in one parcel of the region, and two different
rows share no byte (R208, R209). -/
def Obligations.CacheRowsLieInTheRegionAndNeverOverlap : Prop :=
  ∀ d l g q v : Nat, l < dLayers d → g ≤ dHkv d → v ≤ 1 → q < maxPos d →
    (∃ p o, dRegFirst d ≤ p ∧ p < dRegFirst d + dRegCount d ∧ o + dRb d ≤ 0x200000 ∧
      kvRow d l g q v = nodeBase (dRegNode d) + p * 0x200000 + o) ∧
    ∀ l' g' q' v', l' < dLayers d → g' ≤ dHkv d → v' ≤ 1 → q' < maxPos d → (l, g, q, v) ≠ (l', g', q', v') →
      kvRow d l g q v + dRb d ≤ kvRow d l' g' q' v' ∨ kvRow d l' g' q' v' + dRb d ≤ kvRow d l g q v

/-- Every code of a float format that is no NaN, of an integer format, and of L4, is the code of its own value: converting the value
back, rounded either way, gives the code again (R180–R182, R192, R193, R199–R201). -/
def Obligations.ValuesConvertBackToTheirCodes : Prop :=
  (∀ (f c : Nat) (sr : Option Nat), 1 ≤ f → f ≤ 8 → c < 2 ^ fmtBits f → decElem f c ≠ .nan → encElem f true sr (decElem f c) = c) ∧
  (∀ (f c : Nat) (sp : Bool) (sr : Option Nat), 9 ≤ f → f ≤ 13 → c < 2 ^ fmtBits f → encElem f sp sr (decElem f c) = c) ∧
  (∀ (c : Nat) (sp : Bool), c < 16 → encElem fL4 sp none (decElem fL4 c) = c)

/-! ## The mailbox: queries -/

/-- IDENTIFY, CTX_GET, DISCOVERY_GET, PAIR_GET, LINK_GET, TIME_GET, POLICY_GET, PARCEL_GET, POWER_GET, POWER_PLAN_GET, FAULT_GET
and LOG_READ: served at a state where they may start, with an argument in its range and a master that manages what they read,
they complete OK with the data of their table, and change nothing but the mailbox's answer and its count of commands served
(R393, R44, R473, R376, R420, R105, R438, R424, R443, R481). -/
def Obligations.PackageQueriesAnswerAndChangeNothingElse : Prop :=
  (∀ (s : State) (m : Master), s.Takes m 0x0100 [] →
    exec (.identify m) s = .next (s.answered m 0x0100 OK
      [(2, 0x2048), (1, Config.stepping.toNat), (4, s.mgmt.update.running.version), (16, leNat (slice Config.serial 0 16)),
       (4, poolParcels s), (4, regStraps s), (16, pack ((List.range 128).map fun p => (1, b2n (s.present p))))])) ∧
  (∀ (s : State) (m : Master) (c : Nat), s.Takes m 0x0216 [] → c < 4096 → mayManage s m (s.ctx c).part = true →
    exec (.ctxGet m c) s = .next (s.answered m 0x0216 OK ((8, regCtx (s.ctx c)) ::
      ((List.range 8).flatMap fun i => [(8, regSeg (AMap.get {} (s.ctx c).segs i) % 2 ^ 64), (8, regSeg (AMap.get {} (s.ctx c).segs i) / 2 ^ 64)]) ++
      [(8, (s.ctx c).refusals)]))) ∧
  (∀ (s : State) (m : Master) (first count : Nat), s.Takes m 0x0301 [] → 1 ≤ count → count ≤ 100 → first + count ≤ 128 →
    exec (.discoveryGet m first count) s = .next (s.answered m 0x0301 OK ((4, count) :: (range' first count).flatMap fun p =>
      [(1, portState s p), (2, (s.prt p).peerNode), (1, (s.prt p).peerPort)]))) ∧
  (∀ (s : State) (m : Master), s.Takes m 0x0303 [] →
    ∃ heard : List Nat, (∀ w, w ∈ heard ↔ w ∈ s.man.witnesses ∧ ∃ f, AMap.find s.flt.witnessAcks w = some f ∧ s.time.lfc < f + 16) ∧
      exec (.pairGet m) s = .next (s.answered m 0x0303 OK ([(1, pairReads s), (8, s.flt.heardPartner.getD 0), (4, heard.length)] ++
        (heard.map fun w => (2, w)) ++ [(1, b2n (leaseHeld s))]))) ∧
  (∀ (s : State) (m : Master) (first count : Nat), s.Takes m 0x0391 [] → 1 ≤ count → count ≤ 100 → first + count ≤ 128 →
    (∀ p, first ≤ p → p < first + count → s.present p = true) →
    exec (.linkGet m first count) s = .next (s.answered m 0x0391 OK ((4, count) :: (range' first count).flatMap fun p =>
      [(4, regLinkStatus s p), (8, regLinkEq s p), (8, regLinkErr s p)]))) ∧
  (∀ (s : State) (m : Master), s.Takes m 0x03A1 [] →
    exec (.timeGet m) s = .next (s.answered m 0x03A1 OK [(8, regTimeStatus s), (8, s.time.lfc), (8, s.time.lastRack)])) ∧
  (∀ (s : State) (m : Master) (p : Nat), s.Takes m 0x0401 [] → p < 64 → mayManage s m p = true →
    exec (.policyGet m p) s = .next (s.answered m 0x0401 OK [(16, policyBits (s.pol p))])) ∧
  (∀ (s : State) (m : Master) (p : Nat), s.Takes m 0x0404 [] → p < poolParcels s →
    ((s.ent p).st = 0 ∨ mayManage s m (s.ent p).owner = true) → (s.ent p).st ≠ 2 →
    exec (.parcelGet m p) s = .next (s.answered m 0x0404 OK [(32, regDir (s.ent p))])) ∧
  (∀ (s : State) (m : Master), s.Takes m 0x0501 [] →
    exec (.powerGet m) s = .next (s.answered m 0x0501 OK
      ([(8, regPowerCfg s), (8, regPowerStatus s)] ++ pendFields s.power.pendMgmt ++ pendFields s.power.pendHost))) ∧
  (∀ (s : State) (m : Master), s.Takes m 0x0502 [] →
    exec (.powerPlanGet m) s = .next (s.answered m 0x0502 OK
      [(32, segWord s.power.planNow), (32, (s.power.planNext.map segWord).getD 0)])) ∧
  (∀ (s : State) (m : Master) (first : Nat), s.Takes m 0x0600 [] → first < 65536 →
    ∃ l : List Nat, (∀ h, h ∈ l ↔ h ∈ s.flt.history ∧ (bits h 0 16 + 65536 - first) % 65536 < 32768) ∧
      exec (.faultGet m first) s = .next (s.answered m 0x0600 OK
        ((4, l.length) :: (l.map fun h => (64, h)) ++ [(2, s.flt.seq), (2, min s.flt.lost 65535)]))) ∧
  (∀ (s : State) (m : Master) (first count : Nat), s.Takes m 0x0111 [] → 1 ≤ count → count ≤ 31 → first < 2 ^ 32 →
    ∃ l : List Nat, l.length ≤ count ∧ (∀ r ∈ l, r ∈ s.mgmt.log ∧ first ≤ bits r 0 32) ∧ ∃ oldest newest : Nat,
      exec (.logRead m first count) s = .next (s.answered m 0x0111 OK
        ((4, l.length) :: (l.map fun r => (128, r)) ++ [(4, oldest), (4, newest)])))

/-- UPDATE_STATUS, CRED_GET, SEQ_GET, COLL_GET, ROUTE_GET, SHARE_GET, RIFFLE_READ and SENSOR_GET: where they may start and their
argument names something that exists, they complete OK with what they read, and change nothing but the mailbox; a SENSOR_GET
of a sensor that no command of this model samples draws a free value for it (R509, R224, R258, R354, R480). -/
def Obligations.ServiceQueriesAnswerAndChangeNothingElse : Prop :=
  (∀ (s : State), s.Takes .mgmt 0x0705 [] →
    ∃ runs committed : List (Nat × Nat), runs.length = 52 ∧ committed.length = 7 ∧
      exec (.updateStatus .mgmt) s = .next (s.answered .mgmt 0x0705 OK
        ([(1, if s.mgmt.update.writing.isSome then 3 else if s.mgmt.update.verified.isSome ∧ s.mgmt.update.opened then 2
             else if s.mgmt.update.opened then 1 else 0), (1, b2n s.mgmt.update.flashInvalid), (4, 52)] ++ runs ++
         [(4, 7)] ++ committed ++ [(4, s.mgmt.update.skipped.length)] ++ s.mgmt.update.skipped.map fun k => (2, k)))) ∧
  (∀ (s : State), s.Takes .mgmt 0x0802 [] →
    exec (.credGet .mgmt) s = .next (s.answered .mgmt 0x0802 OK
      ([(16, (s.mgmt.ownerKeys.getD (0, 0)).1), (16, (s.mgmt.ownerKeys.getD (0, 0)).2), (4, s.mgmt.anchors.length)] ++
       s.mgmt.anchors.map fun a => (48, Config.sha384 a)))) ∧
  (∀ (s : State) (m : Master) (c first : Nat) (x : SeqCtx), s.Takes m 0x0901 [] → s.seqCtx c = some x →
    mayManage s m (dPart x.desc.toNat) = true → first < dLayers x.desc.toNat →
    exec (.seqGet m c first) s = .next (s.answered m 0x0901 OK
      ([(64, seqDescRead s c x), (4, ((List.range (dLayers x.desc.toNat)).map (seqLen x)).foldl min (2 ^ 32 - 1)),
        (4, ((List.range (dLayers x.desc.toNat)).map (seqLen x)).foldl max 0)] ++
      (4, min 480 (dLayers x.desc.toNat - first)) ::
      ((range' first (min 480 (dLayers x.desc.toNat - first))).flatMap fun l => [(4, seqLen x l), (4, seqRes x l)]) ++
      [(4, seqUnmirrored s x.desc.toNat)]))) ∧
  (∀ (s : State) (m : Master) (g slot : Nat) (n : CollNode), s.Takes m 0x0A06 [] → nodeOf s g = some (slot, n) →
    mayManage s m n.part = true →
    exec (.collGet m g) s = .next (s.answered m 0x0A06 OK [(64, regNodeSlot s slot), (2, n.apexNode), (2, n.n)])) ∧
  (∀ (s : State) (m : Master) (first count : Nat), s.Takes m 0x0B02 [] → 1 ≤ count → count ≤ 30 → first + count ≤ 48 →
    exec (.routeGet m 0 first count) s = .next (s.answered m 0x0B02 OK
      ((4, count) :: (range' first count).map fun i => (128, regEntry (AMap.get {} s.route.active.entries i)))) ∧
    ∀ b, s.route.staged = some b → exec (.routeGet m 1 first count) s = .next (s.answered m 0x0B02 OK
      ((4, count) :: (range' first count).map fun i => (128, regEntry (AMap.get {} b.entries i))))) ∧
  (∀ (s : State) (m : Master), s.Takes m 0x0B04 [] →
    exec (.shareGet m) s = .next (s.answered m 0x0B04 OK ((4, 64) :: (List.range 64).map fun i => (1, AMap.get 4 s.route.shares i)))) ∧
  (∀ (s : State) (m : Master) (die seq : Nat), s.Takes m 0x0B08 [] → die < 4 →
    ∃ (l : List Nat) (oldest newest : Nat), l.length ≤ 60 ∧ (∀ x ∈ l, x ∈ (AMap.get {} s.route.riffle die).recs) ∧
      exec (.riffleRead m die seq) s = .next (s.answered m 0x0B08 OK ((4, l.length) :: (l.map fun x => (64, x)) ++
        [(4, oldest), (4, newest), (4, (AMap.get {} s.route.riffle die).lost)]))) ∧
  (∀ (s : State) (m : Master) (i v : Nat), s.Takes m 0x0110 [] → i < 176 → AMap.find s.mgmt.sensors i = some v →
    exec (.sensorGet m i 1) s = .next (s.answered m 0x0110 OK [(4, 1), (2, v)])) ∧
  (∀ (s : State) (m : Master) (i : Nat), s.Takes m 0x0110 [] → i < 176 → AMap.find s.mgmt.sensors i = none →
    exec (.sensorGet m i 1) s = .next (State.answered { s with fresh := s.fresh + 1 } m 0x0110 OK [(4, 1), (2, Config.free s.fresh % 65536)]))

/-- MBX_INFO, PKT_STATS, PLACE_STATS, SEQ_STATS, COLL_STATS and ROUTE_STATS answer with their counts as they stand, and with
CLEAR set they then clear those counts; nothing else changes but the mailbox (R393, R316, R105, R224, R258, R354). -/
def Obligations.StatisticsAnswerTheirCountsAndClear : Prop :=
  (∀ (s : State) (m : Master), s.Takes m 0x0101 [] →
    exec (.mbxInfo m false) s = .next (s.answered m 0x0101 OK [(1, slotsPending s.mbx.hostSlots), (1, slotsPending s.mbx.mgmtSlots),
      (4, s.mbx.served), (4, s.mbx.supersededHost), (4, s.mbx.supersededMgmt), (4, s.mbx.ignored), (4, 65536 - s.usedCells), (4, s.host.qDrops)])) ∧
  (∀ (s : State) (m : Master), s.Takes m 0x0101 [] →
    exec (.mbxInfo m true) s = .next (((s.modMbx fun x => { x with
        served := 0, supersededHost := 0, supersededMgmt := 0, ignored := 0 }).modHost fun h => { h with qDrops := 0 }).answered m 0x0101 OK
      [(1, slotsPending s.mbx.hostSlots), (1, slotsPending s.mbx.mgmtSlots),
       (4, s.mbx.served), (4, s.mbx.supersededHost), (4, s.mbx.supersededMgmt), (4, s.mbx.ignored), (4, 65536 - s.usedCells), (4, s.host.qDrops)])) ∧
  (∀ (s : State) (m : Master) (c : Bool), s.Takes m 0x0383 [] →
    exec (.pktStats m c) s = .next ((if c then s.modFab fun f => { f with stats := [], byDest := [] } else s).answered m 0x0383 OK
      ((4, (topDests 16 s.fab.byDest).length) :: ((topDests 16 s.fab.byDest).flatMap fun x => [(2, x.1), (4, x.2)]) ++
       (List.range 10).map fun i => (4, AMap.get 0 s.fab.stats i)))) ∧
  (∀ (s : State) (m : Master) (c : Bool), s.Takes m 0x040B [] →
    exec (.placeStats m c) s = .next ((if c then s.modMem fun x => { x with stats := [] } else s).answered m 0x040B OK
      ((List.range 6).map (fun i => (4, AMap.get 0 s.mem.stats i)) ++ [(4, s.mem.dir.countP fun x => x.2.unmirrored)]))) ∧
  (∀ (s : State) (m : Master) (c : Bool), s.Takes m 0x0905 [] →
    exec (.seqStats m c) s = .next ((if c then s.modSeq fun q => { q with attnDone := 0, appendDone := 0, cancelled := 0, migrations := 0 }
      else s).answered m 0x0905 OK [(2, s.seqs.ctxs.length), (2, s.seqs.ctxs.countP fun x => inFlight s x.1),
        (2, (boundCtxs s).length), (4, s.seqs.attnDone), (4, s.seqs.appendDone),
        (4, s.seqs.cancelled), (4, s.seqs.migrations)])) ∧
  (∀ (s : State) (m : Master) (c : Bool), s.Takes m 0x0A08 [] →
    exec (.collStats m c) s = .next ((if c then s.modColl fun x => { x with stats := [] } else s).answered m 0x0A08 OK
      ((List.range 10).map fun i => (4, AMap.get 0 s.coll.stats i)))) ∧
  (∀ (s : State) (m : Master) (c : Bool), s.Takes m 0x0B09 [] →
    exec (.routeStats m c) s = .next ((if c then s.modRoute fun r => { r with stats := [] } else s).answered m 0x0B09 OK
      ((List.range 13).map fun i => (4, AMap.get 0 s.route.stats i))))

/-! ## The mailbox: contexts, partitions, settings -/

/-- CTX_SET, CTX_CLEAR, SEG_SET, SEG_CLEAR, BIND_SET, BIND_CLEAR and HOST_PARTS_SET: each changes the one record that it names, as
its fields say, and answers OK; no other record, register or byte changes (R37, R38, R39, R40, R44, R382). -/
def Obligations.ContextCommandsChangeTheRecordTheyName : Prop :=
  (∀ (s : State) (m : Master) (c : Nat) (d : BitVec 64), s.Takes m 0x0210 [.ctx c] → c < 4096 →
    mayManage s m (bits d.toNat 1 6) = true → ((s.ctx c).valid = true → mayManage s m (s.ctx c).part = true) →
    bits d.toNat 29 35 = 0 → (bitAt d.toNat 0 = true → bits d.toNat 1 6 ∈ s.flt.parts) → ctxInUse s c = false →
    exec (.ctxSet m c d) s = .next (((s.begun m [.ctx c]).setCtx c { s.ctx c with
      valid := bitAt d.toNat 0, part := bits d.toNat 1 6, pasidEn := bitAt d.toNat 7, pasid := bits d.toNat 8 20
      hostwin := bitAt d.toNat 28 }).answered m 0x0210 OK)) ∧
  (∀ (s : State) (m : Master) (c : Nat), s.Takes m 0x0211 [.ctx c] → c < 4096 → mayManage s m (s.ctx c).part = true →
    ctxInUse s c = false →
    exec (.ctxClear m c) s = .next (((s.begun m [.ctx c]).setCtx c
      { refusals := (s.ctx c).refusals, recordAt := (s.ctx c).recordAt }).answered m 0x0211 OK)) ∧
  (∀ (s : State) (m : Master) (c slot : Nat) (d : BitVec 128), s.Takes m 0x0212 [.ctx c] → c < 4096 → slot < 8 →
    mayManage s m (s.ctx c).part = true → mayManage s m (bits d.toNat 16 6) = true → segRsvd d.toNat = false →
    (s.ctx c).valid = true → bits d.toNat 64 30 ≤ bits d.toNat 96 30 → bits d.toNat 8 5 ≠ s.tray →
    (∀ x ∈ (s.ctx c).segs, x.1 = slot ∨ x.2.valid = false ∨ x.2.tray ≠ bits d.toNat 8 5 ∨ bits d.toNat 96 30 < x.2.base ∨
      x.2.limit < bits d.toNat 64 30) →
    exec (.segSet m c slot d) s = .next (((s.begun m [.ctx c]).setCtx c { s.ctx c with segs := (AMap.set (s.ctx c).segs slot
      { valid := bitAt d.toNat 0, rd := bitAt d.toNat 1, wr := bitAt d.toNat 2, at' := bitAt d.toNat 3, ct := bitAt d.toNat 4
        tray := bits d.toNat 8 5, part := bits d.toNat 16 6, base := bits d.toNat 64 30, limit := bits d.toNat 96 30 }) }).answered m 0x0212 OK)) ∧
  (∀ (s : State) (m : Master) (c slot : Nat), s.Takes m 0x0213 [.ctx c] → c < 4096 → slot < 8 → mayManage s m (s.ctx c).part = true →
    exec (.segClear m c slot) s = .next (((s.begun m [.ctx c]).setCtx c { s.ctx c with
      segs := AMap.erase (s.ctx c).segs slot }).answered m 0x0213 OK)) ∧
  (∀ (s : State) (m : Master) (node p c : Nat), s.Takes m 0x0214 [.bind node p] → node < 16 → p < 64 → c < 4096 →
    mayManage s m (s.ctx c).part = true → s.tray * 16 + node ∈ s.man.endPoints → (s.ctx c).valid = true → (s.ctx c).part = p →
    exec (.bindSet m node p c) s = .next (((s.begun m [.bind node p]).modXlat fun t => { t with
      binds := AMap.set t.binds (node * 64 + p) c }).answered m 0x0214 OK)) ∧
  (∀ (s : State) (m : Master) (node p : Nat), s.Takes m 0x0215 [.bind node p] → node < 16 → p < 64 → mayManage s m p = true →
    exec (.bindClear m node p) s = .next (((s.begun m [.bind node p]).modXlat fun t => { t with
      binds := AMap.erase t.binds (node * 64 + p) }).answered m 0x0215 OK)) ∧
  (∀ (s : State) (mask : BitVec 64), s.Takes .mgmt 0x0201 [.hostParts] →
    exec (.hostPartsSet .mgmt mask) s = .next (((s.begun .mgmt [.hostParts]).modHost fun h => { h with
      hostParts := mask.toNat }).answered .mgmt 0x0201 OK))

/-- POLICY_SET, BUDGET_SET, MIRROR_RESERVE_SET, MAINT_SET, LEND_SET, PKT_CTRL_SET, DEAD_SET and DEAD_CLEAR: each sets what its
operand says, answers OK and changes nothing else (R73, R76, R79, R97, R98, R314, R315, R316). -/
def Obligations.SettingCommandsSetWhatTheyName : Prop :=
  (∀ (s : State) (m : Master) (p : Nat) (b : BitVec 128), s.Takes m 0x0400 [.policy p] → p < 64 → mayManage s m p = true →
    bits b.toNat 23 1 = 0 → bits b.toNat 26 2 = 0 → bits b.toNat 44 4 = 0 → bits b.toNat 64 64 = 0 →
    exec (.policySet m p b) s = .next (((s.begun m [.policy p]).modMem fun x => { x with policies := (AMap.set x.policies p
      { minCount := bits b.toNat 0 16, dominance := bits b.toNat 16 4, hysteresis := bits b.toNat 20 3, decay := bits b.toNat 24 2
        demand := bits b.toNat 28 4, lendAccel := bits b.toNat 32 4, lendHost := bits b.toNat 36 4, mirror := bits b.toNat 40 4
        maxMoves := bits b.toNat 48 16 }) }).answered m 0x0400 OK)) ∧
  (∀ (s : State) (m : Master) (b : BitVec 64), s.Takes m 0x0402 [.placement] → bits b.toNat 14 2 = 0 → bits b.toNat 54 10 = 0 →
    bits b.toNat 0 14 ≤ 8192 → bits b.toNat 40 14 ≤ 8192 →
    exec (.budgetSet m b) s = .next (((s.begun m [.placement]).modMem fun x => { x with budget :=
      { budget := bits b.toNat 0 14, lowWater := bits b.toNat 16 20, powerMargin := bits b.toNat 36 4
        resync := bits b.toNat 40 14 } }).answered m 0x0402 OK)) ∧
  (∀ (s : State) (m : Master) (n : Nat), s.Takes m 0x0409 [.placement] → n ≤ 15248 → (∀ x ∈ s.mem.dir, x.2.st = 0) →
    exec (.mirrorReserveSet m n) s = .next (((s.begun m [.placement]).modMem fun x => { x with mirrorPerStack := n }).answered m 0x0409 OK)) ∧
  (∀ (s : State) (m : Master) (h : Nat), s.Takes m 0x040A [.placement] → 1 ≤ h → h ≤ 168 →
    exec (.maintSet m h) s = .next (((s.begun m [.placement]).modMem fun x => { x with scrubHours := h }).answered m 0x040A OK)) ∧
  (∀ (s : State) (m : Master) (r holder base count : Nat), s.Takes m 0x0407 [.lend r] → r ≤ 14 → 1 ≤ count → count ≤ 32768 →
    holder ∈ s.man.endPoints → base < 2 ^ 56 → addrNode base = holder → addrOff base + count * 0x200000 ≤ 2 ^ 47 →
    (∀ x ∈ s.mem.lends, x.1 ≠ r ∧ lendOverlap x.2 { host := false, holder := holder, base := base, count := count } = false) →
    exec (.lendSet m r false holder base count) s = .next (((s.begun m [.lend r]).modMem fun x => { x with lends := (AMap.set x.lends r
      { host := false, holder := holder, base := base, count := count }) }).answered m 0x0407 OK)) ∧
  (∀ (s : State) (m : Master) (holder base count : Nat), s.Takes m 0x0407 [.lend 15] → 1 ≤ count → count ≤ 32768 →
    base + count * 0x200000 ≤ 0x400000000000 → s.host.conf = false →
    (∀ x ∈ s.mem.lends, x.1 ≠ 15 ∧ lendOverlap x.2 { host := true, holder := s.self, base := base, count := count } = false) →
    exec (.lendSet m 15 true holder base count) s = .next (((s.begun m [.lend 15]).modMem fun x => { x with lends := (AMap.set x.lends 15
      { host := true, holder := s.self, base := base, count := count }) }).answered m 0x0407 OK)) ∧
  (∀ (s : State) (m : Master) (n : Nat) (l : Bool), s.Takes m 0x0380 [.pktCtrl] → 2 ≤ n → n ≤ 1000 →
    exec (.pktCtrlSet m n l) s = .next (((s.begun m [.pktCtrl]).modFab fun f => { f with loadTmo := n, localise := l }).answered m 0x0380 OK)) ∧
  (∀ (s : State) (m : Master) (n : Nat), s.Takes m 0x0381 [.dead n] → n < 512 → n ≠ s.self → n ∉ s.fab.dead → s.fab.dead.length < 64 →
    exec (.deadSet m n) s = .next (((s.begun m [.dead n]).modFab fun f => { f with dead := f.dead ++ [n] }).answered m 0x0381 OK)) ∧
  (∀ (s : State) (m : Master) (n : Nat), s.Takes m 0x0382 [.dead n] → n < 512 →
    exec (.deadClear m n) s = .next (((s.begun m [.dead n]).modFab fun f => { f with dead := f.dead.filter (· != n) }).answered m 0x0382 OK))

/-- XLAT_FLUSH drops the cached translations of the context's PASID, from the cache and from every engine's copy of it; it answers OK
at once when no access made under them has gone to the host, and otherwise stays in service until they have ended. LIST_ABORT_CMD
halts the list it names, marks it aborted and discards what it has not started; where no such list is loaded it answers OK and
changes nothing else (R53, R135, R393; that for a context whose PASID_EN is 0 those of its PASID field go is the model's choice, log
entry 239). -/
def Obligations.FlushAndAbortStopUseOfWhatTheyName : Prop :=
  (∀ (s : State) (m : Master) (c : Nat), s.Takes m 0x0217 [.ctx c] → c < 4096 → mayManage s m (s.ctx c).part = true →
    s.xlat.flush = none →
    ∃ t : State, exec (.xlatFlush m c) s = .next t ∧
      (∀ e ∈ t.xlat.atc, e ∈ s.xlat.atc ∧ (e.pasid = some (s.ctx c).pasid → ¬ (e.base < 2 ^ 64 ∧ 0 < e.base + e.size))) ∧
      (∀ k, ∀ e ∈ AMap.get [] t.xlat.copies k, e ∈ AMap.get [] s.xlat.copies k ∧
        (e.pasid = some (s.ctx c).pasid → ¬ (e.base < 2 ^ 64 ∧ 0 < e.base + e.size))) ∧
      (if s.xlat.accs.any (fun a => accGoes s.xlat.accs a && accMeets (some (s.ctx c).pasid) 0 (2 ^ 64) a) then
        t.xlat.flush = some ((s.ctx c).pasid, m) ∧ t.mbx.served = s.mbx.served
      else t.xlat.flush = none ∧ t.mbx.resp = { master := m, code := 0x0217, status := OK, data := [] } ∧ t.mbx.served = s.mbx.served + 1) ∧
      t.mem = s.mem ∧ t.fab = s.fab ∧ t.flt = s.flt) ∧
  (∀ (s : State) (m : Master) (g id : Nat), s.Takes m 0x0220 [.list g id] → g < 32 → id < 65536 → (s.grp g).list? id = none →
    exec (.listAbortCmd m g id) s = .next ((s.begun m [.list g id]).answered m 0x0220 OK)) ∧
  (∀ (s : State) (m : Master) (g id : Nat) (l : CmdList), s.Takes m 0x0220 [.list g id] → g < 32 → 0 < id → id < 65536 →
    (s.grp g).list? id = some l → mayManage s m l.part = true → (s.grp g).fenced = false → l.halting = false → l.checking = false →
    ∃ t k, exec (.listAbortCmd m g id) s = .next t ∧ t.mbx.resp = { master := m, code := 0x0220, status := OK, data := [] } ∧
      (t.grp g).list? id = some { l with halting := true, aborted := true, final := none, discarded := k, next := l.cmds.length } ∧
      (∀ e q, ((t.grp g).que e q).list = id → ((t.grp g).que e q).fifo = [] ∧
        ∀ r ∈ ((t.grp g).que e q).started, r.st = 0 → runIssued r = false → isControlOp r.opcode = false → isProtocolOp r.opcode = false →
          r.phase = 9) ∧
      t.mem = s.mem ∧ t.xlat = s.xlat ∧ (s.seqs.resvs = [] → t.fab = s.fab))

/-- PARCEL_SET allocates a parcel of an unmirrored class in the lowest free frame of the stack that R104 gives it, cleared to zero;
changes class and pin of a resident parcel of the same owner; and frees every parcel of its range. The answer waits for hardware
(R77, R104, R495). MOVE of a resident parcel to a free frame of a stack of this package starts the move: the parcel is moving, its
source is its former home, and one move is charged to the interval (R85, R93, R105). EVACUATE of a stack that holds no parcel marks it
evacuated and answers OK; LEND_CLEAR of a region that holds no parcel removes it and answers OK (R79, R99). -/
def Obligations.PlacementCommandsChangeTheDirectoryAsTold : Prop :=
  (∀ (s : State) (m : Master) (p own cls pin n : Nat), s.Takes m 0x0403 [.parcel p] → mayManage s m own = true → cls ≤ 3 → pin ≤ 2 →
    own ≤ 63 → p < poolParcels s → (s.ent p).st = 0 → homeStack s p = some n → (s.pol own).mirror.testBit cls = false →
    ∃ t : State, exec (.parcelSet m p 1 0 own cls pin) s = .next t ∧
      t.ent p = { home := ownLoc s n (lowestFreeFrame s n), st := 1, cls := cls, owner := own, pin := pin } ∧
      (∀ q, q ≠ p → t.ent q = s.ent q) ∧
      (∀ k, k / 0x200000 = p → Mem.read t.mem.cells k = 0) ∧
      (∀ k, k / 0x200000 ≠ p → Mem.read t.mem.cells k = Mem.read s.mem.cells k) ∧
      t.mbx.hwWait = s.mbx.hwWait ++ [{ resp := { master := m, code := 0x0403, status := OK, data := [] }, ref := none }]) ∧
  (∀ (s : State) (m : Master) (p cls pin : Nat), s.Takes m 0x0403 [.parcel p] → mayManage s m (s.ent p).owner = true → cls ≤ 3 → pin ≤ 2 →
    (s.ent p).owner ≤ 63 → p < poolParcels s → (s.ent p).st = 1 → (s.pol (s.ent p).owner).mirror.testBit cls = false →
    exec (.parcelSet m p 1 1 (s.ent p).owner cls pin) s = .next ((mirrorEntry ((s.begun m [.parcel p]).setEnt p { s.ent p with
      cls := cls, pin := pin, mirror := false, unmirrored := false }) p).deferred m 0x0403 OK)) ∧
  (∀ (s : State) (m : Master) (first count own cls pin : Nat), s.Takes m 0x0403 ((range' first (min count 1024)).map .parcel) → 1 ≤ count →
    count ≤ 1024 → cls ≤ 3 → pin ≤ 2 → own ≤ 63 → first + count ≤ poolParcels s →
    (∀ p, first ≤ p → p < first + count → (s.ent p).st ≠ 2 ∧ ((s.ent p).st = 0 ∨ mayManage s m (s.ent p).owner = true)) →
    ∃ t : State, exec (.parcelSet m first count 2 own cls pin) s = .next t ∧
      (∀ p, first ≤ p → p < first + count → (t.ent p).st = 0) ∧ (∀ p, ¬ (first ≤ p ∧ p < first + count) → t.ent p = s.ent p) ∧
      t.mem.cells = s.mem.cells ∧
      t.mbx.hwWait = s.mbx.hwWait ++ [{ resp := { master := m, code := 0x0403, status := OK, data := [] }, ref := none }]) ∧
  (∀ (s : State) (m : Master) (p : Nat) (d : BitVec 32), s.Takes m 0x0405 [.parcel p] → s.straps.side ≤ 1 → p < poolParcels s → (s.ent p).st = 1 →
    mayManage s m (s.ent p).owner = true → (s.ent p).pin ≠ 2 → locLocal s (s.ent p).home = true → bits d.toNat 0 3 = 1 →
    bits d.toNat 23 9 = s.self → moveStopped s = false → s.mem.intervalStopped = false → moveRoom s = true →
    0 < freeFrames s (bits d.toNat 3 5) → bits d.toNat 8 15 < dataFrames s →
    (usedFrames s (bits d.toNat 3 5)).contains (bits d.toNat 8 15) = false → s.mem.lanes = [] →
    ∃ t : State, exec (.move m p d) s = .next t ∧
      t.ent p = { s.ent p with st := 2, src := (s.ent p).home, home := ownLoc s (bits d.toNat 3 5) (bits d.toNat 8 15) } ∧
      (∀ q, q ≠ p → t.ent q = s.ent q) ∧ t.mem.cells = s.mem.cells ∧ t.mem.startedNow = s.mem.startedNow + 1 ∧
      t.mbx.resp = { master := m, code := 0x0405, status := OK, data := [] }) ∧
  (∀ (s : State) (m : Master) (n : Nat) (f : Bool), s.Takes m 0x0406 [.stack n] → n ≤ 31 → (s.stk n).activating = false →
    parcelsOn s n = [] → (∀ k, (s.stk k).evacuating = false) →
    ∃ t : State, exec (.evacuate m n f) s = .next t ∧ (t.stk n).evacuated = true ∧ t.mem.dir = s.mem.dir ∧ t.mem.cells = s.mem.cells ∧
      t.mbx.resp = { master := m, code := 0x0406, status := OK, data := [] }) ∧
  (∀ (s : State) (m : Master) (r : Nat) (x : Lend), s.Takes m 0x0408 [.lend r] → AMap.find s.mem.lends r = some x →
    (∀ e ∈ s.mem.dir, (e.2.home.kind ≤ 1 ∨ e.2.home.region ≠ r) ∧ (e.2.src.kind ≤ 1 ∨ e.2.src.region ≠ r)) →
    (∀ e ∈ s.mem.lends, e.1 ≠ r → e.2.clearing = false) →
    ∃ t : State, exec (.lendClear m r) s = .next t ∧ AMap.find t.mem.lends r = none ∧ t.mem.dir = s.mem.dir ∧ t.mem.cells = s.mem.cells ∧
      t.mbx.resp = { master := m, code := 0x0408, status := OK, data := [] })

/-- ROUTE_STAGE, ROUTE_COMMIT, SHARE_SET, METER_SET, DROP_SET and RIFFLE_SET each set what they name in the routing registers,
answer OK and change nothing else; what takes effect at a frame boundary waits for it (R319, R336, R345, R348, R350, R352, R353,
R354). LINK_SET without DOWN and RETRAIN writes the rate limit and idle settings of each port of its mask and no other port's, answers
OK, and changes nothing else; a mask that names an absent port is REFUSED (R376). -/
def Obligations.RoutingAndLinkCommandsSetWhatTheyName : Prop :=
  (∀ (s : State) (m : Master) (v first : Nat) (es : List (BitVec 1024)), s.Takes m 0x0B00 [.route] → s.route.st < 2 →
    s.route.staged = none → 1 ≤ es.length → es.length ≤ 30 → first + es.length ≤ 48 → v < 65536 →
    (∀ e ∈ es, bits e.toNat 517 507 = 0) →
    (∀ e ∈ es, ∀ p ∈ maskPorts (bits e.toNat 0 128 ||| bits e.toNat 128 128), (portMask (s.man.ports.map (·.1))).testBit p = true) →
    exec (.routeStage m v first es) s = .next (((s.begun m [.route]).modRoute fun r => { r with st := 1, committed := false, staged := (some
      { s.route.active with version := v
                            entries := (es.zipIdx first).foldl (fun t x => AMap.set t x.2 (routeEntryOf x.1)) s.route.active.entries }) }).answered m 0x0B00 OK)) ∧
  (∀ (s : State) (m : Master) (v drain frames root : Nat) (affected : BitVec 512) (b : Bank), s.Takes m 0x0B01 [.route] → s.route.st < 2 →
    s.route.staged = some b → b.version = v → s.time.lfc + 2 ≤ drain → frames ≤ 255 →
    (∀ i < 48, entryPart (AMap.get {} b.entries i) ≠ entryPart (AMap.get {} s.route.active.entries i) →
      ∀ n ∈ servedBy s i, affected.toNat.testBit n = true) →
    (root = 0x1FF ∨ ∃ p ∈ s.man.packages, p.node = root) →
    exec (.routeCommit m v drain frames affected root) s = .next (((s.begun m [.route]).modRoute fun r => { r with
      staged := some (withEscapes (s.begun m [.route]) b root), committed := true, drainAt := drain, drainFrames := if frames = 0 then 40 else frames
      affected := affected.toNat, root := root, drainedBy := [], sentDrained := false }).answered m 0x0B01 OK)) ∧
  (∀ (s : State) (m : Master) (l : List Nat), s.Takes m 0x0B03 [.shares] → l.length = 64 → (∀ x ∈ l, x ≤ 255) → sumBy (max 1) l ≤ 256 →
    exec (.shareSet m l) s = .next (((s.begun m [.shares]).modRoute fun r => { r with
      sharesNext := some ((List.range 64).map fun i => (i, l.getD i 4)) }).answered m 0x0B03 OK)) ∧
  (∀ (s : State) (m : Master) (p : Nat) (w : BitVec 128), s.Takes m 0x0B05 [.meter p] → p < 64 → bits w.toNat 65 63 = 0 →
    bits w.toNat 0 16 ≤ bits w.toNat 32 16 →
    exec (.meterSet m p w) s = .next (((s.begun m [.meter p]).modRoute fun r => { r with metersNext := (AMap.set r.metersNext p
      { cir := bits w.toNat 0 16, cbs := bits w.toNat 16 16, pir := bits w.toNat 32 16, pbs := bits w.toNat 48 16, en := bitAt w.toNat 64
        tc := bits w.toNat 16 16 * 1024, tp := bits w.toNat 48 16 * 1024 }) }).answered m 0x0B05 OK)) ∧
  (∀ (s : State) (m : Master) (y r : BitVec 64), s.Takes m 0x0B06 [.drops] → bits y.toNat 0 16 < bits y.toNat 16 16 →
    bits r.toNat 0 16 < bits r.toNat 16 16 → bits y.toNat 41 23 = 0 → bits r.toNat 41 23 = 0 →
    exec (.dropSet m y r) s = .next (((s.begun m [.drops]).modRoute fun x => { x with dropsNext := some (
      ({ min := bits y.toNat 0 16, max := bits y.toNat 16 16, pmax := bits y.toNat 32 8, en := bitAt y.toNat 40 } : Drop),
      ({ min := bits r.toNat 0 16, max := bits r.toNat 16 16, pmax := bits r.toNat 32 8, en := bitAt r.toNat 40 } : Drop)) }).answered m 0x0B06 OK)) ∧
  (∀ (s : State) (m : Master) (die i : Nat) (f : BitVec 64) (e w : Bool), s.Takes m 0x0B07 [.riffle die] → die < 4 → i < 8 →
    bits f.toNat 60 4 = 0 →
    exec (.riffleSet m die i f e w) s = .next (((s.begun m [.riffle die]).modRoute fun x => { x with riffle := (AMap.set x.riffle die
      { (AMap.get {} s.route.riffle die : Riffle) with
          filters := AMap.set (AMap.get {} s.route.riffle die : Riffle).filters i f
          sampled := AMap.set (AMap.get {} s.route.riffle die : Riffle).sampled i 0
          events := e, wrap := w }) }).answered m 0x0B07 OK)) ∧
  (∀ (s : State) (m : Master) (ports : BitVec 128) (v : BitVec 32),
    s.Takes m 0x0390 (((List.range 128).filter ports.toNat.testBit).map .port) → bits v.toNat 11 21 = 0 → bits v.toNat 3 8 ≠ 0 →
    (∀ p < 128, ports.toNat.testBit p = true → s.present p = true) →
    ∃ ps : AMap Port, exec (.linkSet m ports v) s =
        .next (State.answered { s.begun m (((List.range 128).filter ports.toNat.testBit).map .port) with ports := ps } m 0x0390 OK) ∧
      ∀ p, AMap.get {} ps p = if p < 128 ∧ ports.toNat.testBit p = true then { s.prt p with
        maxRate := bits v.toNat 0 2, idleEn := bitAt v.toNat 2, idleUs := bits v.toNat 3 8, down := false } else s.prt p) ∧
  (∀ (s : State) (m : Master) (ports : BitVec 128) (v : BitVec 32) (p : Nat),
    s.Takes m 0x0390 (((List.range 128).filter ports.toNat.testBit).map .port) → p < 128 → ports.toNat.testBit p = true → s.present p = false →
    exec (.linkSet m ports v) s =
      .next ((s.begun m (((List.range 128).filter ports.toNat.testBit).map .port)).answered m 0x0390 REFUSED))

/-- POWER_SET of the management network with legal settings takes them, leaves safe mode, and holds its cap until its frame;
POWER_SET of the host holds the host's cap; POWER_HEARTBEAT notes the frame; POWER_RESUME begins 100 ms after EPO_N went away;
FLOW_REPORT sets or clears the reported loss, and the beginning of a loss raises its fault (R421, R430, R432, R433, R438, R440). -/
def Obligations.PowerCommandsSetWhatTheyName : Prop :=
  (∀ (s : State) (f : Nat) (w : BitVec 64), s.Takes .mgmt 0x0500 [.power] → actionOn s = false → bits w.toNat 52 12 = 0 →
    800 ≤ bits w.toNat 0 12 → bits w.toNat 0 12 ≤ 3000 → 1 ≤ bits w.toNat 12 6 → bits w.toNat 12 6 ≤ 40 → 40 ≤ bits w.toNat 18 9 →
    bits w.toNat 18 9 ≤ 400 → 800 ≤ bits w.toNat 28 12 → bits w.toNat 28 12 ≤ 3000 → 1 ≤ bits w.toNat 42 10 → f ≤ s.time.lfc + 65536 →
    ∃ t : State, exec (.powerSet .mgmt f w) s = .next t ∧
      t.power.cfg = { s.power.cfg with slewUp := bits w.toNat 12 6, slewDown := bits w.toNat 18 9, floorEn := bitAt w.toNat 27
                                       safeCap := bits w.toNat 28 12, standbyEn := bitAt w.toNat 40, gateEn := bitAt w.toNat 41
                                       gateUs := bits w.toNat 42 10 } ∧
      t.power.safe = false ∧ t.power.pendHost = s.power.pendHost ∧
      t.power.pendMgmt = some (bits w.toNat 0 12, if f ≤ s.time.lfc then s.time.lfc + 1 else f) ∧
      t.mbx.resp = { master := .mgmt, code := 0x0500, status := OK
                     data := [(8, if f ≤ s.time.lfc then s.time.lfc + 1 else f), (1, if f ≤ s.time.lfc then 1 else 0)] } ∧
      t.mem = s.mem ∧ t.groups = s.groups ∧ t.fab = s.fab ∧ t.flt = s.flt) ∧
  (∀ (s : State) (f cap : Nat), s.Takes .host 0x0500 [.power] → actionOn s = false → 800 ≤ cap → cap ≤ 3000 → f ≤ s.time.lfc + 65536 →
    ∃ t : State, exec (.powerSet .host f (BitVec.ofNat 64 (cap * 2 ^ 52))) s = .next t ∧ t.power.cfg = s.power.cfg ∧
      t.power.pendHost = some (cap, if f ≤ s.time.lfc then s.time.lfc + 1 else f) ∧ t.power.pendMgmt = s.power.pendMgmt ∧
      t.mbx.resp.status = OK ∧ t.mem = s.mem ∧ t.groups = s.groups ∧ t.fab = s.fab ∧ t.flt = s.flt) ∧
  (∀ (s : State), s.Takes .mgmt 0x0503 [] →
    exec (.powerHeartbeat .mgmt) s = .next ((s.modPower fun p => { p with hbAt := some s.time.lfc }).answered .mgmt 0x0503 OK)) ∧
  (∀ (s : State), s.Takes .mgmt 0x0504 [.power] → s.power.epo = true → actionOn s = false → s.power.epoOff + 1526 ≤ s.time.lfc →
    s.power.resuming = false →
    exec (.powerResume .mgmt) s = .next (((s.begun .mgmt [.power]).modPower fun p => { p with resuming := true }).deferred .mgmt 0x0504 OK)) ∧
  (∀ (s : State), s.Takes .mgmt 0x0505 [] →
    exec (.flowReport .mgmt false) s = .next ((s.modPower fun p => { p with flowReported := false }).answered .mgmt 0x0505 OK)) ∧
  (∀ (s : State), s.Takes .mgmt 0x0505 [] →
    exec (.flowReport .mgmt true) s = .next (settle ((if flowLoss s then s.modPower fun p => { p with flowReported := true } else
      raise (s.modPower fun p => { p with flowReported := true }) { die := 18, cls := 0x0C, cause := 2 }).answered .mgmt 0x0505 OK)))

/-- FAULT_SET gives a source a reaction that its class allows, and queues its record for the flash; FAULT_ACK takes the number it
names; UNIT_FENCE raises a fault with cause 0 at its unit, which is taken as the step ends, and waits for hardware; UNIT_RETURN
of a fenced unit whose self-test passes returns it, and one whose self-test fails leaves it fenced, with REFUSED;
FAULT_INJECT at Oagal level 2 raises the faults it names (R440, R441, R443, R451, R472, R507). -/
def Obligations.FaultCommandsReactAcknowledgeFenceAndReturn : Prop :=
  (∀ (s : State) (m : Master) (cls inst r : Nat), s.Takes m 0x0601 [.fault cls inst] → sourceOk' cls inst = true → inst ≠ 0xFFFF → r < 64 →
    (bitAt r 5 = true → cls ≤ 9) → (bitAt r 3 = true → cls ≠ 4 ∧ cls ≠ 9 ∧ cls ≠ 0x0A) → (r &&& classFixed cls) = classFixed cls →
    isDefault cls r = false →
    exec (.faultSet m cls inst r) s = .next (((s.begun m [.fault cls inst]).modFlt fun f => { f with
      reactions := AMap.set (AMap.erase f.reactions (cls * 65536 + inst)) (cls * 65536 + inst) r
      toFlash := AMap.set f.toFlash (cls * 65536 + inst) (some r) }).answered m 0x0601 OK)) ∧
  (∀ (s : State) (m : Master) (n : Nat), s.Takes m 0x0602 [] → n < 65536 →
    exec (.faultAck m n) s = .next ((s.modFlt fun f => { f with acked := n, errPending := false }).answered m 0x0602 OK)) ∧
  (∀ (s : State) (m : Master) (cls inst : Nat), s.Takes m 0x0603 [.fault cls inst] → 1 ≤ cls → cls ≤ 9 → inst < classCount cls →
    (cls = 1 → s.present inst = true) →
    exec (.unitFence m cls inst) s = .next (settle ((raise (s.begun m [.fault cls inst])
      { die := dieOf cls inst, cls := cls, inst := inst, cause := 0 }).deferred m 0x0603 OK))) ∧
  (∀ (s : State) (m : Master) (cls inst : Nat), s.Takes m 0x0604 [.fault cls inst] → mayReturn s cls inst = true →
    (cls = 5 → (s.stk inst).activating = false) →
    exec (.unitReturn m cls inst true) s = .next ((returnUnit (s.begun m [.fault cls inst]) cls inst).deferred m 0x0604 OK) ∧
    exec (.unitReturn m cls inst false) s = .next ((s.begun m [.fault cls inst]).deferred m 0x0604 REFUSED)) ∧
  (∀ (s : State) (m : Master) (cls inst cause n : Nat), s.Takes m 0x0606 [.fault cls inst] → sourceOk' cls inst = true → 1 ≤ cause →
    cause ≤ causeCount cls → 1 ≤ n → n ≤ 255 → 2 ≤ s.mgmt.oagalLevel →
    exec (.faultInject m cls inst cause n) s = .next (settle ((injectN (s.begun m [.fault cls inst])
      { die := raiseDie cls inst, cls := cls, inst := inst, cause := cause } n).answered m 0x0606 OK)))

/-- PART_START of a package whose topology matches starts the partition; PART_STOP of one that nothing uses stops it;
MANIFEST_LOAD keeps a fragment that is not the last, and uses a manifest that verifies; QUARANTINE_CLEAR returns a port to
discovery; PAIR_FAILOVER promotes and PAIR_RESTORE sets the frame of the handback (R460, R462, R469, R470, R473). -/
def Obligations.BringUpCommandsStartDiscoverAndPair : Prop :=
  (∀ (s : State) (m : Master) (p : Nat), s.Takes m 0x0202 [.part p] → p < 64 → mayManage s m p = true → partCheck s = OK →
    exec (.partStart m p) s = .next ((if s.flt.parts.contains p then s.begun m [.part p] else
      (s.begun m [.part p]).modFlt fun f => { f with parts := f.parts ++ [p] }).answered m 0x0202 OK)) ∧
  (∀ (s : State) (m : Master) (p : Nat), s.Takes m 0x0203 [.part p] → p < 64 → mayManage s m p = true → partInUse s p = false →
    exec (.partStop m p) s = .next (((s.begun m [.part p]).modFlt fun f => { f with
      parts := f.parts.filter (· != p) }).answered m 0x0203 OK)) ∧
  (∀ (s : State) (m : Master) (n : Nat) (b : Bytes), s.Takes m 0x0300 [] → s.mgmt.ownerKeys ≠ none → 1 < n → b.length ≤ 4032 →
    exec (.manifestLoad m 0 n b) s = .next ((s.modMgmt fun g => { g with manifestFrags := [b] }).answered m 0x0300 OK)) ∧
  (∀ (s : State) (m : Master) (b : Bytes), s.Takes m 0x0300 [] → s.mgmt.ownerKeys ≠ none → b.length ≤ 4032 →
    exec (.manifestLoad m 0 1 b) s = .next (settle (if objectOk 2 b (ownerTrust s) then defer (useManifest s b) m 0x0300 OK
      else defer (s.modMgmt fun g => { g with manifestFrags := [] }) m 0x0300 REFUSED))) ∧
  (∀ (s : State) (m : Master) (p : Nat), s.Takes m 0x0302 [.port p] → p < 128 → s.present p = true → (s.prt p).quarantined = true →
    ∃ t : State, exec (.quarantineClear m p) s = .next t ∧ (t.prt p).quarantined = false ∧ (t.prt p).accepted = false ∧
      (∀ q, q ≠ p → t.prt q = s.prt q) ∧ t.mem = s.mem ∧
      t.mbx.resp = { master := m, code := 0x0302, status := OK, data := [] }) ∧
  (∀ (s : State) (solo : Bool), s.Takes .mgmt 0x0304 [] → s.flt.heardPartner ≠ none → s.flt.servingPartner = false →
    ∃ t : State, exec (.pairFailover .mgmt solo) s = .next t ∧ t.flt.pair = 2 ∧ t.flt.solo = (s.flt.solo || solo) ∧
      t.flt.selfFenced = (s.flt.selfFenced && ! solo) ∧ t.mem = s.mem ∧
      t.mbx.hwWait = s.mbx.hwWait ++ [{ resp := { master := .mgmt, code := 0x0304, status := OK, data := [] }, ref := none }]) ∧
  (∀ (s : State) (m : Master) (f : Nat), s.Takes m 0x0305 [] → s.flt.pair = 3 → s.time.lfc + 2 ≤ f →
    exec (.pairRestore m f) s = .next ((s.modFlt fun x => { x with handbackAt := some f, solo := false }).answered m 0x0305 OK))

/-- The update commands: UPDATE_BEGIN opens a staging area, UPDATE_DATA writes its bytes and voids the verification, UPDATE_VERIFY
keeps an image that parses and UPDATE_COMMIT begins to write it, UPDATE_ACTIVATE begins with the instances that do not run the
committed version, and UPDATE_ABORT closes the staging area (R497, R498, R499, R505, R509). -/
def Obligations.UpdateCommandsStageVerifyCommitAndActivate : Prop :=
  (∀ (s : State) (n : Nat), s.Takes .mgmt 0x0700 [.update] → n ≤ 48 * 2 ^ 20 → s.mgmt.update.opened = false → s.mgmt.update.activation = none →
    exec (.updateBegin .mgmt n) s = .next (((s.begun .mgmt [.update]).modUpd fun u => { u with
      opened := true, size := n, data := [], verified := none, committed := false }).answered .mgmt 0x0700 OK)) ∧
  (∀ (s : State) (off : Nat) (d : Bytes), s.Takes .mgmt 0x0701 [.update] → s.mgmt.update.opened = true → s.mgmt.update.writing = none →
    d.length ≤ 4000 → off + d.length ≤ s.mgmt.update.size → Mem.wf s.mgmt.update.data = true →
    ∃ t : State, exec (.updateData .mgmt off d) s = .next t ∧ t.mgmt.update.verified = none ∧
      (∀ i, (h : i < d.length) → Mem.read t.mgmt.update.data (off + i) = d[i]) ∧
      (∀ k, k < off ∨ off + d.length ≤ k → Mem.read t.mgmt.update.data k = Mem.read s.mgmt.update.data k) ∧
      Mem.wf t.mgmt.update.data = true ∧ t.mem = s.mem ∧ t.flt = s.flt ∧
      t.mbx.resp = { master := .mgmt, code := 0x0701, status := OK, data := [] }) ∧
  (∀ (s : State), s.Takes .mgmt 0x0702 [.update] → s.mgmt.update.opened = true →
    ∃ t : State, exec (.updateVerify .mgmt) s = .next t ∧ t.mgmt.update.verified = parseImage s (staged s.mgmt.update) ∧
      t.mgmt.update.flash = s.mgmt.update.flash ∧ t.mem = s.mem ∧ t.flt = s.flt ∧ t.host = s.host ∧
      (parseImage s (staged s.mgmt.update) = none → t.mbx.hwWait = s.mbx.hwWait ++
        [{ resp := { master := .mgmt, code := 0x0702, status := REFUSED, data := [] }, ref := none }]) ∧
      ∀ i, parseImage s (staged s.mgmt.update) = some i → ∃ d, t.mbx.hwWait = s.mbx.hwWait ++
        [{ resp := { master := .mgmt, code := 0x0702, status := OK, data := [(4, i.version), (1, i.svn), (4, i.comps.length)] ++ d }, ref := none }]) ∧
  (∀ (s : State) (ok : Bool), s.Takes .mgmt 0x0703 [.update] → s.mgmt.update.writing = none → s.mgmt.update.opened = true →
    s.mgmt.update.verified ≠ none →
    exec (.updateCommit .mgmt ok) s = .next (((s.begun .mgmt [.update]).modUpd fun u => { u with
      writing := some ok, flash := none }).deferred .mgmt 0x0703 OK)) ∧
  (∀ (s : State) (c mask d : Nat) (f : Bool), s.Takes .mgmt 0x0704 [.update] → c = 1 ∨ c = 2 ∨ c = 4 →
    (s.mgmt.update.flash.bind fun i => i.digest c) = some d → mask < 2 ^ compInstances c → s.mgmt.update.activation = none →
    (∃ i < compInstances c, mask.testBit i = true ∧ runDigest s c i ≠ d) → (c = 2 → s.isUnitFenced 8 0 = false ∧ s.isUnitFenced 8 1 = false) →
    exec (.updateActivate .mgmt c mask f) s = .next (((s.begun .mgmt [.update]).modUpd fun u => { u with
      activation := some { comp := c, left := (List.range (compInstances c)).filter fun i => mask.testBit i && runDigest s c i != d, force := f }
      skipped := [], handover := c == 1 }).deferred .mgmt 0x0704 OK)) ∧
  (∀ (s : State), s.Takes .mgmt 0x0706 [.update] → s.mgmt.update.committed = false → s.mgmt.update.writing = none →
    exec (.updateAbort .mgmt) s = .next (((s.begun .mgmt [.update]).modUpd fun u => { u with
      opened := false, size := 0, data := [], verified := none }).answered .mgmt 0x0706 OK))

/-- The security commands: OWNER_SET and CRED_SET with an accepted credential replace the owner's keys and the anchors,
SVN_RAISE raises the least security version to the running image's, KEY_REVOKE revokes a key pair that the running image does not
use, OAGAL_LOCK returns Oagal to level 0, and on the host's side SLUICE_START opens Sluice under a session of the host and
SLUICE_REKEY moves to the next key generation (R402, R403, R488, R491, R509). -/
def Obligations.SecurityCommandsChangeTrustAsAuthorised : Prop :=
  (∀ (s : State) (a : CredAuth) (rsa slh : Bytes), s.Takes .mgmt 0x0800 [.security] → authOk s a = true →
    exec (.ownerSet .mgmt a rsa slh) s = .next ((logSecurity ((s.begun .mgmt [.security]).modMgmt fun g => { g with
      ownerKeys := some (Config.keyId rsa, Config.keyId slh) }) 1).deferred .mgmt 0x0800 OK)) ∧
  (∀ (s : State) (a : CredAuth) (rsa slh : Bytes), s.Takes .mgmt 0x0800 [.security] → authOk s a = false →
    exec (.ownerSet .mgmt a rsa slh) s = .next ((s.begun .mgmt [.security]).deferred .mgmt 0x0800 DENIED)) ∧
  (∀ (s : State) (a : CredAuth) (l : List Bytes), s.Takes .mgmt 0x0801 [.security] → 1 ≤ l.length → l.length ≤ 4 → authOk s a = true →
    exec (.credSet .mgmt a l) s = .next ((logSecurity ((s.begun .mgmt [.security]).modMgmt fun g => { g with
      anchors := l }) 2).deferred .mgmt 0x0801 OK)) ∧
  (∀ (s : State), s.Takes .mgmt 0x0803 [.security] →
    exec (.svnRaise .mgmt) s = .next ((logSecurity ((s.begun .mgmt [.security]).modMgmt fun g => { g with
      minSvn := max s.mgmt.minSvn s.mgmt.update.running.svn }) 3).deferred .mgmt 0x0803 OK [(1, max s.mgmt.minSvn s.mgmt.update.running.svn)])) ∧
  (∀ (s : State) (k : Nat), s.Takes .mgmt 0x0804 [.security] → k ≤ 3 → s.mgmt.update.running.keyPair ≠ k →
    ∃ t : State, exec (.keyRevoke .mgmt k) s = .next t ∧ (∀ j, j ∈ t.mgmt.revoked ↔ j ∈ s.mgmt.revoked ∨ j = k) ∧
      t.mbx.hwWait = s.mbx.hwWait ++ [{ resp := { master := .mgmt, code := 0x0804, status := OK, data := [] }, ref := none }] ∧
      t.mem = s.mem ∧ t.flt = s.flt ∧ t.host = s.host) ∧
  (∀ (s : State), s.Takes .mgmt 0x0805 [.security] →
    ∃ t : State, exec (.oagalLock .mgmt) s = .next t ∧ t.mgmt.oagalLevel = 0 ∧ (0 < s.mgmt.oagalLevel → t.mgmt.jtag = false) ∧
      t.mbx.resp = { master := .mgmt, code := 0x0805, status := OK, data := [] } ∧ t.mem = s.mem ∧ t.flt = s.flt ∧ t.host = s.host) ∧
  (∀ (s : State) (n : Nat), s.Takes .host 0x0820 [.security] → (n, spdmHost) ∈ s.mgmt.sessions →
    ¬ (s.host.sluice.st = 2 ∧ s.host.sluice.session = n) → s.host.sluice.head = s.host.sluice.tail → AMap.has s.mem.lends 15 = false →
    exec (.sluiceStart .host n) s = .next ((s.modHost fun h => { h with
      conf := true
      sluice := { st := 1, session := n, sizeLog2 := h.sluice.sizeLog2, base := h.sluice.base, head := h.sluice.head
                  tail := h.sluice.tail } }).answered .host 0x0820 OK)) ∧
  (∀ (s : State), s.Takes .host 0x0821 [.security] → s.host.sluice.st = 1 →
    exec (.sluiceRekey .host) s = .next ((s.answered .host 0x0821 OK [(4, (s.host.sluice.gen + 1) % 2 ^ 32)]).modHost fun h => { h with
      sluice := { h.sluice with gen := (h.sluice.gen + 1) % 2 ^ 32, lastH2d := none } }))

/-- The sequence-context commands. SEQ_REGISTER with a descriptor and region that R206 accepts installs a context with no rows under
the lowest free number, and queues its stripes' moves where the region lies here; SEQ_RELEASE removes a context that is neither
in flight nor migrating; SEQ_TRUNCATE cuts LEN and the reservation pointer of every layer; each tells the partner's mirror of the
record; SEQ_MIGRATE marks the context and sends its record and lengths to the destination, and is answered later (R203, R206, R210,
R212, R221, R224). -/
def Obligations.SequenceCommandsRegisterReleaseTruncateAndMigrate : Prop :=
  (∀ (s : State) (m : Master) (d : BitVec 512), s.Takes m 0x0900 [] → mayManage s m (dPart d.toNat) = true → seqDescOk d.toNat = true →
    dRegNode d.toNat ≠ s.self → s.seqs.ctxs.length < 16384 →
    exec (.seqRegister m d) s = .next (State.deferred (mirrorSeq
        (s.setSeqCtx (freeSeqCtx s) { desc := BitVec.ofNat 512 (bits d.toNat 0 192) }) (freeSeqCtx s)) m 0x0900 OK
      [(2, freeSeqCtx s), (4, maxPos d.toNat)])) ∧
  (∀ (s : State) (m : Master) (d : BitVec 512), s.Takes m 0x0900 [] → mayManage s m (dPart d.toNat) = true → seqDescOk d.toNat = true →
    dRegNode d.toNat = s.self → seqRegionOk s d.toNat = true → s.seqs.ctxs.length < 16384 →
    exec (.seqRegister m d) s = .next (settle (defer (queueStripes
        (mirrorSeq (s.setSeqCtx (freeSeqCtx s) { desc := BitVec.ofNat 512 (bits d.toNat 0 192) }) (freeSeqCtx s))
        (stripeTargets d.toNat (dStripeBase d.toNat) s.self)) m 0x0900 OK [(2, freeSeqCtx s), (4, maxPos d.toNat)]))) ∧
  (∀ (s : State) (m : Master) (c : Nat) (x : SeqCtx), s.Takes m 0x0902 [.seq c] → s.seqCtx c = some x →
    mayManage s m (dPart x.desc.toNat) = true → inFlight s c = false → x.migrating = false →
    exec (.seqRelease m c) s = .next (State.answered (mirrorSeq ((s.begun m [.seq c]).modSeq fun q => { q with
      ctxs := AMap.erase q.ctxs c }) c) m 0x0902 OK)) ∧
  (∀ (s : State) (m : Master) (c n : Nat) (x : SeqCtx), s.Takes m 0x0903 [.seq c] → s.seqCtx c = some x →
    mayManage s m (dPart x.desc.toNat) = true → inFlight s c = false → x.migrating = false →
    ∃ y : SeqCtx, exec (.seqTruncate m c n) s = .next (State.answered (mirrorSeqAll ((s.begun m [.seq c]).setSeqCtx c y) c) m 0x0903 OK) ∧
      y.desc = x.desc ∧ (∀ l, seqLen y l = min (seqLen x l) n ∧ seqRes y l = min (seqRes x l) n)) ∧
  (∀ (s : State) (m : Master) (c dest base : Nat) (mv : Bool) (x : SeqCtx), s.Takes m 0x0904 [.seq c] → s.seqCtx c = some x →
    mayManage s m (dPart x.desc.toNat) = true → seqLost s x.desc.toNat = false → isDevik dest = true → dest ≠ s.self →
    (∃ p ∈ s.man.packages, p.node = dest) → base ≤ 31 → inFlight s c = false → x.migrating = false →
    exec (.seqMigrate m c dest base mv) s = .next (sendRecord ((s.begun m [.seq c]).setSeqCtx c { x with
      migrating := true, mig := some (m, base, mv), migTo := dest }) c x dest base mv))

/-- The collective-group commands: COLL_CREATE defines a group, COLL_MEMBERS sets the entries it names, COLL_COMMIT installs the
apex's node and defines the group as committed, COLL_DESTROY removes a group that no operation uses, COLL_RESET returns its node to
IDLE, COLL_ABORT leaves a group's node ABORTED with reason FM and changes no node that is so already, and COLL_CELLS_SET sets a crossbar die's share (R226, R228, R229,
R255, R258). -/
def Obligations.CollectiveCommandsDefineCommitAndRemoveGroups : Prop :=
  (∀ (s : State) (m : Master) (g p n w t : Nat), s.Takes m 0x0A00 [.group g] → mayManage s m p = true → g ≤ 0xFFFF → p ≤ 63 → 2 ≤ n →
    n ≤ 4096 → w = 0 ∨ (16 ≤ w ∧ w ≤ 512) → t ≤ 1000 → AMap.has s.coll.defs g = false → nodeOf s g = none →
    exec (.collCreate m g p n w t) s = .next (((s.begun m [.group g]).modColl fun c => { c with
      defs := (AMap.set c.defs g
        { part := p, n := n, window := if w = 0 then 128 else w, tmo := if t = 0 then 10 else t }) }).answered m 0x0A00 OK)) ∧
  (∀ (s : State) (m : Master) (g first : Nat) (l : List (BitVec 64)) (dies : List (Nat × Nat)) (d : CollDef), s.Takes m 0x0A01 [.group g] →
    AMap.find s.coll.defs g = some d → mayManage s m d.part = true → 1 ≤ l.length → l.length ≤ 480 → first + l.length ≤ d.n →
    (∀ i < l.length, ∀ x ∈ d.members, (x.1 < first ∨ first + l.length ≤ x.1) → sameMember x.2 (l.getD i 0) = false) →
    (∀ i < l.length, ∀ k < i, sameMember (l.getD k 0) (l.getD i 0) = false) → (∀ e ∈ l, entryOk s e = true) → (∀ x ∈ dies, x.2 ≤ 3) →
    d.committed = false →
    ∃ d' : CollDef, exec (.collMembers m g first l dies) s = .next (((s.begun m [.group g]).modColl fun c => { c with
        defs := AMap.set c.defs g d' }).answered m 0x0A01 OK) ∧
      (∀ i < l.length, AMap.find d'.members (first + i) = some (l.getD i 0)) ∧
      (∀ k, (k < first ∨ first + l.length ≤ k) → AMap.find d'.members k = AMap.find d.members k) ∧
      d'.part = d.part ∧ d'.n = d.n ∧ d'.window = d.window ∧ d'.tmo = d.tmo ∧ d'.committed = false) ∧
  (∀ (s : State) (m : Master) (g : Nat) (d : CollDef), s.Takes m 0x0A02 [.group g] → AMap.find s.coll.defs g = some d →
    mayManage s m d.part = true → d.members.length = d.n → d.committed = false → (groupNodes d).all (· == s.self) = true →
    s.straps.side ≤ 1 → (installNode s (nodeDesc s g d s.self)).2 = true →
    ∃ t : State, exec (.collCommit m g) s = .next (t.deferred m 0x0A02 OK) ∧ AMap.find t.coll.defs g = some { d with committed := true } ∧
      t.coll.nodes = (installNode s (nodeDesc s g d s.self)).1.coll.nodes ∧ t.mem = s.mem ∧ t.groups = s.groups ∧ t.fab = s.fab) ∧
  (∀ (s : State) (m : Master) (g : Nat) (d : CollDef), s.Takes m 0x0A03 [.group g] → AMap.find s.coll.defs g = some d →
    mayManage s m d.part = true → (nodeOf s g).any (fun x => x.2.st == 1) = false →
    s.groups.any (fun g' => g'.2.joins.any fun j => j.2.group == g) = false → (groupNodes d).all (· == s.self) = true →
    exec (.collDestroy m g) s = .next (((s.begun m [.group g]).modColl fun c => { c with
      nodes := c.nodes.filter fun x => x.2.group != g
      defs := AMap.erase c.defs g
      memberGen := c.memberGen.filter fun e => e.1 / 32 != g }).deferred m 0x0A03 OK)) ∧
  (∀ (s : State) (m : Master) (g slot : Nat) (d : CollDef) (n : CollNode), s.Takes m 0x0A04 [.group g] → AMap.find s.coll.defs g = some d →
    mayManage s m d.part = true → nodeOf s g = some (slot, n) → n.st ≠ 1 → s.isUnitFenced 3 (s.node slot).xd = false →
    ∃ t : State, exec (.collReset m g) s = .next (t.deferred m 0x0A04 OK) ∧ t = applyReset (s.begun m [.group g]) slot ∧
      (t.node slot).st = 0 ∧ (t.node slot).opgen = 0 ∧ (t.node slot).digest = none ∧ t.mem = s.mem) ∧
  (∀ (s : State) (m : Master) (g slot : Nat) (d : CollDef) (n : CollNode), s.Takes m 0x0A05 [.group g] → AMap.find s.coll.defs g = some d →
    mayManage s m d.part = true → nodeOf s g = some (slot, n) → (s.node slot).st = 2 →
    exec (.collAbort m g) s = .next ((s.begun m [.group g]).answered m 0x0A05 OK)) ∧
  (∀ (s : State) (m : Master) (g slot : Nat) (d : CollDef) (n : CollNode), s.Takes m 0x0A05 [.group g] → AMap.find s.coll.defs g = some d →
    mayManage s m d.part = true → nodeOf s g = some (slot, n) → (s.node slot).st ≠ 2 →
    (∀ k, joinOf s k (s.node slot).group = none) →
    ∃ t : State, exec (.collAbort m g) s = .next (t.answered m 0x0A05 OK) ∧ (t.node slot).st = 2 ∧ (t.node slot).lastReason = 5 ∧
      t.mem = s.mem ∧ t.flt = s.flt ∧ t.host = s.host) ∧
  (∀ (s : State) (m : Master) (die share : Nat), s.Takes m 0x0A07 [.collDie die] → die ≤ 3 → 16384 ≤ share → share ≤ 131072 →
    s.coll.nodes = [] →
    exec (.collCellsSet m die share) s = .next (((s.begun m [.collDie die]).modColl fun c => { c with
      share := AMap.set c.share die share }).answered m 0x0A07 OK))

/-- The control commands at the head of their queue. NOP and TRAP complete with OK, TRAP with its CODE; WAIT completes when its
counter has reached its target and otherwise holds its queue; SIGNAL adds its amount to a counter of its list, or increases the
slots it addresses; FENCE with scope 0 completes, and with a wider scope first drains the lanes of its scope of its stack and scratchpad
and drops the copies of its scope; while a write of its lanes is held behind a tile copy it waits for the parcels concerned (log entry
48). But for FENCE's wider scopes and SIGNAL's addressed slots, nothing else changes (R154–R158, R274). -/
def Obligations.ControlCommandsCompleteAtTheHeadOfTheirQueue : Prop :=
  (∀ (s : State) (g e q i : Nat) (l : CmdList), s.Works g e q 0x01 l i →
    ∃ t : State, exec (.nop g e q) s = .next t ∧ (theRun t g e q i).st = 1 ∧ (theRun t g e q i).status = OK ∧ s.OnlyQueues t g) ∧
  (∀ (s : State) (g e q i : Nat) (l : CmdList), s.Works g e q 0x05 l i →
    ∃ t : State, exec (.trap g e q) s = .next t ∧ (theRun t g e q i).st = 1 ∧ (theRun t g e q i).status = OK ∧
      (theRun t g e q i).detail = bits (cmdAt l i) 64 32 ∧ s.OnlyQueues t g) ∧
  (∀ (s : State) (g e q i : Nat) (l : CmdList), s.Works g e q 0x02 l i →
    met ((s.grp g).ctr (bits (cmdAt l i) 64 12)) (BitVec.ofNat 32 (bits (cmdAt l i) 96 32)) = true →
    ∃ t : State, exec (.wait g e q) s = .next t ∧ (theRun t g e q i).st = 1 ∧ (theRun t g e q i).status = OK ∧
      (theRun t g e q i).count = ((s.grp g).ctr (bits (cmdAt l i) 64 12)).toNat ∧ s.OnlyQueues t g) ∧
  (∀ (s : State) (g e q i : Nat) (l : CmdList), s.Works g e q 0x02 l i →
    met ((s.grp g).ctr (bits (cmdAt l i) 64 12)) (BitVec.ofNat 32 (bits (cmdAt l i) 96 32)) = false →
    ∃ t : State, exec (.wait g e q) s = .next t ∧ (theRun t g e q i).st = 0 ∧ (theRun t g e q i).opcode = 2 ∧ s.OnlyQueues t g) ∧
  (∀ (s : State) (g e q i : Nat) (l : CmdList), s.Works g e q 0x03 l i → bitAt (cmdAt l i) 76 = false →
    ctrOwner s g (bits (cmdAt l i) 64 12) = some l.part →
    ∃ t : State, exec (.signal g e q) s = .next t ∧ (theRun t g e q i).st = 1 ∧ (theRun t g e q i).status = OK ∧
      (t.grp g).ctr (bits (cmdAt l i) 64 12) = (s.grp g).ctr (bits (cmdAt l i) 64 12) + BitVec.ofNat 32 (bits (cmdAt l i) 96 32) ∧
      (∀ c, c ≠ bits (cmdAt l i) 64 12 → (t.grp g).ctr c = (s.grp g).ctr c) ∧
      t = { s with groups := t.groups } ∧ (∀ k, k ≠ g → t.grp k = s.grp k) ∧ (t.grp g).lists = (s.grp g).lists) ∧
  (∀ (s : State) (g e q i : Nat) (l : CmdList) (targets : List Nat), s.Works g e q 0x03 l i → bitAt (cmdAt l i) 76 = true →
    targets = ((List.range (bits (cmdAt l i) 77 5 + 1)).map fun k =>
      (bits (cmdAt l i) 128 56 + k * bits (cmdAt l i) 192 32) % 2 ^ 56) →
    (targets.any fun a => engineConflict s g e a 8) = false →
    exec (.signal g e q) s = .next (settle (writesIssued (targets.foldl (fun s a =>
      signalTo s g (.cmd g e q i) l.ctx a (bits (cmdAt l i) 96 32) 3) (s.work g e q 0x03 i)) g e q i OK))) ∧
  (∀ (s : State) (g e q i : Nat) (l : CmdList), s.Works g e q 0x04 l i → bits (cmdAt l i) 64 2 = 0 →
    ∃ t : State, exec (.fence g e q) s = .next t ∧ (theRun t g e q i).st = 1 ∧ (theRun t g e q i).status = OK ∧ s.OnlyQueues t g) ∧
  (∀ (s : State) (g e q i : Nat) (l : CmdList), s.Works g e q 0x04 l i → heldParcels s (fenceLanes (bits (cmdAt l i) 64 2)) g ≠ [] →
    ∃ t : State, exec (.fence g e q) s = .next t ∧ (theRun t g e q i).st = 0 ∧
      (theRun t g e q i).behind = heldParcels s (fenceLanes (bits (cmdAt l i) 64 2)) g ∧ s.OnlyQueues t g) ∧
  (∀ (s : State) (g e q i : Nat) (l : CmdList), s.Works g e q 0x04 l i → bits (cmdAt l i) 64 2 = 1 → heldParcels s (fenceLanes 1) g = [] →
    exec (.fence g e q) s = .next (settle (endRun (drainLanes (drainLanes (s.work g e q 0x04 i) (.stack g) [.package]) (.spad g) [.package]) g e q i OK))) ∧
  (∀ (s : State) (g e q i : Nat) (l : CmdList), s.Works g e q 0x04 l i → bits (cmdAt l i) 64 2 = 2 → heldParcels s (fenceLanes 2) g = [] →
    exec (.fence g e q) s = .next (settle (endRun ((dropFar
        (drainLanes (drainLanes (s.work g e q 0x04 i) (.stack g) [.package, .tray]) (.spad g) [.package, .tray]) fun a => addrTray (a * 64) == s.tray).modMem fun m => { m with fenceTray := satAdd 32 m.fenceTray 1 }) g e q i OK))) ∧
  (∀ (s : State) (g e q i : Nat) (l : CmdList), s.Works g e q 0x04 l i → bits (cmdAt l i) 64 2 = 3 → heldParcels s (fenceLanes 3) g = [] →
    s.mem.lanes = [] →
    ∃ t : State, exec (.fence g e q) s = .next t ∧ (theRun t g e q i).st = 1 ∧ (theRun t g e q i).status = OK ∧ t.mem.far = [] ∧
      t.mem.fenceRack = satAdd 32 s.mem.fenceRack 1 ∧ t.mem.cells = s.mem.cells)

/-- HALT stops its list: nothing more of it is dispatched, and what its queues hold unstarted is discarded (R159). WAIT_TIMEOUT and FENCE_TIMEOUT end the command they name with TIMEOUT, WAIT with the counter's value as its COUNT (R154, R157). -/
def Obligations.HaltsAndTimeoutsEndCommands : Prop :=
  (∀ (s : State) (g e q i : Nat) (l : CmdList), s.Works g e q 0x3F l i → l.halting = false → l.id ≠ 0 →
    ∃ (t : State) (l' : CmdList), exec (.halt g e q) s = .next t ∧ (t.grp g).list? l.id = some l' ∧ l'.halting = true ∧ l'.aborted = false ∧
      l'.next = l.cmds.length ∧ l'.final.isSome = true ∧
      (∀ k x, (k, x) ∈ (t.grp g).queues → x.list = l.id → x.halted = true ∧ x.fifo = []) ∧ t.mem = s.mem ∧ t.flt = s.flt) ∧
  (∀ (s : State) (g e q : Nat) (l : CmdList) (r : Running), s.Settled → queueList (s.grp g) e q = some l →
    ((s.grp g).que e q).started.find? (fun r => (r.opcode == 2 || r.opcode == 0x31) && r.st == 0) = some r → r.opcode = 2 →
    exec (.waitTimeout g e q) s = .next (endRun s g e q r.idx TIMEOUT fun r' => { r' with
      count := ((s.grp g).ctr (bits (cmdAt l r.idx) 64 12)).toNat })) ∧
  (∀ (s : State) (g e q : Nat) (r : Running), s.Settled →
    ((s.grp g).que e q).started.find? (fun r => r.opcode == 4 && r.st == 0) = some r →
    exec (.fenceTimeout g e q) s = .next (endRun s g e q r.idx TIMEOUT))

/-- The front end. A doorbell and a write of LIST_LOAD try the load they name. A list that is here, whose header, declaration, context
and commands pass their checks and whose resources are free, is loaded with its commands as they were read, and LAST_LOAD says OK; a
load made in emergency off ends BUSY with reason 3, and with the list's id where its header is read; one of a misaligned address is
REFUSED with reason 1; LIST_ABORT of a list by its own partition halts it; COMMAND_DISPATCH puts a list's next command into its queue,
and of a list whose bytes have changed since its load either the old command or the new one; SLICE_ARBITRATION leaves a slice with a
queue that has a command to go on with, and else gives it to a queue that is ready, of priority 0 in the first two places of the
pattern where one is ready, and of another in the third (R114, R115, R132, R133, R135, R141, R384, R433; that a slice lasts for one
step of its queue is the model's choice, log entry 236). -/
def Obligations.TheFrontEndLoadsAbortsDispatchesAndArbitrates : Prop :=
  (∀ (s : State) (g : Nat) (v : BitVec 64), s.Settled → hostUp s = true → g < 32 → bar2Pending s = false →
    exec (.listDb g v) s = .next (settle (tryLoad (leaveStandby s) g hostLoader v.toNat))) ∧
  (∀ (s : State) (g p : Nat) (v : BitVec 64), s.Settled → p < 64 →
    exec (.listLoad g p v) s = .next (settle (tryLoad s g p v.toNat))) ∧
  (∀ (s s1 s2 s3 u : State) (i : Instr) (g p : Nat) (v : BitVec 64) (hd body : Bytes) (ok : Bool) (h : Header) (d : Decl) (l : CmdList),
    s.Settled → (i = .listLoad g p v ∧ p < 64) ∨
      (i = .listDb g v ∧ p = hostLoader ∧ hostUp s = true ∧ g < 32 ∧ bar2Pending s = false ∧ leaveStandby s = s) →
    (s.grp g).fenced = false → s.power.epo = false → 4 ≤ s.flt.phase → s.flt.phase ≤ 6 → (s.stk g).joined = true →
    (s.stk g).activating = false → strapMismatch s = false → sequencerServes s = true → (s.grp g).loadReqs = [] →
    (∀ l ∈ (s.grp g).lists, l.checking = false) → v.toNat < 2 ^ 56 → v.toNat % 64 = 0 →
    s1 = (s.modGrp g fun x => { x with loadReqs := [(p, v.toNat)] }).modPower (fun w => { w with gated := w.gated.filter (· != g) }) →
    headerCtx s1 (if p = hostLoader then none else some p) v.toNat ≠ noCtx →
    readList s1 g (headerCtx s1 (if p = hostLoader then none else some p) v.toNat) v.toNat 128 = (s2, .bytes hd true) →
    h = parseHeader (leNat (slice hd 0 64)) → d = parseDecl (leNat (slice hd 64 64)) → h.ok = true → d.ok = true → d.inGroup = true →
    1 ≤ h.length → h.length ≤ 65536 → (s2.ctx d.ctx).valid = true →
    (if p = hostLoader then s2.host.hostParts.testBit (s2.ctx d.ctx).part else (s2.ctx d.ctx).part == p) = true →
    (s.grp g).list? h.listId = none → prio0Over (s.grp g) d = false → occupied' (s.grp g) d = false →
    l = { id := h.listId, checking := true, addr := v.toNat, ctx := d.ctx, part := (s2.ctx d.ctx).part, prio := d.prio
          granFirst := d.granFirst, granCount := d.granCount, ctrFirst := d.ctrFirst, ctrCount := d.ctrCount, qmask := d.masks
          seqSlots := d.seqSlots, collSlots := d.collSlots, ringAddr := h.ringAddr, ringLog2 := h.ringLog2, hostq := h.hostq
          hostqEn := h.hostqEn, defTmo := h.defTmo, cmds := List.replicate h.length 0 } →
    u = (takeResources s2 g l d).modGrp g (fun x => { x with fes := AMap.erase x.fes v.toNat }) →
    readList u g l.ctx l.addr (128 + 64 * h.length) = (s3, .bytes body ok) →
    runInGranules { g := g, self := s3.self, d := declOf l } (l.ringAddr, 64 * 2 ^ l.ringLog2) = true →
    firstBad { g := g, self := s3.self, d := declOf l } l.hostqEn (s3.grp g).fmtAll (cacheFmt s3) 0
      ((List.range h.length).map fun i => leNat (slice body (128 + 64 * i) 64)) = none →
    ∃ (t : State) (l' : CmdList), exec i s = .next (settle t) ∧ (t.grp g).list? h.listId = some l' ∧
      (t.grp g).lastLoad = { status := OK, reason := 0, listId := h.listId, index := 0 } ∧
      l' = { l with checking := false, seqNo := 1, cmds := (List.range h.length).map fun i =>
        BitVec.ofNat 512 (leNat (slice body (128 + 64 * i) 64)) }) ∧
  (∀ (s : State) (g p : Nat) (v : BitVec 64), s.Settled → p < 64 → (s.grp g).fenced = false → s.power.epo = true → (s.grp g).loadReqs = [] →
    v.toNat % 64 ≠ 0 →
    ∃ t : State, exec (.listLoad g p v) s = .next t ∧ (t.grp g).lastLoad = { status := BUSY, reason := 3, listId := 0, index := 0 } ∧
      t = { s with groups := t.groups } ∧ (t.grp g).lists = (s.grp g).lists) ∧
  (∀ (s s1 s2 : State) (g p : Nat) (v : BitVec 64) (hd : Bytes) (h : Header), s.Settled → p < 64 → (s.grp g).fenced = false →
    s.power.epo = true → (s.grp g).loadReqs = [] → v.toNat < 2 ^ 56 → v.toNat % 64 = 0 →
    s1 = s.modGrp g (fun x => { x with loadReqs := [(p, v.toNat)] }) → headerCtx s1 (some p) v.toNat ≠ noCtx →
    readList s1 g (headerCtx s1 (some p) v.toNat) v.toNat 128 = (s2, .bytes hd true) → h = parseHeader (leNat (slice hd 0 64)) →
    h.ok = true → (parseDecl (leNat (slice hd 64 64))).ok = true →
    ∃ t : State, exec (.listLoad g p v) s = .next (settle t) ∧
      (t.grp g).lastLoad = { status := BUSY, reason := 3, listId := h.listId, index := 0 } ∧ (t.grp g).lists = (s.grp g).lists) ∧
  (∀ (s : State) (g p : Nat) (v : BitVec 64), s.Settled → p < 64 → (s.grp g).fenced = false → s.power.epo = false →
    (s.stk g).activating = false → 4 ≤ s.flt.phase → s.flt.phase ≤ 6 → (s.stk g).joined = true → strapMismatch s = false →
    sequencerServes s = true → (s.grp g).loadReqs = [] → (∀ l ∈ (s.grp g).lists, l.checking = false) → v.toNat % 64 ≠ 0 →
    ∃ t : State, exec (.listLoad g p v) s = .next t ∧
      (t.grp g).lastLoad = { status := REFUSED, reason := 1, listId := 0, index := 0 } ∧ (t.grp g).lists = (s.grp g).lists ∧ t.mem = s.mem) ∧
  (∀ (s : State) (g p : Nat) (v : BitVec 64) (l : CmdList), s.Settled → (s.grp g).list? (v.toNat % 65536) = some l → v.toNat < 65536 →
    l.part = p → (s.grp g).fenced = false → l.halting = false → l.checking = false →
    ∃ (t : State) (l' : CmdList), exec (.listAbort g p v) s = .next t ∧ (t.grp g).list? v.toNat = some l' ∧ l'.halting = true ∧
      l'.aborted = true ∧ l'.next = l.cmds.length ∧ t.mem = s.mem ∧ t.flt = s.flt) ∧
  (∀ (s : State) (g id : Nat) (l : CmdList), s.Settled → groupRuns s g = true → sequencerServes s = true →
    (s.grp g).list? id = some l → l.halting = false → l.checking = false →
    l.next < l.cmds.length → ((s.grp g).que (cEngine (cmdAt l l.next)) (cQueue (cmdAt l l.next))).fifo.length < 64 →
    storedCmd s l l.next = cmdAt l l.next →
    ∃ t : State, exec (.commandDispatch g id) s = .next t ∧ t = { s with groups := t.groups } ∧
      (∀ k, k ≠ g → t.grp k = s.grp k) ∧ (t.grp g).ctrs = (s.grp g).ctrs ∧
      (t.grp g).list? id = some { l with next := l.next + 1 } ∧
      ((t.grp g).que (cEngine (cmdAt l l.next)) (cQueue (cmdAt l l.next))).fifo =
        ((s.grp g).que (cEngine (cmdAt l l.next)) (cQueue (cmdAt l l.next))).fifo ++ [l.next]) ∧
  (∀ (s : State) (g id : Nat) (l : CmdList), s.Settled → groupRuns s g = true → sequencerServes s = true →
    (s.grp g).list? id = some l → l.halting = false → l.checking = false →
    l.next < l.cmds.length → (∀ y ∈ (s.grp g).queues, y.2.fifo.length < 64) → storedCmd s l l.next ≠ cmdAt l l.next →
    ∃ (t : State) (l' : CmdList), exec (.commandDispatch g id) s = .next t ∧ t.mem = s.mem ∧ t.flt = s.flt ∧
      (t.grp g).list? id = some l' ∧ l'.next = l.next + 1 ∧
      (cmdAt l' l.next = cmdAt l l.next ∨ cmdAt l' l.next = storedCmd s l l.next) ∧
      ((t.grp g).que (cEngine (cmdAt l' l.next)) (cQueue (cmdAt l' l.next))).fifo =
        ((s.grp g).que (cEngine (cmdAt l' l.next)) (cQueue (cmdAt l' l.next))).fifo ++ [l.next]) ∧
  (∀ (s : State) (g e q : Nat), s.Settled → groupRuns s g = true → AMap.get 0 (s.grp g).sliceQ e = q + 1 → queueReady (s.grp g) e q = true →
    exec (.sliceArbitration g e) s = .next s) ∧
  (∀ (s : State) (g e : Nat), s.Settled → groupRuns s g = true → AMap.get 0 (s.grp g).sliceQ e = 0 →
    (∃ q < 16, queueReady (s.grp g) e q = true) →
    ∃ (t : State) (q : Nat), exec (.sliceArbitration g e) s = .next t ∧ q < 16 ∧ queueReady (s.grp g) e q = true ∧
      holdsSlice t g e q = true ∧ s.OnlyQueues t g ∧
      (AMap.get 0 (s.grp g).slice e ≠ 2 → (∃ k < 16, queueReady (s.grp g) e k = true ∧ ((s.grp g).que e k).prio = 0) →
        ((s.grp g).que e q).prio = 0) ∧
      (AMap.get 0 (s.grp g).slice e = 2 → (∃ k < 16, queueReady (s.grp g) e k = true ∧ ((s.grp g).que e k).prio ≠ 0) →
        ((s.grp g).que e q).prio ≠ 0))

/-- A command that completes with OK and writes no record leaves its queue, is counted, and increases its CTR; one with a status that
halts stops its list; a list that has halted and whose final record is written is released, with its queues and joins (R134,
R147, R178). COUNTER_ADD queues its increase behind the writes accepted before it, COUNTER_INCREASE_APPLY makes the group's first pending one
once those are performed, and APPEND_LENGTH_ADVANCE moves a layer's LEN over its next reservation once its rows are accepted
(R126, R153, R212, R266). -/
def Obligations.CompletionsReleaseAndAdvanceCounters : Prop :=
  (∀ (s : State) (g e q i : Nat) (l : CmdList) (r : Running), s.Settled → queueList (s.grp g) e q = some l →
    ((s.grp g).que e q).started.find? (fun r => r.idx == i) = some r → (s.grp g).fenced = false → s.power.epo = false →
    r.outstanding = 0 → r.st = 1 → r.holds = [] → r.invalid = false → endStatus r = OK → r.naninf = false → r.opcode ≠ 5 → r.opcode ≠ 0x21 →
    cRec (cmdAt l i) = false → (cCtrEn (cmdAt l i) = true → ctrOwner s g (cCtr (cmdAt l i)) = some l.part) →
    ∃ t : State, exec (.commandComplete g e q i) s = .next t ∧ (∀ x ∈ ((t.grp g).que e q).started, x.idx ≠ i) ∧
      (∃ l', (t.grp g).list? l.id = some l' ∧ l'.completed = l.completed + 1 ∧ l'.halting = l.halting) ∧
      (t.grp g).ctr (cCtr (cmdAt l i)) = (s.grp g).ctr (cCtr (cmdAt l i)) + (if cCtrEn (cmdAt l i) then 1 else 0) ∧
      t.mem = s.mem ∧ t.host = s.host ∧ t.flt = s.flt) ∧
  (∀ (s : State) (g e q i : Nat) (l : CmdList) (r : Running), s.Settled → queueList (s.grp g) e q = some l →
    ((s.grp g).que e q).started.find? (fun r => r.idx == i) = some r → (s.grp g).fenced = false → s.power.epo = false →
    r.outstanding = 0 → r.st = 1 → r.holds = [] → r.invalid = false → halting r.opcode r.status = true → l.halting = false →
    ∃ (t : State) (l' : CmdList), exec (.commandComplete g e q i) s = .next t ∧ (t.grp g).list? l.id = some l' ∧ l'.halting = true ∧
      l'.next = l.cmds.length ∧ l'.completed = l.completed + 1 ∧ t.mem = s.mem ∧ t.host = s.host ∧ t.flt = s.flt) ∧
  (∀ (s : State) (g id : Nat) (l : CmdList) (f : FinalRec), s.Settled → (s.grp g).list? id = some l → l.halting = true →
    (s.grp g).fenced = false → s.power.epo = false → listQuiet (s.grp g) id = true → l.finalOut ≠ 0 → l.final = some f →
    f.notify = false → f.ctr = none →
    (theRun s g (cEngine (cmdAt l (l.cmds.length - 1))) (cQueue (cmdAt l (l.cmds.length - 1))) (l.cmds.length - 1)).outstanding = 0 →
    (theRun s g (cEngine (cmdAt l (l.cmds.length - 1))) (cQueue (cmdAt l (l.cmds.length - 1))) (l.cmds.length - 1)).denied = none →
    ∃ t : State, exec (.listRelease g id) s = .next t ∧ t = { s with groups := t.groups } ∧ (t.grp g).list? id = none ∧
      (∀ k x, (k, x) ∈ (t.grp g).queues → x.list ≠ id) ∧ (∀ k x, (k, x) ∈ (t.grp g).joins → x.list ≠ id) ∧
      (t.grp g).ctrs = (s.grp g).ctrs ∧ ∀ k, k ≠ g → t.grp k = s.grp k) ∧
  (∀ (s : State) (g c p : Nat) (n : BitVec 32), s.Settled → ctrOwner s g c = some p →
    exec (.counterAdd g c p n) s = .next (s.modMem fun m => { m with
      lanes := m.lanes ++ [.inc g c p n.toNat (heldParcels s [.package, .tray, .rack] g)] })) ∧
  (∀ (s : State) (g c p : Nat) (n : BitVec 32), s.Settled → ctrOwner s g c ≠ some p →
    exec (.counterAdd g c p n) s =
      .next (settle (noteRefusal s (12 + g / 8) none (s.base + 0x020040000000 + g * 0x100000 + c * 8) p 0))) ∧
  (∀ (s : State) (g c p n : Nat), s.Settled → firstInc g s.mem.lanes = some (c, p, n) → incReady g s.mem.lanes = true →
    ctrOwner s g c = some p →
    ∃ t : State, exec (.counterIncreaseApply g) s = .next t ∧ (t.grp g).ctr c = (s.grp g).ctr c + BitVec.ofNat 32 n ∧
      (∀ k, k ≠ c → (t.grp g).ctr k = (s.grp g).ctr k) ∧ t.mem = { s.mem with lanes := dropInc g s.mem.lanes } ∧
      (∀ k, k ≠ g → t.grp k = s.grp k) ∧ (t.grp g).lists = (s.grp g).lists ∧ t.flt = s.flt ∧ t.fab = s.fab) ∧
  (∀ (s : State) (c y g e q i : Nat) (x : SeqCtx) (v : Resv) (r : Running), s.Settled → s.seqCtx c = some x →
    s.seqs.resvs.find? (fun r => r.ctx == c && r.layer == y && r.first == seqLen x y) = some v → v.owner = .cmd g e q i →
    runOf s v.owner = some r → r.phase = 2 → r.outstanding = 0 → r.denied = none → r.rowsWritten = false →
    ∃ (t : State) (z : SeqCtx), exec (.appendLengthAdvance c y) s = .next t ∧ t.seqCtx c = some z ∧ seqLen z y = v.first + v.count ∧
      (∀ k, k ≠ y → seqLen z k = seqLen x k) ∧ z.res = x.res ∧ z.desc = x.desc ∧
      t.seqs.resvs = s.seqs.resvs.filter (· != v) ∧ t.mem = s.mem ∧ t.flt = s.flt ∧
      t.fab.inbuf.length = s.fab.inbuf.length + (if seqMirrors s then 1 else 0))

/-- The engines' commands whose operands are all here and held by nothing compute in their last slice, and count one slice before it:
MMA, MMA_SCALED, VOP with its element-wise functions and with MERGE and FINISH, and VRED. ATTN without an append reads its layer's
length and attends, as it does after its append, and with an append reserves its rows. Where the operands may be read and the
results written, each reaches its completion event with OK or POISONED. ATOMIC on bytes served here does its operation, writes
RESULT, and completes with the old value (R161, R162, R165, R166, R172, R176; how a command takes its slices is the model's choice,
log entry 236). -/
def Obligations.EngineCommandsComputeOnceTheirOperandsAreHere : Prop :=
  (∀ (s w v : State) (g q c op : Nat) (i : Instr) (sc : Bool) (l : CmdList) (r : Running) (new : Bool),
    (i = .mma g q ∧ op = 0x10 ∧ sc = false) ∨ (i = .mmaScaled g q ∧ op = 0x11 ∧ sc = true) → s.Goes g 1 q op l r new → cmdAt l r.idx = c →
    w = s.going g 1 q r new → w.Fetched g 1 l.part r (mmaReads c) → demandWrites w g (mmaWrites c) = (v, false) →
    exec i s = .next (settle ((if mmaSlices c ≤ r.slices + 1 then mmaRun v g q l (theRun w g 1 q r.idx) c sc
      else modRun v g 1 q r.idx fun r => { r with slices := r.slices + 1 }).sliceOver g 1 op))) ∧
  (∀ (s w : State) (g q c op : Nat) (i : Instr) (l : CmdList) (r : Running) (new : Bool),
    (i = .mma g q ∧ op = 0x10) ∨ (i = .mmaScaled g q ∧ op = 0x11) → s.Goes g 1 q op l r new → cmdAt l r.idx = c →
    w = s.going g 1 q r new → w.Fetched g 1 l.part r (mmaReads c) → mmaSlices c ≤ r.slices + 1 → (descAt c 320).layout ≠ 1 →
    w.readable l.part (mmaReads c) = true → w.writable (w.ctx l.ctx).part (mmaWrites c) = true → Ends i s g 1 q r.idx) ∧
  (∀ (s w v : State) (g q c : Nat) (l : CmdList) (r : Running) (new : Bool), s.Goes g 2 q 0x18 l r new → cmdAt l r.idx = c →
    w = s.going g 2 q r new → bits c 480 8 ≠ 0x10 → bits c 480 8 ≠ 0x11 → w.Fetched g 2 l.part r (vopReads c) →
    demandWrites w g (vopWrites c) = (v, false) →
    exec (.vop g q) s = .next (settle ((if vecSlices (s.begunRun g 2 q r new) g (vopCycles c) ≤ r.slices + 1 then
        vopElems v g q l (theRun w g 2 q r.idx) c
      else modRun v g 2 q r.idx fun r => { r with slices := r.slices + 1 }).sliceOver g 2 0x18))) ∧
  (∀ (s w v : State) (g q c : Nat) (l : CmdList) (r : Running) (new : Bool), s.Goes g 2 q 0x18 l r new → cmdAt l r.idx = c →
    w = s.going g 2 q r new → bits c 480 8 = 0x10 ∨ bits c 480 8 = 0x11 → w.Fetched g 2 l.part r (entryReads c) →
    demandWrites w g (vopWrites c) = (v, false) →
    exec (.vop g q) s = .next (settle ((if vecSlices (s.begunRun g 2 q r new) g (vopCycles c) ≤ r.slices + 1 then
        vopPartials v g q l (theRun w g 2 q r.idx) c
      else modRun v g 2 q r.idx fun r => { r with slices := r.slices + 1 }).sliceOver g 2 0x18))) ∧
  (∀ (s w : State) (g q c : Nat) (l : CmdList) (r : Running) (new : Bool), s.Goes g 2 q 0x18 l r new → cmdAt l r.idx = c →
    w = s.going g 2 q r new →
    w.Fetched g 2 l.part r (if bits c 480 8 = 0x10 ∨ bits c 480 8 = 0x11 then entryReads c else vopReads c) →
    vecSlices (s.begunRun g 2 q r new) g (vopCycles c) ≤ r.slices + 1 → (descAt c 320).layout = 0 →
    (bits c 480 8 = 0x0F → (descAt c 320).scaled = true) →
    w.readable l.part (if bits c 480 8 = 0x10 ∨ bits c 480 8 = 0x11 then entryReads c else vopReads c) = true →
    w.writable (w.ctx l.ctx).part (vopWrites c) = true → Ends (.vop g q) s g 2 q r.idx) ∧
  (∀ (s w v : State) (g q c : Nat) (l : CmdList) (r : Running) (new : Bool), s.Goes g 2 q 0x19 l r new → cmdAt l r.idx = c →
    w = s.going g 2 q r new → w.Fetched g 2 l.part r (operandRanges (descAt c 64) (bits c 448 16 + 1) (bits c 464 16 + 1) false) →
    demandWrites w g [((descAt c 320).addr, 4 * (bits c 448 16 + 1))] = (v, false) →
    exec (.vred g q) s = .next (settle ((if vecSlices (s.begunRun g 2 q r new) g ((bits c 448 16 + 1) * (bits c 464 16 + 1)) ≤ r.slices + 1
      then vredRun v g q l (theRun w g 2 q r.idx) c
      else modRun v g 2 q r.idx fun r => { r with slices := r.slices + 1 }).sliceOver g 2 0x19))) ∧
  (∀ (s w : State) (g q c : Nat) (l : CmdList) (r : Running) (new : Bool), s.Goes g 2 q 0x19 l r new → cmdAt l r.idx = c →
    w = s.going g 2 q r new → w.Fetched g 2 l.part r (operandRanges (descAt c 64) (bits c 448 16 + 1) (bits c 464 16 + 1) false) →
    vecSlices (s.begunRun g 2 q r new) g ((bits c 448 16 + 1) * (bits c 464 16 + 1)) ≤ r.slices + 1 →
    w.readable l.part (operandRanges (descAt c 64) (bits c 448 16 + 1) (bits c 464 16 + 1) false) = true →
    w.writable (w.ctx l.ctx).part [((descAt c 320).addr, 4 * (bits c 448 16 + 1))] = true → Ends (.vred g q) s g 2 q r.idx) ∧
  (∀ (s t u : State) (g q d : Nat) (l : CmdList) (r : Running) (new : Bool) (x : AttnCmd) (cx : SeqCtx), s.Goes g 1 q 0x28 l r new →
    attnOf (cmdAt l r.idx) = x → s.seqCtx x.ctx = some cx → cx.desc.toNat = d →
    (new = true ∧ seqCheck s l x.slot x.ctx x.layer true x.partial' (x.headFirst + x.heads - 1) = OK ∧ stripeSet s d g ≠ [] ∧
        cacheFmtOk s g x.ctx = true ∧ x.append = false ∧
        t = modRun (bindSlot (modRun (beginRun s g 1 q r) g 1 q r.idx fun r => { r with
            ctx := x.ctx, layer := x.layer, tokens := x.t, stripes := stripeSet s d g }) g l.id x.slot x.ctx) g 1 q r.idx fun r => { r with
          phase := 3, lenRead := some (seqLen cx x.layer) }) ∨ (new = false ∧ r.phase = 3 ∧ t = s) →
    u = modRun t g 1 q r.idx (fun r => { r with phase := if r.phase = 0 then 1 else r.phase }) →
    u.Fetched g 1 l.part (theRun t g 1 q r.idx) (attnReads x d (theRun t g 1 q r.idx)) →
    exec (.attn g q) s = .next (settle ((if x.t * x.heads ≤ r.slices + 1 then attnRun u g q l (theRun u g 1 q r.idx) x d
      else modRun u g 1 q r.idx fun r => { r with slices := r.slices + 1 }).sliceOver g 1 0x28)) ∧
    (x.t * x.heads ≤ r.slices + 1 → u.readable l.part (attnReads x d (theRun t g 1 q r.idx)) = true →
      u.writable (u.ctx l.ctx).part (attnWrites x d) = true → Ends (.attn g q) s g 1 q r.idx)) ∧
  (∀ (s u v : State) (g q d first : Nat) (l : CmdList) (r : Running) (x : AttnCmd) (cx : SeqCtx), s.Goes g 1 q 0x28 l r true →
    attnOf (cmdAt l r.idx) = x → s.seqCtx x.ctx = some cx → cx.desc.toNat = d →
    seqCheck s l x.slot x.ctx x.layer true x.partial' (x.headFirst + x.heads - 1) = OK → stripeSet s d g ≠ [] →
    cacheFmtOk s g x.ctx = true → x.append = true →
    reserve (bindSlot (modRun (beginRun s g 1 q r) g 1 q r.idx fun r => { r with
        ctx := x.ctx, layer := x.layer, tokens := x.t, stripes := stripeSet s d g }) g l.id x.slot x.ctx) x.ctx x.layer x.t
      (.cmd g 1 q r.idx) = some (first, u) →
    v = modRun u g 1 q r.idx (fun r => { r with resv := some (first, x.t), phase := 1 }) →
    exec (.attn g q) s = .next (settle ((attnAppend v g q l (theRun v g 1 q r.idx) x d first).sliceOver g 1 0x28))) ∧
  (∀ (s a b u : State) (g q c n node off old : Nat) (l : CmdList) (r : Running), s.Goes g 0 q 0x38 l r true → cmdAt l r.idx = c →
    n = 4 * 2 ^ bits c 452 2 → engineConflict s g 0 (bits c 64 56) n = false →
    demandRange (beginRun s g 0 q r) g (bits c 64 56) n = (a, false) →
    b = addHolds (dropFarRange a (bits c 64 56) n) g 0 q r.idx (bits c 64 56) n →
    placeOf b (bits c 64 56) = .here node off → isCtlOff off = false → accCheck b node off n l.part true = some OK →
    tileCopying b node off = false →
    atomicHere (countAccess b node off (0x200 + g)) node off n l.part (bits c 448 4) (bits c 192 (8 * n)) (bits c 320 (8 * n))
      (! localAcc (countAccess b node off (0x200 + g)) g node off false) = (u, some old) →
    exec (.atomic g q) s = .next (settle ((atomicEnd (if mirrored u node off = true then
        mirrorWrite u node off (readMem u (keyOf u node off) n l.part) l.part (.cmd g 0 q r.idx) none else u) g q l r c old).sliceOver g 0 0x38)) ∧
    (mirrored u node off = false → (bitAt c 454 = true → u.writable (u.ctx l.ctx).part [(bits c 128 56, n)] = true) →
      ∃ t : State, exec (.atomic g q) s = .next (settle t) ∧ (theRun t g 0 q r.idx).st = 1 ∧ (theRun t g 0 q r.idx).status = OK ∧
        (theRun t g 0 q r.idx).count = n ∧ (theRun t g 0 q r.idx).detail = old))

/-- The DMA engine's commands whose sources are all here copy: LOADT and STORET, and a DMA_ND's next tile, where every page of its
destination is translated. A slice that reaches to the last of the runs writes them all: LOADT and STORET then reach their completion
event with OK or POISONED, DMA_ND its tile's delivery. KVAPPEND reserves its rows behind the layer's last, fetches them and writes
them. A tile whose bytes are written is delivered, and the last completes the transfer; a page response of Success resumes it, and
another response or none ends it (R58, R61, R62, R168, R170, R173, R212). -/
def Obligations.DmaCommandsCopyDeliverAndAppend : Prop :=
  (∀ (s w : State) (g q c op : Nat) (i : Instr) (l : CmdList) (r : Running) (new : Bool),
    (i = .loadt g q ∧ op = 0x20) ∨ (i = .storet g q ∧ op = 0x21) → s.Goes g 3 q op l r new → cmdAt l r.idx = c → w = s.going g 3 q r new →
    w.Fetched g 3 l.part r ((moveSrc c).map fun x => (x.1, x.2, bitAt c 353)) →
    exec i s = .next (settle ((moveRun w g q op l (theRun w g 3 q r.idx) c).sliceOver g 3 op)) ∧
    (runsLeft r (cutRuns (movePairs c)) ≤ dmaSlice → w.fab.tracks = [] → w.xlat.accs = [] →
      w.readable l.part ((cutRuns (movePairs c)).map fun x => (x.1, x.2.2, bitAt c 353)) = true →
      w.writable (w.ctx l.ctx).part ((cutRuns (movePairs c)).map fun x => (x.2.1, x.2.2)) = true → Ends i s g 3 q r.idx)) ∧
  (∀ (s b t : State) (g q c : Nat) (l : CmdList) (r : Running) (new : Bool) (x : NdCmd), s.Goes g 3 q 0x22 l r new → cmdAt l r.idx = c →
    ndOf c = x → b = s.begunRun g 3 q r new → t = modRun b g 3 q r.idx (fun r => { r with phase := 1 }) → r.pageReq = false →
    tileRefusal b r x r.tiles = none → r.faulting = false → r.rowsWritten = false →
    (∀ p ∈ (fetchTiles t g r x).flatMap (tilePieces t x), (p.1, p.2.1) ∈ r.reqd) →
    (∀ p ∈ tilePieces t x r.tiles, (p.1, p.2.1) ∈ r.reqd ∧ pieceOut t g q r.idx p.1 = false) →
    (((x.tile r.tiles).map fun y => (y.1, x.len)).any fun y => rangeHeld t l.part y.1 y.2 false || engineConflict t g 3 y.1 y.2) = false →
    untranslated t g l true ((x.tile r.tiles).map fun y => (y.2, x.len)) = [] →
    exec (.dmaNd g q) s = .next (settle ((ndTile t g q l (theRun t g 3 q r.idx) c).sliceOver g 3 0x22)) ∧
    (runsLeft r (cutRuns ((x.tile r.tiles).map fun y => (y.1, y.2, x.len))) ≤ dmaSlice → t.fab.tracks = [] → t.xlat.accs = [] →
      t.readable l.part ((cutRuns ((x.tile r.tiles).map fun y => (y.1, y.2, x.len))).map fun y => (y.1, y.2.2, x.vol)) = true →
      t.writable (t.ctx l.ctx).part ((cutRuns ((x.tile r.tiles).map fun y => (y.1, y.2, x.len))).map fun y => (y.2.1, y.2.2)) = true →
      ∃ u : State, exec (.dmaNd g q) s = .next (settle u) ∧ (theRun u g 3 q r.idx).rowsWritten = true ∧
        (theRun u g 3 q r.idx).refusedAt = r.refusedAt)) ∧
  (∀ (s b u : State) (g q c first : Nat) (l : CmdList) (r : Running) (x : SeqCtx), s.Goes g 3 q 0x29 l r true → cmdAt l r.idx = c →
    s.seqCtx (bits c 192 14) = some x → seqCheck s l (bits c 228 5) (bits c 192 14) (bits c 206 10) false false 0 = OK →
    cacheFmtOk s g (bits c 192 14) = true →
    b = bindSlot (modRun (beginRun s g 3 q r) g 3 q r.idx fun r => { r with
      ctx := bits c 192 14, layer := bits c 206 10, tokens := bits c 216 12 + 1 }) g l.id (bits c 228 5) (bits c 192 14) →
    reserve b (bits c 192 14) (bits c 206 10) (bits c 216 12 + 1) (.cmd g 3 q r.idx) = some (first, u) →
    first = (s.seqs.resvs.filter fun v => v.ctx == bits c 192 14 && v.layer == bits c 206 10).foldl (fun a v => max a (v.first + v.count))
      (max (seqRes x (bits c 206 10)) (seqLen x (bits c 206 10))) ∧
    u.seqs.resvs = s.seqs.resvs ++ [{ ctx := bits c 192 14, layer := bits c 206 10, first := first, count := bits c 216 12 + 1
                                      owner := .cmd g 3 q r.idx }] ∧
    ∃ v : State, v = modRun u g 3 q r.idx (fun r => { r with resv := some (first, bits c 216 12 + 1), phase := 1 }) ∧
      exec (.kvappend g q) s = .next (settle ((appendStep v g q l (theRun v g 3 q r.idx) c).sliceOver g 3 0x29))) ∧
  (∀ (s : State) (g q c : Nat) (l : CmdList) (r : Running), s.Goes g 3 q 0x29 l r false → cmdAt l r.idx = c → r.phase = 1 →
    exec (.kvappend g q) s = .next (settle ((appendStep s g q l r c).sliceOver g 3 0x29))) ∧
  (∀ (s : State) (g q c d first : Nat) (l : CmdList) (r : Running) (x : SeqCtx), s.Goes g 3 q 0x29 l r false → cmdAt l r.idx = c →
    r.phase = 1 → r.resv = some (first, bits c 216 12 + 1) → s.seqCtx (bits c 192 14) = some x → x.desc.toNat = d →
    s.Fetched g 3 l.part r [(bits c 64 56, (bits c 216 12 + 1) * (dHkv d + 1) * eBytes (bits c 233 4) (dDim d), false),
      (bits c 128 56, (bits c 216 12 + 1) * (dHkv d + 1) * eBytes (bits c 233 4) (dDim d), false)] →
    ((appendPairs c d first).length - r.written.length) * (2 * ceilDiv (dRb d) 2048) ≤ dmaSlice → s.fab.tracks = [] → s.xlat.accs = [] →
    s.readable l.part ((appendPairs c d first).map fun y => (y.1.1, y.1.2, false)) = true →
    s.writable (s.ctx l.ctx).part ((appendPairs c d first).map (·.2)) = true →
    ∃ t : State, exec (.kvappend g q) s = .next (settle t) ∧ (theRun t g 3 q r.idx).phase = 2 ∧ (theRun t g 3 q r.idx).st = 0 ∧
      (theRun t g 3 q r.idx).outstanding = 0 ∧ (theRun t g 3 q r.idx).denied = none ∧
      (theRun t g 3 q r.idx).count = bits c 216 12 + 1 ∧ (appendPairs c d first).length ≤ (theRun t g 3 q r.idx).written.length) ∧
  (∀ (s : State) (g q : Nat) (l : CmdList) (r : Running) (x : NdCmd), s.Settled → queueList (s.grp g) 3 q = some l →
    ((s.grp g).que 3 q).started.find? (fun r => r.opcode == 0x22 && r.st == 0) = some r → ndOf (cmdAt l r.idx) = x → r.rowsWritten = true →
    r.outstanding = readsOut s g q r.idx → r.phase ≠ 9 → r.faulting = false → tileRefusal s r x r.tiles = none → x.tctrEn = false →
    ∃ f : Running → Running, exec (.tileDelivered g q) s = .next (modRun s g 3 q r.idx f) ∧ (f r).tiles = r.tiles + 1 ∧
      (f r).rowsWritten = false ∧ (f r).written = [] ∧ (f r).successes = 0 ∧ ((f r).st = 1 ↔ x.tiles ≤ r.tiles + 1) ∧
      (x.tiles ≤ r.tiles + 1 → (f r).status = if r.wrotePoison then POISONED else OK)) ∧
  (∀ (s : State) (g q : Nat) (l : CmdList) (r : Running) (x : NdCmd), s.Settled → queueList (s.grp g) 3 q = some l →
    ((s.grp g).que 3 q).started.find? (fun r => r.opcode == 0x22 && r.st == 0) = some r → ndOf (cmdAt l r.idx) = x → r.rowsWritten = true →
    r.outstanding = readsOut s g q r.idx → r.phase ≠ 9 → r.faulting = false → tileRefusal s r x r.tiles = none → x.tctrEn = true →
    ctrOwner s g x.tctr = some l.part →
    ∃ t : State, exec (.tileDelivered g q) s = .next t ∧ (t.grp g).ctr x.tctr = (s.grp g).ctr x.tctr + 1 ∧ t.mem = s.mem ∧ t.flt = s.flt) ∧
  (∀ (s : State) (g q : Nat) (l : CmdList) (r : Running), s.Settled → queueList (s.grp g) 3 q = some l →
    ((s.grp g).que 3 q).started.find? (fun r => r.pageReq && r.st == 0 && r.phase != 9) = some r →
    exec (.pageRequestResponse g q 0) s =
      .next (modRun ((modRun (dropPageGroup s g q) g 3 q r.idx fun r => { r with pageReq := false, respCode := 0 }).modXlat fun t => { t with
          accs := t.accs.map fun a => if a.owner = .cmd g 3 q r.idx ∧ a.st = 3 then { a with st := 0 } else a }) g 3 q r.idx
        fun r => { r with faulting := false, missing := [], probes := [], ahead := true, successes := r.successes + 1 }) ∧
    (∀ code : Nat, 0 < code → code < 15 → exec (.pageRequestResponse g q code) s = .next (settle (ndFail
      (modRun (dropPageGroup s g q) g 3 q r.idx fun r => { r with pageReq := false, respCode := code }) g q l r DENIED))) ∧
    exec (.pageRequestResponse g q 0xF) s = .next (settle (ndFail (modRun (dropPageGroup (s.modXlat fun x => { x with priStopped := true }) g q)
      g 3 q r.idx fun r => { r with pageReq := false, respCode := 0xF }) g q l r DENIED)) ∧
    exec (.priTimeout g q) s = .next (settle (ndFail (modRun (dropPageGroup s g q) g 3 q r.idx fun r => { r with pageReq := false }) g q l r
      TIMEOUT)))

/-- COLL_JOIN waits at the head of its queue while its slot is still joined. One that R232 admits enters the operation once its SRC is
here, as its member's next, and completes; a scheduled one does at its frame. COLL_WAIT completes when the operation has ended for the
member (R174, R175, R232, R252). -/
def Obligations.CollectiveCommandsOfAListJoinStartAndWait : Prop :=
  (∀ (s w : State) (g q c slot m : Nat) (l : CmdList) (r : Running) (new : Bool) (n : CollNode), s.Goes g 0 q 0x30 l r new →
    cmdAt l r.idx = c → r.phase ≤ 1 → slotTaken s g l c = false → nodeOf s (bits c 224 16) = some (slot, n) →
    memberOf s n g = some m → n.part = l.part → joinOk s n (joinOp s g c) m (bits c 64 56) (bits c 128 56) (joinFrame c) = true →
    w = s.going g 0 q r new →
    w.Fetched g 0 l.part r (if (joinOp s g c).srcBytes m = 0 then [] else [(bits c 64 56, (joinOp s g c).srcBytes m, false)]) →
    exec (.collJoin g q) s = .next (settle ((enterJoin w g q l (theRun w g 0 q r.idx) c n.n m (joinOp s g c)).sliceOver g 0 0x30)) ∧
    (w.readable l.part (if (joinOp s g c).srcBytes m = 0 then [] else [(bits c 64 56, (joinOp s g c).srcBytes m, false)]) = true →
      (∀ f, joinFrame c = some f → f ≤ s.time.lfc) →
      ∃ (u : State) (k : Nat) (j : Join), exec (.collJoin g q) s = .next (settle ((memberJoins (endRun u g 0 q r.idx OK) g k).sliceOver g 0 0x30)) ∧
        (k, j) ∈ (u.grp g).joins ∧ j.list = l.id ∧ j.slot = bits c 282 5 ∧ j.group = bits c 224 16 ∧ j.member = m ∧
        j.opOf = joinOp s g c ∧ j.dst = bits c 128 56 ∧ (joinFrame c = none → j.late = false) ∧
        AMap.get 0 u.coll.memberGen (bits c 224 16 * 32 + g) = ((joinOp s g c).opgen + 1) % 65536)) ∧
  (∀ (s : State) (g q : Nat) (l : CmdList) (r : Running), s.Goes g 0 q 0x30 l r true → slotTaken s g l (cmdAt l r.idx) = true →
    exec (.collJoin g q) s = .next (unbegin (beginRun s g 0 q r) g 0 q r.idx |>.sliceOver g 0 0x30)) ∧
  (∀ (s : State) (g q k f : Nat) (r : Running) (j : Join), s.Settled →
    ((s.grp g).que 0 q).started.find? (fun r => r.opcode == 0x30 && r.st == 0 && r.phase != 9) = some r →
    (s.grp g).joins.find? (fun j => j.2.cmd == r.idx && j.2.queue == q && j.2.list == ((s.grp g).que 0 q).list && j.2.scheduled.isSome) =
      some (k, j) → j.scheduled = some f → f ≤ s.time.lfc →
    exec (.collScheduledStart g q) s = .next (settle (memberJoins (endRun s g 0 q r.idx OK) g k))) ∧
  (∀ (s : State) (g q i : Nat) (l : CmdList), s.Works g 0 q 0x31 l i →
    exec (.collWait g q) s = .next ((collWake (s.work g 0 q 0x31 i) g).sliceOver g 0 0x31) ∧
    (∀ (k : Nat) (j : Join), (s.grp g).joins.find? (fun y => y.2.list == l.id && y.2.slot == bits (cmdAt l i) 64 5 && joinFinished y.2) = some (k, j) →
      ∃ t : State, exec (.collWait g q) s = .next t ∧ (theRun t g 0 q i).st = 1 ∧ (theRun t g 0 q i).status = joinStatus j ∧
        (theRun t g 0 q i).count = joinPassed j))

/-- Requests of the host and of the management network reach the mailbox. MBX_DB and a request message make their slot pending, and a
slot that is pending or in service ignores another; the oldest request enters service and runs its command, or is answered from its
frame alone; a command that left the serialiser is answered when its hardware is done; a connection is opened with TLS 1.3 under an
installed anchor, with the events held for it, and is closed with its finished slots, or by a message that is not a request's
form (R386, R387, R389, R477, R478, R479). -/
def Obligations.RequestsReachTheMailboxAndAreServedInOrder : Prop :=
  (∀ (s : State) (k : Nat), s.Settled → hostUp s = true → k ≤ 15 → (AMap.get ({} : Slot) s.mbx.hostSlots k).st ≠ 1 →
    (AMap.get ({} : Slot) s.mbx.hostSlots k).st ≠ 2 → s.flt.phase ≠ 7 →
    ∃ a : Arrival, exec (.mbxDb k) s = .next (s.modMbx fun m => { m with
        hostSlots := (AMap.set m.hostSlots k { AMap.get ({} : Slot) m.hostSlots k with st := 1 })
        arrivals := m.arrivals ++ [a] }) ∧ a.master = .host ∧ a.slot = k ∧ a.gen = s.host.sluice.gen) ∧
  (∀ (s : State) (k : Nat), s.Settled → hostUp s = true → k ≤ 15 → ((AMap.get ({} : Slot) s.mbx.hostSlots k).st = 1 ∨
      (AMap.get ({} : Slot) s.mbx.hostSlots k).st = 2) →
    exec (.mbxDb k) s = .next (s.modMbx fun m => { m with ignored := m.ignored + 1 })) ∧
  (∀ (s : State) (c k r : Nat) (b : Bytes), s.Settled → 2 ≤ s.flt.phase → AMap.has s.mgmt.conns c = true → k ≤ 15 → b.length = 4096 →
    (AMap.get ({} : Slot) s.mbx.mgmtSlots k).st ≠ 1 → (AMap.get ({} : Slot) s.mbx.mgmtSlots k).st ≠ 2 →
    exec (.mgmtMessage c 1 k r 4096 b) s = .next (s.modMbx fun m => { m with
      mgmtSlots := (AMap.set m.mgmtSlots k { frame := if r = 0 then b else spoilFrame b, st := 1, conn := c })
      arrivals := m.arrivals ++ [{ master := .mgmt, slot := k, gen := s.host.sluice.gen }] })) ∧
  (∀ (s : State) (c kind k r : Nat) (b : Bytes), s.Settled → 2 ≤ s.flt.phase → AMap.has s.mgmt.conns c = true → k ≤ 15 →
    kind = 0 ∨ 5 < kind →
    exec (.mgmtMessage c kind k r b.length b) s = exec (.mgmtConnectionClose c) s) ∧
  (∀ (s : State) (c : Nat), s.Settled → AMap.has s.mgmt.conns c = true →
    exec (.mgmtConnectionClose c) s = .next ((s.modMgmt fun m => { m with conns := AMap.erase m.conns c }).modMbx fun m => { m with
      mgmtSlots := m.mgmtSlots.filter fun x => ! (x.2.conn == c && x.2.st == 3) })) ∧
  (∀ (s : State) (chain : Bytes), s.Settled → 2 ≤ s.flt.phase → (s.mgmt.anchors = [] ∨ s.mgmt.anchors.any (Config.chainsTo chain) = true) →
    s.mgmt.conns.length < 4 →
    ∃ c, 1 ≤ c ∧ AMap.has s.mgmt.conns c = false ∧ exec (.mgmtConnectionOpen true chain) s = .next (s.modMgmt fun m => { m with
      conns := (AMap.set m.conns c { out := m.heldEvents.map fun e => (3, 0, leBytes 64 e) })
      heldEvents := [] })) ∧
  (∀ (s : State) (chain : Bytes), s.Settled → exec (.mgmtConnectionOpen false chain) s = .next s) ∧
  (∀ (s s1 : State) (a : Arrival) (l : List Arrival) (r : Request) (c : Cmd) (v : List Val), s.Settled → s.mbx.cur = none →
    2 ≤ s.flt.phase → s.flt.phase ≠ 7 → s.mgmt.halted = false → s.mbx.arrivals = a :: l → a.master = .mgmt →
    requestOf s .mgmt a.gen (slotOf s a).frame = r → r.answer = .inr (c, v) → r.enc = false → r.tagFailed = false →
    s1 = s.modMbx (fun m => { m with
      arrivals := l
      cur := some { master := .mgmt, slot := a.slot, tag := r.tag, enc := false, gen := a.gen }
      mgmtSlots := AMap.set m.mgmtSlots a.slot { slotOf s a with st := 2 } }) →
    mustWait (c.run s1 .mgmt v) s r.code = false →
    exec .mailboxServiceStart s = .next (settle (c.run s1 .mgmt v))) ∧
  (∀ (s : State) (a : Arrival) (l : List Arrival) (r : Request), s.Settled → s.mbx.cur = none → 2 ≤ s.flt.phase → s.flt.phase ≠ 7 →
    s.mgmt.halted = false → s.host.wedged = false → s.mbx.arrivals = a :: l → a.master = .host →
    requestOf s .host a.gen (slotOf s a).frame = r → r.answer = .inl REFUSED → r.enc = false → r.tagFailed = false →
    ∃ t : State, exec .mailboxServiceStart s = .next t ∧ t.mbx.cur = none ∧ t.mbx.arrivals = l ∧
      t.mbx.resp = { master := .host, code := r.code, status := REFUSED, data := [] } ∧
      (AMap.get ({} : Slot) t.mbx.hostSlots a.slot).st = 3 ∧ t.mem = s.mem ∧ t.flt = s.flt) ∧
  (∀ (s : State) (i : Nat) (w : HwWait), s.Settled → s.mbx.hwWait[i]? = some w → w.ref = none → w.resp.status = OK →
    [0x0504, 0x0605, 0x0304, 0x0703, 0x0704].contains w.resp.code = false →
    exec (.serialiserHardwareWaitEnd i) s = .next (s.modMbx fun x => { x with
      hwWait := x.hwWait.eraseIdx i, resp := w.resp, served := x.served + 1 }))

/-- SPDM_REQUEST is answered in its transport's session state, GET_MEASUREMENTS brings a measurement or the signed evidence as
the state is now, and SPDM_HEARTBEAT_MISS ends its session and raises class 0x10 cause 2. The response codes are the model's
reading of the SPDM standard (R440, R492, R493, R494). -/
def Obligations.AttestationAnswersAndEndsSessions : Prop :=
  (∀ (s : State) (t : Nat), s.Settled → spdmUp s t = true →
    exec (.spdmRequest t .getVersion) s = .next (spdmAnswer s t 0x04) ∧
    exec (.spdmRequest t .getCapabilities) s = .next (spdmAnswer s t 0x61) ∧
    exec (.spdmRequest t .negotiateAlgorithms) s = .next (spdmAnswer s t 0x63) ∧
    exec (.spdmRequest t .getDigests) s = .next (spdmAnswer s t 0x01) ∧
    exec (.spdmRequest t .getCertificate) s = .next (spdmAnswer s t 0x02) ∧
    exec (.spdmRequest t .challenge) s = .next (spdmAnswer s t 0x03)) ∧
  (∀ (s : State) (t : Nat), s.Settled → spdmUp s t = true → s.mgmt.sessions.countP (fun e => sessionSide e.2 == sessionSide t) < 4 →
    exec (.spdmRequest t .keyExchange) s = .next (spdmAnswer (s.modMgmt fun m => { m with
      sessions := m.sessions ++ [(m.nextSession, t)], nextSession := m.nextSession + 1 }) t 0x64)) ∧
  (∀ (s : State) (t n : Nat), s.Settled → spdmUp s t = true → hasSession s t n = true →
    ∃ u : State, exec (.spdmRequest t (.endSession n)) s = .next u ∧ hasSession u t n = false ∧ u.mem = s.mem ∧ u.flt = s.flt ∧
      u.host = s.host ∧ u.mgmt.spdmOut = s.mgmt.spdmOut ++ [(t, 0x6C)]) ∧
  (∀ (s : State) (t i : Nat) (b : Bytes), s.Settled → spdmUp s t = true → 1 ≤ i → i ≤ 13 →
    exec (.getMeasurements t i b) s = .next (spdmAnswer (s.modMgmt fun m => { m with evidence := leBytes 48 (measurement s i) }) t 0x60)) ∧
  (∀ (s : State) (t : Nat) (b : Bytes), s.Settled → spdmUp s t = true → b.length = 32 →
    exec (.getMeasurements t 0xEF b) s = .next (spdmAnswer (s.modMgmt fun m => { m with evidence := evidenceOf s b }) t 0x60)) ∧
  (∀ (s : State) (n : Nat), s.Settled → s.mgmt.sessions.any (·.1 == n) = true →
    exec (.spdmHeartbeatMiss n) s = .next (settle (raise (s.modMgmt fun m => { m with
      sessions := m.sessions.filter fun e => e.1 != n }) { die := 18, cls := 0x10, cause := 2 })))

/-- The serial console at the level a command needs: STATUS, RD, SENSORS, LOG and HIST print; CHALLENGE issues a nonce, which lapses
after ten minutes; UNLOCK with a good token raises the level, and the level ends with its duration or with LOCK; MBX runs a
mailbox command; WR, NET, INJECT, JTAG, HALT and STEP act; RECOVER in recovery commits an image and restarts. Below its level
a command changes nothing (R490, R506, R507, R508). -/
def Obligations.TheConsoleActsAtItsLevel : Prop :=
  (∀ (s : State), s.Settled → oagalUp s = true →
    (∃ l, exec .oagalStatus s = .next (oagalPrint s l) ∧ l.head? = some (1, s.flt.phase)) ∧
    exec .oagalChallenge s = .next (oagalPrint (State.modMgmt { s with fresh := s.fresh + 1 } fun m => { m with
      nonce := some (Config.free s.fresh % 2 ^ 128), nonceAt := s.time.lfc }) [(16, Config.free s.fresh % 2 ^ 128)])) ∧
  (∀ (s : State), s.Settled → s.mgmt.nonce ≠ none → s.mgmt.nonceAt + secFrames 600 ≤ s.time.lfc →
    exec .oagalNonceExpiry s = .next (s.modMgmt fun m => { m with nonce := none })) ∧
  (∀ (s : State) (b : Bytes), s.Settled → oagalUp s = true → s.flt.phase ≠ 8 →
    ∃ t : State, exec (.oagalUnlock b) s = .next t ∧ (tokenOk s b = none → t = s) ∧
      (∀ n d, tokenOk s b = some (n, d) → t.mgmt.oagalLevel = n ∧ t.mgmt.nonce = none ∧ t.mgmt.oagalUntil = s.time.lfc + secFrames d) ∧
      t.mem = s.mem ∧ t.flt = s.flt ∧ t.host = s.host) ∧
  (∀ (s : State), s.Settled → s.mgmt.oagalLevel ≠ 0 → s.mgmt.oagalUntil ≤ s.time.lfc →
    ∃ t : State, exec .oagalUnlockExpiry s = .next t ∧ t.mgmt.oagalLevel = 0 ∧ t.mgmt.jtag = false ∧ t.mem = s.mem ∧ t.flt = s.flt) ∧
  (∀ (s : State), s.Settled → oagalUp s = true → s.flt.phase ≠ 8 →
    ∃ t : State, exec .oagalSerialLock s = .next t ∧ t.mgmt.oagalLevel = 0 ∧ t.mem = s.mem ∧ t.flt = s.flt) ∧
  (∀ (s : State), s.Settled → oagalUp s = true → s.flt.phase ≠ 8 → 1 ≤ s.mgmt.oagalLevel →
    (∀ a, a % 8 = 0 → a < 0x200000 → exec (.oagalRd a) s = .next (oagalPrint s [(8, bar0Word s a)])) ∧
    exec .oagalSensors s = .next (oagalPrint (readSensors s 0 176).1 ((readSensors s 0 176).2.map fun v => (2, v))) ∧
    exec .oagalLog s = .next (oagalPrint s (s.mgmt.log.map fun r => (128, r))) ∧
    exec .oagalHist s = .next (oagalPrint s (s.flt.history.map fun h => (64, h)))) ∧
  (∀ (s : State) (f : Bytes) (r : Request), s.Settled → oagalUp s = true → s.flt.phase ≠ 8 → 1 ≤ s.mgmt.oagalLevel → f.length = 4096 →
    s.mbx.cur = none → s.mgmt.halted = false → requestOf s .mgmt 0 f = r → r.answer = .inl REFUSED → r.code ≠ 0 →
    ∃ t : State, exec (.oagalMbx f) s = .next t ∧ t.mgmt.oagalOut = [(2, r.code), (1, REFUSED)] ∧ t.mem = s.mem ∧ t.flt = s.flt) ∧
  (∀ (s : State) (f : Bytes) (r : Request) (c : Cmd) (v : List Val), s.Settled → oagalUp s = true → s.flt.phase ≠ 8 →
    2 ≤ s.mgmt.oagalLevel → f.length = 4096 → s.mbx.cur = none → s.mgmt.halted = false → requestOf s .mgmt 0 f = r →
    r.answer = .inr (c, v) → r.keys = [] →
    ∃ l, exec (.oagalMbx f) s = .next (settle (oagalPrint (c.run (s.modMbx fun m => { m with resp := {} }) .mgmt v) l))) ∧
  (∀ (s : State), s.Settled → oagalUp s = true → s.flt.phase ≠ 8 → 2 ≤ s.mgmt.oagalLevel →
    (∀ a (v : BitVec 64), a % 8 = 0 → a < 0x200000 → (readBar0 s a 8).isSome = true →
      exec (.oagalWr a v) s = .next (settle (bar0Store s a 8 v.toNat))) ∧
    (∀ a (v : BitVec 64), a % 8 = 0 → 0x200000 ≤ a → s.base ≤ a → isCtlOff (a - s.base) = true →
      exec (.oagalWr a v) s = .next (settle (writeCtl s (a - s.base) (ctlPart s (a - s.base)) opWR (leBytes 8 v.toNat) none).1)) ∧
    (∀ (sg : Bool) (b : Bytes), exec (.oagalNet sg b) s = .next (s.modMgmt fun m => { m with netSgmii := sg, netAddrs := b })) ∧
    (∀ cls inst cause n, sourceOk' cls inst = true → 1 ≤ cause → cause ≤ causeCount cls → 1 ≤ n → n ≤ 255 →
      exec (.oagalInject cls inst cause n) s =
        .next (settle (injectN s { die := raiseDie cls inst, cls := cls, inst := inst, cause := cause } n)))) ∧
  (∀ (s : State), s.Settled → oagalUp s = true → s.flt.phase ≠ 8 → 3 ≤ s.mgmt.oagalLevel →
    exec .oagalJtag s = .next (s.modMgmt fun m => { m with jtag := true }) ∧
    exec .oagalHalt s = .next (s.modMgmt fun m => { m with halted := true }) ∧
    (s.mgmt.halted = true → exec .oagalStep s = .next (s.modMgmt fun m => { m with steps := m.steps + 1 }))) ∧
  (∀ (s : State) (b : Bytes), s.Settled → s.flt.phase = 8 → b.length ≤ 48 * 2 ^ 20 → s.mgmt.update.writing = none →
    ∃ t : State, exec (.oagalRecover b true) s = .next t ∧ t.mem = s.mem ∧ (parseImage s b = none → t.flt.phase = 8) ∧
      ∀ i, parseImage s b = some i → t.flt.phase = 1 ∧ t.mgmt.update.flash = some i ∧ t.mgmt.update.committed = true ∧
        t.mgmt.update.flashInvalid = false) ∧
  (∀ (s : State), s.Settled → s.mgmt.oagalLevel = 0 →
    (∀ a, exec (.oagalRd a) s = .next s) ∧ (∀ a v, exec (.oagalWr a v) s = .next s) ∧ (∀ f, exec (.oagalMbx f) s = .next s) ∧
    (∀ g b, exec (.oagalNet g b) s = .next s) ∧ (∀ a b c d, exec (.oagalInject a b c d) s = .next s) ∧ exec .oagalSensors s = .next s ∧
    exec .oagalLog s = .next s ∧ exec .oagalHist s = .next s ∧ exec .oagalJtag s = .next s ∧ exec .oagalHalt s = .next s ∧
    exec .oagalStep s = .next s)

/-- BAR2 while it is served: a read of bytes served here answers them, and counts as an access of the host; a write that its target
admits is stored; an address of another partition ends with Completer Abort and a refusal. While BAR2 is not served a read is an
Unsupported Request and a write is dropped and counted (R43, R382, R383). -/
def Obligations.Bar2ReadsAndWritesThePoolForItsPartition : Prop :=
  (∀ (s t : State) (o n node off : Nat), s.Settled → hostUp s = true → bar2Shape o n = true → s.power.standby = false →
    bar2Served s = true → accCheck s s.self (bar2Off s o) n s.host.mapPart false = some OK → placeOf s (s.base + bar2Off s o) = .here node off →
    t = countRange s 32 (s.base + bar2Off s o) n →
    ∃ u : State, u = meetErrors (drainTarget t (targetOf t node off)) (keyOf s node off) n ∧
      exec (.bar2Read o n) s = .next (settle (hostAnswer u (if badAtoms u (keyOf s node off) n s.host.mapPart = [] then
        .data (readMem u (keyOf s node off) n s.host.mapPart) else .poisoned)))) ∧
  (∀ (s : State) (o n : Nat), s.Settled → hostUp s = true → bar2Shape o n = true → s.power.standby = false → bar2Served s = true →
    accCheck s s.self (bar2Off s o) n s.host.mapPart false = none →
    exec (.bar2Read o n) s = .next (settle (bar2Hold (hostAnswer s .none) (bar2Off s o) n s.host.mapPart []))) ∧
  (∀ (s : State) (o n : Nat), s.Settled → hostUp s = true → bar2Shape o n = true → s.power.standby = false → bar2Served s = true →
    accCheck s s.self (bar2Off s o) n s.host.mapPart false = some DENIED →
    exec (.bar2Read o n) s = .next (settle (hostAnswer (bar2Refuse s (bar2Off s o) opRD) .completerAbort))) ∧
  (∀ (s : State) (o n : Nat), s.Settled → hostUp s = true → bar2Shape o n = true → s.power.standby = false → bar2Served s = false →
    exec (.bar2Read o n) s = .next (hostAnswer s .unsupportedRequest)) ∧
  (∀ (s : State) (o : Nat) (d : Bytes), s.Settled → hostUp s = true → bar2Shape o d.length = true → s.power.standby = false →
    bar2Served s = true → accCheck s s.self (bar2Off s o) d.length s.host.mapPart true = some OK →
    exec (.bar2Write o d) s = .next (settle (hostStore (countRange s 32 (s.base + bar2Off s o) d.length) (bar2Off s o) s.host.mapPart d .bar2))) ∧
  (∀ (s : State) (o : Nat) (d : Bytes), s.Settled → hostUp s = true → bar2Shape o d.length = true → s.power.standby = false →
    bar2Served s = false →
    exec (.bar2Write o d) s = .next (s.modHost fun h => { h with bar2Drops := h.bar2Drops + 1 }))

/-- Writes to BAR0 and what else reaches the function. A register write is stored as its register takes it: the queues of events
and responses, BAR2_MAP, PRI_TMO, and a byte range of a free mailbox slot; counters are cleared; a vector is unmasked and its pending
interrupt sent; a configuration request gets Retry Status before Ibfen runs and otherwise acts; the link's state is taken; a function
that stops is wedged and raises class 0x09 (R5, R50, R103, R375, R379, R381, R385, R386, R408, R440, R456). -/
def Obligations.TheFunctionTakesWritesConfigurationAndItsLink : Prop :=
  (∀ (s : State) (v : Nat), s.Settled → hostUp s = true → v < 2 ^ 18 →
    exec (.registerWrite 0x050 8 v) s = .next (s.modHost fun h => { h with respq := bits v 0 9, evq := bits v 9 9 })) ∧
  (∀ (s : State) (v : Nat), s.Settled → hostUp s = true → v < 2 ^ 12 →
    exec (.registerWrite 0x058 8 v) s = .next (s.modHost fun h => { h with mapWin := bits v 0 5, mapPart := bits v 5 6, mapEn := bitAt v 11 })) ∧
  (∀ (s : State) (v : Nat), s.Settled → hostUp s = true → v < 0xE →
    exec (.registerWrite 0x020 4 v) s = .next (s.modXlat fun t => { t with priTmo := v })) ∧
  (∀ (s : State) (k o n v : Nat), s.Settled → hostUp s = true → s.flt.phase ≠ 7 → k < 16 → o < 4096 → n = 4 ∨ n = 8 ∨ n = 16 ∨ n = 32 ∨ n = 64 →
    o % n = 0 → (AMap.get ({} : Slot) s.mbx.hostSlots k).st ≠ 1 → (AMap.get ({} : Slot) s.mbx.hostSlots k).st ≠ 2 → v < 2 ^ (8 * n) →
    exec (.registerWrite (0x10000 + 4096 * k + o) n v) s = .next (s.modMbx fun m => { m with
      hostSlots := AMap.set m.hostSlots k { AMap.get ({} : Slot) s.mbx.hostSlots k with
        frame := splice (slice (AMap.get ({} : Slot) s.mbx.hostSlots k).frame 0 4096) o (leBytes n v) } })) ∧
  (∀ (s : State) (p : Nat), s.Settled → p < 128 →
    exec (.linkErrClr p) s = .next (s.modPrt p fun x => { x with crcErr := 0, replays := 0, retrains := 0, downs := 0, fecUncorr := 0 })) ∧
  (∀ (s : State) (n : Nat), s.Settled → hostUp s = true → n < 32 →
    exec (.msErrcntClr n) s = .next (s.modStk n fun x => { x with ce := 0, ue := 0 })) ∧
  (∀ (s : State) (v : Nat), s.Settled → hostUp s = true → v < 2048 → (AMap.get ({} : Msix) s.host.msix v).pendingBit = true →
    s.host.functionMask = false →
    ∃ t : State, exec (.msixUnmask v) s = .next t ∧ t.host.irqs = s.host.irqs ++ [v] ∧
      (AMap.get ({} : Msix) t.host.msix v).masked = false ∧ (AMap.get ({} : Msix) t.host.msix v).pendingBit = false ∧
      t = { s with host := t.host }) ∧
  (∀ (s : State) (op : ConfigOp), s.Settled → s.host.wedged = false → s.flt.phase < 2 →
    exec (.configRequest op) s = .next (s.modHost fun h => { h with retryStatus := true })) ∧
  (∀ (s : State) (on : Bool), s.Settled → s.host.wedged = false → 2 ≤ s.flt.phase →
    exec (.configRequest .read) s = .next (s.modHost fun h => { h with retryStatus := false }) ∧
    exec (.configRequest (.atsEnable true)) s =
      .next ((s.modHost fun h => { h with retryStatus := false }).modXlat fun t => { t with atsOn := true }) ∧
    exec (.configRequest (.priEnable on)) s =
      .next ((s.modHost fun h => { h with retryStatus := false }).modXlat fun t => { t with priEn := on }) ∧
    exec (.configRequest (.functionMask true)) s = .next (s.modHost fun h => { h with retryStatus := false, functionMask := true }) ∧
    exec (.configRequest (.atsEnable false)) s =
      .next (settle (hostSend ((s.modHost fun h => { h with retryStatus := false }).modXlat fun t => { t with
        atsOn := false, atc := [], copies := []
        accs := t.accs.map fun a => if a.st = 0 then { a with st := 1, untranslated := true, stale := false } else a })))) ∧
  (∀ (s : State) (flit : Bool) (speed width : Nat), s.Settled →
    exec (.hostLinkStateChange false flit speed width) s = .next (s.modHost fun h => { h with
      linkUp := false, flit := false, speed := 0, width := 0 }) ∧
    (1 ≤ speed → speed ≤ 7 → (width = 1 ∨ width = 2 ∨ width = 4 ∨ width = 8) → (flit = false → speed ≤ 5) →
      exec (.hostLinkStateChange true flit speed width) s = .next (s.modHost fun h => { h with
        linkUp := true, flit := flit, speed := speed, width := width }))) ∧
  (∀ (s : State), s.Settled → s.host.wedged = false →
    exec .priStoppedClear s = .next (s.modXlat fun t => { t with priStopped := false })) ∧
  (∀ (s : State), s.Settled → s.host.wedged = false → 2 ≤ s.flt.phase →
    exec .wedgeDetect s = .next (settle (raise (s.modHost fun h => { h with wedged := true }) { die := 19, cls := 9, cause := 1 })))

/-- The shared queues. A whole pop returns the entry at the head and removes it; of an empty queue it returns the last one popped
and sets UNDERRUN; a partial one returns zeros. QCFG takes a valid setting, ARM interrupts at once where its condition holds, QRESET
empties the queue, flags are cleared by writing 1, and a moderation delay that expires marks what is held (R394–R400). -/
def Obligations.SharedQueuesPopArmAndReset : Prop :=
  (∀ (s : State) (q e : Nat) (es : List Nat), s.Settled → hostUp s = true → q < 512 → (s.squeue q).stuck = false →
    (s.squeue q).entries = e :: es →
    exec (.popRead q true false) s = .next (hostAnswer (s.setSqueue q { s.squeue q with
      entries := es, lastPop := e, heldItr := (s.squeue q).heldItr && ! es.isEmpty }) (.data (leBytes 64 e)))) ∧
  (∀ (s : State) (q : Nat), s.Settled → hostUp s = true → q < 512 → (s.squeue q).entries = [] →
    exec (.popRead q true false) s =
      .next (hostAnswer (s.setSqueue q { s.squeue q with underrun := true }) (.data (leBytes 64 (s.squeue q).lastPop)))) ∧
  (∀ (s : State) (q : Nat), s.Settled → hostUp s = true → q < 512 →
    exec (.popRead q false false) s = .next (hostAnswer s (.data (List.replicate 64 0)))) ∧
  (∀ (s : State) (q : Nat) (v : BitVec 64), s.Settled → hostUp s = true → q < 512 → bits v.toNat 57 7 = 0 → bits v.toNat 1 2 ≠ 3 →
    bits v.toNat 31 16 ≠ 0 → (bitAt v.toNat 30 = false ∨ (s.qcfg q).irqEn = true) →
    ∃ t : State, exec (.qcfgWrite q v) s = .next t ∧
      t.qcfg q = { en := bitAt v.toNat 0, ty := if (s.qcfg q).en || bitAt v.toNat 0 then (s.qcfg q).ty else bits v.toNat 1 2
                   quota := bits v.toNat 3 16, vec := bits v.toNat 19 11, irqEn := bitAt v.toNat 30, thresh := bits v.toNat 31 16
                   itr := bits v.toNat 47 10 } ∧
      ((s.qcfg q).en = true → bitAt v.toNat 0 = false → (t.squeue q).entries = []) ∧ t = { s with host := t.host } ∧
      (∀ k, k ≠ q → t.qcfg k = s.qcfg k ∧ t.squeue k = s.squeue k)) ∧
  (∀ (s : State) (q : Nat), s.Settled → hostUp s = true → q < 512 → (s.qcfg q).irqEn = true →
    irqDue (s.qcfg q) (s.squeue q) = true → (AMap.get ({} : Msix) s.host.msix (s.qcfg q).vec).masked = false → s.host.functionMask = false →
    ∃ t : State, exec (.queueArm q) s = .next t ∧ t.host.irqs = s.host.irqs ++ [(s.qcfg q).vec] ∧ (t.squeue q).armed = false ∧
      (t.squeue q).entries = (s.squeue q).entries) ∧
  (∀ (s : State) (q : Nat), s.Settled → hostUp s = true → q < 512 → irqDue (s.qcfg q) (s.squeue q) = false →
    exec (.queueArm q) s = .next (s.setSqueue q { s.squeue q with armed := true })) ∧
  (∀ (s : State) (q : Nat), s.Settled → hostUp s = true → q < 512 →
    exec (.qreset q) s = .next (s.setSqueue q { s.squeue q with entries := [], lostCells := 0, waiting := false, heldItr := false })) ∧
  (∀ (s : State) (q : Nat) (u o b : Bool), s.Settled → hostUp s = true → q < 512 →
    ∃ x : SQueue, exec (.qstatusFlagClear q u o b) s = .next (s.setSqueue q x) ∧ x.underrun = ((s.squeue q).underrun && ! u) ∧
      x.overflow = ((s.squeue q).overflow && ! o) ∧ x.broken = ((s.squeue q).broken && ! b) ∧ x.entries = (s.squeue q).entries) ∧
  (∀ (s : State) (q : Nat), s.Settled → s.host.wedged = false → (s.squeue q).waiting = true → (s.qcfg q).irqEn = false →
    exec (.interruptModerationExpiry q) s = .next (s.setSqueue q { s.squeue q with
      waiting := false, heldItr := (s.squeue q).heldItr || ! (s.squeue q).entries.isEmpty }))

/-- Host translation. A completion that grants the access is cached, in the cache and in its engine's copy, and lets the access go; one
that does not is the fault of R56 or R57; an access whose range was invalidated meanwhile asks again. An invalidation drops what it
names, from the copies too, and is complete when the accesses made under it have ended; a read of host memory brings its bytes to the
one who waits for them, but for those that a DMA_ND fetched under a translation invalidated meanwhile (R48–R57). -/
def Obligations.TranslationsArriveAreInvalidatedAndBringTheirData : Prop :=
  (∀ (s : State) (i base size ta : Nat) (r w : Bool) (a : HostAcc), s.Settled → s.xlat.accs[i]? = some a → s.host.wedged = false →
    a.st = 0 → a.stale = false → (if a.write then w else r) = true → xlatCovers a base size = true →
    exec (.translationCompletion i r w base size ta) s = .next (settle (hostSend
      ((atcUse (fillAtc s { pasid := a.pasid, base := base, size := size, taddr := ta, r := r, w := w }) a.owner a.pasid a.addr
        a.write).1.modXlat fun t => { t with accs := t.accs.mapIdx fun j x => if j = i then { x with st := 1 } else x })))) ∧
  (∀ (s : State) (i base size ta : Nat) (a : HostAcc), s.Settled → s.xlat.accs[i]? = some a → s.host.wedged = false →
    a.st = 0 → a.stale = false →
    exec (.translationCompletion i false false base size ta) s = .next (settle (xlatFault s a)) ∧
    (∀ r w, (r || w) = true → (if a.write then w else r) = false → xlatCovers a base size = true →
      exec (.translationCompletion i r w base size ta) s = .next (settle (xlatFault
        (fillAtc s { pasid := a.pasid, base := base, size := size, taddr := ta, r := r, w := w }) a)))) ∧
  (∀ (s : State) (i base size ta : Nat) (r w : Bool) (a : HostAcc), s.Settled → s.xlat.accs[i]? = some a → s.host.wedged = false →
    a.st = 0 → a.stale = true →
    exec (.translationCompletion i r w base size ta) s = .next (s.modXlat fun t => { t with
      accs := t.accs.mapIdx fun j x => if j = i then { x with stale := false } else x })) ∧
  (∀ (s : State) (tag p base size : Nat), s.Settled → s.host.wedged = false → s.xlat.invals.length < 32 →
    s.xlat.invals.any (fun v => v.tag == tag) = false →
    ∃ t : State, exec (.atsInvalidationRequest tag p base size) s = .next t ∧
      t.xlat.invals = s.xlat.invals ++ [{ tag := tag, pasid := p, base := base, size := size }] ∧
      (∀ e ∈ t.xlat.atc, ¬ (e.pasid = invPasid p ∧ e.base < base + size ∧ base < e.base + e.size)) ∧
      (∀ e ∈ s.xlat.atc, ¬ (e.pasid = invPasid p ∧ e.base < base + size ∧ base < e.base + e.size) → e ∈ t.xlat.atc) ∧
      (∀ c ∈ t.xlat.copies, ∀ e ∈ c.2, ¬ (e.pasid = invPasid p ∧ e.base < base + size ∧ base < e.base + e.size)) ∧
      t.mem = s.mem ∧ t.host = s.host) ∧
  (∀ (s : State) (tag : Nat) (v : Inval), s.Settled → s.host.wedged = false → (s.xlat.invals.find? fun v => v.tag == tag) = some v →
    invQuiet s (invPasid v.pasid) v.base v.size = true →
    exec (.invalidationComplete tag) s = .next (s.modXlat fun t => { t with invals := t.invals.filter fun v => v.tag != tag })) ∧
  (∀ (s : State) (i : Nat) (d : Bytes) (a : HostAcc), s.Settled → s.xlat.accs[i]? = some a → s.host.wedged = false →
    accGoes s.xlat.accs a = true → a.write = false → d.length = a.len → (a.stale = false ∨ ndOwner s a.owner = false) →
    exec (.hostReadCompletion i true d) s = .next (settle (flushDone (accEnds s a OK d)))) ∧
  (∀ (s : State) (i : Nat) (d : Bytes) (a : HostAcc), s.Settled → s.xlat.accs[i]? = some a → s.host.wedged = false →
    accGoes s.xlat.accs a = true → a.write = false → d.length = a.len → a.stale = true → ndOwner s a.owner = true →
    exec (.hostReadCompletion i true d) s = .next (settle (flushDone (modOwner (endAcc s a) a.owner fun r => { r with
      outstanding := r.outstanding - 1, reqd := r.reqd.filter fun p => p.1 != a.names })))) ∧
  (∀ (s : State) (i : Nat) (d : Bytes) (a : HostAcc), s.Settled → s.xlat.accs[i]? = some a → s.host.wedged = false →
    accGoes s.xlat.accs a = true → a.write = false →
    exec (.hostReadCompletion i false d) s = .next (settle (flushDone (accEnds s a DENIED []))))

/-- Sluice: the doorbell takes a tail within the ring, the ring register a valid size and base while no descriptor is in flight;
a descriptor that is ill formed completes REFUSED, one that comes when the session is closed completes DENIED, and one that can be
served moves its segments and completes with the outcome and their number (R404, R405, R406, R407). -/
def Obligations.SluiceTakesItsRingAndCompletesDescriptors : Prop :=
  (∀ (s : State) (v : BitVec 64), s.Settled → hostUp s = true → v.toNat < 2 ^ s.host.sluice.sizeLog2 →
    exec (.sluiceDb v) s = .next (modSluice s fun x => { x with tail := v.toNat })) ∧
  (∀ (s : State) (v : BitVec 64), s.Settled → hostUp s = true → s.host.sluice.head = s.host.sluice.tail → 6 ≤ bits v.toNat 0 4 →
    bits v.toNat 0 4 ≤ 12 → bits v.toNat 4 8 = 0 →
    ∃ x : Sluice, exec (.sluiceRingWrite v) s = .next (modSluice s fun _ => x) ∧ x.sizeLog2 = bits v.toNat 0 4 ∧
      x.base = v.toNat / 2 ^ 12 ∧ x.head = x.tail ∧ x.head < 2 ^ x.sizeLog2 ∧ x.st = s.host.sluice.st ∧ x.gen = s.host.sluice.gen) ∧
  (∀ (s : State) (w : BitVec 512) (l : List (Bytes × Nat)), s.Settled → s.host.wedged = false → s.host.sluice.st = 2 →
    s.host.sluice.head ≠ s.host.sluice.tail → s.host.sluice.flight = none → s.host.sluice.outstanding = 0 →
    exec (.sluiceDescriptor w l) s = .next (sluiceEnd s (sluiceDesc w.toNat)
      (if (sluiceDesc w.toNat).dir then AMap.get 0 s.host.sluice.nextD2h s.host.sluice.gen else (sluiceDesc w.toNat).ctr) s.host.sluice.gen (DENIED, 0))) ∧
  (∀ (s : State) (w : BitVec 512) (l : List (Bytes × Nat)), s.Settled → s.host.wedged = false → s.host.sluice.st = 1 →
    s.host.sluice.head ≠ s.host.sluice.tail → s.host.sluice.flight = none → s.host.sluice.outstanding = 0 →
    sluiceOk s (sluiceDesc w.toNat) = false →
    exec (.sluiceDescriptor w l) s = .next (sluiceEnd s (sluiceDesc w.toNat)
      (if (sluiceDesc w.toNat).dir then AMap.get 0 s.host.sluice.nextD2h s.host.sluice.gen else (sluiceDesc w.toNat).ctr) s.host.sluice.gen (REFUSED, 0))) ∧
  (∀ (s : State) (w : BitVec 512) (l : List (Bytes × Nat)) (d : SluiceDesc), s.Settled → s.host.wedged = false → s.host.sluice.st = 1 →
    s.host.sluice.head ≠ s.host.sluice.tail → s.host.sluice.flight = none → s.host.sluice.outstanding = 0 → sluiceDesc w.toNat = d →
    sluiceOk s d = true → sluiceHeld s d = false → sluiceAway s d = [] → d.dir = true → s.host.sluice.failed = false →
    exec (.sluiceDescriptor w l) s = .next (settle (sluiceEnd (sluiceOut s d (sluiceSegs d.len)).1 d
      (AMap.get 0 s.host.sluice.nextD2h s.host.sluice.gen) s.host.sluice.gen
      (sluiceOut s d (sluiceSegs d.len)).2))) ∧
  (∀ (s u : State) (w : BitVec 512) (l : List (Bytes × Nat)) (d : SluiceDesc), s.Settled → s.host.wedged = false → s.host.sluice.st = 1 →
    s.host.sluice.head ≠ s.host.sluice.tail → s.host.sluice.flight = none → s.host.sluice.outstanding = 0 → sluiceDesc w.toNat = d →
    sluiceOk s d = true → sluiceHeld s d = false → d.dir = false → l.length = (sluiceSegs d.len).length →
    (∀ y ∈ (sluiceSegs d.len).zip l, y.2.1.length = y.1.2.2) →
    u = modSluice s (fun x => { x with lastH2d := some (d.ctr + (sluiceSegs d.len).length - 1) }) →
    exec (.sluiceDescriptor w l) s = .next (settle (sluiceEnd (sluiceIn u d (sluiceSegs d.len) l).1 d d.ctr s.host.sluice.gen
      (sluiceIn u d (sluiceSegs d.len) l).2)))

/-- A packet that comes over a link to another package goes on, or is served, once no request that waits here touches a common atom; one
that breaks R288 is counted and, where it needs an
answer, answered REFUSED; one of an end point is bound to a context, checked, and given a fabric tag, a partition and a tracker, or is
refused there (R30, R31, R41, R42, R43, R288, R290, R293). -/
def Obligations.PacketsAreAdmittedCheckedOrRefused : Prop :=
  (∀ (s : State) (p : Packet), s.Arriving p → p.opcode = opRD → malformed p = false → (p.inPort < 128 → epOf s p.inPort = none) →
    forHere s p = false →
    exec (.rd p) s = .next (s.modFab fun f => { f with inbuf := f.inbuf ++ [{ port := p.inPort, vc := p.vc, pkt := p }] })) ∧
  (∀ (s : State) (p : Packet), s.Arriving p → p.opcode = opRD → malformed p = false → (p.inPort < 128 → epOf s p.inPort = none) →
    forHere s p = true →
    (s.Ahead p → exec (.rd p) s = .next (serveRead s p).served) ∧ (¬ s.Ahead p → exec (.rd p) s = .next (park s p))) ∧
  (∀ (s : State) (p : Packet), s.Arriving p → p.opcode = opWRP → malformed p = true → fromEp s p = true →
    exec (.wrp p) s = .next (countRefused s)) ∧
  (∀ (s : State) (p : Packet), s.Arriving p → p.opcode = opWR → malformed p = true → fromEp s p = false →
    exec (.wr p) s = .next (answer (countRefused s) p REFUSED [])) ∧
  (∀ (s : State) (p : Packet) (ep : Nat), s.Arriving p → p.opcode = opRD → malformed p = false → p.inPort < 128 →
    epOf s p.inPort = some ep → p.vc = 1 → p.fwd = false → p.term = false → AMap.find s.xlat.binds (ep % 16 * 64 + p.part) = none →
    exec (.rd p) s = .next (settle (answerEp (noteRefusal s (p.inPort / 16) none p.addr p.part opRD) p DENIED))) ∧
  (∀ (s : State) (p : Packet) (ep c : Nat), s.Arriving p → p.opcode = opWRP → malformed p = false → p.inPort < 128 →
    epOf s p.inPort = some ep → p.vc = 1 → p.fwd = false → p.term = false → AMap.find s.xlat.binds (ep % 16 * 64 + p.part) = some c →
    isHostOff (addrOff p.addr) = false → reach s c p.addr (max 1 p.len) .wr = none →
    exec (.wrp p) s = .next (settle (noteRefusal s (p.inPort / 16) (some c) p.addr p.part opWRP))) ∧
  (∀ (s : State) (p q : Packet) (ep c part : Nat), s.Arriving p → p.opcode = opRD → malformed p = false → p.inPort < 128 →
    epOf s p.inPort = some ep → p.vc = 1 → p.fwd = false → p.term = false → AMap.find s.xlat.binds (ep % 16 * 64 + p.part) = some c →
    isHostOff (addrOff p.addr) = false → reach s c p.addr (max 1 p.len) .rd = some part → s.fab.dead.contains (addrNode p.addr) = false →
    tracksOf s p.inPort < 4096 → p.holder = none → addrNode p.addr ≠ s.self → s.flt.servingPartner = false →
    q = { p with tag := freeTag s p.inPort, part := part, colour := 0, epoch := s.route.active.epoch } →
    exec (.rd p) s = .next (s.modFab fun f => { f with
      tracks := f.tracks ++ [{ ingress := some p.inPort, tag := q.tag, origTag := p.tag, pkt := q, ctx := c, issuedAt := s.time.lfc }]
      inbuf := f.inbuf ++ [{ port := p.inPort, vc := 1, pkt := q }] }))

/-- An RD or RDV of this node that its checks allow answers the bytes, after every write accepted for its target, and counts as
an access of its requester: of the pool where the tile is in a stack here, and of a control window its registers; one of a tile that
lies elsewhere goes on there, one for which the tile is being fetched waits for its flip, and one that is held waits; one that crosses
a 4 KiB boundary is REFUSED; one of another partition is DENIED and noted; one that names a lost parcel or poisoned atoms is POISONED
(R32, R43, R83, R86, R90, R260, R294, R300, R303, R309). -/
def Obligations.ReadPacketsAnswerWhatTheTargetHolds : Prop :=
  ∀ (s v : State) (p : Packet) (i : Instr), s.Delivered p → (p.opcode = opRD ∧ i = .rd p) ∨ (p.opcode = opRDV ∧ i = .rdv p) →
    v = fetchFor (s.taking p) p s.self (addrOff p.addr) →
    (crosses p.addr p.len = true ∨ p.ctrEn = true → exec i s = .next (answer (s.taking p) p REFUSED []).served) ∧
    (crosses p.addr p.len = false → p.ctrEn = false → addrNode p.addr = s.self →
      (accCheck s s.self (addrOff p.addr) p.len p.part (copyRead p) = some DENIED → exec i s = .next (denyReq (s.taking p) p).served) ∧
      (accCheck s s.self (addrOff p.addr) p.len p.part (copyRead p) = some POISONED →
        exec i s = .next (answer (s.taking p) p POISONED []).served) ∧
      (accCheck s s.self (addrOff p.addr) p.len p.part (copyRead p) = some TIMEOUT →
        exec i s = .next (answer (s.taking p) p TIMEOUT []).served) ∧
      (accCheck s s.self (addrOff p.addr) p.len p.part (copyRead p) = none →
        exec i s = .next (holdReq (s.taking p) p s.self (addrOff p.addr)).served) ∧
      (accCheck s s.self (addrOff p.addr) p.len p.part (copyRead p) = some OK → isCtlOff (addrOff p.addr) = true →
        ∀ b, readCtl v.drawTick.2 (addrOff p.addr) p.len v.drawTick.1 = some b → exec i s = .next (answer v.drawTick.2 p OK b).served) ∧
      (accCheck s s.self (addrOff p.addr) p.len p.part (copyRead p) = some OK → isPoolOff (addrOff p.addr) = true →
        (fetching v p s.self (addrOff p.addr) = true → exec i s = .next (awaitFetch v p s.self (addrOff p.addr)).served) ∧
        (fetching v p s.self (addrOff p.addr) = false → locLocal v (ordLoc v s.self (addrOff p.addr)) = false →
          exec i s = .next (relay v p s.self (addrOff p.addr)).served) ∧
        (fetching v p s.self (addrOff p.addr) = false → locLocal v (ordLoc v s.self (addrOff p.addr)) = true →
          ∃ u : State, u = meetErrors (drainTarget (countServed v p s.self (addrOff p.addr)) (targetOf v s.self (addrOff p.addr)))
              (keyOf s s.self (addrOff p.addr)) p.len ∧
            (badAtoms u (keyOf s s.self (addrOff p.addr)) p.len p.part = [] →
              exec i s = .next (answer u p OK (readMem u (keyOf s s.self (addrOff p.addr)) p.len p.part)).served) ∧
            (badAtoms u (keyOf s s.self (addrOff p.addr)) p.len p.part ≠ [] → exec i s = .next (answer u p POISONED []).served))))

/-- A WR or WRP of this node's pool that its checks allow is accepted in the lane of its requester, and completes once its mirror, where
it has one, has it too; a packet of a checked chunk joins its chunk; one of a tile that lies elsewhere goes on there; one of another
partition is DENIED and noted; one that crosses a 4 KiB boundary is REFUSED; a write of the CTX_FENCE block waits for the requests of
its context, and INV drops the copies its block names, or is REFUSED (R5, R83, R100, R259, R276, R279, R273, R288, R294, R297, R300, R301,
R305). -/
def Obligations.WritePacketsAreAcceptedAndFencesAndInvalidationsAct : Prop :=
  (∀ (s u v : State) (p : Packet) (i : Instr), s.Delivered p → (p.opcode = opWR ∧ i = .wr p) ∨ (p.opcode = opWRP ∧ i = .wrp p) →
    v = fetchFor (s.taking p) p s.self (addrOff p.addr) → u = countServed v p s.self (addrOff p.addr) →
    (crosses p.addr p.len = true → exec i s = .next (answer (s.taking p) p REFUSED []).served) ∧
    (crosses p.addr p.len = false → isCopy p = false → addrNode p.addr = s.self →
      (accCheck s s.self (addrOff p.addr) p.len p.part true = some DENIED → exec i s = .next (denyReq (s.taking p) p).served) ∧
      (accCheck s s.self (addrOff p.addr) p.len p.part true = some POISONED →
        exec i s = .next (answer (bumpFor (s.taking p) p) p POISONED []).served) ∧
      (accCheck s s.self (addrOff p.addr) p.len p.part true = none → exec i s = .next (park (s.taking p) p).served) ∧
      (accCheck s s.self (addrOff p.addr) p.len p.part true = some OK → isPoolOff (addrOff p.addr) = true →
        (tileCopying v s.self (addrOff p.addr) = false → fetching v p s.self (addrOff p.addr) = true → exec i s = .next (park v p).served) ∧
        (tileCopying v s.self (addrOff p.addr) = false → fetching v p s.self (addrOff p.addr) = false →
          locLocal v (ordLoc v s.self (addrOff p.addr)) = false → exec i s = .next (relay v p s.self (addrOff p.addr)).served) ∧
        (tileCopying v s.self (addrOff p.addr) = true ∨ (fetching v p s.self (addrOff p.addr) = false ∧
            locLocal v (ordLoc v s.self (addrOff p.addr)) = true) → incRefused v p = false →
          (p.chk = true → exec i s = .next (addChunk v p s.self true).served) ∧
          (p.chk = false → mirrored u s.self (addrOff p.addr) = false →
            exec i s = .next (answer (bumpFor (acceptWrite u s.self (addrOff p.addr) (laneOf u p.srcNode) p.payload p.part p.poison) p)
              p OK []).served) ∧
          (p.chk = false → mirrored u s.self (addrOff p.addr) = true →
            ∃ w : State, w = acceptWrite u s.self (addrOff p.addr) (laneOf u p.srcNode) p.payload p.part p.poison ∧
              exec i s = .next (mirrorWrite w s.self (addrOff p.addr) p.payload p.part .none (some (cplInc w p OK [])) fun _ => p.poison).served))))) ∧
  (∀ (s : State) (p : Packet) (c : Nat), s.Delivered p → p.opcode = opWR → p.len = 64 → epOf s p.inPort = none → p.chk = false →
    p.ctrEn = false → addrNode p.addr = s.self → addrOff p.addr = ctxFenceOff → fenceCtx (leNat p.payload) = some c → reqTrack s p = none →
    ((s.fab.tracks.any fun t => t.ctx == c && ! t.timedOut) = false → (s.xlat.accs.any fun a => a.ctx == c && a.st != 2) = false →
      exec (.ctxFence p) s =
        .next (answer ((s.taking p).modMem fun m => { m with ctxFences := satAdd 32 m.ctxFences 1 }) p OK []).served) ∧
    ((s.fab.tracks.any fun t => t.ctx == c && ! t.timedOut) = true ∨ (s.xlat.accs.any fun a => a.ctx == c && a.st != 2) = true →
      exec (.ctxFence p) s = .next ((s.taking p).modMem fun m => { m with fences := m.fences ++
        [{ reply := some p, owner := .none
           waits := (s.fab.tracks.filter fun t => t.ctx == c && ! t.timedOut).map Track.name ++
             (s.xlat.accs.filter fun a => a.ctx == c && a.st != 2).map fun a => (512, a.id) }] }).served)) ∧
  (∀ (s : State) (p : Packet), s.Delivered p → p.opcode = opINV → addrOff p.addr = 0x020042200040 → p.len = 64 →
    bits (leNat p.payload) 56 8 = 0 → bits (leNat p.payload) 112 400 = 0 → addrNode p.addr = s.self →
    exec (.inv p) s = .next (answer (invBlock (s.taking p) (leNat p.payload)) p OK []).served) ∧
  (∀ (s : State) (p : Packet), s.Delivered p → p.opcode = opINV → addrOff p.addr ≠ 0x020042200040 ∨ p.len ≠ 64 ∨
      bits (leNat p.payload) 56 8 ≠ 0 ∨ bits (leNat p.payload) 112 400 ≠ 0 →
    exec (.inv p) s = .next (answer (s.taking p) p REFUSED []).served) ∧
  (∀ (s : State) (p : Packet), s.Delivered p → p.opcode = opWR ∨ p.opcode = opWRP → addrOff p.addr = 0x020042200040 →
    exec (.inv p) s = .next (serveWrite (s.taking p) p).served)

/-- ATOM and RED of this node's pool: ATOM writes what its operation gives for the value it finds, which it answers; RED combines its
elements, atom by atom, with what it finds; a mirrored parcel's are answered once the mirror has the new bytes. While the tile is
copying they are held. A form that R295 or R296 excludes is REFUSED, and a poisoned operand stays as it is and is answered POISONED
(R86, R100, R177, R277, R278, R295, R296). -/
def Obligations.AtomicAndReducingPacketsModifyTheTarget : Prop :=
  (∀ (s : State) (p : Packet), s.Delivered p → p.opcode = opATOM →
    12 < p.aop ∨ p.len ≠ (if p.aop = 7 then 2 * (4 * 2 ^ p.size) else 4 * 2 ^ p.size) ∨ p.addr % (4 * 2 ^ p.size) ≠ 0 →
    exec (.atom p) s = .next (answer (s.taking p) p REFUSED []).served) ∧
  (∀ (s v u t : State) (p : Packet) (n off : Nat), s.Delivered p → p.opcode = opATOM → p.aop ≤ 12 → n = 4 * 2 ^ p.size →
    p.len = (if p.aop = 7 then 2 * n else n) → p.addr % n = 0 → addrNode p.addr = s.self → off = addrOff p.addr →
    accCheck s s.self off n p.part true = some OK → isPoolOff off = true → v = fetchFor (s.taking p) p s.self off →
    u = countServed v p s.self off → t = meetErrors (drainTarget u (targetOf u s.self off)) (keyOf s s.self off) n →
    (tileCopying v s.self off = true → exec (.atom p) s = .next (holdAccess v s.self off (.req p)).served) ∧
    (tileCopying v s.self off = false → fetching v p s.self off = false → locLocal v (ordLoc v s.self off) = true → incRefused v p = false →
      (badAtoms t (keyOf s s.self off) n p.part = [] →
        exec (.atom p) s = .next (answerModified (performWrite t (keyOf s s.self off)
          (leBytes n (atomicOp p.aop n (leNat (readMem t (keyOf s s.self off) n p.part)) (leNat (slice p.payload 0 n))
            (leNat (slice p.payload n n)))) p.part false) p s.self off OK (leBytes n (leNat (readMem t (keyOf s s.self off) n p.part)))).served) ∧
      (badAtoms t (keyOf s s.self off) n p.part ≠ [] → exec (.atom p) s = .next (answer t p POISONED []).served))) ∧
  (∀ (s : State) (p : Packet), s.Delivered p → p.opcode = opRED → crosses p.addr p.len = true ∨ 1 < p.size ∨
      p.addr % (4 * 2 ^ p.size) ≠ 0 ∨ p.len % (4 * 2 ^ p.size) ≠ 0 ∨ p.aop = 6 ∨ p.aop = 7 ∨ 12 < p.aop →
    exec (.red p) s = .next (answer (s.taking p) p REFUSED []).served) ∧
  (∀ (s v u t : State) (p : Packet) (off : Nat), s.Delivered p → p.opcode = opRED → crosses p.addr p.len = false → p.size < 2 →
    p.addr % (4 * 2 ^ p.size) = 0 → p.len % (4 * 2 ^ p.size) = 0 → p.aop ≠ 6 → p.aop ≠ 7 → p.aop ≤ 12 → addrNode p.addr = s.self →
    off = addrOff p.addr → accCheck s s.self off p.len p.part true = some OK → isPoolOff off = true →
    v = fetchFor (s.taking p) p s.self off → u = countServed v p s.self off →
    t = meetErrors (drainTarget u (targetOf u s.self off)) (keyOf s s.self off) p.len →
    (tileCopying v s.self off = true → exec (.red p) s = .next (holdAccess v s.self off (.req p)).served) ∧
    (tileCopying v s.self off = false → fetching v p s.self off = false → locLocal v (ordLoc v s.self off) = true → incRefused v p = false →
      exec (.red p) s = .next (answerModified (redParts t p (keyOf s s.self off) (atomParts (keyOf s s.self off) p.len)) p s.self off
        (if badAtoms t (keyOf s s.self off) p.len p.part = [] then OK else POISONED) []).served))

/-- A completion that no tracker waits for is discarded and counted. One of a posted write of an end point closes its tracker; one of
another request of an end point goes on to it under the tag it gave; one of an access of a unit here ends that access with its bytes,
refills the location cache and, for an engine's read of another Devik's pool, fills the far-line copies; BUSY leaves the tracker to be
retried. A CTRL packet is Ibfen's: what the model's messages between directories and sequence services say takes effect (log entry 81),
and the others wait for the row that they belong to (R83, R270, R293, R298, R299, R301, R307, R317). -/
def Obligations.CompletionsCloseTheirTrackers : Prop :=
  (∀ (s : State) (p : Packet) (i : Instr), s.Delivered p →
    (p.opcode = opCPL ∧ i = .cpl p) ∨ (p.opcode = opCPLD ∧ i = .cplData p) ∨ (p.opcode = opCPLP ∧ i = .cplPosted p) →
    (trackFor s p = none → exec i s = .next (countDiscard (s.taking p)).served) ∧
    (∀ (k : Nat) (t : Track), trackFor s p = some k → s.fab.tracks[k]? = some t → t.ingress.isSome = true → p.opcode = opCPLP →
      exec i s = .next (closeTrack (s.taking p) k).served) ∧
    (∀ (k : Nat) (t : Track), trackFor s p = some k → s.fab.tracks[k]? = some t → t.ingress.isSome = true → p.opcode ≠ opCPLP →
      exec i s = .next ((closeTrack (s.taking p) k).modFab fun f => { f with
        inbuf := f.inbuf ++ [{ port := p.inPort, vc := 2, pkt := toEndPoint p t.origTag }] }).served) ∧
    (∀ (k : Nat) (t : Track), trackFor s p = some k → s.fab.tracks[k]? = some t → t.ingress = none → p.status = BUSY →
      exec i s = .next (modTrack (s.taking p) k fun t => { t with retryDue := true }).served) ∧
    (∀ (k : Nat) (t : Track) (u : State), trackFor s p = some k → s.fab.tracks[k]? = some t → t.ingress = none → p.status = OK →
      u = (if t.pkt.opcode ≠ opRDV ∧ p.fwd = false then locFill (s.taking p) t.pkt.port t.pkt.place p.srcNode else s.taking p) →
      (cplOf t.pkt.opcode ≠ opCPLD → exec i s = .next (endTrack u k t OK [] []).served) ∧
      (cplOf t.pkt.opcode = opCPLD → p.poison = false → replyOk t p = true →
        ∃ w : State, w = endTrack u k t OK p.payload [] ∧
          ((∀ g e q c, t.owner ≠ .cmd g e q c) → exec i s = .next w.served) ∧
          (∀ g e q c, t.owner = .cmd g e q c → exec i s = .next (if (t.pkt.opcode = opRD ∨ t.pkt.opcode = opRDV) ∧
              farEligible w t.pkt.place = true ∧ dirHere w t.pkt.place = false then
            fillFar w (groupHd w g) t.pkt.place t.pkt.part p.payload t.noFill (t.pkt.opcode == opRDV) else w).served)))) ∧
  (∀ (s : State) (p : Packet), s.Delivered p → p.opcode = opCTRL →
    exec (.ctrl p) s = .next (takeCtrl (s.taking p) p).served ∧
    (bits (leNat p.payload) 0 8 < 16 ∨ 37 < bits (leNat p.payload) 0 8 →
      exec (.ctrl p) s = .next ((s.taking p).modFab fun f => { f with ctrlIn := f.ctrlIn ++ [p] }).served))

/-- Collective packets. One of a group without a node here, or of nobody below or above it, is discarded and counted. JOIN starts an
operation, and so does a contribution or a partial that comes before it; a packet of another digest aborts the operation with MISMATCH;
contributions, partials and results gather into units; ACK and NACK reach the retained results by the name of their sub-chunk; DONE
ends the operation, ABORT leaves the node aborted with its reason, RESET leaves it idle with OPGEN 0 (R233–R237, R243, R244, R247, R251,
R253, R255). -/
def Obligations.CollectivePacketsDriveTheOperationOfTheirGroup : Prop :=
  (∀ (s : State) (p : Packet) (i : Instr), s.Delivered p →
    (p.opcode = opJOIN ∧ i = .join p) ∨ (p.opcode = opCONTRIB ∧ i = .contrib p) ∨ (p.opcode = opPARTIAL ∧ i = .partialPkt p) ∨
      (p.opcode = opRESULT ∧ i = .result p) ∨ (p.opcode = opACK ∧ i = .ack p) ∨ (p.opcode = opNACK ∧ i = .nack p) ∨
      (p.opcode = opDONE ∧ i = .done p) ∨ (p.opcode = opABORT ∧ i = .abort p) ∨ (p.opcode = opRESET ∧ i = .reset p) →
    nodeOf s p.group = none → exec i s = .next (discardColl (s.taking p) p.group).served) ∧
  (∀ (s : State) (p : Packet) (slot who : Nat) (n : CollNode), s.Relative p slot who n → p.opcode = opJOIN → who < 4096 ∨ n.apex = true →
    ∃ t : State, t = nodeJoin (s.taking p) slot who p.addr (if p.ctrEn then p.ctr + 1 else 0) p.digest
        (if p.payload.length = 16 then some (leNat p.payload) else none) ∧
      exec (.join p) s = .next t.served ∧
      (n.st = 0 → who < 4096 → (∃ m ∈ n.members, m.1 ≠ who) → (t.node slot).st = 1 ∧ (t.node slot).digest = some p.digest ∧
        (t.node slot).joined = [who] ∧ AMap.get 0 (t.node slot).dst who = p.addr ∧ t.mem = s.mem) ∧
      (∀ d, n.st = 1 → n.digest = some d → d ≠ p.digest → (t.node slot).st = 2 ∧ (t.node slot).lastReason = 1)) ∧
  (∀ (s : State) (p : Packet) (slot who : Nat) (n : CollNode) (i : Instr), s.Relative p slot who n →
    (p.opcode = opCONTRIB ∧ who < 4096 ∧ i = .contrib p) ∨ (p.opcode = opPARTIAL ∧ 4096 ≤ who ∧ n.apex = true ∧ i = .partialPkt p) ∨
      (p.opcode = opRESULT ∧ 4096 ≤ who ∧ n.apex = false ∧ i = .result p) →
    (n.st = 1 → n.digest = some p.digest → exec i s = .next (gatherUnit (s.taking p) slot (streamOf p) who p).served) ∧
    (n.st = 0 → p.opcode ≠ opRESULT →
      exec i s = .next (gatherUnit ((s.taking p).setNode slot { n.clear with st := 1, digest := some p.digest }) slot (streamOf p) who p).served) ∧
    (∀ d, n.st = 1 → n.digest = some d → d ≠ p.digest →
      ∃ t : State, exec i s = .next t.served ∧ (t.node slot).st = 2 ∧ (t.node slot).lastReason = 1)) ∧
  (∀ (s : State) (p : Packet) (slot who i : Nat) (n : CollNode) (o : CollOp), s.Relative p slot who n → p.opcode = opACK →
    n.opOf = some o → ackBits p = [i] →
    (who < 4096 ∨ n.apex = true →
      exec (.ack p) s = .next (ackResult (s.taking p) slot who (verdictName o who { p with chunk := p.chunk + i })).served) ∧
    (4096 ≤ who → n.apex = false → exec (.ack p) s = .next (pump (modNode (s.taking p) slot fun n => { n with
      sentParts := AMap.erase n.sentParts (verdictName o who { p with chunk := p.chunk + i }) }) slot).served)) ∧
  (∀ (s : State) (p : Packet) (slot who : Nat) (n : CollNode) (o : CollOp), s.Relative p slot who n → p.opcode = opNACK →
    n.opOf = some o →
    (who < 4096 → exec (.nack p) s = .next (nackResult (s.taking p) slot who (verdictName o who p)).served) ∧
    (∀ pk, 4096 ≤ who → AMap.find n.sentParts (verdictName o who p) = some pk →
      exec (.nack p) s = .next (collCount (sendAll (modNode (s.taking p) slot fun n => { n with nacks := satAdd 32 n.nacks 1 }) pk) 7).served)) ∧
  (∀ (s : State) (p : Packet) (slot who : Nat) (n : CollNode), s.Relative p slot who n → 4096 ≤ who → n.apex = false →
    (p.opcode = opDONE → n.st = 1 →
      (n.digest = some p.digest →
        ∃ t : State, exec (.done p) s = .next t.served ∧ (t.node slot).st = 0 ∧ (t.node slot).digest = none ∧ t.mem = s.mem) ∧
      (∀ d, n.digest = some d → d ≠ p.digest →
        ∃ t : State, exec (.done p) s = .next t.served ∧ (t.node slot).st = 2 ∧ (t.node slot).lastReason = 1)) ∧
    (p.opcode = opABORT → n.st ≠ 2 →
      ∃ t : State, exec (.abort p) s = .next t.served ∧ (t.node slot).st = 2 ∧ (t.node slot).lastReason = bits (leNat p.payload) 0 8 ∧
        (t.node slot).digest = none ∧ ((∀ k, joinOf s k p.group = none) → t.mem = s.mem)) ∧
    (p.opcode = opRESET → s.isUnitFenced 3 n.xd = false →
      ∃ t : State, exec (.reset p) s = .next t.served ∧ (t.node slot).st = 0 ∧ (t.node slot).opgen = 0 ∧ (t.node slot).digest = none ∧
        t.mem = s.mem ∧ ∀ e ∈ t.coll.memberGen, e.1 / 32 ≠ n.group))

/-- Nodes on their own: Confluence takes the unit that the schedule picks; the verdict of a chunk whose sub-chunks pass their check is
recorded, its speculation entry dropped and its sub-chunks acknowledged; a bound that passes aborts the operation with TIMEOUT (2) or
WAIT (6); a node is installed where a slot and cells are free, its members then starting at OPGEN 0, and removed; a retained result is
released (R228, R229, R239, R245–R247, R250, R254, R258). -/
def Obligations.CollectiveNodesCombineJudgeTimeOutAndInstall : Prop :=
  (∀ (s : State) (die k slot : Nat) (w : AMap Int) (u : CollUnit), s.Settled → die < 4 → s.isUnitFenced 3 die = false →
    wrrPick s die = some (k, w) → waitingIn s die k = [slot] → (s.node slot).units.find? (·.stream == k) = some u →
    exec (.confluenceCombine die) s = .next (settle (takeUnit ((s.modColl fun c => { c with
      wrr := w, rrNode := (AMap.set c.rrNode (die * 16 + k) slot) }).setNode slot { s.node slot with units := (s.node slot).units.erase u })
      slot u))) ∧
  (∀ (s d a b c : State) (g k chunk slot : Nat) (j : Join) (n : CollNode) (js : List (Nat × Nat × Bool)), s.Settled →
    AMap.find (s.grp g).joins k = some j → chunk < j.counted → AMap.find j.verdicts chunk = none → chunkReadable s g k chunk = true →
    nodeOf s j.group = some (slot, n) → js = j.subs.filter (fun x => x.1 / 4 == chunk) →
    d = js.foldl (fun s x => drainRange s (subPlace j x.1).1 (subPlace j x.1).2) s →
    (∀ x ∈ js, subStoredOk d j x.1 x.2.1 x.2.2 = true) → a = modJoin d g k (fun j => { j with verdicts := AMap.set j.verdicts chunk true }) →
    b = advanceAll (a.modGrp g fun x => { x with spec := x.spec.filter fun e => e.ref != refOf j chunk }) g →
    c = js.foldl (fun s x => ackResult s slot j.member (j.opOf.resultName j.n j.member chunk (x.1 % 4))) b →
    exec (.resultVerdict g k chunk) s = .next (settle (if AMap.has (c.grp g).joins k = true ∧ joinFinished (joinAt c g k) = true then
      collWake (clearSpec c g (joinAt c g k).group (joinAt c g k).opgen) g else c))) ∧
  (∀ (s : State) (group slot : Nat) (n : CollNode), s.Settled → nodeOf s group = some (slot, n) → s.node slot = n → n.apex = true → n.st = 1 →
    ∃ t : State, exec (.collTimeout group) s = .next (settle t) ∧ (t.node slot).st = 2 ∧ (t.node slot).lastReason = 2 ∧
      ((∀ k, joinOf s k group = none) → t.mem = s.mem)) ∧
  (∀ (s : State) (g k slot qk : Nat) (j : Join) (n : CollNode) (q : HwQueue) (r : Running) (l : CmdList), s.Settled →
    AMap.find (s.grp g).joins k = some j → (qk, q) ∈ (s.grp g).queues → q.list = j.list → r ∈ q.started → r.opcode = 0x31 → r.st = 0 →
    (s.grp g).list? q.list = some l → bits (cmdAt l r.idx) 64 5 = j.slot → joinFinished j = false →
    nodeOf s j.group = some (slot, n) → s.node slot = n → n.st = 1 →
    ∃ t : State, exec (.collWaitTimeout g k) s = .next (settle t) ∧ (t.node slot).st = 2 ∧ (t.node slot).lastReason = 6) ∧
  (∀ (s : State) (d : NodeDesc) (die : Nat), s.Settled → s.coll.nodes.length < 1024 → d.die = some die → d.window * 16 ≤ cellsFree s die →
    nodeOf s d.group = none →
    ∃ slot, slot < 1024 ∧ AMap.has s.coll.nodes slot = false ∧ exec (.collNodeInstall d true) s = .next (clearGen (s.setNode slot
      { group := d.group, part := d.part, apex := decide (d.apexNode = s.self), xd := die, window := d.window, n := d.n, tmo := d.tmo
        apexNode := d.apexNode, members := d.members, childNodes := d.childNodes }) d.group)) ∧
  (∀ (s : State) (d : NodeDesc), s.Settled → exec (.collNodeInstall d false) s =
    .next (clearGen (s.modColl fun c => { c with nodes := c.nodes.filter fun x => x.2.group != d.group }) d.group)) ∧
  (∀ (s : State) (group key slot : Nat) (n : CollNode) (h : Retained), s.Settled → nodeOf s group = some (slot, n) →
    AMap.find n.held key = some h →
    exec (.resultRetainExpiry group key) s =
      .next (settle (pump (s.setNode slot { n with held := AMap.set n.held key { h with released := true } }) slot)))

/-- Checked chunks, lanes and trackers. A complete chunk whose bytes pass its check completes its packets OK, one that fails or stays
open is poisoned with a record; the oldest write of a lane is performed, and every other byte stays; a request that gets no answer
ends with TIMEOUT and holds its tag until that expires; one answered BUSY is repeated (R260, R264, R293, R306, R313, R317). -/
def Obligations.ChunksLanesAndTrackersMoveOn : Prop :=
  (∀ (s : State) (src port block : Nat) (c : OpenChunk), s.Settled → s.mem.chunks.find? (chunkAt src port block) = some c →
    c.chkLen = some c.bytes → chunkWaits s c = false → c.control = false → c.bad = false → s.mem.lanes = [] →
    (∀ x ∈ c.got, x.2.2.2 = true) →
    (crc64 (chunkBytes s c) = c.crc → exec (.chunkVerdict src port block) s = .next (settle (endChunk (s.modMem fun m => { m with
      chunks := m.chunks.filter (! chunkAt src port block ·) }) c fun _ => OK))) ∧
    (crc64 (chunkBytes s c) ≠ c.crc → exec (.chunkVerdict src port block) s = .next (settle (failChunk (s.modMem fun m => { m with
      chunks := m.chunks.filter (! chunkAt src port block ·) }) c)))) ∧
  (∀ (s : State) (src port block : Nat) (c : OpenChunk), s.Settled → s.mem.chunks.find? (chunkAt src port block) = some c →
    c.chkLen = none → exec (.chunkOpenTimeout src port block) s = .next (settle (failChunk (s.modMem fun m => { m with
      chunks := m.chunks.filter (! chunkAt src port block ·) }) c))) ∧
  (∀ (s : State) (n key part : Nat) (l : Lane) (d : Bytes) (rest : List LaneItem), s.Settled → s.MemCanonical →
    s.mem.lanes = .write (.stack n) l key d part false :: rest → key + d.length ≤ 0x020000000000 → s.mem.upsets = [] →
    ∃ t : State, exec (.accessPerformed (.stack n) l 0) s = .next t ∧ t.mem.lanes = rest ∧ t.MemCanonical ∧
      (∀ i (h : i < d.length), Mem.read t.mem.cells (key + i) = d[i]) ∧
      (∀ a, a < key ∨ key + d.length ≤ a → Mem.read t.mem.cells a = Mem.read s.mem.cells a)) ∧
  (∀ (s : State) (i : Nat) (t : Track), s.Settled → s.fab.tracks[i]? = some t → t.timedOut = false → t.held = false →
    trackWaits s.fab.tracks i = false →
    ∃ u : State, exec (.loadTimeout i) s = .next (settle u) ∧ u.fab.tracks[i]? =
        some { t with owner := .none, reply := none, timedOut := true, retryDue := false } ∧ u.mem.cells = s.mem.cells) ∧
  (∀ (s : State) (i : Nat) (t : Track), s.Settled → s.fab.tracks[i]? = some t → t.timedOut = true →
    exec (.tagHoldExpiry i) s = .next (dropTrack s i) ∧
    ((∀ u ∈ s.fab.tracks, u.tag < 4096) → (∀ k, trackWaits s.fab.tracks k = false) →
      dropTrack s i = s.modFab fun f => { f with tracks := f.tracks.eraseIdx i })) ∧
  (∀ (s : State) (i : Nat) (t : Track), s.Settled → s.fab.tracks[i]? = some t → t.timedOut = false → t.retryDue = true →
    exec (.busyRetry i) s = .next (send (modTrack s i fun t => { t with retryDue := false, retries := t.retries + 1 }) t.pkt))

/-- The routing stage and what leaves it. A packet for this package is delivered; one with a route takes a port of its live set
and queues there; one without a route ends under R315. The arbiter's choice leaves as sequenced frames and spends its credits,
and with nothing ready an empty frame leaves. A packet that cannot leave moves to the escape channel, an old red one is promoted, an aged
one is flushed and counted, and a crossbar die tells the others its counts (R315, R318, R320, R321, R322, R331, R334, R340, R358, R361). -/
def Obligations.PacketsAreRoutedQueuedAndLeave : Prop :=
  (∀ (s : State) (port vc i : Nat) (q : QPkt), s.Settled → findIdx (fun q => q.port == port && q.vc == vc) s.fab.inbuf = some i →
    s.fab.inbuf[i]? = some q → s.isUnitFenced 4 (pktDie s q.pkt) = false → forHere s q.pkt = true →
    exec (.packetRoute port vc) s = .next (riffleSeen ((freeCells (s.modFab fun f => { f with inbuf := f.inbuf.eraseIdx i }) q).modFab fun f => { f with
      delivered := f.delivered ++ [q.pkt] }) q.pkt 0x7F q.vc)) ∧
  (∀ (s : State) (port vc i out : Nat) (q : QPkt), s.Settled → findIdx (fun q => q.port == port && q.vc == vc) s.fab.inbuf = some i →
    s.fab.inbuf[i]? = some q → s.isUnitFenced 4 (pktDie s q.pkt) = false → forHere s q.pkt = false → s.route.st ≠ 2 → q.pkt.inPort < 128 →
    fromEp s q.pkt = false → q.pkt.epoch = s.route.active.epoch → isCplOp q.pkt.opcode = false → q.vc ≠ 3 → q.vc ≠ 6 →
    routeOf s s.route.active q.pkt q.vc = { ports := [out], adaptive := false, case := 0 } → queueRoom s q.pkt out q.vc = true →
    exec (.packetRoute port vc) s = .next (riffleSeen ((freeCells (s.modFab fun f => { f with inbuf := f.inbuf.eraseIdx i }) q).modFab fun f => { f with
      outq := f.outq ++ [{ port := out, vc := q.vc, pkt := { q.pkt with vc := q.vc } }] }) { q.pkt with vc := q.vc } out q.vc)) ∧
  (∀ (s : State) (port vc i : Nat) (q : QPkt), s.Settled → findIdx (fun q => q.port == port && q.vc == vc) s.fab.inbuf = some i →
    s.fab.inbuf[i]? = some q → s.isUnitFenced 4 (pktDie s q.pkt) = false → forHere s q.pkt = false → s.route.st ≠ 2 → q.pkt.inPort < 128 →
    fromEp s q.pkt = false → q.pkt.epoch = s.route.active.epoch → routeOf s s.route.active q.pkt q.vc = {} →
    exec (.packetRoute port vc) s = .next (settle (noRoute (freeCells (s.modFab fun f => { f with inbuf := f.inbuf.eraseIdx i }) q) q.pkt))) ∧
  (∀ (s s' : State) (port i : Nat) (q : QPkt), s.Settled → (s.prt port).st = 2 → s.present port = true → s.live port = true →
    pickNext s port = (s', some (i, q)) → (s.prt port).replay.length + (packetFrames q.pkt).length ≤ 256 →
    exec (.outputArbitration port) s = .next (((spendCredits s' port q.pkt q.vc).modFab fun f => { f with outq := f.outq.eraseIdx i }).modPrt port
      fun x => (packetFrames q.pkt).foldl (fun x d => sendFrame x d true) { x with txIdle := false })) ∧
  (∀ (s : State) (port : Nat), s.Settled → (s.prt port).st = 2 → s.present port = true → s.live port = false →
    (s.prt port).txIdle = false →
    exec (.outputArbitration port) s = .next (s.modPrt port fun x => sendFrame { x with txIdle := false } (List.replicate 256 0) false)) ∧
  (∀ (s : State) (port vc i p : Nat) (l : List Nat) (q : QPkt), s.Settled → findIdx (fun q => q.port == port && q.vc == vc) s.fab.inbuf = some i →
    s.fab.inbuf[i]? = some q → 1 ≤ vc → vc ≤ 4 → forHere s q.pkt = false → (routeOf s (bankOf s q.pkt).1 q.pkt vc).ports = p :: l →
    (p :: l).any (creditOk s · q.pkt vc) = false →
    exec (.escapeMove port vc) s = .next (riffleEvent ((s.modFab fun f => { f with
      inbuf := f.inbuf.mapIdx fun j y => if j = i then { y with vc := 6 } else y }).modRoute fun x => { x with stats := bump x.stats 5 })
        q.pkt 0x7F 6 4)) ∧
  (∀ (s : State) (port i : Nat), s.Settled →
    findIdx (fun q => q.port == port && q.pkt.colour == 2 && ! q.waitedRed) s.fab.outq = some i →
    exec (.redPromotion port) s = .next (s.modFab fun f => { f with
      outq := f.outq.mapIdx fun j q => if j = i then { q with waitedRed := true } else q })) ∧
  (∀ (s : State) (port vc i : Nat) (q : QPkt), s.Settled → findIdx (fun q => q.port == port && q.vc == vc) s.fab.outq = some i →
    s.fab.outq[i]? = some q →
    exec (.packetAged port vc) s = .next (settle (flushPacket (riffleEvent (((s.modFab fun f => { f with outq := f.outq.eraseIdx i }).modFab
      fun f => { f with stats := bump f.stats 9 }).modRoute fun r => { r with stats := bump (bump r.stats 8) 9 }) q.pkt port vc 3) q.pkt))) ∧
  (∀ (s : State) (die : Nat), s.Settled → die < 4 → (∀ q ∈ s.fab.outq, q.port < 128 ∧ q.vc < 8) →
    ∃ t : State, exec (.queueCountExchange die) s = .next t ∧ t = { s with route := t.route } ∧
      ∀ q ∈ s.fab.outq, pktDie s q.pkt = die →
        AMap.get 0 t.route.counts (die * 1024 + q.port * 8 + q.vc) =
          sumBy (fun y => if pktDie s y.pkt = die ∧ y.port = q.port ∧ y.vc = q.vc then pktCells y.pkt else 0) s.fab.outq)

/-- A change of tables: the hold starts in its frame; DRAINED goes out once nothing affected is in transit and is noted when it comes;
the bank switches in frame max(N) + 2 when every Devik has told, or when the drain's bound passes, and the old one retires
16 frames later; a REACH notice prunes what a neighbour lost; collective operations to whose next node no route leads any more abort
(R255, R325, R345, R346, R347). -/
def Obligations.TableChangesHoldDrainSwitchAndRetire : Prop :=
  (∀ (s : State), s.Settled → s.route.committed = true → s.route.st = 1 → s.route.drainAt ≤ s.time.lfc →
    exec .routeHoldStart s = .next (s.modRoute fun r => { r with st := 2, sentDrained := false })) ∧
  (∀ (s : State), s.Settled → s.route.st = 2 → s.route.sentDrained = false → transitCount s = 0 →
    ∃ t : State, exec .routeDrainedSend s = .next t ∧ t.route.sentDrained = true ∧ AMap.get 0 t.route.drainedBy s.self = s.time.lfc ∧
      t.fab.inbuf.length = s.fab.inbuf.length + (otherPackages s).length ∧ t.mem = s.mem ∧ t.route.active = s.route.active) ∧
  (∀ (s : State) (node frame : Nat), s.Settled → s.route.committed = true → s.route.st ≤ 2 → (otherPackages s).contains node = true →
    exec (.drained node frame) s = .next (s.modRoute fun r => { r with drainedBy := AMap.set r.drainedBy node frame })) ∧
  (∀ (s : State) (b : Bank), s.Settled → s.route.st = 2 → s.route.staged = some b →
    (s.route.sentDrained = true → (otherPackages s).all (AMap.has s.route.drainedBy) = true →
      s.time.lfc ≤ s.route.drainAt + s.route.drainFrames → s.time.lfc = (s.route.drainedBy.map (·.2)).foldl max 0 + 2 →
      ∃ t : State, exec .routeSwitch s = .next (settle (collLinksLost t)) ∧ t.route.active = { b with epoch := ! s.route.active.epoch } ∧
        t.route.old = some s.route.active ∧ t.route.st = 3 ∧ t.route.holding = [] ∧ t.fab.inbuf = s.route.holding ++ s.fab.inbuf ∧ t.mem = s.mem) ∧
    (s.route.drainAt + s.route.drainFrames ≤ s.time.lfc →
      ∃ t : State, exec .routeFallbackSwitch s = .next (settle (collLinksLost t)) ∧ t.route.active = { b with epoch := ! s.route.active.epoch } ∧
        t.route.old = some s.route.active ∧ t.route.st = 3 ∧ t.route.holding = [] ∧ t.fab.inbuf = s.route.holding ++ s.fab.inbuf ∧ t.mem = s.mem)) ∧
  (∀ (s : State), s.Settled → s.route.st = 3 → s.route.drainAt + s.route.drainFrames + 16 ≤ s.time.lfc → oldPackets s = 0 →
    exec .routeRetire s = .next (s.modRoute fun r => { r with old := none, st := 0, committed := false, drainedBy := [], sentDrained := false })) ∧
  (∀ (s : State) (port node : Nat) (e : PortEntry), s.Settled → s.manPort port = some e → e.endPoint = false → node % 16 = 8 ∨ node % 16 = 9 →
    s.straps.role = 0 → e.node ≠ s.partner →
    ∃ t : State, exec (.reach port node true) s = .next (settle (collLinksLost t)) ∧ (node, e.node) ∈ t.route.pruned ∧
      t = { s with route := t.route } ∧
      ∃ u : State, exec (.reach port node false) s = .next (settle (collLinksLost u)) ∧ (node, e.node) ∉ u.route.pruned ∧
        u = { s with route := u.route })

/-- Training of a port. Its blocks, whose check passes, move it from detection over block lock and equalisation to active; a rate
step goes to the next rate that both ends permit; a timeout starts training again, or takes the port down, or returns it to the rate
before; a retraining takes the port out of its sets (R344, R367, R368, R369, R370, R372, R373). -/
def Obligations.TrainingBlocksMoveAPort : Prop :=
  (∀ (s : State) (p lane : Nat) (body : BitVec 56), s.Settled → s.present p = true → lane < 4 →
    (blockOk body 0 = true → (s.prt p).st = 1 → (s.prt p).trainStep = 1 → bits body.toNat 4 2 = lane →
      exec (.detect p lane body) s = .next (s.modPrt p fun x => { x with
        detected := x.detected ||| 2 ^ lane, peerPort := bits body.toNat 6 7, peerNode := bits body.toNat 13 9
        peerRates := bits body.toNat 22 4, trainStep := if x.detected ||| 2 ^ lane = 15 then 2 else 1 })) ∧
    (blockOk body 1 = true → (s.prt p).st = 1 ∨ (s.prt p).st = 4 → (s.prt p).trainStep = 2 →
      exec (.lock p lane body) s = .next (s.modPrt p fun x => { x with
        laneLock := x.laneLock ||| 2 ^ lane, trainStep := if x.laneLock ||| 2 ^ lane = 15 then 3 else 2 })) ∧
    (blockOk body 2 = true → (s.prt p).st = 1 → (s.prt p).trainStep = 3 → bits body.toNat 28 10 = 0 → bitAt body.toNat 43 = true →
      exec (.eq p lane body) s = .next (s.modPrt p fun x => { x with
        taps := AMap.set x.taps lane (AMap.get {} x.taps lane), eqSt := AMap.set x.eqSt lane 0, rxDone := x.rxDone ||| 2 ^ lane
        trainStep := if x.rxDone ||| 2 ^ lane = 15 then 4 else 3 })) ∧
    (blockOk body 3 = true → (s.prt p).st = 2 → (s.prt p).rate < 3 → (s.prt p).rate < (s.prt p).maxRate →
      (bits body.toNat 22 4).testBit ((s.prt p).rate + 1) = true → (s.prt p).rateCapped = false → (s.prt p).replayCount = 0 →
      exec (.rate p lane body) s = .next (s.modPrt p fun x => { leaveSets x with
        peerRates := bits body.toNat 22 4, st := 3, prevRate := x.rate, target := x.rate + 1, stepBlocks := 0, rxDone := 0, readys := 0
        trainStep := 3, stepDue := false })) ∧
    (blockOk body 4 = true → (s.prt p).st = 3 → bits body.toNat 26 2 = (s.prt p).target → lane = 0 →
      exec (.step p lane body) s = .next (s.modPrt p fun x => { x with
        stepBlocks := x.stepBlocks + 1, rate := if 64 ≤ x.stepBlocks + 1 then x.target else x.rate })) ∧
    (blockOk body 5 = true → lane = 0 → (s.prt p).trainStep = 4 → (s.prt p).st = 3 → 15 ≤ (s.prt p).readys → (s.prt p).stepDue = false →
      exec (.ready p lane body) s = .next (latchDisc (s.modPrt p fun x => { x with
        readys := 0, st := 2, txFrom := x.tx.length, joinAt := if x.accepted then some (s.time.lfc + 1) else none }))) ∧
    (blockOk body 6 = true → lane = 0 → (s.prt p).st = 2 → 15 ≤ (s.prt p).idleBlocks →
      exec (.idle p lane body) s = .next (s.modPrt p fun x => { x with idleBlocks := 0, rxIdle := true, wakeBlocks := 0 })) ∧
    (blockOk body 7 = true → lane = 0 → (s.prt p).st = 2 → 63 ≤ (s.prt p).wakeBlocks →
      exec (.wake p lane body) s = .next (s.modPrt p fun x => { x with idleBlocks := 0, wakeBlocks := 0, rxIdle := false })) ∧
    (blockOk body 8 = true → exec (.retrain p lane body) s = .next (settle (startRetrain s p)))) ∧
  (∀ (s : State) (p : Nat), s.Settled → (s.prt p).st = 2 → (s.prt p).retrainAt = [] →
    ∃ t : State, ((s.present p = true → exec (.linkRetrain p) s = .next t) ∧ ∀ lane, lane < 4 → exec (.signalLoss p lane) s = .next t) ∧
      (t.prt p).st = 4 ∧ (t.prt p).trainStep = 2 ∧ (t.prt p).inSets = false ∧ (t.prt p).retrains = satAdd 8 (s.prt p).retrains 1 ∧
      t = { s with ports := t.ports } ∧ ∀ k, k ≠ p → t.prt k = s.prt k) ∧
  (∀ (s : State) (p : Nat), s.Settled → (s.prt p).st = 1 → (s.prt p).tries < 3 →
    exec (.trainingTimeout p) s = .next (latchDisc (s.setPrt p { startTraining (s.prt p) with tries := (s.prt p).tries + 1 }))) ∧
  (∀ (s : State) (p : Nat), s.Settled → (s.prt p).st = 1 → 3 ≤ (s.prt p).tries →
    exec (.trainingTimeout p) s = .next (settle (latchDisc (portDown s p (some 1))))) ∧
  (∀ (s : State) (p : Nat), s.Settled → (s.prt p).st = 3 →
    exec (.rateStepTimeout p) s = .next (s.modPrt p fun x => { x with
      st := 2, txFrom := x.tx.length, rate := x.prevRate, rateCapped := true
      joinAt := if x.accepted then some (s.time.lfc + 1) else none })) ∧
  (∀ (s : State) (p : Nat), s.Settled → (s.prt p).st = 4 → exec (.retrainTimeout p) s = .next (settle (portDown s p (some 1)))) ∧
  (∀ (s : State) (p : Nat), s.Settled → mayTrain s p = true → (s.prt p).st = 5 ∨ (s.prt p).st = 0 →
    exec (.trainingRestart p) s = .next (s.modPrt p fun x => { startTraining x with tries := 0 })) ∧
  (∀ (s : State) (p : Nat), s.Settled → (s.prt p).st = 2 → (s.prt p).idleEn = true → (s.prt p).txIdle = false → (s.prt p).replay = [] →
    (s.prt p).returns = [] → s.fab.outq = [] →
    exec (.idleEntry p) s = .next (s.setPrt p { s.prt p with txIdle := true }))

/-- Frames of a link. The expected frame is taken and its bytes or its credits count; a frame with errors is counted and a NAK becomes
due, and at the two lower rates there is no FEC that could find any; a timeout resends what is unacknowledged. LINK_DOWN takes the port out of its sets, discards its buffers and flushes its queue; a
port that is missing is recorded; an identity block of the manifest's neighbour accepts the port, another's quarantines it (R344, R358,
R361–R365, R372, R459, R460, R461). -/
def Obligations.FramesReplaysAndNeighboursOfAPort : Prop :=
  (∀ (s : State) (p : Nat) (f : Frame), s.Settled → s.present p = true → (s.prt p).st = 2 → f.payload.length = 256 →
    (f.crc ≠ frameCrc f →
      exec (.linkFrame p f) s = .next (s.setPrt p (sendFrame { s.prt p with
        crcErr := satAdd 16 (s.prt p).crcErr 1, nakDue := ! (s.prt p).nakSent
        fecUncorr := satAdd 15 (s.prt p).fecUncorr (b2n (f.fecBad && decide (2 ≤ (s.prt p).rate))), txIdle := false }
        (List.replicate 256 0) false))) ∧
    ((s.prt p).rate < 2 → exec (.linkFrame p f) s = exec (.linkFrame p { f with fecBad := false }) s) ∧
    (f.fecBad = false → f.crc = frameCrc f → f.seq ≠ (s.prt p).expected → (f.seq + 1) % 1024 ≠ (s.prt p).expected →
      exec (.linkFrame p f) s = .next (s.setPrt p (sendFrame { s.prt p with
        nakDue := ! (s.prt p).nakSent, txIdle := false } (List.replicate 256 0) false))) ∧
    (f.fecBad = false → f.crc = frameCrc f → f.seq = (s.prt p).expected → f.side = true → f.payload = List.replicate 256 0 →
      (s.prt p).rx = [] →
      ∃ t : State, exec (.linkFrame p f) s = .next t ∧ (t.prt p).expected = ((s.prt p).expected + 1) % 1024 ∧ (t.prt p).rx = [] ∧
        (f.pool ≤ 6 → f.count ≠ 0 → AMap.get 0 (t.prt p).credits f.pool = AMap.get 0 (s.prt p).credits f.pool + f.count) ∧
        t = { s with ports := t.ports } ∧ ∀ k, k ≠ p → t.prt k = s.prt k)) ∧
  (∀ (s : State) (p : Nat), s.Settled → (s.prt p).st = 2 → (s.prt p).replay ≠ [] → (s.prt p).replayCount < 7 →
    exec (.replayTimeout p) s = .next (s.modPrt p fun x => { x with
      tx := x.tx ++ x.replay, replays := satAdd 16 x.replays 1, replayCount := x.replayCount + 1 })) ∧
  (∀ (s : State) (p : Nat), s.Settled → (s.prt p).st ≠ 5 → s.fab.outq = [] → isEpPort s p = true →
    ∃ t : State, exec (.linkDown p) s = .next t ∧ (t.prt p).st = 5 ∧ (t.prt p).down = true ∧ (t.prt p).inSets = false ∧
      (t.prt p).accepted = false ∧ (t.prt p).credits = [] ∧ (t.prt p).replay = [] ∧ (t.prt p).downs = satAdd 8 (s.prt p).downs 1 ∧
      t.mem = s.mem ∧ t.groups = s.groups ∧ ∀ k, k ≠ p → t.prt k = s.prt k) ∧
  (∀ (s : State) (p : Nat) (e : PortEntry), s.Settled → s.manPort p = some e → p < 128 → (s.prt p).accepted = false →
    (s.prt p).quarantined = false → (s.prt p).missing = false → (s.prt p).heldDown = false → (s.prt p).down = false →
    (s.prt p).heldEpo = false → 2 ≤ s.flt.phase → s.flt.phase ≠ 8 →
    ∃ u : State, exec (.portMissing p) s = .next (settle u) ∧ (u.prt p).missing = true ∧ (u.prt p).inSets = false ∧
      u.flt.raised = [{ die := dieOf 1 p, cls := 1, inst := p, cause := 4, node := e.node % 512, frame := s.time.lfc }] ∧ (∀ k, k ≠ p → u.prt k = s.prt k)) ∧
  (∀ (s : State) (p c node peer version : Nat) (o : Bytes) (e : PortEntry), s.Settled → s.manPort p = some e → p < 128 → e.endPoint = false →
    (s.prt p).st = 2 → (s.prt p).accepted = false → (s.prt p).quarantined = false → 2 ≤ s.flt.phase → s.flt.phase ≠ 8 →
    exec (.identityBlock p c node peer version o) s = .next (settle (latchDisc (if objectOk 3 o (fun k => Config.identityPair k.1 k.2) &&
      node == e.node && peer == e.port && version == s.man.version then acceptPort s p else quarantinePort s p node peer))))

/-- Heartbeats and leases. A partner's heartbeat is noted, and the first one since reset makes PAIR normal; a witness answers with
what it heard of the sender's partner; an acknowledgement is noted; three frames of silence make the partner suspect, and a lease that is
not held makes the package self-fence (R463, R464, R469). -/
def Obligations.HeartbeatsAndLeasesWatchThePartner : Prop :=
  (∀ (s : State) (heard mirror : Nat), s.Settled → pairRuns s = true → s.partner < 512 → mirror ≤ 15248 → s.flt.heardPartner = none →
    s.flt.selfFenced = false →
    ∃ t : State, exec (.heartbeat s.partner heard mirror) s = .next t ∧ t.flt.pair = 0 ∧ t.flt.heardPartner = some s.time.lfc ∧
      t.flt.partnerMirror = mirror ∧ t.mem = { s.mem with partnerDown := false, mirrorLost := false } ∧ s.partner ∉ t.fab.dead ∧
      t.groups = s.groups ∧ t.time = s.time) ∧
  (∀ (s : State) (heard mirror : Nat), s.Settled → pairRuns s = true → s.partner < 512 → mirror ≤ 15248 → s.flt.heardPartner ≠ none →
    s.flt.pair ≠ 1 → s.flt.selfFenced = false →
    exec (.heartbeat s.partner heard mirror) s = .next (s.modFlt fun f => { f with
      heardPartner := some s.time.lfc, partnerHeardUs := if s.time.lfc < heard + 16 then some s.time.lfc else f.partnerHeardUs
      partnerMirror := mirror })) ∧
  (∀ (s : State) (node heard mirror : Nat), s.Settled → pairRuns s = true → node < 512 → node ≠ s.self → node ≠ s.partner → mirror ≤ 15248 →
    witnessOf s node = true →
    ∃ t : State, exec (.heartbeat node heard mirror) s = .next t ∧ AMap.find t.flt.heardNode node = some s.time.lfc ∧
      t = sendCtrl (s.modFlt fun f => { f with heardNode := t.flt.heardNode }) node 6 (AMap.get 0 t.flt.heardNode (partnerOf node))) ∧
  (∀ (s : State) (node heard : Nat), s.Settled → pairRuns s = true → s.man.witnesses.contains node = true → s.flt.pair ≠ 1 →
    s.flt.selfFenced = false →
    exec (.witnessAck node heard) s = .next (s.modFlt fun f => { f with
      witnessAcks := AMap.set f.witnessAcks node s.time.lfc, ackHeard := AMap.set f.ackHeard node heard })) ∧
  (∀ (s : State), s.Settled → pairRuns s = true →
    ∃ t : State, exec .heartbeatSend s = .next t ∧ t.fab.inbuf.length = s.fab.inbuf.length + 1 + s.man.witnesses.length ∧
      t.flt = s.flt ∧ t.mem = s.mem ∧ t.groups = s.groups) ∧
  (∀ (s : State), s.Settled → leaseHeld s = false → s.flt.selfFenced = false → 3 ≤ s.flt.phase →
    ∃ u : State, exec .leaseLapse s = .next (settle u) ∧ u.flt.selfFenced = true ∧ u.flt.pair = 4 ∧ u.mem = s.mem ∧ u.groups = s.groups ∧
      u.flt.raised = [{ die := 18, cls := 0x11, cause := 3, node := s.partner % 512, frame := s.time.lfc }]) ∧
  (∀ (s : State) (h : Nat), s.Settled → s.flt.heardPartner = some h → s.flt.pair = 0 → h + 3 ≤ s.time.lfc → pairRuns s = true →
    s.fab.dead.length < 64 →
    ∃ u : State, exec .pairSuspect s = .next (settle u) ∧ u.flt.pair = 1 ∧ s.partner ∈ u.fab.dead ∧ u.mem = s.mem ∧ u.groups = s.groups ∧
      u.flt.raised = [{ die := 18, cls := 0x11, cause := 1, node := s.partner % 512, frame := s.time.lfc }])

/-- Promotion and what moves between packages. A majority of at least three witnesses, silent for 32 frames, or the partner's own
notice, makes the package serve both: a parcel whose mirror here is current becomes a guest, and one whose mirror is not is lost. The
handback begins at its frame: the partner's parcels here stay, and its entries for others go. A migrated context is installed under a
free number and mirrored, the source is told, and its command ends with the destination's answer (R221, R464, R466–R470). -/
def Obligations.PromotionHandbackAndMigration : Prop :=
  (∀ (s : State) (h : Nat) (reports : List WitnessReport), s.Settled → s.flt.heardPartner = some h → s.flt.pair = 1 → h + 48 ≤ s.time.lfc →
    3 ≤ s.man.witnesses.length → leaseHeld s = true → (∀ w ∈ s.man.witnesses, ∃ r ∈ reports, r.node = w ∧ r.heard + 32 ≤ s.time.lfc) →
    s.mem.mirrorDir = [] → s.seqs.mirror = [] → s.coll.nodes = [] →
    (∀ x ∈ s.mem.dir, inPackage x.2.home s.partner = false ∧ inPackage x.2.src s.partner = false) →
    ∃ u : State, exec (.promotion reports) s = .next (settle u) ∧ u.flt.pair = 3 ∧ u.flt.servingPartner = true ∧ u.mem.partnerDown = true ∧
      s.partner ∉ u.fab.dead ∧ u.mem.dir = s.mem.dir ∧ u.groups = s.groups ∧
      u.flt.raised = [{ die := 18, cls := 0x11, cause := 2, node := s.partner % 512, frame := s.time.lfc }]) ∧
  (∀ (s : State), s.Settled → s.flt.heardPartner ≠ none → s.flt.pair < 2 → pairRuns s = true → s.mem.mirrorDir = [] → s.seqs.mirror = [] →
    s.coll.nodes = [] → (∀ x ∈ s.mem.dir, inPackage x.2.home s.partner = false ∧ inPackage x.2.src s.partner = false) →
    ∃ u : State, exec (.failing s.partner) s = .next (settle u) ∧ u.flt.pair = 3 ∧ u.flt.servingPartner = true ∧ u.mem.partnerDown = true ∧
      u.mem.dir = s.mem.dir ∧ u.groups = s.groups) ∧
  (∀ (s : State) (p : Nat) (e : DirEntry), s.Settled → s.flt.heardPartner ≠ none → s.flt.pair < 2 → pairRuns s = true →
    s.mem.mirrorDir = [(p, e)] → p < 2 ^ 20 → e.st = 1 → inPackage e.home s.self = true → dataFrames s ≤ e.home.frame →
    s.partner ≠ s.self → (entOf s s.partner p).st ≠ 1 → s.mem.dir = [] → s.seqs.mirror = [] → s.coll.nodes = [] →
    ∃ u : State, exec (.failing s.partner) s = .next (settle u) ∧ u.flt.pair = 3 ∧ u.mem.mirrorDir = [] ∧
      entOf u s.partner p = if e.unmirrored then { e with st := 3, home := {}, src := {} } else { e with src := {}, unmirrored := true }) ∧
  (∀ (s : State) (x : Nat), s.Settled → s.flt.handbackAt = some x → s.flt.pair = 3 → x ≤ s.time.lfc →
    ∃ t : State, exec .handback s = .next t ∧ t.flt.pair = 5 ∧ t.flt.servingPartner = false ∧ t.flt.handbackAt = none ∧
      t.mem.partnerDown = false ∧ t.mem.dir = s.mem.dir ∧ t.mem.cells = s.mem.cells ∧ t.groups = s.groups ∧
      (∀ y ∈ partnerGuests s, y.2.st = 1 → inPackage y.2.home s.self = true → (∀ z ∈ partnerGuests s, z.1 = y.1 → z = y) →
        y ∈ t.mem.guests) ∧
      ∀ y ∈ partnerGuests s, y.2.st = 1 ∧ inPackage y.2.home s.self = true ∨ AMap.find t.mem.guests y.1 = none) ∧
  (∀ (s : State) (r : SeqRecord), s.Settled → r.move = false →
    (16384 ≤ s.seqs.ctxs.length → exec (.seqMigrateRecord r) s =
      .next (sendMsg s r.fromNode msgRecordReply [(14, r.fromCtx), (1, 1), (14, 0)])) ∧
    (s.seqs.ctxs.length < 16384 →
      ∃ c : SeqCtx, exec (.seqMigrateRecord r) s = .next (sendMsg (mirrorSeqAll (s.setSeqCtx (freeSeqCtx s) c) (freeSeqCtx s)) r.fromNode
          msgRecordReply [(14, r.fromCtx), (1, 0), (14, freeSeqCtx s)]) ∧
        c.len = r.lens ∧ c.res = r.lens ∧ dStripeBase c.desc.toNat = r.stripeBase % 32)) ∧
  (∀ (s : State) (c base : Nat) (m : Master) (move : Bool) (x : SeqCtx), s.Settled → s.seqCtx c = some x → x.mig = some (m, base, move) →
    s.mbx.cur = none →
    exec (.seqMigrateReply c none) s = .next ((s.setSeqCtx c { x with migrating := false, mig := none }).answered m 0x0904 BUSY) ∧
    ∀ n, move = false → exec (.seqMigrateReply c (some n)) s = .next ((mirrorSeq (s.modSeq fun q => { q with
      ctxs := AMap.erase q.ctxs c, migrations := satAdd 32 q.migrations 1 }) c).answered m 0x0904 OK [(2, n)]))

/-- Rack time. FRAME_START advances the count by one and takes the measured power; a steering frame is shortened or lengthened by its
offset; RACKSYNC edges qualify the pins and number INIT; a bad edge or a lost clock ends LOCKED; the sources of numbers are
heard, lost, taken over and handed back (R409–R415). TIME_SET takes the role, the base and the steering limit and leaves the frame count and the time state; TIME_ACCEPT in JUMPED
with valid pins waits for the next RACKSYNC edge without an answer (R417, R420). -/
def Obligations.TimeAdvancesAndObeysItsCommands : Prop :=
  (∀ (s : State) (w : Nat), s.Settled → s.flt.phase = 0 → exec (.frameStart w) s = .next s) ∧
  (∀ (s : State) (w : Nat), s.Settled → s.flt.phase ≠ 0 → s.time.rebase = none →
    ∃ t : State, exec (.frameStart w) s = .next t ∧ t.time.lfc = (if s.time.begun then s.time.lfc else (s.time.lfc + 1) % 2 ^ 48) ∧
      t.time.begun = false ∧ t.power.power = w ∧ t.power.limit = weirLimit s.power.cfg (capEff s) w ∧ t.mem = s.mem ∧ t.groups = s.groups ∧
      t.seqs = s.seqs ∧ t.coll = s.coll ∧ t.xlat = s.xlat ∧
      (s.time.st = .steering → s.time.pinsOk = false → s.time.offset ≠ 0 → t.time.frameLen = steerLen s.time.offset ∧
        t.time.offset = s.time.offset + (Int.ofNat (steerLen s.time.offset) - 10240))) ∧
  (∀ (s : State), s.Settled → s.time.rebase = none → s.time.st = .locked →
    exec (.racksyncEdge false) s = .next (s.modTime fun t => { t with
      edges := t.edges + 1, sinceEdge := 0, edgeSeen := true, pinsOk := false, goodFrames := 0, st := .holdover, holdSince := t.lfc
      frameLen := 10240 }) ∧
    exec .rackclkLoss s = .next (s.modTime fun t => { t with
      pinsOk := false, goodFrames := 0, st := .holdover, holdSince := t.lfc, frameLen := 10240 })) ∧
  (∀ (s : State), s.Settled → s.time.pinsOk = false →
    (s.time.goodFrames < 15 → exec (.racksyncEdge true) s = .next (s.modTime fun t => { t with
      edges := t.edges + 1, sinceEdge := 0, edgeSeen := true, goodFrames := t.goodFrames + 1 })) ∧
    (15 ≤ s.time.goodFrames → ∃ t : State, exec (.racksyncEdge true) s = .next (settle t) ∧ t.time.pinsOk = true)) ∧
  (∀ (s : State), s.Settled → s.time.pinsOk = true → s.time.rebase = none → s.time.st = .init →
    (isKeeper s.time = true → s.time.numbered = false → s.time.roleSince + 16 ≤ s.time.lfc →
      ∃ t : State, exec (.racksyncEdge true) s = .next t ∧ t.time.lfc = s.time.base % 2 ^ 48 ∧ t.time.st = .locked ∧ t = { s with time := t.time }) ∧
    (isKeeper s.time = false → s.time.srcPort ≠ 0x7F → s.time.numbered = true →
      ∃ t : State, exec (.racksyncEdge true) s = .next t ∧ t.time.lfc = (s.time.lastRack + (s.time.edges + 1)) % 2 ^ 48 ∧
        t.time.st = .locked ∧ t.time.frameLen = 10240 ∧ t = { s with time := t.time })) ∧
  (∀ (s : State), s.Settled → isKeeper s.time = false → s.time.st = .locked → (∀ x ∈ s.time.sources, x.2.heardAt + 64 ≤ s.time.lfc) →
    exec .numberSourceLoss s = .next (s.modTime fun t => { t with st := .holdover, holdSince := t.lfc, frameLen := 10240 })) ∧
  (∀ (s : State), s.Settled → s.time.role = 2 → s.time.altActive = false → s.time.lastHoldClear + 16 ≤ s.time.lfc →
    ∃ t : State, exec .alternateTakeover s = .next t ∧ t.time.altActive = true ∧ t.time.hops = 0 ∧ t.time.lfc = s.time.lfc ∧
      (s.time.pinsOk = true → t.time.st = .locked) ∧ (s.time.pinsOk = false → s.time.st ≠ .init → t.time.st = .holdover) ∧
      t = { s with time := t.time }) ∧
  (∀ (s : State), s.Settled → s.time.altActive = true → 16 ≤ s.time.altClearRun →
    ∃ t : State, exec .alternateStop s = .next t ∧ t.time.altActive = false ∧ t.time.lastHoldClear = s.time.lfc ∧
      t.time.lfc = s.time.lfc ∧ t = { s with time := t.time }) ∧
  (∀ (s : State) (p : Nat) (a b : BitVec 56) (late : Bool), s.Settled → a ≠ b → exec (.timeBlock p a b late) s = .next s) ∧
  (∀ (s : State) (p : Nat) (a : BitVec 56) (late : Bool), s.Settled → bits a.toNat 54 2 = 0 → (s.prt p).st = 2 → (s.prt p).accepted = true →
    (s.prt p).quarantined = false → s.isEndPointPort p = false →
    ∃ t : State, exec (.timeBlock p a a late) s = .next t ∧ t = { s with time := t.time } ∧ t.time.lfc = s.time.lfc ∧
      AMap.find t.time.sources p = some { number := (bits a.toNat 0 48 + b2n late) % 2 ^ 48, hops := bits a.toNat 48 4
                                          hold := bitAt a.toNat 52, alt := bitAt a.toNat 53, heardAt := s.time.lfc }) ∧
  (∀ (s : State) (m : Master) (role base limit : Nat), s.Takes m 0x03A0 [] → role ≤ 2 → base < frameMod → 1 ≤ limit → limit ≤ 4096 →
    ∃ tm : TimeS, exec (.timeSet m role base limit) s = .next (State.answered { s with time := tm } m 0x03A0 OK) ∧
      tm.role = role ∧ tm.base = base ∧ tm.steerLimit = limit ∧ tm.lfc = s.time.lfc ∧ tm.st = s.time.st ∧ tm.offset = s.time.offset) ∧
  (∀ (s : State) (m : Master), s.Takes m 0x03A2 [] → s.time.rebase = none → s.time.st = .jumped → s.time.pinsOk = true →
    exec (.timeAccept m) s = .next (s.modTime fun t => { t with rebase := some m })) ∧
  (∀ (s : State) (m : Master), s.Takes m 0x03A2 [] → s.time.rebase = none → (s.time.st ≠ .jumped ∨ s.time.pinsOk = false) →
    exec (.timeAccept m) s = .next (s.answered m 0x03A2 REFUSED))

/-- Stacks and moves. An atom of a frame that is not moving is scrubbed once in a pass: with at most four bad symbols it is corrected
and counted, with more it is poisoned or, as the decoder may, miscorrected; a refresh slot refreshes the stacks it belongs to; a tile
that has been copied is flipped and the next begins, or its copy is abandoned; a move whose tiles are all there tells the location
caches and ends once all have acknowledged; an interval decays the counts, and moves nothing while power lags (R67, R70, R73, R85–R87,
R92, R93, R96; the extent of a DRAM row, what a miscorrection writes, and that nothing counts it, are the model's choices, log entries
73, 218 and 232). -/
def Obligations.StacksAreScrubbedAndParcelsMoved : Prop :=
  (∀ (s : State) (n atom bad key : Nat), s.Settled → s.time.lfc % 16 = 8 → (s.stk n).joined = true → (s.stk n).fenced = false →
    frameUse s n (atom / 0x8000) = (some key, false) → (s.stk n).scrubPass = scrubPassOf s →
    ((s.stk n).scrubbed.contains atom = true → exec (.patrolScrub n atom bad) s = .next s) ∧
    ((s.stk n).scrubbed.contains atom = false → AMap.has s.mem.upsets (key / 64 + atom % 0x8000) = false →
      (bad = 0 → exec (.patrolScrub n atom bad) s = .next (s.modStk n fun k => { k with scrubbed := atom :: k.scrubbed })) ∧
      (1 ≤ bad → bad ≤ 4 → AMap.get 0 (s.stk n).rowHits (atom / 32) < 2 →
        exec (.patrolScrub n atom bad) s = .next (s.modStk n fun k => { k with
          scrubbed := atom :: k.scrubbed, ce := satAdd 16 k.ce 1
          rowHits := AMap.set k.rowHits (atom / 32) (AMap.get 0 k.rowHits (atom / 32) + 1) })) ∧
      (5 ≤ bad → key / 64 + atom % 0x8000 < 2 ^ 58 → exec (.patrolScrub n atom bad) s = .next (settle (
        if Config.free s.fresh % 4096 = 0 then
          State.modMem (State.modStk { s with fresh := s.fresh + 2 } n fun k => { k with scrubbed := atom :: k.scrubbed }) fun m => { m with
            cells := Mem.writeBytes m.cells ((key / 64 + atom % 0x8000) * 64) (leBytes 64 (Config.free (s.fresh + 1))) }
        else poisonAtom (State.modStk { s with fresh := s.fresh + 1 } n fun k => { k with
          scrubbed := atom :: k.scrubbed, ue := satAdd 8 k.ue 1 }) (key / 64 + atom % 0x8000)))))) ∧
  (∀ (s : State) (i : Nat), s.Settled → i < 32 →
    ∃ t : State, exec (.refreshSlot i) s = .next t ∧ t = s.modMem (fun m => { m with stks := t.mem.stks }) ∧
      ∀ n, n < 32 → t.stk n = if (s.stk n).joined = true ∧ (s.stk n).fenced = false ∧ ((s.stk n).hot = true ∨ i % 2 = 0) then
        { s.stk n with lastRefresh := s.time.lfc * 32 + i } else s.stk n) ∧
  (∀ (s : State) (p k : Nat) (mv : Move), s.Settled → AMap.find s.mem.moves p = some mv → mv.copying = some k → mv.failed = false → mv.held = [] →
    locLocal s (s.ent p).src = true → locLocal s (s.ent p).home = true → tileBusy s p = false →
    exec (.tileFlip p) s = .next (settle (beginTile (mirrorEntry (clearBehind (s.modMem fun m => { m with
      moves := AMap.set m.moves p { mv with present := mv.present ++ [k], copying := none } }) p) p) p))) ∧
  (∀ (s : State) (p k : Nat) (mv : Move), s.Settled → AMap.find s.mem.moves p = some mv → mv.copying = some k → mv.held = [] →
    s.fab.tracks = [] → s.xlat.accs = [] → remoteSource s (s.ent p) = false →
    exec (.tileCopyAbandon p) s = .next (settle (beginTile (clearBehind (placeCount (s.modMem fun m => { m with
      moves := AMap.set m.moves p { mv with copying := none } }) 4) p) p))) ∧
  (∀ (s : State) (p : Nat) (mv : Move), s.Settled → AMap.find s.mem.moves p = some mv → 128 ≤ mv.present.length → mv.held = [] →
    p < 2 ^ 20 →
    (mv.acks = none → livePackages s ≠ [] →
      ∃ t : State, exec (.moveComplete p) s = .next t ∧ AMap.find t.mem.moves p = some { mv with acks := some (livePackages s) } ∧
        t.ent p = s.ent p ∧ t.fab.inbuf.length = s.fab.inbuf.length + (livePackages s).length ∧ t.mem.cells = s.mem.cells ∧
        (∀ l ∈ t.mem.locs, l.node ≠ s.self ∨ l.parcel ≠ p) ∧ t.groups = s.groups) ∧
    (mv.acks = some [] → mv.evacuation = false → remoteSource s (s.ent p) = false → s.mem.lends = [] →
      (∀ n, (s.stk n).evacuating = false) →
      exec (.moveComplete p) s = .next (mirrorEntry (placeCount ((s.setEnt p { s.ent p with st := 1, src := {}, age := 0 }).modMem fun m =>
        { m with moves := AMap.erase m.moves p }) 1) p))) ∧
  (∀ (s : State), s.Settled → s.time.lfc % 16 ≠ 0 → exec .placementInterval s = .next s) ∧
  (∀ (s : State), s.Settled → s.time.lfc % 16 = 0 → s.mem.lastInterval ≠ s.time.lfc + 1 → 4 ≤ s.flt.phase → s.flt.phase ≤ 7 → s.flt.pair ≠ 5 →
    s.mem.resyncing = [] → s.mem.lends = [] → (∀ n, (s.stk n).evacuating = false) → moveStopped s = true →
    (∀ x ∈ s.mem.dir, x.2.mirror = false ∧ (s.pol x.2.owner).mirror = 0) →
    ∃ t : State, exec .placementInterval s = .next t ∧ t.mem.lastInterval = s.time.lfc + 1 ∧ t.mem.intervalStopped = true ∧ t.mem.startedNow = 0 ∧
      t.mem.moves = s.mem.moves ∧ t.mem.cells = s.mem.cells ∧ t = { s with mem := t.mem, fresh := t.fresh } ∧
      t.mem.dir = AMap.mapVals (fun _ e => { e with
        total := e.total >>> (s.pol e.owner).decay, cnt0 := e.cnt0 >>> (s.pol e.owner).decay, cnt1 := e.cnt1 >>> (s.pol e.owner).decay
        age := min 7 (e.age + 1) }) s.mem.dir)

/-- Power, supply and temperature. A cap takes effect in its frame; silence of the management network for 5 s makes the package safe;
a warning throttles, counts and, once in a frame, is a fault, until it is lifted; a regulator that is silent for two polls, or
reports a fault, is one; the throttle ladder rises straight to the step that fits and falls one step after 16 cool
frames (R421, R426, R427, R429, R432, R440). -/
def Obligations.CapsSupplyAndTemperatureAct : Prop :=
  (∀ (s : State) (c f : Nat), s.Settled → s.power.pendMgmt = some (c, f) → s.power.pendHost = none → f ≤ s.time.lfc →
    ∃ t : State, exec .capStep s = .next t ∧ t.power.cfg = { s.power.cfg with cap := c } ∧ t.power.pendMgmt = none ∧
      t.power.limit = weirLimit s.power.cfg (capEff t) s.power.power ∧ t.power.capLag = decide (capEff t < t.power.limit) ∧
      t.mem = s.mem ∧ t.groups = s.groups ∧ t.time = s.time ∧ t.flt = s.flt) ∧
  (∀ (s : State) (f : Nat), s.Settled → s.power.hbAt = some f → s.power.safe = false → f + 76294 ≤ s.time.lfc →
    ∃ t : State, exec .safeSet s = .next t ∧ t.power.safe = true ∧ t.power.pendMgmt = none ∧ t.power.pendHost = none ∧
      t.power.cfg = s.power.cfg ∧ t.mem = s.mem ∧ t.groups = s.groups ∧ t.flt = s.flt) ∧
  (∀ (s : State) (mv : Nat), s.Settled → 640 ≤ mv → mv < 690 → s.power.dipInFrame ≠ 0 → actionOn s = true →
    exec (.supplyWarning mv) s = .next (s.modPower fun p => { p with
      supply := true, dips := p.dips + 1, dipInFrame := p.dipInFrame + 1, dipMin := min p.dipMin mv })) ∧
  (∀ (s : State) (mv : Nat), s.Settled → 640 ≤ mv → mv < 690 → s.power.dipInFrame = 0 → actionOn s = false →
    exec (.supplyWarning mv) s = .next (settle (raise (s.modPower fun p => { p with
      actionPower := p.power, supply := true, dips := p.dips + 1, dipInFrame := 1, dipMin := mv }) { die := 18, cls := 0x0C, cause := 3 }))) ∧
  (∀ (s : State), s.Settled → exec .supplyThrottleLift s = .next (s.modPower fun p => { p with supply := false })) ∧
  (∀ (s : State) (i : Nat), s.Settled → i < 16 → i < s.man.regulators.length → 2 ≤ s.flt.phase →
    (AMap.find s.power.regSilent i = none →
      exec (.regulatorPoll i none) s = .next (s.modPower fun p => { p with regSilent := AMap.set p.regSilent i s.time.lfc })) ∧
    (∀ f, AMap.find s.power.regSilent i = some f → f + 16 ≤ s.time.lfc → AMap.get false s.power.regFault i = false →
      exec (.regulatorPoll i none) s = .next (settle (raise (s.modPower fun p => { p with
        regFault := AMap.set p.regFault i true }) { die := 18, cls := 0x0B, inst := i, cause := 2 }))) ∧
    (AMap.get false s.power.regFault i = false →
      exec (.pmbAlert i true) s = .next (settle (raise (s.modPower fun p => { p with
        regFault := AMap.set p.regFault i true, regSilent := AMap.erase p.regSilent i }) { die := 18, cls := 0x0B, inst := i, cause := 1 }))) ∧
    exec (.pmbAlert i false) s = .next (s.modPower fun p => { p with
      regFault := AMap.set p.regFault i false, regSilent := AMap.erase p.regSilent i })) ∧
  (∀ (s : State) (tj : Nat), s.Settled → s.power.flowSelf = false →
    (s.power.ladder < stepFor tj s.power.flowReported →
      ∃ u : State, exec (.thermalSample tj [] []) s = .next (settle u) ∧ u.power.tj = tj ∧ u.power.ladder = stepFor tj s.power.flowReported ∧
        u.mem = s.mem ∧ u.groups = s.groups ∧ u.flt.raised = [{ die := 18, cls := 0x0C, cause := 1, frame := s.time.lfc }]) ∧
    (∀ k f, s.power.ladder = k → 1 ≤ k → k ≤ 4 → s.power.flowReported = false → AMap.find s.power.cool k = some f → f + 16 ≤ s.time.lfc →
      tj < exitTemp k → ∃ t : State, exec (.thermalSample tj [] []) s = .next t ∧ t.power.tj = tj ∧ t.power.ladder = k - 1 ∧
        t.mem = s.mem ∧ t.groups = s.groups ∧ t.flt = s.flt))

/-- Power states. EPO_N and a trip take the power away, and the stacks keep their contents in self-refresh; the trip's record
waits for the next boot; EPO_N's end is noted; a group with nothing to do is gated; D3hot with standby enabled enters
standby when nothing is under way, D0 leaves it, and 10 ms without traffic enter it again (R431, R433, R435). -/
def Obligations.PowerLeavesAndReturns : Prop :=
  (∀ (s : State), s.Settled → s.power.epo = false →
    ∃ u : State, exec .epoAssert s = .next (settle u) ∧ u.power.epo = true ∧ u.power.resuming = false ∧
      (∀ x ∈ u.mem.mirrorDir, inPackage x.2.home u.self = true → x.2.unmirrored = true) ∧ ∀ k ∈ u.mem.stks, k.2.selfRefresh = true) ∧
  (∀ (s : State), s.Settled → s.power.trip = false → s.power.epo = false →
    ∃ u : State, exec .thermalTrip s = .next (settle u) ∧ u.power.epo = true ∧ u.power.trip = true ∧ u.power.thermN = true ∧
      u.mgmt.tripLatch = true) ∧
  (∀ (s : State), s.Settled → s.power.epoPin = true →
    exec .epoDeassert s = .next (s.modPower fun p => { p with epoPin := false, epoOff := s.time.lfc })) ∧
  (∀ (s : State) (g : Nat), s.Settled → g < 32 → s.power.cfg.gateEn = true → (s.grp g).lists = [] → (s.grp g).joins = [] →
    (s.grp g).fenced = false → s.power.gated.contains g = false →
    exec (.groupGate g) s = .next (dropCopies (s.modPower fun p => { p with gated := p.gated ++ [g] }) [g, 32 + g])) ∧
  (∀ (s : State), s.Settled → hostUp s = true → s.power.cfg.standbyEn = false →
    exec .d3hot s = .next (s.modPower fun p => { p with d3hot := true })) ∧
  (∀ (s : State), s.Settled → hostUp s = true → standbyOk (s.modPower fun p => { p with d3hot := true }) = true →
    ∃ t : State, exec .d3hot s = .next t ∧ t.power = { s.power with d3hot := true, standby := true, gated := List.range 32 } ∧ t.xlat.atc = [] ∧
      t.xlat.copies = [] ∧ t.mem.far = [] ∧ (∀ k ∈ t.mem.stks, k.2.selfRefresh = true) ∧ t.mem.cells = s.mem.cells ∧ t.groups = s.groups) ∧
  (∀ (s : State), s.Settled → standbyOk s = true →
    ∃ t : State, exec .standbyReentry s = .next t ∧ t.power = { s.power with standby := true, gated := List.range 32 } ∧ t.xlat.atc = [] ∧
      t.xlat.copies = [] ∧ t.mem.far = [] ∧ t.mem.cells = s.mem.cells) ∧
  (∀ (s : State), s.Settled → hostUp s = true → s.power.standby = true →
    ∃ t : State, exec .d0 s = .next t ∧ t.power = { s.power with d3hot := false, standby := false } ∧ t.mem.cells = s.mem.cells ∧
      ∀ k ∈ t.mem.stks, k.2.evacuated = false → k.2.selfRefresh = false)

/-- Resets and bring-up. Power-on and a supply reset leave what flash holds; RESET_N also keeps the memory of MD, and the captures
with it; PERST_N resets the HX function alone; Headwater starts Ibfen or enters recovery; a stack that has trained joins, the third failure
is a fault, and calibration ends bring-up (R140, R452–R454, R456, R474, R489). WARM_RESET of a package with no list and no collective node enters phase 0x07, remembers the phase it left, returns the function's
queues, mailbox slots and translations to their reset values, ends the unlock of Oagal, and leaves its answer waiting (R453,
R454, R456). -/
def Obligations.ResetsLeaveWhatTheyKeepAndBringUpProceeds : Prop :=
  (∀ (s : State) (role side slot : Nat), s.Settled → role < 2 → side < 2 → slot < 32 → (s.power.trip = true → s.power.tj < 90) →
    ∃ t : State, exec (.powerOn role side slot) s = .next t ∧ exec (.supplyReset role side slot) s = .next t ∧ t.flt.phase = 1 ∧
      t.straps = { role := role, side := side, slot := slot } ∧ t.mem = {} ∧ t.groups = [] ∧ t.ports = [] ∧ t.time = {} ∧ t.flt.history = [] ∧
      t.mgmt.log = s.mgmt.log ∧ t.mgmt.boot = s.mgmt.boot ∧ t.mgmt.manifest = s.mgmt.manifest ∧ t.mgmt.ownerKeys = s.mgmt.ownerKeys ∧
      t.mgmt.flashReactions = s.mgmt.flashReactions ∧ t.power.epo = s.power.epoPin ∧ t.pending = s.pending) ∧
  (∀ (s : State) (role side slot : Nat), s.Settled → role < 2 → side < 2 → slot < 32 → (s.power.trip = true → s.power.tj < 90) →
    ∃ t : State, exec (.resetN role side slot) s = .next t ∧ t.flt.phase = 1 ∧ t.straps = { role := role, side := side, slot := slot } ∧ t.mem = {} ∧
      t.groups = [] ∧ t.flt.history = s.flt.history ∧ t.flt.seq = s.flt.seq ∧ t.flt.lost = s.flt.lost ∧
      t.flt.savedCaptures = s.flt.savedCaptures ++ s.flt.captures ∧ t.mgmt.log = s.mgmt.log ∧ t.mgmt.manifest = s.mgmt.manifest) ∧
  (∀ (s : State), s.Settled → 2 ≤ s.flt.phase → s.flt.phase ≠ 8 → s.power.standby = false →
    ∃ u : State, exec .perstN s = .next (settle u) ∧ u.mbx.hostSlots = [] ∧ u.power.cfg.hostCap = 3000 ∧
      (s.xlat.accs = [] → u.host.queues = [] ∧ u.host.msix = [] ∧ u.xlat.atc = [] ∧ u.xlat.copies = [] ∧ u.xlat.ctxs = s.xlat.ctxs ∧
        u.power.cfg = { s.power.cfg with hostCap := 3000 } ∧ u.host.hostParts = s.host.hostParts ∧ u.host.wedged = s.host.wedged ∧
        u.mem = s.mem ∧ u.groups = s.groups ∧ u.flt = s.flt)) ∧
  (∀ (s : State), s.Settled → s.flt.phase = 1 →
    ∃ t : State, exec (.headwaterBoot false) s = .next t ∧ t.flt.phase = 8 ∧ t.mgmt.boot = (s.mgmt.boot + 1) % 2 ^ 32 ∧ t.mem = s.mem) ∧
  (∀ (s : State) (i : Image), s.Settled → s.flt.phase = 1 → s.mgmt.logBuf = [] → s.flt.savedCaptures = [] → s.mgmt.tripLatch = false →
    s.power.epo = false → s.mgmt.update.flash = some i →
    (s.mgmt.minSvn ≤ i.svn → i.keyPair ∉ s.mgmt.revoked →
      ∃ u : State, exec (.headwaterBoot true) s = .next (settle u) ∧ u.flt.phase = 2 ∧ u.mgmt.update.running = i ∧
        u.flt.reactions = s.mgmt.flashReactions ∧ u.mgmt.boot = (s.mgmt.boot + 1) % 2 ^ 32) ∧
    (i.svn < s.mgmt.minSvn → ∃ t : State, exec (.headwaterBoot true) s = .next t ∧ t.flt.phase = 8)) ∧
  (∀ (s : State) (n : Nat), s.Settled → n < 32 → s.flt.phase = 4 → (s.stk n).joined = false → (s.stk n).fenced = false → s.power.epo = false →
    (∃ t : State, exec (.stackJoin n true) s = .next t ∧ (t.stk n).joined = true ∧ t.groups = s.groups ∧
      ((∀ k, k < 32 → k ≠ n → (s.stk k).joined = true) → t.flt.phase = 5)) ∧
    ((s.stk n).trainFails < 2 → exec (.stackJoin n false) s = .next (s.modStk n fun k => { k with trainFails := k.trainFails + 1 })) ∧
    ((s.stk n).trainFails = 2 → ∃ u : State, exec (.stackJoin n false) s = .next (settle u) ∧ (u.stk n).trainFails = 3 ∧
      u.flt.raised = [{ die := dieOf 5 n, cls := 5, inst := n, cause := 1, frame := s.time.lfc }])) ∧
  (∀ (s : State), s.Settled → s.flt.phase = 5 →
    ∃ t : State, exec .calibrationComplete s = .next t ∧ t.flt.phase = 6 ∧ t.flt.calibrated = true ∧ t.mem = s.mem ∧
      ∀ g, g < 32 → (t.grp g).fmtAll = true ∧ (t.grp g).clock = 2 ∧ (t.grp g).lists = (s.grp g).lists ∧ (t.grp g).ctrs = (s.grp g).ctrs) ∧
  (∀ (s : State) (m : Master), s.Takes m 0x0605 [] → s.coll.nodes = [] → (∀ g, (s.grp g).lists = []) → s.xlat.accs = [] →
    ∃ t : State, exec (.warmReset m) s = .next t ∧ t.flt.phase = 7 ∧ t.flt.prevPhase = s.flt.phase ∧ t.mgmt.oagalLevel = 0 ∧ t.mbx.hostSlots = [] ∧
      t.xlat.atc = [] ∧ t.xlat.atsOn = false ∧ t.power.cfg.hostCap = 3000 ∧ t.host.hostParts = s.host.hostParts ∧ t.mem = s.mem ∧
      (t.mbx.hwWait.map fun w => w.resp) = (s.mbx.hwWait.map fun w => w.resp) ++ [{ master := m, code := 0x0605, status := OK, data := [] }])

/-- Events of faults. A reported fault of a known source is raised; an engine without progress, an expired watchdog and a
lockstep mismatch are faults, and the reaction of MD's is a reset of the package that saves the capture; Ibfen enters a capture in the
history, buffers go to flash, a fenced unit is returned once after its 10 ms, a rebuilt directory is released, and a handover
switches while no command is in service (R439–R441, R444–R446, R450, R451, R482, R500). -/
def Obligations.FaultEventsAreTakenEnteredAndCleared : Prop :=
  (∀ (s : State) (cls inst cause status addr ctx part node : Nat), s.Settled → sourceOk' cls inst = true → 1 ≤ cause → cause ≤ causeCount cls →
    2 ≤ s.flt.phase → (cls = 0x0C → cause ≠ 4) → (cls = 1 → s.present inst = true) →
    exec (.faultRaise cls inst cause status addr ctx part node) s = .next (settle (raise s {
      die := raiseDie cls inst, cls := cls, inst := inst, cause := cause, status := status % 256, addr := addr % 2 ^ 56
      ctx := ctx % 4096, part := part % 64, node := node % 512 }))) ∧
  (∀ (s : State) (g e q : Nat), s.Settled → g < 32 → e < 4 → q < 16 → groupRuns s g = true → queueReady (s.grp g) e q = true →
    exec (.noProgressTimeout g e) s = .next (settle (raise s { die := dieOf 6 g, cls := 6, inst := g, cause := 2 }))) ∧
  (∀ (s : State), s.Settled → 2 ≤ s.flt.phase → s.flt.captures = [] → s.flt.reactions = [] → s.power.trip = false →
    (∃ t : State, exec .watchdogExpiry s = .next t ∧ t.flt.phase = 1 ∧ t.flt.savedCaptures = s.flt.savedCaptures ++
      [{ die := 18, cls := 0x0A, cause := 2, reaction := 0b010100, frame := s.time.lfc, tick := Config.free s.fresh % 10240 }]) ∧
    (s.mgmt.update.handover = false → ∃ t : State, exec .lockstepMismatch s = .next t ∧ t.flt.phase = 1 ∧ t.flt.savedCaptures =
      s.flt.savedCaptures ++
        [{ die := 18, cls := 0x0A, cause := 1, reaction := 0b010100, frame := s.time.lfc, tick := Config.free s.fresh % 10240 }]) ∧
    (s.mgmt.update.handover = true → exec .lockstepMismatch s = .next s)) ∧
  (∀ (s : State) (c : Capture), s.Settled → s.flt.captures = [c] → s.flt.phase = 6 → s.mgmt.halted = false → s.flt.history.length < 32 →
    ∃ t : State, exec .historyEntryWrite s = .next t ∧ t.flt.captures = [] ∧ t.flt.seq = (s.flt.seq + 1) % 65536 ∧
      t.flt.history = s.flt.history ++ [entryWord c ((s.flt.seq + 1) % 65536) s.flt.lostBefore] ∧ t.flt.lostBefore = 0 ∧ t.mem = s.mem ∧
      t.groups = s.groups) ∧
  (∀ (s : State) (ty f body : Nat) (l : List (Nat × Nat × Nat)), s.Settled → s.mgmt.logBuf = (ty, f, body) :: l →
    s.mgmt.update.writing = none → 2 ≤ s.flt.phase → s.mgmt.log.length < 524288 →
    exec .logWrite s = .next (s.modMgmt fun m => { m with
      logBuf := l, lseq := (m.lseq + 1) % 2 ^ 32
      log := m.log ++ [pack [(32, m.lseq), (8, ty), (8, 0), (48, f), (32, m.boot), (896, body)]] })) ∧
  (∀ (s : State) (k r : Nat) (l : AMap (Option Nat)), s.Settled → s.flt.toFlash = (k, some r) :: l → s.mgmt.update.writing = none →
    k % 65536 ≠ 0xFFFF →
    exec .faultRecordFlash s = .next ((s.modMgmt fun m => { m with
      flashReactions := AMap.set (AMap.erase m.flashReactions k) k r }).modFlt fun f => { f with toFlash := l })) ∧
  (∀ (s : State) (cls inst : Nat) (u : Fenced), s.Settled → s.flt.fenced = [u] → u.cls = cls → u.inst = inst → u.block = true →
    u.at' + 152 ≤ s.time.lfc → 2 ≤ s.flt.phase → mayReturn s cls inst = true →
    exec (.blockReturn cls inst false) s = .next (s.modFlt fun f => { f with fenced := [{ u with block := false }] }) ∧
    (cls = 6 → ∃ t : State, exec (.blockReturn cls inst true) s = .next t ∧ t.flt.fenced = [] ∧ (t.grp inst).fenced = false ∧ (t.grp inst).ctrs = [])) ∧
  (∀ (s : State) (h : Nat), s.Settled →
    exec (.directoryRebuildDone h) s = .next (s.modFlt fun f => { f with directoryRebuild := f.directoryRebuild.filter (· != h) })) ∧
  (∀ (s : State), s.Settled → s.mgmt.update.handover = true → s.mbx.cur = none → s.power.epo = false →
    ∃ t : State, exec .handoverSwitch s = .next t ∧ t.mgmt.update.handover = false ∧ t.mem = s.mem ∧ t.groups = s.groups ∧ t.mbx = s.mbx)
end

