-- ==== Sys2Proof/Laws/Map.lean ====
section
/-! SUPPORT. What reading a sparse table gives after a record of it is replaced, changed or removed. -/
namespace Sys2Proof

variable {α : Type}

@[simp] theorem AMap.get_set_same (d : α) (t : AMap α) (k : Nat) (v : α) : AMap.get d (AMap.set t k v) k = v := by
  induction t with
  | nil => simp [AMap.set, AMap.get]
  | cons e t ih =>
    unfold AMap.set
    split
    · simp [AMap.get]
    · split
      · simp [AMap.get]
      · simp [AMap.get, *]

theorem AMap.get_set_other (d : α) (t : AMap α) {k j : Nat} (v : α) (h : j ≠ k) :
    AMap.get d (AMap.set t k v) j = AMap.get d t j := by
  induction t with
  | nil => simp [AMap.set, AMap.get, h]
  | cons e t ih =>
    unfold AMap.set
    split
    · subst k; simp [AMap.get, h]
    · split
      · simp [AMap.get, h]
      · simp [AMap.get, ih]

theorem AMap.get_set (d : α) (t : AMap α) (k j : Nat) (v : α) :
    AMap.get d (AMap.set t k v) j = if j = k then v else AMap.get d t j := by
  by_cases h : j = k
  · subst j; simp
  · simp [AMap.get_set_other d t v h, h]

@[simp] theorem AMap.find_set_same (t : AMap α) (k : Nat) (v : α) : AMap.find (AMap.set t k v) k = some v := by
  induction t with
  | nil => simp [AMap.set, AMap.find]
  | cons e t ih =>
    unfold AMap.set
    split
    · simp [AMap.find]
    · split
      · simp [AMap.find]
      · simp [AMap.find, *]

theorem AMap.find_set_other (t : AMap α) {k j : Nat} (v : α) (h : j ≠ k) : AMap.find (AMap.set t k v) j = AMap.find t j := by
  induction t with
  | nil => simp [AMap.set, AMap.find, h]
  | cons e t ih =>
    unfold AMap.set
    split
    · subst k; simp [AMap.find, h]
    · split
      · simp [AMap.find, h]
      · simp [AMap.find, ih]

@[simp] theorem AMap.has_set_same (t : AMap α) (k : Nat) (v : α) : AMap.has (AMap.set t k v) k = true := by
  induction t with
  | nil => simp [AMap.set, AMap.has]
  | cons e t ih =>
    unfold AMap.set
    split
    · simp [AMap.has]
    · split
      · simp [AMap.has]
      · simp [AMap.has, ih]

@[simp] theorem AMap.get_modify_same (d : α) (t : AMap α) (k : Nat) (f : α → α) :
    AMap.get d (AMap.modify d t k f) k = f (AMap.get d t k) := by
  simp [AMap.modify]

theorem AMap.find_erase_same (t : AMap α) (k : Nat) : AMap.find (AMap.erase t k) k = none := by
  induction t with
  | nil => rfl
  | cons e t ih =>
    unfold AMap.erase at *
    by_cases h : e.1 = k
    · simp [h, ih]
    · have h' : ¬ k = e.1 := fun x => h x.symm
      simp [h, AMap.find, h', ih]

theorem AMap.get_erase_same (d : α) (t : AMap α) (k : Nat) : AMap.get d (AMap.erase t k) k = d := by
  induction t with
  | nil => rfl
  | cons e t ih =>
    unfold AMap.erase at *
    by_cases h : e.1 = k
    · simp [h, ih]
    · have h' : ¬ k = e.1 := fun x => h x.symm
      simp [h, AMap.get, h', ih]

theorem AMap.get_erase_other (d : α) (t : AMap α) {k j : Nat} (h : j ≠ k) : AMap.get d (AMap.erase t k) j = AMap.get d t j := by
  induction t with
  | nil => rfl
  | cons e t ih =>
    unfold AMap.erase at *
    by_cases he : e.1 = k
    · have : ¬ j = e.1 := by omega
      simp [he, AMap.get, ih, h]
    · simp [he, AMap.get, ih]

/-- What a map whose values have all been changed reads. -/
theorem AMap.get_mapVals {β : Type} (f : Nat → α → β) (t : AMap α) (d : α) (d' : β) (k : Nat) (h : f k d = d') :
    AMap.get d' (AMap.mapVals f t) k = f k (AMap.get d t k) := by
  induction t with
  | nil => simp [AMap.mapVals, AMap.get, h]
  | cons e t ih =>
    simp only [AMap.mapVals, List.map_cons, AMap.get] at *
    split
    · subst_vars; rfl
    · exact ih

theorem Machine.mem_range' (f c x : Nat) : x ∈ Machine.range' f c ↔ f ≤ x ∧ x < f + c := by
  induction c generalizing f with
  | zero => simp [Machine.range']
  | succ c ih => simp only [Machine.range', List.mem_cons, ih]; omega

end Sys2Proof
end

