-- ==== Sys2Proof/Laws/Memory.lean ====
section
/-! SUPPORT. Byte memory: every operation keeps the canonical form, a read after a write of the same offset gives the byte
written, and a write leaves every other byte alone. -/
namespace Sys2Proof.Machine

/-- A lower bound may be lowered. -/
theorem Mem.wfFrom_weaken {lo lo' : Nat} (h : lo' ≤ lo) (m : List Host.Cell) (w : Mem.wfFrom lo m = true) : Mem.wfFrom lo' m = true := by
  cases m with
  | nil => rfl
  | cons c t =>
    simp only [Mem.wfFrom, Bool.and_eq_true, decide_eq_true_eq] at *
    exact ⟨⟨Nat.le_trans h w.1.1, w.1.2⟩, w.2⟩

theorem Mem.write_wfFrom (m : List Host.Cell) (lo k : Nat) (v : Byte) (hk : lo ≤ k) (w : Mem.wfFrom lo m = true) :
    Mem.wfFrom lo (Mem.write m k v) = true := by
  induction m generalizing lo with
  | nil =>
    unfold Mem.write
    split
    · rfl
    · simp_all [Mem.wfFrom]
  | cons c t ih =>
    simp only [Mem.wfFrom, Bool.and_eq_true, decide_eq_true_eq] at w
    unfold Mem.write
    split
    · rename_i h
      split
      · exact Mem.wfFrom_weaken (by omega) t w.2
      · rename_i hv
        subst h
        simp_all [Mem.wfFrom]
    · rename_i h
      split
      · split
        · simp_all [Mem.wfFrom]
        · rename_i hlt hv
          simp only [Mem.wfFrom, Bool.and_eq_true, decide_eq_true_eq]
          exact ⟨⟨hk, by simpa using hv⟩, ⟨by omega, w.1.2⟩, w.2⟩
      · rename_i hlt
        simp only [Mem.wfFrom, Bool.and_eq_true, decide_eq_true_eq]
        exact ⟨w.1, ih (c.1 + 1) (by omega) w.2⟩

/-- Writing one byte keeps the canonical form. -/
theorem Mem.write_wf (m : List Host.Cell) (k : Nat) (v : Byte) (w : Mem.wf m = true) : Mem.wf (Mem.write m k v) = true :=
  Mem.write_wfFrom m 0 k v (Nat.zero_le k) w

/-- Writing bytes keeps the canonical form. -/
theorem Mem.writeBytes_wf (d : Bytes) (m : List Host.Cell) (k : Nat) (w : Mem.wf m = true) : Mem.wf (Mem.writeBytes m k d) = true := by
  induction d generalizing m k with
  | nil => exact w
  | cons v vs ih => exact ih _ _ (Mem.write_wf m k v w)

theorem Mem.filter_wfFrom (p : Host.Cell → Bool) (m : List Host.Cell) (lo : Nat) (w : Mem.wfFrom lo m = true) :
    Mem.wfFrom lo (m.filter p) = true := by
  induction m generalizing lo with
  | nil => rfl
  | cons c t ih =>
    simp only [Mem.wfFrom, Bool.and_eq_true, decide_eq_true_eq] at w
    simp only [List.filter]
    split
    · simp only [Mem.wfFrom, Bool.and_eq_true, decide_eq_true_eq]
      exact ⟨w.1, ih _ w.2⟩
    · exact Mem.wfFrom_weaken (by omega) _ (ih _ w.2)

/-- Clearing bytes keeps the canonical form. -/
theorem Mem.clear_wf (m : List Host.Cell) (k n : Nat) (w : Mem.wf m = true) : Mem.wf (Mem.clear m k n) = true :=
  Mem.filter_wfFrom _ m 0 w

/-- Nothing below the lower bound is listed. -/
theorem Mem.read_below (m : List Host.Cell) (lo k : Nat) (w : Mem.wfFrom lo m = true) (h : k < lo) : Mem.read m k = 0 := by
  induction m generalizing lo with
  | nil => rfl
  | cons c t ih =>
    simp only [Mem.wfFrom, Bool.and_eq_true, decide_eq_true_eq] at w
    have hne : c.1 ≠ k := by omega
    simp [Mem.read, hne, ih (c.1 + 1) w.2 (by omega)]

theorem Mem.read_write_from (m : List Host.Cell) (lo k : Nat) (v : Byte) (w : Mem.wfFrom lo m = true) :
    Mem.read (Mem.write m k v) k = v := by
  induction m generalizing lo with
  | nil =>
    unfold Mem.write
    split <;> simp_all [Mem.read]
  | cons c t ih =>
    simp only [Mem.wfFrom, Bool.and_eq_true, decide_eq_true_eq] at w
    unfold Mem.write
    split
    · rename_i h
      split
      · rename_i hv
        rw [Mem.read_below t (c.1 + 1) k w.2 (by omega), hv]
      · simp [Mem.read]
    · rename_i h
      split
      · rename_i hlt
        split
        · rename_i hv
          have hne : ¬ c.1 = k := fun e => h e.symm
          simp [Mem.read, hne, Mem.read_below t (c.1 + 1) k w.2 (by omega), hv]
        · simp [Mem.read]
      · have hne : ¬ c.1 = k := fun e => h e.symm
        simp [Mem.read, hne, ih (c.1 + 1) w.2]

/-- A read after a write of the same offset gives the byte written. -/
theorem Mem.read_write_same (m : List Host.Cell) (k : Nat) (v : Byte) (w : Mem.wf m = true) : Mem.read (Mem.write m k v) k = v :=
  Mem.read_write_from m 0 k v w

/-- A write leaves every other byte alone. -/
theorem Mem.read_write_other (m : List Host.Cell) {k j : Nat} (v : Byte) (h : j ≠ k) : Mem.read (Mem.write m k v) j = Mem.read m j := by
  have h' : ¬ k = j := fun e => h e.symm
  induction m with
  | nil =>
    unfold Mem.write
    split <;> simp [Mem.read, h']
  | cons c t ih =>
    unfold Mem.write
    split
    · rename_i e
      have hc : ¬ c.1 = j := fun x => h' (e.trans x)
      split <;> simp [Mem.read, h', hc]
    · split
      · split <;> simp [Mem.read, h']
      · simp [Mem.read, ih]

/-- Writing bytes leaves every byte outside them alone. -/
theorem Mem.read_writeBytes_other (d : Bytes) (m : List Host.Cell) (k j : Nat) (h : j < k ∨ k + d.length ≤ j) :
    Mem.read (Mem.writeBytes m k d) j = Mem.read m j := by
  induction d generalizing m k with
  | nil => rfl
  | cons v vs ih =>
    simp only [List.length_cons] at h
    unfold Mem.writeBytes
    rw [ih _ _ (by omega), Mem.read_write_other m v (by omega)]

/-- Bytes read where they were written. -/
theorem Mem.read_writeBytes_same (d : Bytes) (m : List Host.Cell) (k i : Nat) (w : Mem.wf m = true) (h : i < d.length) :
    Mem.read (Mem.writeBytes m k d) (k + i) = d[i] := by
  induction d generalizing m k i with
  | nil => exact absurd h (by simp)
  | cons v vs ih =>
    unfold Mem.writeBytes
    cases i with
    | zero => rw [Mem.read_writeBytes_other vs _ _ _ (by omega), Nat.add_zero, Mem.read_write_same m k v w]; rfl
    | succ i =>
      have := ih (Mem.write m k v) (k + 1) i (Mem.write_wf m k v w) (by simpa using h)
      rw [show k + (i + 1) = k + 1 + i by omega, this]; rfl

/-- What cleared memory reads. -/
theorem Mem.read_clear (m : List Host.Cell) (k n j : Nat) : Mem.read (Mem.clear m k n) j = if k ≤ j ∧ j < k + n then 0 else Mem.read m j := by
  induction m with
  | nil => simp [Mem.clear, Mem.read]
  | cons c t ih =>
    simp only [Mem.clear, List.filter] at *
    by_cases hc : k ≤ c.1 ∧ c.1 < k + n
    · simp only [hc, decide_true, Bool.and_self, Bool.not_true, Mem.read]
      rw [ih]; split <;> simp_all; intro h; omega
    · have : (!(decide (k ≤ c.1) && decide (c.1 < k + n))) = true := by
        by_cases h1 : k ≤ c.1 <;> simp_all
      simp only [this, Mem.read]
      rw [ih]; by_cases h2 : c.1 = j
      · simp [h2]; subst h2; intro h3; omega
      · simp [h2]

end Sys2Proof.Machine
end

