-- ==== Sys2Proof/Laws/State.lean ====
section
/-! SUPPORT. What each update of the state leaves and what it writes: one lemma for each field and each update, so that no
later proof unfolds a record update. -/
namespace Sys2Proof.Machine

/-! ## `State.modMem` -/

@[simp] theorem State.modMem_pending (s : State) (k : MemS → MemS) : (s.modMem k).pending = s.pending := rfl
@[simp] theorem State.modMem_fresh (s : State) (k : MemS → MemS) : (s.modMem k).fresh = s.fresh := rfl
@[simp] theorem State.modMem_straps (s : State) (k : MemS → MemS) : (s.modMem k).straps = s.straps := rfl
@[simp] theorem State.modMem_time (s : State) (k : MemS → MemS) : (s.modMem k).time = s.time := rfl
@[simp] theorem State.modMem_power (s : State) (k : MemS → MemS) : (s.modMem k).power = s.power := rfl
@[simp] theorem State.modMem_host (s : State) (k : MemS → MemS) : (s.modMem k).host = s.host := rfl
@[simp] theorem State.modMem_mbx (s : State) (k : MemS → MemS) : (s.modMem k).mbx = s.mbx := rfl
@[simp] theorem State.modMem_xlat (s : State) (k : MemS → MemS) : (s.modMem k).xlat = s.xlat := rfl
@[simp] theorem State.modMem_mem (s : State) (k : MemS → MemS) : (s.modMem k).mem = k s.mem := rfl
@[simp] theorem State.modMem_groups (s : State) (k : MemS → MemS) : (s.modMem k).groups = s.groups := rfl
@[simp] theorem State.modMem_seqs (s : State) (k : MemS → MemS) : (s.modMem k).seqs = s.seqs := rfl
@[simp] theorem State.modMem_coll (s : State) (k : MemS → MemS) : (s.modMem k).coll = s.coll := rfl
@[simp] theorem State.modMem_fab (s : State) (k : MemS → MemS) : (s.modMem k).fab = s.fab := rfl
@[simp] theorem State.modMem_route (s : State) (k : MemS → MemS) : (s.modMem k).route = s.route := rfl
@[simp] theorem State.modMem_ports (s : State) (k : MemS → MemS) : (s.modMem k).ports = s.ports := rfl
@[simp] theorem State.modMem_flt (s : State) (k : MemS → MemS) : (s.modMem k).flt = s.flt := rfl
@[simp] theorem State.modMem_mgmt (s : State) (k : MemS → MemS) : (s.modMem k).mgmt = s.mgmt := rfl

/-! ## `State.modFlt` -/

@[simp] theorem State.modFlt_pending (s : State) (k : FaultS → FaultS) : (s.modFlt k).pending = s.pending := rfl
@[simp] theorem State.modFlt_fresh (s : State) (k : FaultS → FaultS) : (s.modFlt k).fresh = s.fresh := rfl
@[simp] theorem State.modFlt_straps (s : State) (k : FaultS → FaultS) : (s.modFlt k).straps = s.straps := rfl
@[simp] theorem State.modFlt_time (s : State) (k : FaultS → FaultS) : (s.modFlt k).time = s.time := rfl
@[simp] theorem State.modFlt_power (s : State) (k : FaultS → FaultS) : (s.modFlt k).power = s.power := rfl
@[simp] theorem State.modFlt_host (s : State) (k : FaultS → FaultS) : (s.modFlt k).host = s.host := rfl
@[simp] theorem State.modFlt_mbx (s : State) (k : FaultS → FaultS) : (s.modFlt k).mbx = s.mbx := rfl
@[simp] theorem State.modFlt_xlat (s : State) (k : FaultS → FaultS) : (s.modFlt k).xlat = s.xlat := rfl
@[simp] theorem State.modFlt_mem (s : State) (k : FaultS → FaultS) : (s.modFlt k).mem = s.mem := rfl
@[simp] theorem State.modFlt_groups (s : State) (k : FaultS → FaultS) : (s.modFlt k).groups = s.groups := rfl
@[simp] theorem State.modFlt_seqs (s : State) (k : FaultS → FaultS) : (s.modFlt k).seqs = s.seqs := rfl
@[simp] theorem State.modFlt_coll (s : State) (k : FaultS → FaultS) : (s.modFlt k).coll = s.coll := rfl
@[simp] theorem State.modFlt_fab (s : State) (k : FaultS → FaultS) : (s.modFlt k).fab = s.fab := rfl
@[simp] theorem State.modFlt_route (s : State) (k : FaultS → FaultS) : (s.modFlt k).route = s.route := rfl
@[simp] theorem State.modFlt_ports (s : State) (k : FaultS → FaultS) : (s.modFlt k).ports = s.ports := rfl
@[simp] theorem State.modFlt_flt (s : State) (k : FaultS → FaultS) : (s.modFlt k).flt = k s.flt := rfl
@[simp] theorem State.modFlt_mgmt (s : State) (k : FaultS → FaultS) : (s.modFlt k).mgmt = s.mgmt := rfl

/-! ## `State.modFab` -/

@[simp] theorem State.modFab_pending (s : State) (k : FabS → FabS) : (s.modFab k).pending = s.pending := rfl
@[simp] theorem State.modFab_fresh (s : State) (k : FabS → FabS) : (s.modFab k).fresh = s.fresh := rfl
@[simp] theorem State.modFab_straps (s : State) (k : FabS → FabS) : (s.modFab k).straps = s.straps := rfl
@[simp] theorem State.modFab_time (s : State) (k : FabS → FabS) : (s.modFab k).time = s.time := rfl
@[simp] theorem State.modFab_power (s : State) (k : FabS → FabS) : (s.modFab k).power = s.power := rfl
@[simp] theorem State.modFab_host (s : State) (k : FabS → FabS) : (s.modFab k).host = s.host := rfl
@[simp] theorem State.modFab_mbx (s : State) (k : FabS → FabS) : (s.modFab k).mbx = s.mbx := rfl
@[simp] theorem State.modFab_xlat (s : State) (k : FabS → FabS) : (s.modFab k).xlat = s.xlat := rfl
@[simp] theorem State.modFab_mem (s : State) (k : FabS → FabS) : (s.modFab k).mem = s.mem := rfl
@[simp] theorem State.modFab_groups (s : State) (k : FabS → FabS) : (s.modFab k).groups = s.groups := rfl
@[simp] theorem State.modFab_seqs (s : State) (k : FabS → FabS) : (s.modFab k).seqs = s.seqs := rfl
@[simp] theorem State.modFab_coll (s : State) (k : FabS → FabS) : (s.modFab k).coll = s.coll := rfl
@[simp] theorem State.modFab_fab (s : State) (k : FabS → FabS) : (s.modFab k).fab = k s.fab := rfl
@[simp] theorem State.modFab_route (s : State) (k : FabS → FabS) : (s.modFab k).route = s.route := rfl
@[simp] theorem State.modFab_ports (s : State) (k : FabS → FabS) : (s.modFab k).ports = s.ports := rfl
@[simp] theorem State.modFab_flt (s : State) (k : FabS → FabS) : (s.modFab k).flt = s.flt := rfl
@[simp] theorem State.modFab_mgmt (s : State) (k : FabS → FabS) : (s.modFab k).mgmt = s.mgmt := rfl

/-! ## `State.modHost` -/

@[simp] theorem State.modHost_pending (s : State) (k : HostS → HostS) : (s.modHost k).pending = s.pending := rfl
@[simp] theorem State.modHost_fresh (s : State) (k : HostS → HostS) : (s.modHost k).fresh = s.fresh := rfl
@[simp] theorem State.modHost_straps (s : State) (k : HostS → HostS) : (s.modHost k).straps = s.straps := rfl
@[simp] theorem State.modHost_time (s : State) (k : HostS → HostS) : (s.modHost k).time = s.time := rfl
@[simp] theorem State.modHost_power (s : State) (k : HostS → HostS) : (s.modHost k).power = s.power := rfl
@[simp] theorem State.modHost_host (s : State) (k : HostS → HostS) : (s.modHost k).host = k s.host := rfl
@[simp] theorem State.modHost_mbx (s : State) (k : HostS → HostS) : (s.modHost k).mbx = s.mbx := rfl
@[simp] theorem State.modHost_xlat (s : State) (k : HostS → HostS) : (s.modHost k).xlat = s.xlat := rfl
@[simp] theorem State.modHost_mem (s : State) (k : HostS → HostS) : (s.modHost k).mem = s.mem := rfl
@[simp] theorem State.modHost_groups (s : State) (k : HostS → HostS) : (s.modHost k).groups = s.groups := rfl
@[simp] theorem State.modHost_seqs (s : State) (k : HostS → HostS) : (s.modHost k).seqs = s.seqs := rfl
@[simp] theorem State.modHost_coll (s : State) (k : HostS → HostS) : (s.modHost k).coll = s.coll := rfl
@[simp] theorem State.modHost_fab (s : State) (k : HostS → HostS) : (s.modHost k).fab = s.fab := rfl
@[simp] theorem State.modHost_route (s : State) (k : HostS → HostS) : (s.modHost k).route = s.route := rfl
@[simp] theorem State.modHost_ports (s : State) (k : HostS → HostS) : (s.modHost k).ports = s.ports := rfl
@[simp] theorem State.modHost_flt (s : State) (k : HostS → HostS) : (s.modHost k).flt = s.flt := rfl
@[simp] theorem State.modHost_mgmt (s : State) (k : HostS → HostS) : (s.modHost k).mgmt = s.mgmt := rfl

/-! ## `State.modXlat` -/

@[simp] theorem State.modXlat_pending (s : State) (k : XlatS → XlatS) : (s.modXlat k).pending = s.pending := rfl
@[simp] theorem State.modXlat_fresh (s : State) (k : XlatS → XlatS) : (s.modXlat k).fresh = s.fresh := rfl
@[simp] theorem State.modXlat_straps (s : State) (k : XlatS → XlatS) : (s.modXlat k).straps = s.straps := rfl
@[simp] theorem State.modXlat_time (s : State) (k : XlatS → XlatS) : (s.modXlat k).time = s.time := rfl
@[simp] theorem State.modXlat_power (s : State) (k : XlatS → XlatS) : (s.modXlat k).power = s.power := rfl
@[simp] theorem State.modXlat_host (s : State) (k : XlatS → XlatS) : (s.modXlat k).host = s.host := rfl
@[simp] theorem State.modXlat_mbx (s : State) (k : XlatS → XlatS) : (s.modXlat k).mbx = s.mbx := rfl
@[simp] theorem State.modXlat_xlat (s : State) (k : XlatS → XlatS) : (s.modXlat k).xlat = k s.xlat := rfl
@[simp] theorem State.modXlat_mem (s : State) (k : XlatS → XlatS) : (s.modXlat k).mem = s.mem := rfl
@[simp] theorem State.modXlat_groups (s : State) (k : XlatS → XlatS) : (s.modXlat k).groups = s.groups := rfl
@[simp] theorem State.modXlat_seqs (s : State) (k : XlatS → XlatS) : (s.modXlat k).seqs = s.seqs := rfl
@[simp] theorem State.modXlat_coll (s : State) (k : XlatS → XlatS) : (s.modXlat k).coll = s.coll := rfl
@[simp] theorem State.modXlat_fab (s : State) (k : XlatS → XlatS) : (s.modXlat k).fab = s.fab := rfl
@[simp] theorem State.modXlat_route (s : State) (k : XlatS → XlatS) : (s.modXlat k).route = s.route := rfl
@[simp] theorem State.modXlat_ports (s : State) (k : XlatS → XlatS) : (s.modXlat k).ports = s.ports := rfl
@[simp] theorem State.modXlat_flt (s : State) (k : XlatS → XlatS) : (s.modXlat k).flt = s.flt := rfl
@[simp] theorem State.modXlat_mgmt (s : State) (k : XlatS → XlatS) : (s.modXlat k).mgmt = s.mgmt := rfl

/-! ## `State.modMbx` -/

@[simp] theorem State.modMbx_pending (s : State) (k : MbxS → MbxS) : (s.modMbx k).pending = s.pending := rfl
@[simp] theorem State.modMbx_fresh (s : State) (k : MbxS → MbxS) : (s.modMbx k).fresh = s.fresh := rfl
@[simp] theorem State.modMbx_straps (s : State) (k : MbxS → MbxS) : (s.modMbx k).straps = s.straps := rfl
@[simp] theorem State.modMbx_time (s : State) (k : MbxS → MbxS) : (s.modMbx k).time = s.time := rfl
@[simp] theorem State.modMbx_power (s : State) (k : MbxS → MbxS) : (s.modMbx k).power = s.power := rfl
@[simp] theorem State.modMbx_host (s : State) (k : MbxS → MbxS) : (s.modMbx k).host = s.host := rfl
@[simp] theorem State.modMbx_mbx (s : State) (k : MbxS → MbxS) : (s.modMbx k).mbx = k s.mbx := rfl
@[simp] theorem State.modMbx_xlat (s : State) (k : MbxS → MbxS) : (s.modMbx k).xlat = s.xlat := rfl
@[simp] theorem State.modMbx_mem (s : State) (k : MbxS → MbxS) : (s.modMbx k).mem = s.mem := rfl
@[simp] theorem State.modMbx_groups (s : State) (k : MbxS → MbxS) : (s.modMbx k).groups = s.groups := rfl
@[simp] theorem State.modMbx_seqs (s : State) (k : MbxS → MbxS) : (s.modMbx k).seqs = s.seqs := rfl
@[simp] theorem State.modMbx_coll (s : State) (k : MbxS → MbxS) : (s.modMbx k).coll = s.coll := rfl
@[simp] theorem State.modMbx_fab (s : State) (k : MbxS → MbxS) : (s.modMbx k).fab = s.fab := rfl
@[simp] theorem State.modMbx_route (s : State) (k : MbxS → MbxS) : (s.modMbx k).route = s.route := rfl
@[simp] theorem State.modMbx_ports (s : State) (k : MbxS → MbxS) : (s.modMbx k).ports = s.ports := rfl
@[simp] theorem State.modMbx_flt (s : State) (k : MbxS → MbxS) : (s.modMbx k).flt = s.flt := rfl
@[simp] theorem State.modMbx_mgmt (s : State) (k : MbxS → MbxS) : (s.modMbx k).mgmt = s.mgmt := rfl

/-! ## `State.modRoute` -/

@[simp] theorem State.modRoute_pending (s : State) (k : RouteS → RouteS) : (s.modRoute k).pending = s.pending := rfl
@[simp] theorem State.modRoute_fresh (s : State) (k : RouteS → RouteS) : (s.modRoute k).fresh = s.fresh := rfl
@[simp] theorem State.modRoute_straps (s : State) (k : RouteS → RouteS) : (s.modRoute k).straps = s.straps := rfl
@[simp] theorem State.modRoute_time (s : State) (k : RouteS → RouteS) : (s.modRoute k).time = s.time := rfl
@[simp] theorem State.modRoute_power (s : State) (k : RouteS → RouteS) : (s.modRoute k).power = s.power := rfl
@[simp] theorem State.modRoute_host (s : State) (k : RouteS → RouteS) : (s.modRoute k).host = s.host := rfl
@[simp] theorem State.modRoute_mbx (s : State) (k : RouteS → RouteS) : (s.modRoute k).mbx = s.mbx := rfl
@[simp] theorem State.modRoute_xlat (s : State) (k : RouteS → RouteS) : (s.modRoute k).xlat = s.xlat := rfl
@[simp] theorem State.modRoute_mem (s : State) (k : RouteS → RouteS) : (s.modRoute k).mem = s.mem := rfl
@[simp] theorem State.modRoute_groups (s : State) (k : RouteS → RouteS) : (s.modRoute k).groups = s.groups := rfl
@[simp] theorem State.modRoute_seqs (s : State) (k : RouteS → RouteS) : (s.modRoute k).seqs = s.seqs := rfl
@[simp] theorem State.modRoute_coll (s : State) (k : RouteS → RouteS) : (s.modRoute k).coll = s.coll := rfl
@[simp] theorem State.modRoute_fab (s : State) (k : RouteS → RouteS) : (s.modRoute k).fab = s.fab := rfl
@[simp] theorem State.modRoute_route (s : State) (k : RouteS → RouteS) : (s.modRoute k).route = k s.route := rfl
@[simp] theorem State.modRoute_ports (s : State) (k : RouteS → RouteS) : (s.modRoute k).ports = s.ports := rfl
@[simp] theorem State.modRoute_flt (s : State) (k : RouteS → RouteS) : (s.modRoute k).flt = s.flt := rfl
@[simp] theorem State.modRoute_mgmt (s : State) (k : RouteS → RouteS) : (s.modRoute k).mgmt = s.mgmt := rfl

/-! ## `State.modColl` -/

@[simp] theorem State.modColl_pending (s : State) (k : CollS → CollS) : (s.modColl k).pending = s.pending := rfl
@[simp] theorem State.modColl_fresh (s : State) (k : CollS → CollS) : (s.modColl k).fresh = s.fresh := rfl
@[simp] theorem State.modColl_straps (s : State) (k : CollS → CollS) : (s.modColl k).straps = s.straps := rfl
@[simp] theorem State.modColl_time (s : State) (k : CollS → CollS) : (s.modColl k).time = s.time := rfl
@[simp] theorem State.modColl_power (s : State) (k : CollS → CollS) : (s.modColl k).power = s.power := rfl
@[simp] theorem State.modColl_host (s : State) (k : CollS → CollS) : (s.modColl k).host = s.host := rfl
@[simp] theorem State.modColl_mbx (s : State) (k : CollS → CollS) : (s.modColl k).mbx = s.mbx := rfl
@[simp] theorem State.modColl_xlat (s : State) (k : CollS → CollS) : (s.modColl k).xlat = s.xlat := rfl
@[simp] theorem State.modColl_mem (s : State) (k : CollS → CollS) : (s.modColl k).mem = s.mem := rfl
@[simp] theorem State.modColl_groups (s : State) (k : CollS → CollS) : (s.modColl k).groups = s.groups := rfl
@[simp] theorem State.modColl_seqs (s : State) (k : CollS → CollS) : (s.modColl k).seqs = s.seqs := rfl
@[simp] theorem State.modColl_coll (s : State) (k : CollS → CollS) : (s.modColl k).coll = k s.coll := rfl
@[simp] theorem State.modColl_fab (s : State) (k : CollS → CollS) : (s.modColl k).fab = s.fab := rfl
@[simp] theorem State.modColl_route (s : State) (k : CollS → CollS) : (s.modColl k).route = s.route := rfl
@[simp] theorem State.modColl_ports (s : State) (k : CollS → CollS) : (s.modColl k).ports = s.ports := rfl
@[simp] theorem State.modColl_flt (s : State) (k : CollS → CollS) : (s.modColl k).flt = s.flt := rfl
@[simp] theorem State.modColl_mgmt (s : State) (k : CollS → CollS) : (s.modColl k).mgmt = s.mgmt := rfl

/-! ## `State.modSeq` -/

@[simp] theorem State.modSeq_pending (s : State) (k : SeqS → SeqS) : (s.modSeq k).pending = s.pending := rfl
@[simp] theorem State.modSeq_fresh (s : State) (k : SeqS → SeqS) : (s.modSeq k).fresh = s.fresh := rfl
@[simp] theorem State.modSeq_straps (s : State) (k : SeqS → SeqS) : (s.modSeq k).straps = s.straps := rfl
@[simp] theorem State.modSeq_time (s : State) (k : SeqS → SeqS) : (s.modSeq k).time = s.time := rfl
@[simp] theorem State.modSeq_power (s : State) (k : SeqS → SeqS) : (s.modSeq k).power = s.power := rfl
@[simp] theorem State.modSeq_host (s : State) (k : SeqS → SeqS) : (s.modSeq k).host = s.host := rfl
@[simp] theorem State.modSeq_mbx (s : State) (k : SeqS → SeqS) : (s.modSeq k).mbx = s.mbx := rfl
@[simp] theorem State.modSeq_xlat (s : State) (k : SeqS → SeqS) : (s.modSeq k).xlat = s.xlat := rfl
@[simp] theorem State.modSeq_mem (s : State) (k : SeqS → SeqS) : (s.modSeq k).mem = s.mem := rfl
@[simp] theorem State.modSeq_groups (s : State) (k : SeqS → SeqS) : (s.modSeq k).groups = s.groups := rfl
@[simp] theorem State.modSeq_seqs (s : State) (k : SeqS → SeqS) : (s.modSeq k).seqs = k s.seqs := rfl
@[simp] theorem State.modSeq_coll (s : State) (k : SeqS → SeqS) : (s.modSeq k).coll = s.coll := rfl
@[simp] theorem State.modSeq_fab (s : State) (k : SeqS → SeqS) : (s.modSeq k).fab = s.fab := rfl
@[simp] theorem State.modSeq_route (s : State) (k : SeqS → SeqS) : (s.modSeq k).route = s.route := rfl
@[simp] theorem State.modSeq_ports (s : State) (k : SeqS → SeqS) : (s.modSeq k).ports = s.ports := rfl
@[simp] theorem State.modSeq_flt (s : State) (k : SeqS → SeqS) : (s.modSeq k).flt = s.flt := rfl
@[simp] theorem State.modSeq_mgmt (s : State) (k : SeqS → SeqS) : (s.modSeq k).mgmt = s.mgmt := rfl

/-! ## `State.modPower` -/

@[simp] theorem State.modPower_pending (s : State) (k : PowerS → PowerS) : (s.modPower k).pending = s.pending := rfl
@[simp] theorem State.modPower_fresh (s : State) (k : PowerS → PowerS) : (s.modPower k).fresh = s.fresh := rfl
@[simp] theorem State.modPower_straps (s : State) (k : PowerS → PowerS) : (s.modPower k).straps = s.straps := rfl
@[simp] theorem State.modPower_time (s : State) (k : PowerS → PowerS) : (s.modPower k).time = s.time := rfl
@[simp] theorem State.modPower_power (s : State) (k : PowerS → PowerS) : (s.modPower k).power = k s.power := rfl
@[simp] theorem State.modPower_host (s : State) (k : PowerS → PowerS) : (s.modPower k).host = s.host := rfl
@[simp] theorem State.modPower_mbx (s : State) (k : PowerS → PowerS) : (s.modPower k).mbx = s.mbx := rfl
@[simp] theorem State.modPower_xlat (s : State) (k : PowerS → PowerS) : (s.modPower k).xlat = s.xlat := rfl
@[simp] theorem State.modPower_mem (s : State) (k : PowerS → PowerS) : (s.modPower k).mem = s.mem := rfl
@[simp] theorem State.modPower_groups (s : State) (k : PowerS → PowerS) : (s.modPower k).groups = s.groups := rfl
@[simp] theorem State.modPower_seqs (s : State) (k : PowerS → PowerS) : (s.modPower k).seqs = s.seqs := rfl
@[simp] theorem State.modPower_coll (s : State) (k : PowerS → PowerS) : (s.modPower k).coll = s.coll := rfl
@[simp] theorem State.modPower_fab (s : State) (k : PowerS → PowerS) : (s.modPower k).fab = s.fab := rfl
@[simp] theorem State.modPower_route (s : State) (k : PowerS → PowerS) : (s.modPower k).route = s.route := rfl
@[simp] theorem State.modPower_ports (s : State) (k : PowerS → PowerS) : (s.modPower k).ports = s.ports := rfl
@[simp] theorem State.modPower_flt (s : State) (k : PowerS → PowerS) : (s.modPower k).flt = s.flt := rfl
@[simp] theorem State.modPower_mgmt (s : State) (k : PowerS → PowerS) : (s.modPower k).mgmt = s.mgmt := rfl

/-! ## `State.modTime` -/

@[simp] theorem State.modTime_pending (s : State) (k : TimeS → TimeS) : (s.modTime k).pending = s.pending := rfl
@[simp] theorem State.modTime_fresh (s : State) (k : TimeS → TimeS) : (s.modTime k).fresh = s.fresh := rfl
@[simp] theorem State.modTime_straps (s : State) (k : TimeS → TimeS) : (s.modTime k).straps = s.straps := rfl
@[simp] theorem State.modTime_time (s : State) (k : TimeS → TimeS) : (s.modTime k).time = k s.time := rfl
@[simp] theorem State.modTime_power (s : State) (k : TimeS → TimeS) : (s.modTime k).power = s.power := rfl
@[simp] theorem State.modTime_host (s : State) (k : TimeS → TimeS) : (s.modTime k).host = s.host := rfl
@[simp] theorem State.modTime_mbx (s : State) (k : TimeS → TimeS) : (s.modTime k).mbx = s.mbx := rfl
@[simp] theorem State.modTime_xlat (s : State) (k : TimeS → TimeS) : (s.modTime k).xlat = s.xlat := rfl
@[simp] theorem State.modTime_mem (s : State) (k : TimeS → TimeS) : (s.modTime k).mem = s.mem := rfl
@[simp] theorem State.modTime_groups (s : State) (k : TimeS → TimeS) : (s.modTime k).groups = s.groups := rfl
@[simp] theorem State.modTime_seqs (s : State) (k : TimeS → TimeS) : (s.modTime k).seqs = s.seqs := rfl
@[simp] theorem State.modTime_coll (s : State) (k : TimeS → TimeS) : (s.modTime k).coll = s.coll := rfl
@[simp] theorem State.modTime_fab (s : State) (k : TimeS → TimeS) : (s.modTime k).fab = s.fab := rfl
@[simp] theorem State.modTime_route (s : State) (k : TimeS → TimeS) : (s.modTime k).route = s.route := rfl
@[simp] theorem State.modTime_ports (s : State) (k : TimeS → TimeS) : (s.modTime k).ports = s.ports := rfl
@[simp] theorem State.modTime_flt (s : State) (k : TimeS → TimeS) : (s.modTime k).flt = s.flt := rfl
@[simp] theorem State.modTime_mgmt (s : State) (k : TimeS → TimeS) : (s.modTime k).mgmt = s.mgmt := rfl

/-! ## `State.modMgmt` -/

@[simp] theorem State.modMgmt_pending (s : State) (k : MgmtS → MgmtS) : (s.modMgmt k).pending = s.pending := rfl
@[simp] theorem State.modMgmt_fresh (s : State) (k : MgmtS → MgmtS) : (s.modMgmt k).fresh = s.fresh := rfl
@[simp] theorem State.modMgmt_straps (s : State) (k : MgmtS → MgmtS) : (s.modMgmt k).straps = s.straps := rfl
@[simp] theorem State.modMgmt_time (s : State) (k : MgmtS → MgmtS) : (s.modMgmt k).time = s.time := rfl
@[simp] theorem State.modMgmt_power (s : State) (k : MgmtS → MgmtS) : (s.modMgmt k).power = s.power := rfl
@[simp] theorem State.modMgmt_host (s : State) (k : MgmtS → MgmtS) : (s.modMgmt k).host = s.host := rfl
@[simp] theorem State.modMgmt_mbx (s : State) (k : MgmtS → MgmtS) : (s.modMgmt k).mbx = s.mbx := rfl
@[simp] theorem State.modMgmt_xlat (s : State) (k : MgmtS → MgmtS) : (s.modMgmt k).xlat = s.xlat := rfl
@[simp] theorem State.modMgmt_mem (s : State) (k : MgmtS → MgmtS) : (s.modMgmt k).mem = s.mem := rfl
@[simp] theorem State.modMgmt_groups (s : State) (k : MgmtS → MgmtS) : (s.modMgmt k).groups = s.groups := rfl
@[simp] theorem State.modMgmt_seqs (s : State) (k : MgmtS → MgmtS) : (s.modMgmt k).seqs = s.seqs := rfl
@[simp] theorem State.modMgmt_coll (s : State) (k : MgmtS → MgmtS) : (s.modMgmt k).coll = s.coll := rfl
@[simp] theorem State.modMgmt_fab (s : State) (k : MgmtS → MgmtS) : (s.modMgmt k).fab = s.fab := rfl
@[simp] theorem State.modMgmt_route (s : State) (k : MgmtS → MgmtS) : (s.modMgmt k).route = s.route := rfl
@[simp] theorem State.modMgmt_ports (s : State) (k : MgmtS → MgmtS) : (s.modMgmt k).ports = s.ports := rfl
@[simp] theorem State.modMgmt_flt (s : State) (k : MgmtS → MgmtS) : (s.modMgmt k).flt = s.flt := rfl
@[simp] theorem State.modMgmt_mgmt (s : State) (k : MgmtS → MgmtS) : (s.modMgmt k).mgmt = k s.mgmt := rfl

/-! ## `State.setGrp` -/

@[simp] theorem State.setGrp_pending (s : State) (g : Nat) (x : Group) : (s.setGrp g x).pending = s.pending := rfl
@[simp] theorem State.setGrp_fresh (s : State) (g : Nat) (x : Group) : (s.setGrp g x).fresh = s.fresh := rfl
@[simp] theorem State.setGrp_straps (s : State) (g : Nat) (x : Group) : (s.setGrp g x).straps = s.straps := rfl
@[simp] theorem State.setGrp_time (s : State) (g : Nat) (x : Group) : (s.setGrp g x).time = s.time := rfl
@[simp] theorem State.setGrp_power (s : State) (g : Nat) (x : Group) : (s.setGrp g x).power = s.power := rfl
@[simp] theorem State.setGrp_host (s : State) (g : Nat) (x : Group) : (s.setGrp g x).host = s.host := rfl
@[simp] theorem State.setGrp_mbx (s : State) (g : Nat) (x : Group) : (s.setGrp g x).mbx = s.mbx := rfl
@[simp] theorem State.setGrp_xlat (s : State) (g : Nat) (x : Group) : (s.setGrp g x).xlat = s.xlat := rfl
@[simp] theorem State.setGrp_mem (s : State) (g : Nat) (x : Group) : (s.setGrp g x).mem = s.mem := rfl
@[simp] theorem State.setGrp_groups (s : State) (g : Nat) (x : Group) : (s.setGrp g x).groups = AMap.set s.groups g x := rfl
@[simp] theorem State.setGrp_seqs (s : State) (g : Nat) (x : Group) : (s.setGrp g x).seqs = s.seqs := rfl
@[simp] theorem State.setGrp_coll (s : State) (g : Nat) (x : Group) : (s.setGrp g x).coll = s.coll := rfl
@[simp] theorem State.setGrp_fab (s : State) (g : Nat) (x : Group) : (s.setGrp g x).fab = s.fab := rfl
@[simp] theorem State.setGrp_route (s : State) (g : Nat) (x : Group) : (s.setGrp g x).route = s.route := rfl
@[simp] theorem State.setGrp_ports (s : State) (g : Nat) (x : Group) : (s.setGrp g x).ports = s.ports := rfl
@[simp] theorem State.setGrp_flt (s : State) (g : Nat) (x : Group) : (s.setGrp g x).flt = s.flt := rfl
@[simp] theorem State.setGrp_mgmt (s : State) (g : Nat) (x : Group) : (s.setGrp g x).mgmt = s.mgmt := rfl

/-! ## `State.setPrt` -/

@[simp] theorem State.setPrt_pending (s : State) (p : Nat) (x : Port) : (s.setPrt p x).pending = s.pending := rfl
@[simp] theorem State.setPrt_fresh (s : State) (p : Nat) (x : Port) : (s.setPrt p x).fresh = s.fresh := rfl
@[simp] theorem State.setPrt_straps (s : State) (p : Nat) (x : Port) : (s.setPrt p x).straps = s.straps := rfl
@[simp] theorem State.setPrt_time (s : State) (p : Nat) (x : Port) : (s.setPrt p x).time = s.time := rfl
@[simp] theorem State.setPrt_power (s : State) (p : Nat) (x : Port) : (s.setPrt p x).power = s.power := rfl
@[simp] theorem State.setPrt_host (s : State) (p : Nat) (x : Port) : (s.setPrt p x).host = s.host := rfl
@[simp] theorem State.setPrt_mbx (s : State) (p : Nat) (x : Port) : (s.setPrt p x).mbx = s.mbx := rfl
@[simp] theorem State.setPrt_xlat (s : State) (p : Nat) (x : Port) : (s.setPrt p x).xlat = s.xlat := rfl
@[simp] theorem State.setPrt_mem (s : State) (p : Nat) (x : Port) : (s.setPrt p x).mem = s.mem := rfl
@[simp] theorem State.setPrt_groups (s : State) (p : Nat) (x : Port) : (s.setPrt p x).groups = s.groups := rfl
@[simp] theorem State.setPrt_seqs (s : State) (p : Nat) (x : Port) : (s.setPrt p x).seqs = s.seqs := rfl
@[simp] theorem State.setPrt_coll (s : State) (p : Nat) (x : Port) : (s.setPrt p x).coll = s.coll := rfl
@[simp] theorem State.setPrt_fab (s : State) (p : Nat) (x : Port) : (s.setPrt p x).fab = s.fab := rfl
@[simp] theorem State.setPrt_route (s : State) (p : Nat) (x : Port) : (s.setPrt p x).route = s.route := rfl
@[simp] theorem State.setPrt_ports (s : State) (p : Nat) (x : Port) : (s.setPrt p x).ports = AMap.set s.ports p x := rfl
@[simp] theorem State.setPrt_flt (s : State) (p : Nat) (x : Port) : (s.setPrt p x).flt = s.flt := rfl
@[simp] theorem State.setPrt_mgmt (s : State) (p : Nat) (x : Port) : (s.setPrt p x).mgmt = s.mgmt := rfl

/-! ## `State.modGrp` -/

@[simp] theorem State.modGrp_pending (s : State) (g : Nat) (k : Group → Group) : (s.modGrp g k).pending = s.pending := rfl
@[simp] theorem State.modGrp_fresh (s : State) (g : Nat) (k : Group → Group) : (s.modGrp g k).fresh = s.fresh := rfl
@[simp] theorem State.modGrp_straps (s : State) (g : Nat) (k : Group → Group) : (s.modGrp g k).straps = s.straps := rfl
@[simp] theorem State.modGrp_time (s : State) (g : Nat) (k : Group → Group) : (s.modGrp g k).time = s.time := rfl
@[simp] theorem State.modGrp_power (s : State) (g : Nat) (k : Group → Group) : (s.modGrp g k).power = s.power := rfl
@[simp] theorem State.modGrp_host (s : State) (g : Nat) (k : Group → Group) : (s.modGrp g k).host = s.host := rfl
@[simp] theorem State.modGrp_mbx (s : State) (g : Nat) (k : Group → Group) : (s.modGrp g k).mbx = s.mbx := rfl
@[simp] theorem State.modGrp_xlat (s : State) (g : Nat) (k : Group → Group) : (s.modGrp g k).xlat = s.xlat := rfl
@[simp] theorem State.modGrp_mem (s : State) (g : Nat) (k : Group → Group) : (s.modGrp g k).mem = s.mem := rfl
@[simp] theorem State.modGrp_groups (s : State) (g : Nat) (k : Group → Group) : (s.modGrp g k).groups = AMap.set s.groups g (k (s.grp g)) := rfl
@[simp] theorem State.modGrp_seqs (s : State) (g : Nat) (k : Group → Group) : (s.modGrp g k).seqs = s.seqs := rfl
@[simp] theorem State.modGrp_coll (s : State) (g : Nat) (k : Group → Group) : (s.modGrp g k).coll = s.coll := rfl
@[simp] theorem State.modGrp_fab (s : State) (g : Nat) (k : Group → Group) : (s.modGrp g k).fab = s.fab := rfl
@[simp] theorem State.modGrp_route (s : State) (g : Nat) (k : Group → Group) : (s.modGrp g k).route = s.route := rfl
@[simp] theorem State.modGrp_ports (s : State) (g : Nat) (k : Group → Group) : (s.modGrp g k).ports = s.ports := rfl
@[simp] theorem State.modGrp_flt (s : State) (g : Nat) (k : Group → Group) : (s.modGrp g k).flt = s.flt := rfl
@[simp] theorem State.modGrp_mgmt (s : State) (g : Nat) (k : Group → Group) : (s.modGrp g k).mgmt = s.mgmt := rfl

/-! ## `State.modPrt` -/

@[simp] theorem State.modPrt_pending (s : State) (p : Nat) (k : Port → Port) : (s.modPrt p k).pending = s.pending := rfl
@[simp] theorem State.modPrt_fresh (s : State) (p : Nat) (k : Port → Port) : (s.modPrt p k).fresh = s.fresh := rfl
@[simp] theorem State.modPrt_straps (s : State) (p : Nat) (k : Port → Port) : (s.modPrt p k).straps = s.straps := rfl
@[simp] theorem State.modPrt_time (s : State) (p : Nat) (k : Port → Port) : (s.modPrt p k).time = s.time := rfl
@[simp] theorem State.modPrt_power (s : State) (p : Nat) (k : Port → Port) : (s.modPrt p k).power = s.power := rfl
@[simp] theorem State.modPrt_host (s : State) (p : Nat) (k : Port → Port) : (s.modPrt p k).host = s.host := rfl
@[simp] theorem State.modPrt_mbx (s : State) (p : Nat) (k : Port → Port) : (s.modPrt p k).mbx = s.mbx := rfl
@[simp] theorem State.modPrt_xlat (s : State) (p : Nat) (k : Port → Port) : (s.modPrt p k).xlat = s.xlat := rfl
@[simp] theorem State.modPrt_mem (s : State) (p : Nat) (k : Port → Port) : (s.modPrt p k).mem = s.mem := rfl
@[simp] theorem State.modPrt_groups (s : State) (p : Nat) (k : Port → Port) : (s.modPrt p k).groups = s.groups := rfl
@[simp] theorem State.modPrt_seqs (s : State) (p : Nat) (k : Port → Port) : (s.modPrt p k).seqs = s.seqs := rfl
@[simp] theorem State.modPrt_coll (s : State) (p : Nat) (k : Port → Port) : (s.modPrt p k).coll = s.coll := rfl
@[simp] theorem State.modPrt_fab (s : State) (p : Nat) (k : Port → Port) : (s.modPrt p k).fab = s.fab := rfl
@[simp] theorem State.modPrt_route (s : State) (p : Nat) (k : Port → Port) : (s.modPrt p k).route = s.route := rfl
@[simp] theorem State.modPrt_ports (s : State) (p : Nat) (k : Port → Port) : (s.modPrt p k).ports = AMap.set s.ports p (k (s.prt p)) := rfl
@[simp] theorem State.modPrt_flt (s : State) (p : Nat) (k : Port → Port) : (s.modPrt p k).flt = s.flt := rfl
@[simp] theorem State.modPrt_mgmt (s : State) (p : Nat) (k : Port → Port) : (s.modPrt p k).mgmt = s.mgmt := rfl

/-! ## Free values -/

@[simp] theorem State.draw_pending (s : State) : (s.draw).2.pending = s.pending := rfl
@[simp] theorem State.draw_fresh (s : State) : (s.draw).2.fresh = s.fresh + 1 := rfl
@[simp] theorem State.draw_straps (s : State) : (s.draw).2.straps = s.straps := rfl
@[simp] theorem State.draw_time (s : State) : (s.draw).2.time = s.time := rfl
@[simp] theorem State.draw_power (s : State) : (s.draw).2.power = s.power := rfl
@[simp] theorem State.draw_host (s : State) : (s.draw).2.host = s.host := rfl
@[simp] theorem State.draw_mbx (s : State) : (s.draw).2.mbx = s.mbx := rfl
@[simp] theorem State.draw_xlat (s : State) : (s.draw).2.xlat = s.xlat := rfl
@[simp] theorem State.draw_mem (s : State) : (s.draw).2.mem = s.mem := rfl
@[simp] theorem State.draw_groups (s : State) : (s.draw).2.groups = s.groups := rfl
@[simp] theorem State.draw_seqs (s : State) : (s.draw).2.seqs = s.seqs := rfl
@[simp] theorem State.draw_coll (s : State) : (s.draw).2.coll = s.coll := rfl
@[simp] theorem State.draw_fab (s : State) : (s.draw).2.fab = s.fab := rfl
@[simp] theorem State.draw_route (s : State) : (s.draw).2.route = s.route := rfl
@[simp] theorem State.draw_ports (s : State) : (s.draw).2.ports = s.ports := rfl
@[simp] theorem State.draw_flt (s : State) : (s.draw).2.flt = s.flt := rfl
@[simp] theorem State.draw_mgmt (s : State) : (s.draw).2.mgmt = s.mgmt := rfl

@[simp] theorem State.drawTick_pending (s : State) : (s.drawTick).2.pending = s.pending := rfl
@[simp] theorem State.drawTick_fresh (s : State) : (s.drawTick).2.fresh = s.fresh + 1 := rfl
@[simp] theorem State.drawTick_straps (s : State) : (s.drawTick).2.straps = s.straps := rfl
@[simp] theorem State.drawTick_time (s : State) : (s.drawTick).2.time = s.time := rfl
@[simp] theorem State.drawTick_power (s : State) : (s.drawTick).2.power = s.power := rfl
@[simp] theorem State.drawTick_host (s : State) : (s.drawTick).2.host = s.host := rfl
@[simp] theorem State.drawTick_mbx (s : State) : (s.drawTick).2.mbx = s.mbx := rfl
@[simp] theorem State.drawTick_xlat (s : State) : (s.drawTick).2.xlat = s.xlat := rfl
@[simp] theorem State.drawTick_mem (s : State) : (s.drawTick).2.mem = s.mem := rfl
@[simp] theorem State.drawTick_groups (s : State) : (s.drawTick).2.groups = s.groups := rfl
@[simp] theorem State.drawTick_seqs (s : State) : (s.drawTick).2.seqs = s.seqs := rfl
@[simp] theorem State.drawTick_coll (s : State) : (s.drawTick).2.coll = s.coll := rfl
@[simp] theorem State.drawTick_fab (s : State) : (s.drawTick).2.fab = s.fab := rfl
@[simp] theorem State.drawTick_route (s : State) : (s.drawTick).2.route = s.route := rfl
@[simp] theorem State.drawTick_ports (s : State) : (s.drawTick).2.ports = s.ports := rfl
@[simp] theorem State.drawTick_flt (s : State) : (s.drawTick).2.flt = s.flt := rfl
@[simp] theorem State.drawTick_mgmt (s : State) : (s.drawTick).2.mgmt = s.mgmt := rfl

end Sys2Proof.Machine
end

