-- ==== Sys2Proof/Laws/Step.lean ====
section
/-! SUPPORT. The shared operations that every meaning ends or begins with, each with what it can do: taking the faults of a
step, answering a mailbox command, and letting one start. -/
namespace Sys2Proof.Machine

/-! ## Faults -/

theorem loseRaised_raised (s : State) : (loseRaised s).flt.raised = [] := by
  unfold loseRaised
  split
  · assumption
  · rfl

theorem settleN_raised (n : Nat) (s : State) : (settleN n s).flt.raised = [] := by
  induction n generalizing s with
  | zero => exact loseRaised_raised s
  | succ n ih =>
    unfold settleN
    split
    · assumption
    · exact ih _

/-- After a step no fault is left to be taken. -/
theorem settle_raised (s : State) : (settle s).flt.raised = [] := settleN_raised 4 s

/-- A step that raises no fault ends as it is. -/
theorem settle_eq (s : State) (h : s.flt.raised = []) : settle s = s := by
  simp [settle, settleN, h]

theorem done_eq (s : State) (h : s.flt.raised = []) : done s = .next s := by
  simp [done, settle_eq s h]

theorem done_inj {s t : State} (h : done s = .next t) : t = settle s := by
  injection h with h; exact h.symm

/-! ## Answers of the mailbox -/

/-- What an answer changes while the command holds no slot: the mailbox alone. -/
theorem respond_eq (s : State) (m : Master) (code st : Nat) (d : List (Nat × Nat)) (h : s.mbx.cur = none) :
    respond s m code st d = s.modMbx fun x => { x with
      resp := { master := m, code := code, status := st, data := d }
      served := x.served + 1
      cur := none
      supersededHost := x.supersededHost + (if st = SUPERSEDED ∧ m = .host then 1 else 0)
      supersededMgmt := x.supersededMgmt + (if st = SUPERSEDED ∧ m = .mgmt then 1 else 0) } := by
  unfold respond
  simp only [h]

/-- A command that ends other than SUPERSEDED is answered. -/
theorem respond_answered (s : State) (m : Master) (code st : Nat) (d : List (Nat × Nat)) (h : s.mbx.cur = none) (hs : st ≠ SUPERSEDED) :
    respond s m code st d = s.answered m code st d := by
  rw [respond_eq s m code st d h]
  simp [State.answered, hs]

theorem defer_deferred (s : State) (m : Master) (code st : Nat) (d : List (Nat × Nat)) (h : s.mbx.cur = none) :
    defer s m code st d = s.deferred m code st d := by
  simp [defer, State.deferred, State.modMbx, h]

/-- A served command runs. -/
theorem serve_eq (s : State) (m : Master) (code : Nat) (f : State → State) (h : s.Serves m code) : serve s m code f = f s := by
  unfold serve
  rw [h]

/-- A command that is not served now is answered with the gate's status. -/
theorem serve_gated (s : State) (m : Master) (code st : Nat) (f : State → State) (h : gate s m code = some (some st)) :
    serve s m code f = respond s m code st := by
  unfold serve
  rw [h]

/-! ## Starting a command -/

theorem outrankWaiting_eq (s : State) (keys : List Key) :
    ∃ a, outrankWaiting s keys = s.modMbx fun m => { m with arrivals := a } := by
  unfold outrankWaiting
  split
  · exact ⟨s.mbx.arrivals, rfl⟩
  · exact ⟨_, rfl⟩

/-- A command that may start runs on the state as it has begun. -/
theorem direct_eq (s : State) (m : Master) (code : Nat) (keys : List Key) (f : State → State) (h : s.Starts m keys) :
    direct s m code keys f = f (s.begun m keys) := by
  obtain ⟨hc, hm⟩ := h
  cases m with
  | host =>
    have ho : outranks s keys = false := by simpa using hm
    simp [direct, hc, ho, State.begun]
  | mgmt => simp [direct, hc, State.begun]

/-- What a command that begins changes: marks on the waiting requests. -/
theorem State.begun_eq (s : State) (m : Master) (keys : List Key) :
    ∃ a, s.begun m keys = s.modMbx fun x => { x with arrivals := a } := by
  cases m with
  | host => exact ⟨s.mbx.arrivals, rfl⟩
  | mgmt => exact outrankWaiting_eq s keys

theorem State.begun_nil (s : State) (m : Master) : s.begun m [] = s := by cases m <;> rfl

/-- While a command is in service, another changes nothing. -/
theorem direct_busy (s : State) (m : Master) (code : Nat) (keys : List Key) (f : State → State) (h : s.mbx.cur ≠ none) :
    direct s m code keys f = s := by
  unfold direct
  cases hc : s.mbx.cur with
  | none => exact absurd hc h
  | some r => simp

/-- What the gate looks at. -/
theorem gate_congr {s t : State} (m : Master) (code : Nat) (hp : t.flt.phase = s.flt.phase) (hh : t.host = s.host) (hg : t.mgmt = s.mgmt)
    (hw : t.power = s.power) : gate t m code = gate s m code := by
  unfold gate
  rw [hp, hh, hg, hw]

/-! ## Events -/

theorem sendVector_eq (s : State) (v : Nat) : ∃ h, sendVector s v = { s with host := h } := by
  unfold sendVector
  dsimp only
  split <;> exact ⟨_, rfl⟩

/-- A push to a shared queue changes the host interface alone. -/
theorem pushQueue_eq (s : State) (q ty e : Nat) : ∃ h, pushQueue s q ty e = { s with host := h } := by
  unfold pushQueue
  dsimp only
  split
  · exact ⟨s.host, rfl⟩
  · split
    · exact ⟨_, rfl⟩
    · split
      · exact ⟨_, rfl⟩
      · unfold checkIrq
        dsimp only
        split
        · obtain ⟨h, e⟩ := sendVector_eq _ _
          exact ⟨h, by rw [e]; rfl⟩
        · exact ⟨_, rfl⟩

/-- An event goes to the host event queue, the management network and the log, and draws its tick. -/
theorem pushEvent_eq (s : State) (code body : Nat) :
    ∃ h m, pushEvent s code body = { s with fresh := s.fresh + 1, host := h, mgmt := m } := by
  unfold pushEvent State.drawTick
  dsimp only
  obtain ⟨h, e⟩ := pushQueue_eq { s with fresh := s.fresh + 1 } s.host.evq 1
    (pack [(16, code), (48, s.time.lfc), (14, Config.free s.fresh % 10240), (2, 0), (432, body)])
  rw [e]
  exact ⟨h, _, rfl⟩

/-- A mailbox command that runs does what its operation does on the state as it has begun. -/
theorem row_eq (s : State) (m : Master) (code : Nat) (keys : List Key) (f : State → State) (h : s.Takes m code keys) :
    direct s m code keys (fun s => serve s m code f) = f (s.begun m keys) := by
  obtain ⟨_, h1, h2⟩ := h
  rw [direct_eq s m code keys _ h1]
  apply serve_eq
  obtain ⟨a, ha⟩ := s.begun_eq m keys
  rw [State.Serves, ← h2, ha]
  exact gate_congr m code rfl rfl rfl rfl

end Sys2Proof.Machine
end

