-- ==== Sys2Proof/Laws/Rows.lean ====
section
/-! SUPPORT. What a row of the table begins with: the mailbox's rows and the packets' rows, each with the state on which its operation
then works. -/
namespace Sys2Proof.Machine

/-! ## Rows of the mailbox -/

theorem State.Takes.cur {s : State} {m : Master} {code : Nat} {keys : List Key} (h : s.Takes m code keys) : s.mbx.cur = none := h.2.1.1

theorem State.Takes.raised {s : State} {m : Master} {code : Nat} {keys : List Key} (h : s.Takes m code keys) : s.flt.raised = [] := h.1

/-- A row that answers ends the step with its answer. -/
theorem done_respond {t : State} {m : Master} {code st : Nat} {d : List (Nat × Nat)} (hr : t.flt.raised = []) (hc : t.mbx.cur = none)
    (hs : st ≠ SUPERSEDED) : done (respond t m code st d) = .next (t.answered m code st d) := by
  rw [respond_answered _ _ _ _ _ hc hs]; exact done_eq _ hr

/-- A row whose answer waits for hardware ends the step with the wait. -/
theorem done_defer {t : State} {m : Master} {code st : Nat} {d : List (Nat × Nat)} (hr : t.flt.raised = []) (hc : t.mbx.cur = none) :
    done (defer t m code st d) = .next (t.deferred m code st d) := by
  rw [defer_deferred _ _ _ _ _ hc]; exact done_eq _ hr

@[simp] theorem State.begun_flt (s : State) (m : Master) (k : List Key) : (s.begun m k).flt = s.flt := by
  obtain ⟨a, h⟩ := s.begun_eq m k; rw [h]; rfl

@[simp] theorem State.begun_host (s : State) (m : Master) (k : List Key) : (s.begun m k).host = s.host := by
  obtain ⟨a, h⟩ := s.begun_eq m k; rw [h]; rfl

@[simp] theorem State.begun_xlat (s : State) (m : Master) (k : List Key) : (s.begun m k).xlat = s.xlat := by
  obtain ⟨a, h⟩ := s.begun_eq m k; rw [h]; rfl

@[simp] theorem State.begun_mem (s : State) (m : Master) (k : List Key) : (s.begun m k).mem = s.mem := by
  obtain ⟨a, h⟩ := s.begun_eq m k; rw [h]; rfl

@[simp] theorem State.begun_fab (s : State) (m : Master) (k : List Key) : (s.begun m k).fab = s.fab := by
  obtain ⟨a, h⟩ := s.begun_eq m k; rw [h]; rfl

@[simp] theorem State.begun_time (s : State) (m : Master) (k : List Key) : (s.begun m k).time = s.time := by
  obtain ⟨a, h⟩ := s.begun_eq m k; rw [h]; rfl

@[simp] theorem State.begun_power (s : State) (m : Master) (k : List Key) : (s.begun m k).power = s.power := by
  obtain ⟨a, h⟩ := s.begun_eq m k; rw [h]; rfl

@[simp] theorem State.begun_mgmt (s : State) (m : Master) (k : List Key) : (s.begun m k).mgmt = s.mgmt := by
  obtain ⟨a, h⟩ := s.begun_eq m k; rw [h]; rfl

@[simp] theorem State.begun_coll (s : State) (m : Master) (k : List Key) : (s.begun m k).coll = s.coll := by
  obtain ⟨a, h⟩ := s.begun_eq m k; rw [h]; rfl

@[simp] theorem State.begun_seqs (s : State) (m : Master) (k : List Key) : (s.begun m k).seqs = s.seqs := by
  obtain ⟨a, h⟩ := s.begun_eq m k; rw [h]; rfl

@[simp] theorem State.begun_route (s : State) (m : Master) (k : List Key) : (s.begun m k).route = s.route := by
  obtain ⟨a, h⟩ := s.begun_eq m k; rw [h]; rfl

@[simp] theorem State.begun_ports (s : State) (m : Master) (k : List Key) : (s.begun m k).ports = s.ports := by
  obtain ⟨a, h⟩ := s.begun_eq m k; rw [h]; rfl

@[simp] theorem State.begun_groups (s : State) (m : Master) (k : List Key) : (s.begun m k).groups = s.groups := by
  obtain ⟨a, h⟩ := s.begun_eq m k; rw [h]; rfl

@[simp] theorem State.begun_straps (s : State) (m : Master) (k : List Key) : (s.begun m k).straps = s.straps := by
  obtain ⟨a, h⟩ := s.begun_eq m k; rw [h]; rfl

@[simp] theorem State.begun_fresh (s : State) (m : Master) (k : List Key) : (s.begun m k).fresh = s.fresh := by
  obtain ⟨a, h⟩ := s.begun_eq m k; rw [h]; rfl

@[simp] theorem State.begun_mbx_cur (s : State) (m : Master) (k : List Key) : (s.begun m k).mbx.cur = s.mbx.cur := by
  obtain ⟨a, h⟩ := s.begun_eq m k; rw [h]; rfl

@[simp] theorem State.begun_mbx_served (s : State) (m : Master) (k : List Key) : (s.begun m k).mbx.served = s.mbx.served := by
  obtain ⟨a, h⟩ := s.begun_eq m k; rw [h]; rfl

@[simp] theorem State.begun_mbx_hwWait (s : State) (m : Master) (k : List Key) : (s.begun m k).mbx.hwWait = s.mbx.hwWait := by
  obtain ⟨a, h⟩ := s.begun_eq m k; rw [h]; rfl

/-- Whatever does not look at the mailbox is the same when a command has begun. -/
theorem State.begun_fn {α : Type} (F : State → α) (hF : ∀ s a, F (s.modMbx fun x => { x with arrivals := a }) = F s) (s : State)
    (m : Master) (k : List Key) : F (s.begun m k) = F s := by
  obtain ⟨a, h⟩ := s.begun_eq m k; rw [h]; exact hF s a

@[simp] theorem State.begun_grp (s : State) (m : Master) (k : List Key) (g : Nat) : (s.begun m k).grp g = s.grp g := by simp [State.grp]

@[simp] theorem State.begun_ctx (s : State) (m : Master) (k : List Key) (c : Nat) : (s.begun m k).ctx c = s.ctx c := by simp [State.ctx]

@[simp] theorem State.begun_ent (s : State) (m : Master) (k : List Key) (p : Nat) : (s.begun m k).ent p = s.ent p := by simp [State.ent]

@[simp] theorem State.begun_stk (s : State) (m : Master) (k : List Key) (n : Nat) : (s.begun m k).stk n = s.stk n := by simp [State.stk]

@[simp] theorem State.begun_pol (s : State) (m : Master) (k : List Key) (p : Nat) : (s.begun m k).pol p = s.pol p := by simp [State.pol]

@[simp] theorem State.begun_man (s : State) (m : Master) (k : List Key) : (s.begun m k).man = s.man := by simp [State.man]

@[simp] theorem State.begun_tray (s : State) (m : Master) (k : List Key) : (s.begun m k).tray = s.tray := by simp [State.tray]

@[simp] theorem State.begun_self (s : State) (m : Master) (k : List Key) : (s.begun m k).self = s.self := by
  simp [State.self, State.nodeNo]

@[simp] theorem State.begun_poolParcels (s : State) (m : Master) (k : List Key) : poolParcels (s.begun m k) = poolParcels s := by
  simp [poolParcels, dataFrames]

@[simp] theorem State.begun_mayManage (s : State) (m : Master) (k : List Key) (m' : Master) (p : Nat) :
    mayManage (s.begun m k) m' p = mayManage s m' p := by simp [mayManage]

@[simp] theorem State.begun_ctxInUse (s : State) (m : Master) (k : List Key) (c : Nat) : ctxInUse (s.begun m k) c = ctxInUse s c := by
  simp [ctxInUse]

/-- A new plan draws the tick of its event, and changes the plan, the host interface and the management side alone. -/
theorem newPlan_eq (s : State) : ∃ h g a b, newPlan s =
    { s with fresh := s.fresh + 1, host := h, mgmt := g, power := { s.power with planNow := a, planNext := b } } := by
  unfold newPlan
  dsimp only
  obtain ⟨h, g, e⟩ := pushEvent_eq (s.modPower fun p => { p with
      planNow := planSeg s.power.cfg s.time.lfc s.power.limit (capEff s)
      planNext := ((nextStep s).map fun (c, f) =>
        let before := segLimit (planSeg s.power.cfg s.time.lfc s.power.limit (capEff s)) (f - 1)
        planSeg s.power.cfg f (weirLimit s.power.cfg c before) c) })
    0x0502 (segWord (planSeg s.power.cfg s.time.lfc s.power.limit (capEff s)))
  rw [e]; exact ⟨_, _, _, _, rfl⟩

/-! ## Rows of packets -/

/-- A delivered packet is served by its unit. -/
theorem packetRow_delivered (s : State) (ok : Packet → Bool) (p : Packet) (h : s.Delivered p) (ho : ok p = true) :
    packetRow s ok p = servePacket (s.taking p) p := by
  obtain ⟨_, h2, h3, h4⟩ := h
  unfold packetRow State.taking; rw [ho, h2, if_neg (by simp), if_pos h3, if_neg (by simp [h4])]

/-- A packet that arrives over a link enters the package. -/
theorem packetRow_arriving (s : State) (ok : Packet → Bool) (p : Packet) (h : s.Arriving p) (ho : ok p = true) :
    packetRow s ok p = enterPacket s p := by
  obtain ⟨h1, h2, h3, h4, h5⟩ := h
  unfold packetRow
  have : leaveStandby s = s := by simp [leaveStandby, h5]
  rw [if_neg (by simp [ho, h2]), if_neg (by simp_all), if_neg (by simp [h4]), this, ite_self]

/-- A well-formed packet of another package is admitted as it is. -/
theorem admitPacket_link (s : State) (p : Packet) (hm : malformed p = false) (he : p.inPort < 128 → epOf s p.inPort = none) :
    admitPacket s p = some (s, some p) := by
  unfold admitPacket; rw [hm]
  by_cases hi : p.inPort < 128
  · rw [if_pos hi, he hi]; rfl
  · rw [if_neg hi]; rfl

theorem State.self_ne_partner (s : State) : s.self ≠ s.partner := by simp [State.self, State.partner, State.nodeNo]; omega

/-! ## Commands of a list -/

/-- A command that can begin works on the state in which it has begun, and its slice ends. -/
theorem runCommand_works (s : State) (g e q op : Nat) (l : CmdList) (i : Nat) (f : State → CmdList → Running → Nat → State)
    (h : s.Works g e q op l i) :
    runCommand s g e q op f = (f (s.work g e q op i) l { idx := i, opcode := op } (cmdAt l i)).sliceOver g e op := by
  obtain ⟨_, h1, h2, h3, h4, _⟩ := h
  unfold runCommand State.work State.sliceOver
  rw [if_neg (by rintro (h | ⟨h, k⟩ | ⟨h, k⟩) <;> simp_all), h4]
  rfl

end Sys2Proof.Machine
end

