-- ==== Sys2Proof/Machine/Coding.lean ====
section
/-! DEFINITION. What a port's lanes carry (R355–R358): 64b/66b blocks, the scramblers, 256b/257b transcoding, RS(544,514), the order of
blocks and symbols on the lanes, and Gray coding. -/
namespace Sys2Proof.Machine

/-- The 263 bytes of a frame (R358, R359). -/
def frameBytes (f : Frame) : Bytes := f.payload ++ leBytes 7 (f.crc + 2 ^ 32 * trailerHigh f)

/-- The whole 64-bit blocks of a byte stream (R357). -/
def blocksOf : Nat → Bytes → List Nat
  | 0, _ => []
  | n + 1, d => if d.length < 8 then [] else leNat (d.take 8) :: blocksOf n (d.drop 8)

/-- The bits of a number, the least significant first. -/
def bitList (n w : Nat) : List Bool := (List.range w).map (bitAt n)

/-! ## Scramblers (R356) -/

/-- One bit through the scrambler x^58 + x^39 + 1, whose state holds the last 58 bits sent, the latest lowest. -/
def scrambleBit (st : Nat) (b : Bool) : Nat × Bool :=
  let o := b != (bitAt st 38 != bitAt st 57)
  ((st * 2 + b2n o) % 2 ^ 58, o)

/-- One bit back: the state is fed with what is received. -/
def descrambleBit (st : Nat) (b : Bool) : Nat × Bool := ((st * 2 + b2n b) % 2 ^ 58, b != (bitAt st 38 != bitAt st 57))

/-- A run of bits through either. -/
def throughBits (f : Nat → Bool → Nat × Bool) (st : Nat) (l : List Bool) : Nat × List Bool :=
  l.foldl (fun (st, out) b => let x := f st b; (x.1, out ++ [x.2])) (st, [])

/-- The blocks of a stream, block i through the scrambler of lane i mod 4: `st` gives the scramblers' states. -/
def scrambleBlocks : AMap Nat → Nat → List Nat → List (List Bool)
  | _, _, [] => []
  | st, i, w :: t =>
    let x := throughBits scrambleBit (AMap.get 0 st (i % 4)) (bitList w 64)
    x.2 :: scrambleBlocks (AMap.set st (i % 4) x.1) (i + 1) t

/-! ## Transcoding and RS(544,514) (R356)

The field, the generator and the transcoding are those of IEEE 802.3's RS-FEC sublayer. Log: 238 PRESUMED. -/

/-- A group of four data blocks as one block of 257 bits. -/
def transcode (g : List (List Bool)) : List Bool := true :: g.flatten

/-- Multiplication in the field of 1,024 elements, modulo x^10 + x^3 + 1. -/
def gfMul (a b : Nat) : Nat :=
  (List.range 10).foldr (fun i r =>
    let r := if 512 ≤ r then (r * 2) ^^^ 0x409 else r * 2
    if b.testBit i then r ^^^ a else r) 0

/-- The generator polynomial: the product of x + 2^j for j below 30, the highest coefficient first. -/
def rsGenerator : List Nat :=
  ((List.range 30).foldl (fun (g, a) _ =>
    ((g ++ [0]).zipWith (· ^^^ ·) (0 :: g.map (gfMul a)), gfMul 2 a)) ([1], 1)).1

/-- The 30 check symbols of a message of 514, which is sent first. -/
def rsParity (m : List Nat) : List Nat :=
  m.foldl (fun r x =>
    let f := x ^^^ r.headD 0
    (r.drop 1 ++ [0]).zipWith (· ^^^ ·) ((rsGenerator.drop 1).map (gfMul f))) (List.replicate 30 0)

def rsEncode (m : List Nat) : List Nat := m ++ rsParity m

/-- A received codeword is corrected: at most 15 of its symbols differ from what was sent. -/
def rsCorrects (sent got : List Nat) : Bool :=
  sent.length == got.length && decide (((sent.zip got).countP fun x => x.1 != x.2) ≤ 15)

/-- A bit list in symbols of 10 bits. -/
def symbolsOf : Nat → List Bool → List Nat
  | 0, _ => []
  | n + 1, l => if l.length < 10 then [] else pack ((l.take 10).map fun b => (1, b2n b)) :: symbolsOf n (l.drop 10)

/-- The codewords of a list of symbols. -/
def codewords : Nat → List Nat → List (List Nat)
  | 0, _ => []
  | n + 1, l => if l.length < 514 then [] else rsEncode (l.take 514) :: codewords n (l.drop 514)

/-! ## The lanes (R355–R357) -/

/-- Every fourth element of a list, from one on. -/
def everyFourth {α : Type} (l : List α) (lane : Nat) : List α := (l.zipIdx.filter fun x => x.2 % 4 == lane).map (·.1)

/-- Groups of four. -/
def fours : Nat → List (List Bool) → List (List (List Bool))
  | 0, _ => []
  | n + 1, l => if l.length < 4 then [] else l.take 4 :: fours n (l.drop 4)

/-- The bits that a stream of frames puts on a lane at a rate, in the order sent: 66-bit blocks, the sync header 0b01 of a data block
with its 0 first, or symbols of codewords. -/
def laneBits (rate : Nat) (st : AMap Nat) (frames : List Frame) (lane : Nat) : List Bool :=
  let d := frames.flatMap frameBytes
  let blocks := scrambleBlocks st 0 (blocksOf (d.length / 8) d)
  if rate ≤ 1 then (everyFourth blocks lane).flatMap fun b => false :: true :: b
  else
    let symbols := symbolsOf (d.length + 1) ((fours (blocks.length / 4) blocks).flatMap transcode)
    (codewords (symbols.length / 514) symbols).flatMap fun c => (everyFourth c lane).flatMap fun x => bitList x 10

/-- Pairs of bits as Gray-coded PAM4 levels 0 to 3: 00, 01, 11, 10. -/
def grayLevels : List Bool → List Nat
  | a :: b :: t => (if a then (if b then 2 else 3) else if b then 1 else 0) :: grayLevels t
  | _ => []

/-- The levels that a port has put on a lane since its last training, step or retraining ended: two at rate 0, four above (R355).
The scramblers' states at that moment, which the training blocks before it leave, are free. Log: 238 PRESUMED. -/
def laneLevels (x : Port) (port lane : Nat) : List Nat :=
  let st : AMap Nat := (List.range 4).map fun i => (i, Config.free (2 ^ 64 + (port * 4 + i) * 2 ^ 32 + x.txFrom) % 2 ^ 58)
  let l := laneBits x.rate st (x.tx.drop x.txFrom) lane
  if x.rate = 0 then l.map b2n else grayLevels l

end Sys2Proof.Machine
end

