-- ==== Sys2Proof/Tests/Witnesses.lean ====
section
/-! SUPPORT. Witnesses: for every obligation with hypotheses, a concrete state and operands that meet them, clause by clause. -/
open Sys2Proof Sys2Proof.Machine
namespace Sys2Proof.Tests

-- One witness at a time: all at once they take more threads than a check has memory for.
set_option Elab.async false

/-! ## States the witnesses stand on -/

/-- A topology: this package is node 8 of tray 0, with a neighbour, an end point and its partner. -/
def man0 : Manifest :=
  { own := { node := 8 }, packages := [{ node := 8 }, { node := 9 }, { node := 24 }, { node := 25 }, { node := 40 }]
    ports := [(0, { node := 24 }), (1, { node := 0, endPoint := true }), (2, { node := 9 })], endPoints := [0], witnesses := [24, 25, 40]
    regulators := [1, 2], links := [(8, 24), (8, 25)] }

/-- A package in full service, with an owner. -/
def up : State :=
  { flt := { phase := 6, parts := [1], calibrated := true, discDone := true }, host := { linkUp := true }
    mgmt := { ownerKeys := some (1, 1), manifest := some man0 } }

/-- The same with joined stacks and one resident parcel of partition 1. -/
def upm : State :=
  { up with mem := { up.mem with stks := [(0, { joined := true }), (1, { joined := true })]
                                 dir := [(0, { st := 1, owner := 1, cls := 1, home := { kind := 1, holder := 8 } })] } }

/-- The package with Oagal at a level. -/
def og (n : Nat) : State := { up with mgmt := { up.mgmt with oagalLevel := n } }

/-- A list of partition 1 with one command. -/
def list1 (c : Nat) : CmdList := { id := 1, part := 1, cmds := [BitVec.ofNat 512 c], next := 1, ctrCount := 4, qmask := [0] }

/-- Engine group 0 with that command at the head of a queue. -/
def headOfQueue (c e q : Nat) : State :=
  { upm with groups := [(0, { fmtAll := true, lists := [list1 c], queues := [(e * 16 + q, { list := 1, fifo := [0] })], sliceQ := [(e, q + 1)] })] }

/-- Engine group 0 with a started command in a queue. -/
def started (c e q : Nat) (r : Running) : State :=
  { upm with groups := [(0, { fmtAll := true, lists := [list1 c], queues := [(e * 16 + q, { list := 1, started := [r] })], sliceQ := [(e, q + 1)] })] }

/-- The package with a packet delivered. -/
def deliveredTo (s : State) (p : Packet) : State := { s with fab := { s.fab with delivered := [p] } }

/-- A collective group of two members on this package. -/
def node0 : CollNode := { group := 5, part := 1, members := [(0, 16), (1, 16 + 1024)] }

def withNode (n : CollNode) : State := { upm with coll := { upm.coll with nodes := [(0, n)] } }

/-- The descriptor of a sequence context of one layer, one head and one parcel. -/
def desc0 : Nat := 2 + 2 * 2 ^ 37 + 4 * 2 ^ 41 + 8 * 2 ^ 128 + 2 ^ 160

def withPort (x : Port) : State := { up with ports := [(0, x)] }

/-- Legal power settings with a cap of 2,000 W. -/
def power0 : BitVec 64 := BitVec.ofNat 64 (2000 + 40 * 2 ^ 12 + 400 * 2 ^ 18 + 1500 * 2 ^ 28 + 100 * 2 ^ 42)

/-- A training block. -/
def block0 (msg rest : Nat) : BitVec 56 :=
  BitVec.ofNat 56 (msg + rest * 16 + crc8 (leBytes 6 (msg + rest * 16)) * 2 ^ 48)


/-- An ATTN of sequence context 0 at the head of its queue. -/
def attnC : SeqCtx := { desc := BitVec.ofNat 512 desc0 }

def attnAt (c : Nat) : State :=
  { headOfQueue c 1 0 with xlat := { upm.xlat with ctxs := [(0, { valid := true, part := 1 })] }, seqs := { ctxs := [(0, attnC)] } }

def attnS : State := attnAt (0x28 + 2 ^ 114 + 2 ^ 178)
def attnL : CmdList := list1 (0x28 + 2 ^ 114 + 2 ^ 178)
def attnX : AttnCmd := attnOf (cmdAt attnL 0)

/-- The same with an append. -/
def attnAppS : State := attnAt (0x28 + 2 ^ 114 + 2 ^ 178 + 2 ^ 242 + 2 ^ 287)
def attnAppL : CmdList := list1 (0x28 + 2 ^ 114 + 2 ^ 178 + 2 ^ 242 + 2 ^ 287)
def attnAppX : AttnCmd := attnOf (cmdAt attnAppL 0)

/-- IDENTIFY in the mailbox's table of commands. -/
def identifyCmd : Cmd := { code := 0x0100, flds := [], run := fun s m _ => identify s m }

/-- The package with a management request waiting. -/
def waitingRequest (h : Nat) : State :=
  { up with mbx := { up.mbx with arrivals := [{ master := .mgmt }], mgmtSlots := [(0, { st := 1, frame := leBytes 64 h })] } }

theorem length_of_frame (h : Nat) : (leBytes 64 h ++ List.replicate 4032 (0 : Byte)).length = 4096 := by
  rw [List.length_append, List.length_replicate]; rfl

/-- A list of one END, at the start of parcel 0, for queue 0 of the scalar engine. -/
def listBytes : Bytes :=
  leBytes 64 (1 + 2 ^ 16 + 2 ^ 32 + 6 * 2 ^ 128 + 2 ^ 152) ++ leBytes 64 (2 ^ 96) ++ leBytes 64 0x3F

def listMem : State :=
  { upm with xlat := { upm.xlat with ctxs := [(0, { valid := true, part := 1 })] }
             mem := { upm.mem with cells := Mem.writeBytes [] 0 listBytes } }

/-- The same in emergency off. -/
def listMemOff : State := { listMem with power := { listMem.power with epo := true } }

/-- The load of that list, from the reading of its header to the reading of its commands. -/
def loadS1 : State :=
  (listMem.modGrp 0 fun x => { x with loadReqs := [(1, 2 ^ 50)] }).modPower fun w => { w with gated := w.gated.filter (· != 0) }

def loadS2 : State := (readList loadS1 0 0 (2 ^ 50) 128).1

def loadL : CmdList := { id := 1, checking := true, addr := 2 ^ 50, part := 1, qmask := [1, 0, 0, 0], ringLog2 := 6, defTmo := 1, cmds := [0] }

def loadU : State :=
  (takeResources loadS2 0 loadL (parseDecl (leNat (slice listBytes 64 64)))).modGrp 0 fun x => { x with fes := AMap.erase x.fes (2 ^ 50) }

def loadS3 : State := (readList loadU 0 0 (2 ^ 50) 192).1

/-- As `headOfQueue`, and the list's context has the list's partition. -/
def headCtx (c e q : Nat) : State :=
  { headOfQueue c e q with xlat := { upm.xlat with ctxs := [(0, { valid := true, part := 1 })] } }

/-- As `headOfQueue`, and no queue holds the engine's slice. -/
def idleQueue (c e q : Nat) : State :=
  { upm with groups := [(0, { fmtAll := true, lists := [list1 c], queues := [(e * 16 + q, { list := 1, fifo := [0] })] })] }

/-- A state in which a write is held for a copying tile of parcel 0. -/
def heldBehind (s : State) : State :=
  { s with mem := { s.mem with
      dir := [(0, { st := 2, owner := 1, src := { kind := 1, holder := 8 }, home := { kind := 1, stack := 1, holder := 8 } })]
      moves := [(0, { copying := some 0, held := [.write (.write (.stack 0) .package 0 [1] 1 false)] })] } }

/-- A KVAPPEND that has reserved row 0, and fetches. -/
def appendS (c : Nat) : State :=
  { started c 3 0 { opcode := 0x29, phase := 1, resv := some (0, 1) } with
      xlat := { upm.xlat with ctxs := [(0, { valid := true, part := 1 })] }
      seqs := { ctxs := [(0, { desc := BitVec.ofNat 512 desc0 })] } }

/-- A join on slot 0 of engine group 0. -/
def withJoin (s : State) (j : Join) : State := s.modGrp 0 fun x => { x with joins := [(0, j)] }

/-- A DMA_ND with a read on its way whose translation has been invalidated. -/
def staleNd : State :=
  { started 0x22 3 0 { opcode := 0x22 } with
      xlat := { upm.xlat with accs := [{ len := 1, st := 1, stale := true, owner := .cmd 0 3 0 0 }] } }

/-- A join whose first result chunk has been written: one sub-chunk of zeros. -/
def judgeJ : Join := { group := 5, counted := 1, count := 1, ty := 1, outFmt := 1, dst := 2 ^ 50, subs := [(0, crc64 [0, 0, 0, 0], false)] }

def judgeS : State :=
  { withNode node0 with xlat := { upm.xlat with ctxs := [(0, { valid := true, part := 1 })] }, groups := [(0, { joins := [(0, judgeJ)] })] }

/-- An ATOMIC on the first word of pool offset 0 at the head of its queue, step by step. -/
def atomS : State := headCtx (0x38 + 2 ^ 114) 0 0
def atomA : State := (demandRange (beginRun atomS 0 0 0 { opcode := 0x38 }) 0 (bits (0x38 + 2 ^ 114) 64 56) 4).1
def atomB : State := addHolds (dropFarRange atomA (bits (0x38 + 2 ^ 114) 64 56) 4) 0 0 0 0 (bits (0x38 + 2 ^ 114) 64 56) 4

def atomU : State :=
  (atomicHere (countAccess atomB 8 0 (0x200 + 0)) 8 0 4 1 (bits (0x38 + 2 ^ 114) 448 4) (bits (0x38 + 2 ^ 114) 192 (8 * 4))
    (bits (0x38 + 2 ^ 114) 320 (8 * 4)) (! localAcc (countAccess atomB 8 0 (0x200 + 0)) 0 8 0 false)).1

/-- A read of a control register at address `a` here, taken by the home hub die. -/
def ctlP (a : Nat) : Packet := { opcode := opRD, addr := 2 ^ 50 + a, len := 8 }
def ctlS (a : Nat) : State := deliveredTo up (ctlP a)
def ctlV (a : Nat) : State := fetchFor ((ctlS a).taking (ctlP a)) (ctlP a) (ctlS a).self (addrOff (ctlP a).addr)
def ctlRead (a : Nat) : Option Bytes := readCtl (ctlV a).drawTick.2 (addrOff (ctlP a).addr) (ctlP a).len (ctlV a).drawTick.1

theorem isSome_getD {α : Type} {o : Option α} {d : α} (h : o.isSome = true) : o = some (o.getD d) := by
  cases o with
  | none => cases h
  | some x => rfl

/-! ## The witnesses -/

theorem witness_AStepRunsTheCommandAtTheFrontOfTheQueue :
    ∃ (s : State), s.pending = [] :=
  ⟨State.reset, by decide⟩

theorem witness_EveryStepAnswersAndTakesItsFaults :
    ∃ (s : State) (t : State), s.Settled ∧ step s = .next t :=
  ⟨State.reset, State.reset, (by decide), rfl⟩

theorem witness_ResetLeavesTheStatedValues :
    ∃ (q : Nat), 2 ≤ q :=
  ⟨2, by decide⟩

theorem witness_MailboxRowsAreHeldBackWhileOneIsServed :
    (∃ (c : Instr) (m : Master) (code : Nat) (s : State), mailboxCode c = some (m, code) ∧ s.Settled ∧ s.mbx.cur ≠ none) ∧
    (∃ (c : Instr) (m : Master) (code : Nat) (s : State), mailboxCode c = some (m, code) ∧ s.Settled ∧ s.mbx.cur = none ∧ s.mbx.arrivals = [] ∧
      s.mbx.mgmtSlots = [] ∧ gate s m code = none) :=
  ⟨⟨.identify .mgmt, .mgmt, 0x0100, { up with mbx := { up.mbx with cur := some {} } }, by decide⟩,
   ⟨.identify .mgmt, .mgmt, 0x0100, State.reset, by decide⟩⟩

theorem witness_BarredCommandsCompleteWithTheirStatusAndNoEffect :
    (∃ (c : Instr) (m : Master) (code : Nat) (st : Nat) (s : State), mailboxCode c = some (m, code) ∧ s.Settled ∧ s.mbx.cur = none ∧
      s.mbx.arrivals = [] ∧ s.mbx.mgmtSlots = [] ∧ gate s m code = some (some st)) ∧
    (∃ (s : State) (f : Nat) (w : BitVec 64), s.Settled ∧ s.mbx.cur = none ∧ outranks s [.power] = true ∧ s.Serves .host 0x0500) ∧
    (∃ (c : Instr) (code : Nat) (s : State), mailboxCode c = some (.host, code) ∧
      (code / 256 = 7 ∨ (0x0800 ≤ code ∧ code ≤ 0x0805) ∨ [0x0201, 0x0304, 0x0503, 0x0504, 0x0505].contains code = true) ∧ s.Settled ∧
      s.mbx.cur = none ∧ s.mbx.mgmtSlots = [] ∧ s.Serves .host code) :=
  ⟨⟨.powerSet .mgmt 0 0, .mgmt, 0x0500, SUPERSEDED, { up with power := { up.power with epo := true } }, by decide⟩,
   ⟨{ up with mbx := { up.mbx with mgmtSlots := [(0, { frame := leBytes 64 (0x0504 + 2 ^ 48), st := 1 })] } }, 0, 0, by decide⟩,
   ⟨.powerHeartbeat .host, 0x0503, up, by decide⟩⟩

theorem witness_FaultsAreCapturedOrCountedAsLost :
    (∃ (s : State) (c : Capture), s.flt.raised = [c] ∧ bitAt (s.reactionOf c.cls c.inst c.cause) 5 = false ∧
      bitAt (s.reactionOf c.cls c.inst c.cause) 4 = false ∧ (∀ x ∈ s.flt.captures, x.die ≠ c.die)) ∧
    (∃ (s : State) (c : Capture), s.flt.raised = [c] ∧ bitAt (s.reactionOf c.cls c.inst c.cause) 5 = false ∧
      bitAt (s.reactionOf c.cls c.inst c.cause) 4 = false ∧ (∃ x ∈ s.flt.captures, x.die = c.die)) :=
  ⟨⟨{ up with flt := { up.flt with raised := [{ die := 18, cls := 0x0C, cause := 1 }] } }, { die := 18, cls := 0x0C, cause := 1 }, by decide⟩,
   ⟨{ up with flt := { up.flt with raised := [{ die := 18, cls := 0x0C, cause := 1 }], captures := [{ die := 18 }] } },
      { die := 18, cls := 0x0C, cause := 1 }, by decide⟩⟩

theorem witness_DataCompletionsWithoutOkCarryThePoisonValue :
    ∃ (s : State) (req : Packet) (status : Nat) (data : Bytes), (mkCpl s req status data).opcode = opCPLD ∧ status ≠ OK :=
  ⟨up, { opcode := opRD, len := 8 }, DENIED, [], by decide⟩

theorem witness_ActionsOutrankARiseOfTheCap :
    (∃ (s : State) (f : Nat) (cap : Nat), s.Takes .host 0x0500 [.power] ∧ actionOn s = true ∧ 800 ≤ cap ∧ cap ≤ 3000 ∧ f ≤ s.time.lfc + 65536 ∧
      (s.power.actionPower < min (if s.power.safe then s.power.cfg.safeCap else s.power.cfg.cap) cap) ∧
      (capEff s < min (if s.power.safe then s.power.cfg.safeCap else s.power.cfg.cap) cap)) ∧
    (∃ (s : State) (f : Nat) (w : BitVec 64), s.Takes .mgmt 0x0500 [.power] ∧ actionOn s = true ∧ bits w.toNat 52 12 = 0 ∧ 800 ≤ bits w.toNat 0 12 ∧
      bits w.toNat 0 12 ≤ 3000 ∧ 1 ≤ bits w.toNat 12 6 ∧ bits w.toNat 12 6 ≤ 40 ∧ 40 ≤ bits w.toNat 18 9 ∧ bits w.toNat 18 9 ≤ 400 ∧
      800 ≤ bits w.toNat 28 12 ∧ bits w.toNat 28 12 ≤ 3000 ∧ 1 ≤ bits w.toNat 42 10 ∧ f ≤ s.time.lfc + 65536 ∧
      s.power.actionPower < min (bits w.toNat 0 12) s.power.cfg.hostCap ∧ capEff s < min (bits w.toNat 0 12) s.power.cfg.hostCap) ∧
    (∃ (s : State), s.Takes .mgmt 0x0504 [.power] ∧ s.power.epo = true ∧ actionOn s = true) :=
  ⟨⟨{ up with power := { up.power with supply := true, actionPower := 900, cfg := { cap := 3000, hostCap := 1000 } } }, 0, 2000, by decide⟩,
   ⟨{ up with power := { up.power with supply := true, actionPower := 900, cfg := { cap := 1000 } } }, 0, power0, by decide⟩,
   ⟨{ up with power := { up.power with supply := true, epo := true } }, by decide⟩⟩

theorem witness_CacheRowsLieInTheRegionAndNeverOverlap :
    ∃ (d l g q v l' g' q' v' : Nat), l < dLayers d ∧ g ≤ dHkv d ∧ v ≤ 1 ∧ q < maxPos d ∧ l' < dLayers d ∧ g' ≤ dHkv d ∧ v' ≤ 1 ∧ q' < maxPos d ∧
      (l, g, q, v) ≠ (l', g', q', v') :=
  ⟨2 * 2 ^ 37 + 4 * 2 ^ 41 + 2 ^ 160, 0, 0, 32767, 1, 0, 0, 32767, 0, by decide +kernel⟩

theorem witness_ValuesConvertBackToTheirCodes :
    (∃ (f : Nat) (c : Nat) (sr : Option Nat), 1 ≤ f ∧ f ≤ 8 ∧ c < 2 ^ fmtBits f ∧ decElem f c ≠ .nan) ∧
    (∃ (f : Nat) (c : Nat) (sp : Bool) (sr : Option Nat), 9 ≤ f ∧ f ≤ 13 ∧ c < 2 ^ fmtBits f) ∧
    (∃ (c : Nat) (sp : Bool), c < 16) :=
  ⟨⟨2, 0x3F80, none, by decide⟩,
   ⟨9, 5, true, none, by decide⟩,
   ⟨0, true, by decide⟩⟩

theorem witness_PackageQueriesAnswerAndChangeNothingElse :
    (∃ (s : State) (m : Master), s.Takes m 0x0100 []) ∧
    (∃ (s : State) (m : Master) (c : Nat), s.Takes m 0x0216 [] ∧ c < 4096 ∧ mayManage s m (s.ctx c).part = true) ∧
    (∃ (s : State) (m : Master) (first : Nat) (count : Nat), s.Takes m 0x0301 [] ∧ 1 ≤ count ∧ count ≤ 100 ∧ first + count ≤ 128) ∧
    (∃ (s : State) (m : Master), s.Takes m 0x0303 []) ∧
    (∃ (s : State) (m : Master) (first : Nat) (count : Nat), s.Takes m 0x0391 [] ∧ 1 ≤ count ∧ count ≤ 100 ∧ first + count ≤ 128 ∧
      (∀ p, first ≤ p → p < first + count → s.present p = true)) ∧
    (∃ (s : State) (m : Master), s.Takes m 0x03A1 []) ∧
    (∃ (s : State) (m : Master) (p : Nat), s.Takes m 0x0401 [] ∧ p < 64 ∧ mayManage s m p = true) ∧
    (∃ (s : State) (m : Master) (p : Nat), s.Takes m 0x0404 [] ∧ p < poolParcels s ∧ ((s.ent p).st = 0 ∨ mayManage s m (s.ent p).owner = true) ∧
      (s.ent p).st ≠ 2) ∧
    (∃ (s : State) (m : Master), s.Takes m 0x0501 []) ∧
    (∃ (s : State) (m : Master), s.Takes m 0x0502 []) ∧
    (∃ (s : State) (m : Master) (first : Nat), s.Takes m 0x0600 [] ∧ first < 65536) ∧
    (∃ (s : State) (m : Master) (first : Nat) (count : Nat), s.Takes m 0x0111 [] ∧ 1 ≤ count ∧ count ≤ 31 ∧ first < 2 ^ 32) :=
  ⟨⟨up, .mgmt, by decide⟩,
   ⟨up, .mgmt, 0, by decide⟩,
   ⟨up, .mgmt, 0, 1, by decide⟩,
   ⟨up, .mgmt, by decide⟩,
   ⟨up, .mgmt, 0, 1, (by decide), (by decide), (by decide), (by decide), (fun p h1 h2 => by have hp : p = 0 := (by omega); subst hp; decide)⟩,
   ⟨up, .mgmt, by decide⟩,
   ⟨up, .mgmt, 1, by decide⟩,
   ⟨up, .mgmt, 0, by decide⟩,
   ⟨up, .mgmt, by decide⟩,
   ⟨up, .mgmt, by decide⟩,
   ⟨up, .mgmt, 0, by decide⟩,
   ⟨up, .mgmt, 0, 1, by decide⟩⟩

theorem witness_ServiceQueriesAnswerAndChangeNothingElse :
    (∃ (s : State), s.Takes .mgmt 0x0705 []) ∧
    (∃ (s : State), s.Takes .mgmt 0x0802 []) ∧
    (∃ (s : State) (m : Master) (c : Nat) (first : Nat) (x : SeqCtx), s.Takes m 0x0901 [] ∧ s.seqCtx c = some x ∧
      mayManage s m (dPart x.desc.toNat) = true ∧ first < dLayers x.desc.toNat) ∧
    (∃ (s : State) (m : Master) (g : Nat) (slot : Nat) (n : CollNode), s.Takes m 0x0A06 [] ∧ nodeOf s g = some (slot, n) ∧
      mayManage s m n.part = true) ∧
    (∃ (s : State) (m : Master) (first : Nat) (count : Nat), s.Takes m 0x0B02 [] ∧ 1 ≤ count ∧ count ≤ 30 ∧ first + count ≤ 48) ∧
    (∃ (s : State) (m : Master) (first : Nat) (count : Nat) (b : _), s.Takes m 0x0B02 [] ∧ 1 ≤ count ∧ count ≤ 30 ∧ first + count ≤ 48 ∧
      s.route.staged = some b) ∧
    (∃ (s : State) (m : Master), s.Takes m 0x0B04 []) ∧
    (∃ (s : State) (m : Master) (die : Nat) (seq : Nat), s.Takes m 0x0B08 [] ∧ die < 4) ∧
    (∃ (s : State) (m : Master) (i : Nat) (v : Nat), s.Takes m 0x0110 [] ∧ i < 176 ∧ AMap.find s.mgmt.sensors i = some v) ∧
    (∃ (s : State) (m : Master) (i : Nat), s.Takes m 0x0110 [] ∧ i < 176 ∧ AMap.find s.mgmt.sensors i = none) :=
  ⟨⟨up, by decide⟩,
   ⟨up, by decide⟩,
   ⟨{ up with seqs := { up.seqs with ctxs := [(0, {})] } }, .mgmt, 0, 0, {}, by decide +kernel⟩,
   ⟨withNode node0, .mgmt, 5, 0, node0, by decide⟩,
   ⟨up, .mgmt, 0, 1, by decide⟩,
   ⟨{ up with route := { up.route with staged := some {} } }, .mgmt, 0, 1, {}, by decide⟩,
   ⟨up, .mgmt, by decide⟩,
   ⟨up, .mgmt, 0, 0, by decide⟩,
   ⟨{ up with mgmt := { up.mgmt with sensors := [(0, 7)] } }, .mgmt, 0, 7, by decide⟩,
   ⟨up, .mgmt, 0, by decide⟩⟩

theorem witness_StatisticsAnswerTheirCountsAndClear :
    (∃ (s : State) (m : Master), s.Takes m 0x0101 []) ∧
    (∃ (s : State) (m : Master) (c : Bool), s.Takes m 0x0383 []) ∧
    (∃ (s : State) (m : Master) (c : Bool), s.Takes m 0x040B []) ∧
    (∃ (s : State) (m : Master) (c : Bool), s.Takes m 0x0905 []) ∧
    (∃ (s : State) (m : Master) (c : Bool), s.Takes m 0x0A08 []) ∧
    (∃ (s : State) (m : Master) (c : Bool), s.Takes m 0x0B09 []) :=
  ⟨⟨up, .mgmt, by decide⟩,
   ⟨up, .mgmt, true, by decide⟩,
   ⟨up, .mgmt, true, by decide⟩,
   ⟨up, .mgmt, true, by decide⟩,
   ⟨up, .mgmt, true, by decide⟩,
   ⟨up, .mgmt, true, by decide⟩⟩

theorem witness_ContextCommandsChangeTheRecordTheyName :
    (∃ (s : State) (m : Master) (c : Nat) (d : BitVec 64), s.Takes m 0x0210 [.ctx c] ∧ c < 4096 ∧ mayManage s m (bits d.toNat 1 6) = true ∧
      ((s.ctx c).valid = true → mayManage s m (s.ctx c).part = true) ∧ bits d.toNat 29 35 = 0 ∧
      (bitAt d.toNat 0 = true → bits d.toNat 1 6 ∈ s.flt.parts) ∧ ctxInUse s c = false) ∧
    (∃ (s : State) (m : Master) (c : Nat), s.Takes m 0x0211 [.ctx c] ∧ c < 4096 ∧ mayManage s m (s.ctx c).part = true ∧ ctxInUse s c = false) ∧
    (∃ (s : State) (m : Master) (c : Nat) (slot : Nat) (d : BitVec 128), s.Takes m 0x0212 [.ctx c] ∧ c < 4096 ∧ slot < 8 ∧
      mayManage s m (s.ctx c).part = true ∧ mayManage s m (bits d.toNat 16 6) = true ∧ segRsvd d.toNat = false ∧ (s.ctx c).valid = true ∧
      bits d.toNat 64 30 ≤ bits d.toNat 96 30 ∧ bits d.toNat 8 5 ≠ s.tray ∧
      (∀ x ∈ (s.ctx c).segs, x.1 = slot ∨ x.2.valid = false ∨ x.2.tray ≠ bits d.toNat 8 5 ∨ bits d.toNat 96 30 < x.2.base ∨ x.2.limit < bits d.toNat 64 30)) ∧
    (∃ (s : State) (m : Master) (c : Nat) (slot : Nat), s.Takes m 0x0213 [.ctx c] ∧ c < 4096 ∧ slot < 8 ∧ mayManage s m (s.ctx c).part = true) ∧
    (∃ (s : State) (m : Master) (node : Nat) (p : Nat) (c : Nat), s.Takes m 0x0214 [.bind node p] ∧ node < 16 ∧ p < 64 ∧ c < 4096 ∧
      mayManage s m (s.ctx c).part = true ∧ s.tray * 16 + node ∈ s.man.endPoints ∧ (s.ctx c).valid = true ∧ (s.ctx c).part = p) ∧
    (∃ (s : State) (m : Master) (node : Nat) (p : Nat), s.Takes m 0x0215 [.bind node p] ∧ node < 16 ∧ p < 64 ∧ mayManage s m p = true) ∧
    (∃ (s : State) (mask : BitVec 64), s.Takes .mgmt 0x0201 [.hostParts]) :=
  ⟨⟨up, .mgmt, 0, 3, by decide⟩,
   ⟨up, .mgmt, 0, by decide⟩,
   ⟨{ up with xlat := { up.xlat with ctxs := [(0, { valid := true, part := 1 })] } }, .mgmt, 0, 0, 256, by decide⟩,
   ⟨up, .mgmt, 0, 0, by decide⟩,
   ⟨{ up with xlat := { up.xlat with ctxs := [(0, { valid := true, part := 1 })] } }, .mgmt, 0, 1, 0, by decide⟩,
   ⟨up, .mgmt, 0, 1, by decide⟩,
   ⟨up, 0, by decide⟩⟩

theorem witness_SettingCommandsSetWhatTheyName :
    (∃ (s : State) (m : Master) (p : Nat) (b : BitVec 128), s.Takes m 0x0400 [.policy p] ∧ p < 64 ∧ mayManage s m p = true ∧ bits b.toNat 23 1 = 0 ∧
      bits b.toNat 26 2 = 0 ∧ bits b.toNat 44 4 = 0 ∧ bits b.toNat 64 64 = 0) ∧
    (∃ (s : State) (m : Master) (b : BitVec 64), s.Takes m 0x0402 [.placement] ∧ bits b.toNat 14 2 = 0 ∧ bits b.toNat 54 10 = 0 ∧
      bits b.toNat 0 14 ≤ 8192 ∧ bits b.toNat 40 14 ≤ 8192) ∧
    (∃ (s : State) (m : Master) (n : Nat), s.Takes m 0x0409 [.placement] ∧ n ≤ 15248 ∧ (∀ x ∈ s.mem.dir, x.2.st = 0)) ∧
    (∃ (s : State) (m : Master) (h : Nat), s.Takes m 0x040A [.placement] ∧ 1 ≤ h ∧ h ≤ 168) ∧
    (∃ (s : State) (m : Master) (r : Nat) (holder : Nat) (base : Nat) (count : Nat), s.Takes m 0x0407 [.lend r] ∧ r ≤ 14 ∧ 1 ≤ count ∧ count ≤ 32768 ∧
      holder ∈ s.man.endPoints ∧ base < 2 ^ 56 ∧ addrNode base = holder ∧ addrOff base + count * 0x200000 ≤ 2 ^ 47 ∧
      (∀ x ∈ s.mem.lends, x.1 ≠ r ∧ lendOverlap x.2 { host := false, holder := holder, base := base, count := count } = false)) ∧
    (∃ (s : State) (m : Master) (holder : Nat) (base : Nat) (count : Nat), s.Takes m 0x0407 [.lend 15] ∧ 1 ≤ count ∧ count ≤ 32768 ∧
      base + count * 0x200000 ≤ 0x400000000000 ∧ s.host.conf = false ∧
      (∀ x ∈ s.mem.lends, x.1 ≠ 15 ∧ lendOverlap x.2 { host := true, holder := s.self, base := base, count := count } = false)) ∧
    (∃ (s : State) (m : Master) (n : Nat) (l : Bool), s.Takes m 0x0380 [.pktCtrl] ∧ 2 ≤ n ∧ n ≤ 1000) ∧
    (∃ (s : State) (m : Master) (n : Nat), s.Takes m 0x0381 [.dead n] ∧ n < 512 ∧ n ≠ s.self ∧ n ∉ s.fab.dead ∧ s.fab.dead.length < 64) ∧
    (∃ (s : State) (m : Master) (n : Nat), s.Takes m 0x0382 [.dead n] ∧ n < 512) :=
  ⟨⟨up, .mgmt, 1, 0, by decide⟩,
   ⟨up, .mgmt, 0, by decide⟩,
   ⟨up, .mgmt, 5, by decide⟩,
   ⟨up, .mgmt, 24, by decide⟩,
   ⟨up, .mgmt, 0, 0, 0, 1, by decide +kernel⟩,
   ⟨up, .mgmt, 0, 0, 1, by decide⟩,
   ⟨up, .mgmt, 16, true, by decide⟩,
   ⟨up, .mgmt, 30, by decide⟩,
   ⟨up, .mgmt, 30, by decide⟩⟩

theorem witness_FlushAndAbortStopUseOfWhatTheyName :
    (∃ (s : State) (m : Master) (c : Nat), s.Takes m 0x0217 [.ctx c] ∧ c < 4096 ∧ mayManage s m (s.ctx c).part = true ∧ s.xlat.flush = none) ∧
    (∃ (s : State) (m : Master) (g : Nat) (id : Nat), s.Takes m 0x0220 [.list g id] ∧ g < 32 ∧ id < 65536 ∧ (s.grp g).list? id = none) ∧
    (∃ (s : State) (m : Master) (g : Nat) (id : Nat) (l : CmdList), s.Takes m 0x0220 [.list g id] ∧ g < 32 ∧ 0 < id ∧ id < 65536 ∧
      (s.grp g).list? id = some l ∧ mayManage s m l.part = true ∧ (s.grp g).fenced = false ∧ l.halting = false ∧ l.checking = false) :=
  ⟨⟨up, .mgmt, 0, by decide⟩,
   ⟨up, .mgmt, 0, 5, by decide⟩,
   ⟨headOfQueue 1 0 0, .mgmt, 0, 1, list1 1, by decide +kernel⟩⟩

theorem witness_PlacementCommandsChangeTheDirectoryAsTold :
    (∃ (s : State) (m : Master) (p : Nat) (own : Nat) (cls : Nat) (pin : Nat) (n : Nat), s.Takes m 0x0403 [.parcel p] ∧ mayManage s m own = true ∧
      cls ≤ 3 ∧ pin ≤ 2 ∧ own ≤ 63 ∧ p < poolParcels s ∧ (s.ent p).st = 0 ∧ homeStack s p = some n ∧ (s.pol own).mirror.testBit cls = false) ∧
    (∃ (s : State) (m : Master) (p : Nat) (cls : Nat) (pin : Nat), s.Takes m 0x0403 [.parcel p] ∧ mayManage s m (s.ent p).owner = true ∧ cls ≤ 3 ∧
      pin ≤ 2 ∧ (s.ent p).owner ≤ 63 ∧ p < poolParcels s ∧ (s.ent p).st = 1 ∧ (s.pol (s.ent p).owner).mirror.testBit cls = false) ∧
    (∃ (s : State) (m : Master) (first : Nat) (count : Nat) (own : Nat) (cls : Nat) (pin : Nat),
      s.Takes m 0x0403 ((range' first (min count 1024)).map .parcel) ∧ 1 ≤ count ∧ count ≤ 1024 ∧ cls ≤ 3 ∧ pin ≤ 2 ∧ own ≤ 63 ∧
      first + count ≤ poolParcels s ∧
      (∀ p, first ≤ p → p < first + count → (s.ent p).st ≠ 2 ∧ ((s.ent p).st = 0 ∨ mayManage s m (s.ent p).owner = true))) ∧
    (∃ (s : State) (m : Master) (p : Nat) (d : BitVec 32), s.Takes m 0x0405 [.parcel p] ∧ s.straps.side ≤ 1 ∧ p < poolParcels s ∧ (s.ent p).st = 1 ∧
      mayManage s m (s.ent p).owner = true ∧ (s.ent p).pin ≠ 2 ∧ locLocal s (s.ent p).home = true ∧ bits d.toNat 0 3 = 1 ∧
      bits d.toNat 23 9 = s.self ∧ moveStopped s = false ∧ s.mem.intervalStopped = false ∧ moveRoom s = true ∧
      0 < freeFrames s (bits d.toNat 3 5) ∧ bits d.toNat 8 15 < dataFrames s ∧
      (usedFrames s (bits d.toNat 3 5)).contains (bits d.toNat 8 15) = false ∧ s.mem.lanes = []) ∧
    (∃ (s : State) (m : Master) (n : Nat) (f : Bool), s.Takes m 0x0406 [.stack n] ∧ n ≤ 31 ∧ (s.stk n).activating = false ∧ parcelsOn s n = [] ∧
      (∀ k, (s.stk k).evacuating = false)) ∧
    (∃ (s : State) (m : Master) (r : Nat) (x : Lend), s.Takes m 0x0408 [.lend r] ∧ AMap.find s.mem.lends r = some x ∧
      ((∀ e ∈ s.mem.dir, (e.2.home.kind ≤ 1 ∨ e.2.home.region ≠ r) ∧ (e.2.src.kind ≤ 1 ∨ e.2.src.region ≠ r))) ∧
      (∀ e ∈ s.mem.lends, e.1 ≠ r → e.2.clearing = false)) :=
  ⟨⟨upm, .mgmt, 1, 1, 0, 0, 1, by decide +kernel⟩,
   ⟨upm, .mgmt, 0, 0, 0, by decide +kernel⟩,
   ⟨up, .mgmt, 0, 1, 1, 0, 0, (by decide), (by decide), (by decide), (by decide), (by decide), (by decide), (by decide),
      (fun p h1 h2 => by have hp : p = 0 := (by omega); subst hp; decide)⟩,
   ⟨upm, .mgmt, 0, BitVec.ofNat 32 (1 + 1 * 8 + 8 * 2 ^ 23), by decide +kernel⟩,
   ⟨up, .mgmt, 0, false, (by decide), (by decide), (by decide), (by decide), (fun _ => rfl)⟩,
   ⟨{ up with mem := { up.mem with lends := [(0, { count := 1 })] } }, .mgmt, 0, { count := 1 }, by decide +kernel⟩⟩

theorem witness_RoutingAndLinkCommandsSetWhatTheyName :
    (∃ (s : State) (m : Master) (v : Nat) (first : Nat) (es : List (BitVec 1024)), s.Takes m 0x0B00 [.route] ∧ s.route.st < 2 ∧
      s.route.staged = none ∧ 1 ≤ es.length ∧ es.length ≤ 30 ∧ first + es.length ≤ 48 ∧ v < 65536 ∧ (∀ e ∈ es, bits e.toNat 517 507 = 0) ∧
      (∀ e ∈ es, ∀ p ∈ maskPorts (bits e.toNat 0 128 ||| bits e.toNat 128 128), (portMask (s.man.ports.map (·.1))).testBit p = true)) ∧
    (∃ (s : State) (m : Master) (v : Nat) (drain : Nat) (frames : Nat) (root : Nat) (affected : BitVec 512) (b : Bank), s.Takes m 0x0B01 [.route] ∧
      s.route.st < 2 ∧ s.route.staged = some b ∧ b.version = v ∧ s.time.lfc + 2 ≤ drain ∧ frames ≤ 255 ∧
      (∀ i < 48, entryPart (AMap.get {} b.entries i) ≠ entryPart (AMap.get {} s.route.active.entries i) → ∀ n ∈ servedBy s i, affected.toNat.testBit n = true) ∧
      (root = 0x1FF ∨ ∃ p ∈ s.man.packages, p.node = root)) ∧
    (∃ (s : State) (m : Master) (l : List Nat), s.Takes m 0x0B03 [.shares] ∧ l.length = 64 ∧ (∀ x ∈ l, x ≤ 255) ∧ sumBy (max 1) l ≤ 256) ∧
    (∃ (s : State) (m : Master) (p : Nat) (w : BitVec 128), s.Takes m 0x0B05 [.meter p] ∧ p < 64 ∧ bits w.toNat 65 63 = 0 ∧
      bits w.toNat 0 16 ≤ bits w.toNat 32 16) ∧
    (∃ (s : State) (m : Master) (y : BitVec 64) (r : BitVec 64), s.Takes m 0x0B06 [.drops] ∧ bits y.toNat 0 16 < bits y.toNat 16 16 ∧
      bits r.toNat 0 16 < bits r.toNat 16 16 ∧ bits y.toNat 41 23 = 0 ∧ bits r.toNat 41 23 = 0) ∧
    (∃ (s : State) (m : Master) (die : Nat) (i : Nat) (f : BitVec 64) (e : Bool) (w : Bool), s.Takes m 0x0B07 [.riffle die] ∧ die < 4 ∧ i < 8 ∧
      bits f.toNat 60 4 = 0) ∧
    (∃ (s : State) (m : Master) (ports : BitVec 128) (v : BitVec 32), s.Takes m 0x0390 (((List.range 128).filter ports.toNat.testBit).map .port) ∧
      bits v.toNat 11 21 = 0 ∧ bits v.toNat 3 8 ≠ 0 ∧ (∀ p < 128, ports.toNat.testBit p = true → s.present p = true)) ∧
    (∃ (s : State) (m : Master) (ports : BitVec 128) (v : BitVec 32) (p : Nat),
      s.Takes m 0x0390 (((List.range 128).filter ports.toNat.testBit).map .port) ∧ p < 128 ∧ ports.toNat.testBit p = true ∧ s.present p = false) :=
  ⟨⟨up, .mgmt, 1, 0, [0], (by decide), (by decide), (by decide), (by decide), (by decide), (by decide), (by decide),
      (fun e he => by cases List.mem_singleton.1 he; decide +kernel), (fun e he => by cases List.mem_singleton.1 he; decide +kernel)⟩,
   ⟨{ up with route := { up.route with staged := some { version := 1 } } }, .mgmt, 1, 2, 40, 0x1FF, 0, { version := 1 }, (by decide), (by decide),
      (by decide), (by decide), (by decide), (by decide), (fun i _ h => absurd rfl h), (by decide)⟩,
   ⟨up, .mgmt, List.replicate 64 4, by decide⟩,
   ⟨up, .mgmt, 1, 0, by decide⟩,
   ⟨up, .mgmt, 0x10000, 0x10000, by decide⟩,
   ⟨up, .mgmt, 0, 0, 0, true, true, by decide⟩,
   ⟨up, .mgmt, 1, 8, by decide⟩,
   ⟨up, .mgmt, 0x20, 8, 5, by decide⟩⟩

theorem witness_PowerCommandsSetWhatTheyName :
    (∃ (s : State) (f : Nat) (w : BitVec 64), s.Takes .mgmt 0x0500 [.power] ∧ actionOn s = false ∧ bits w.toNat 52 12 = 0 ∧ 800 ≤ bits w.toNat 0 12 ∧
      bits w.toNat 0 12 ≤ 3000 ∧ 1 ≤ bits w.toNat 12 6 ∧ bits w.toNat 12 6 ≤ 40 ∧ 40 ≤ bits w.toNat 18 9 ∧ bits w.toNat 18 9 ≤ 400 ∧
      800 ≤ bits w.toNat 28 12 ∧ bits w.toNat 28 12 ≤ 3000 ∧ 1 ≤ bits w.toNat 42 10 ∧ f ≤ s.time.lfc + 65536) ∧
    (∃ (s : State) (f : Nat) (cap : Nat), s.Takes .host 0x0500 [.power] ∧ actionOn s = false ∧ 800 ≤ cap ∧ cap ≤ 3000 ∧ f ≤ s.time.lfc + 65536) ∧
    (∃ (s : State), s.Takes .mgmt 0x0503 []) ∧
    (∃ (s : State), s.Takes .mgmt 0x0504 [.power] ∧ s.power.epo = true ∧ actionOn s = false ∧ s.power.epoOff + 1526 ≤ s.time.lfc ∧
      s.power.resuming = false) ∧
    (∃ (s : State), s.Takes .mgmt 0x0505 []) :=
  ⟨⟨up, 0, power0, by decide⟩,
   ⟨up, 0, 2000, by decide⟩,
   ⟨up, by decide⟩,
   ⟨{ up with power := { up.power with epo := true }, time := { up.time with lfc := 2000 } }, by decide⟩,
   ⟨up, by decide⟩⟩

theorem witness_FaultCommandsReactAcknowledgeFenceAndReturn :
    (∃ (s : State) (m : Master) (cls : Nat) (inst : Nat) (r : Nat), s.Takes m 0x0601 [.fault cls inst] ∧ sourceOk' cls inst = true ∧ inst ≠ 0xFFFF ∧
      r < 64 ∧ (bitAt r 5 = true → cls ≤ 9) ∧ (bitAt r 3 = true → cls ≠ 4 ∧ cls ≠ 9 ∧ cls ≠ 0x0A) ∧ (r &&& classFixed cls) = classFixed cls ∧
      isDefault cls r = false) ∧
    (∃ (s : State) (m : Master) (n : Nat), s.Takes m 0x0602 [] ∧ n < 65536) ∧
    (∃ (s : State) (m : Master) (cls : Nat) (inst : Nat), s.Takes m 0x0603 [.fault cls inst] ∧ 1 ≤ cls ∧ cls ≤ 9 ∧ inst < classCount cls ∧
      (cls = 1 → s.present inst = true)) ∧
    (∃ (s : State) (m : Master) (cls : Nat) (inst : Nat), s.Takes m 0x0604 [.fault cls inst] ∧ mayReturn s cls inst = true ∧
      (cls = 5 → (s.stk inst).activating = false)) ∧
    (∃ (s : State) (m : Master) (cls : Nat) (inst : Nat) (cause : Nat) (n : Nat), s.Takes m 0x0606 [.fault cls inst] ∧ sourceOk' cls inst = true ∧
      1 ≤ cause ∧ cause ≤ causeCount cls ∧ 1 ≤ n ∧ n ≤ 255 ∧ 2 ≤ s.mgmt.oagalLevel) :=
  ⟨⟨up, .mgmt, 0x0B, 0, 1, by decide⟩,
   ⟨up, .mgmt, 0, by decide⟩,
   ⟨up, .mgmt, 6, 0, by decide⟩,
   ⟨{ up with flt := { up.flt with fenced := [{ cls := 6 }] } }, .mgmt, 6, 0, by decide⟩,
   ⟨og 2, .mgmt, 6, 0, 1, 1, by decide⟩⟩

theorem witness_BringUpCommandsStartDiscoverAndPair :
    (∃ (s : State) (m : Master) (p : Nat), s.Takes m 0x0202 [.part p] ∧ p < 64 ∧ mayManage s m p = true ∧ partCheck s = OK) ∧
    (∃ (s : State) (m : Master) (p : Nat), s.Takes m 0x0203 [.part p] ∧ p < 64 ∧ mayManage s m p = true ∧ partInUse s p = false) ∧
    (∃ (s : State) (m : Master) (n : Nat) (b : Bytes), s.Takes m 0x0300 [] ∧ s.mgmt.ownerKeys ≠ none ∧ 1 < n ∧ b.length ≤ 4032) ∧
    (∃ (s : State) (m : Master) (b : Bytes), s.Takes m 0x0300 [] ∧ s.mgmt.ownerKeys ≠ none ∧ b.length ≤ 4032) ∧
    (∃ (s : State) (m : Master) (p : Nat), s.Takes m 0x0302 [.port p] ∧ p < 128 ∧ s.present p = true ∧ (s.prt p).quarantined = true) ∧
    (∃ (s : State) (solo : Bool), s.Takes .mgmt 0x0304 [] ∧ s.flt.heardPartner ≠ none ∧ s.flt.servingPartner = false) ∧
    (∃ (s : State) (m : Master) (f : Nat), s.Takes m 0x0305 [] ∧ s.flt.pair = 3 ∧ s.time.lfc + 2 ≤ f) :=
  ⟨⟨up, .mgmt, 1, by decide⟩,
   ⟨up, .mgmt, 1, by decide⟩,
   ⟨up, .mgmt, 2, [], by decide⟩,
   ⟨up, .mgmt, [], by decide⟩,
   ⟨withPort { quarantined := true }, .mgmt, 0, by decide⟩,
   ⟨{ up with flt := { up.flt with heardPartner := some 0 } }, true, by decide⟩,
   ⟨{ up with flt := { up.flt with pair := 3 } }, .mgmt, 2, by decide⟩⟩

theorem witness_UpdateCommandsStageVerifyCommitAndActivate :
    (∃ (s : State) (n : Nat), s.Takes .mgmt 0x0700 [.update] ∧ n ≤ 48 * 2 ^ 20 ∧ s.mgmt.update.opened = false ∧ s.mgmt.update.activation = none) ∧
    (∃ (s : State) (off : Nat) (d : Bytes), s.Takes .mgmt 0x0701 [.update] ∧ s.mgmt.update.opened = true ∧ s.mgmt.update.writing = none ∧
      d.length ≤ 4000 ∧ off + d.length ≤ s.mgmt.update.size ∧ Mem.wf s.mgmt.update.data = true) ∧
    (∃ (s : State), s.Takes .mgmt 0x0702 [.update] ∧ s.mgmt.update.opened = true) ∧
    (∃ (s : State) (ok : Bool), s.Takes .mgmt 0x0703 [.update] ∧ s.mgmt.update.writing = none ∧ s.mgmt.update.opened = true ∧
      s.mgmt.update.verified ≠ none) ∧
    (∃ (s : State) (c : Nat) (mask : Nat) (d : Nat) (f : Bool), s.Takes .mgmt 0x0704 [.update] ∧ (c = 1 ∨ c = 2 ∨ c = 4) ∧
      ((s.mgmt.update.flash.bind fun i => i.digest c) = some d) ∧ mask < 2 ^ compInstances c ∧ s.mgmt.update.activation = none ∧
      (∃ i < compInstances c, mask.testBit i = true ∧ runDigest s c i ≠ d) ∧ (c = 2 → s.isUnitFenced 8 0 = false ∧ s.isUnitFenced 8 1 = false)) ∧
    (∃ (s : State), s.Takes .mgmt 0x0706 [.update] ∧ s.mgmt.update.committed = false ∧ s.mgmt.update.writing = none) :=
  ⟨⟨up, 0, by decide⟩,
   ⟨{ up with mgmt := { up.mgmt with update := { opened := true, size := 8 } } }, 0, [1], by decide⟩,
   ⟨{ up with mgmt := { up.mgmt with update := { opened := true } } }, by decide⟩,
   ⟨{ up with mgmt := { up.mgmt with update := { opened := true, verified := some {} } } }, true, by decide⟩,
   ⟨{ up with mgmt := { up.mgmt with update := { flash := some { comps := [{ id := 1, digest := 5 }] } } } }, 1, 1, 5, false, by decide⟩,
   ⟨up, by decide⟩⟩

theorem witness_SecurityCommandsChangeTrustAsAuthorised :
    (∃ (s : State) (a : CredAuth) (rsa : Bytes) (slh : Bytes), s.Takes .mgmt 0x0800 [.security] ∧ authOk s a = true) ∧
    (∃ (s : State) (a : CredAuth) (rsa : Bytes) (slh : Bytes), s.Takes .mgmt 0x0800 [.security] ∧ authOk s a = false) ∧
    (∃ (s : State) (a : CredAuth) (l : List Bytes), s.Takes .mgmt 0x0801 [.security] ∧ 1 ≤ l.length ∧ l.length ≤ 4 ∧ authOk s a = true) ∧
    (∃ (s : State), s.Takes .mgmt 0x0803 [.security]) ∧
    (∃ (s : State) (k : Nat), s.Takes .mgmt 0x0804 [.security] ∧ k ≤ 3 ∧ s.mgmt.update.running.keyPair ≠ k) ∧
    (∃ (s : State), s.Takes .mgmt 0x0805 [.security]) ∧
    (∃ (s : State) (n : Nat), s.Takes .host 0x0820 [.security] ∧ (n, spdmHost) ∈ s.mgmt.sessions ∧
      (¬ (s.host.sluice.st = 2 ∧ s.host.sluice.session = n)) ∧ s.host.sluice.head = s.host.sluice.tail ∧ AMap.has s.mem.lends 15 = false) ∧
    (∃ (s : State), s.Takes .host 0x0821 [.security] ∧ s.host.sluice.st = 1) :=
  ⟨⟨{ up with mgmt := { up.mgmt with ownerKeys := none } }, .claim Config.claimCode, [], [], (by decide), (by simp [authOk])⟩,
   ⟨up, .claim [], [], [], by decide⟩,
   ⟨{ up with mgmt := { up.mgmt with ownerKeys := none } }, .claim Config.claimCode, [[]], (by decide), (by decide), (by decide), (by simp [authOk])⟩,
   ⟨up, by decide⟩,
   ⟨up, 1, by decide⟩,
   ⟨up, by decide⟩,
   ⟨{ up with mgmt := { up.mgmt with sessions := [(1, spdmHost)] } }, 1, by decide⟩,
   ⟨{ up with host := { up.host with sluice := { st := 1 } } }, by decide⟩⟩

theorem witness_SequenceCommandsRegisterReleaseTruncateAndMigrate :
    (∃ (s : State) (m : Master) (d : BitVec 512), s.Takes m 0x0900 [] ∧ mayManage s m (dPart d.toNat) = true ∧ seqDescOk d.toNat = true ∧
      dRegNode d.toNat ≠ s.self ∧ s.seqs.ctxs.length < 16384) ∧
    (∃ (s : State) (m : Master) (d : BitVec 512), s.Takes m 0x0900 [] ∧ mayManage s m (dPart d.toNat) = true ∧ seqDescOk d.toNat = true ∧
      dRegNode d.toNat = s.self ∧ seqRegionOk s d.toNat = true ∧ s.seqs.ctxs.length < 16384) ∧
    (∃ (s : State) (m : Master) (c : Nat) (x : SeqCtx), s.Takes m 0x0902 [.seq c] ∧ s.seqCtx c = some x ∧ mayManage s m (dPart x.desc.toNat) = true ∧
      inFlight s c = false ∧ x.migrating = false) ∧
    (∃ (s : State) (m : Master) (c : Nat) (n : Nat) (x : SeqCtx), s.Takes m 0x0903 [.seq c] ∧ s.seqCtx c = some x ∧
      mayManage s m (dPart x.desc.toNat) = true ∧ inFlight s c = false ∧ x.migrating = false) ∧
    (∃ (s : State) (m : Master) (c : Nat) (dest : Nat) (base : Nat) (x : SeqCtx), s.Takes m 0x0904 [.seq c] ∧ s.seqCtx c = some x ∧
      mayManage s m (dPart x.desc.toNat) = true ∧ seqLost s x.desc.toNat = false ∧ isDevik dest = true ∧ dest ≠ s.self ∧
      ((∃ p ∈ s.man.packages, p.node = dest)) ∧ base ≤ 31 ∧ inFlight s c = false ∧ x.migrating = false) :=
  ⟨⟨up, .mgmt, BitVec.ofNat 512 (desc0 - 8 * 2 ^ 128), by decide +kernel⟩,
   ⟨upm, .mgmt, BitVec.ofNat 512 desc0, by decide +kernel⟩,
   ⟨{ up with seqs := { up.seqs with ctxs := [(0, {})] } }, .mgmt, 0, {}, by decide +kernel⟩,
   ⟨{ up with seqs := { up.seqs with ctxs := [(0, {})] } }, .mgmt, 0, 5, {}, by decide +kernel⟩,
   ⟨{ up with seqs := { up.seqs with ctxs := [(0, {})] } }, .mgmt, 0, 24, 0, {}, by decide +kernel⟩⟩

theorem witness_CollectiveCommandsDefineCommitAndRemoveGroups :
    (∃ (s : State) (m : Master) (g : Nat) (p : Nat) (n : Nat) (w : Nat) (t : Nat), s.Takes m 0x0A00 [.group g] ∧ mayManage s m p = true ∧ g ≤ 0xFFFF ∧
      p ≤ 63 ∧ 2 ≤ n ∧ n ≤ 4096 ∧ (w = 0 ∨ (16 ≤ w ∧ w ≤ 512)) ∧ t ≤ 1000 ∧ AMap.has s.coll.defs g = false ∧ nodeOf s g = none) ∧
    (∃ (s : State) (m : Master) (g : Nat) (first : Nat) (l : List (BitVec 64)) (dies : List (Nat × Nat)) (d : CollDef), s.Takes m 0x0A01 [.group g] ∧
      AMap.find s.coll.defs g = some d ∧ mayManage s m d.part = true ∧ 1 ≤ l.length ∧ l.length ≤ 480 ∧ first + l.length ≤ d.n ∧
      (∀ i < l.length, ∀ x ∈ d.members, (x.1 < first ∨ first + l.length ≤ x.1) → sameMember x.2 (l.getD i 0) = false) ∧
      (∀ i < l.length, ∀ k < i, sameMember (l.getD k 0) (l.getD i 0) = false) ∧ (∀ e ∈ l, entryOk s e = true) ∧ (∀ x ∈ dies, x.2 ≤ 3) ∧
      d.committed = false) ∧
    (∃ (s : State) (m : Master) (g : Nat) (d : CollDef), s.Takes m 0x0A02 [.group g] ∧ AMap.find s.coll.defs g = some d ∧
      mayManage s m d.part = true ∧ d.members.length = d.n ∧ d.committed = false ∧ (groupNodes d).all (· == s.self) = true ∧ s.straps.side ≤ 1 ∧
      (installNode s (nodeDesc s g d s.self)).2 = true) ∧
    (∃ (s : State) (m : Master) (g : Nat) (d : CollDef), s.Takes m 0x0A03 [.group g] ∧ AMap.find s.coll.defs g = some d ∧
      mayManage s m d.part = true ∧ ((nodeOf s g).any (fun x => x.2.st == 1) = false) ∧
      (s.groups.any (fun g' => g'.2.joins.any fun j => j.2.group == g) = false) ∧ (groupNodes d).all (· == s.self) = true) ∧
    (∃ (s : State) (m : Master) (g : Nat) (slot : Nat) (d : CollDef) (n : CollNode), s.Takes m 0x0A04 [.group g] ∧ AMap.find s.coll.defs g = some d ∧
      mayManage s m d.part = true ∧ nodeOf s g = some (slot, n) ∧ n.st ≠ 1 ∧ s.isUnitFenced 3 (s.node slot).xd = false) ∧
    (∃ (s : State) (m : Master) (g : Nat) (slot : Nat) (d : CollDef) (n : CollNode), s.Takes m 0x0A05 [.group g] ∧ AMap.find s.coll.defs g = some d ∧
      mayManage s m d.part = true ∧ nodeOf s g = some (slot, n) ∧ (s.node slot).st = 2) ∧
    (∃ (s : State) (m : Master) (g : Nat) (slot : Nat) (d : CollDef) (n : CollNode), s.Takes m 0x0A05 [.group g] ∧ AMap.find s.coll.defs g = some d ∧
      mayManage s m d.part = true ∧ nodeOf s g = some (slot, n) ∧ (s.node slot).st ≠ 2 ∧ (∀ k, joinOf s k (s.node slot).group = none)) ∧
    (∃ (s : State) (m : Master) (die : Nat) (share : Nat), s.Takes m 0x0A07 [.collDie die] ∧ die ≤ 3 ∧ 16384 ≤ share ∧ share ≤ 131072 ∧
      s.coll.nodes = []) :=
  ⟨⟨up, .mgmt, 5, 1, 2, 0, 10, by decide +kernel⟩,
   ⟨{ up with coll := { up.coll with defs := [(5, {})] } }, .mgmt, 5, 0, [16], [], {}, (by decide), (by decide), (by decide), (by decide),
      (by decide), (by decide), (by decide +kernel), (by decide +kernel), (fun e he => by cases List.mem_singleton.1 he; decide), (by decide),
      (by decide)⟩,
   ⟨{ up with coll := { up.coll with defs := [(5, { members := [(0, 16), (1, 16 + 1024)] })] } }, .mgmt, 5, { members := [(0, 16), (1, 16 + 1024)] },
      by decide⟩,
   ⟨{ up with coll := { up.coll with defs := [(5, { members := [(0, 16), (1, 16 + 1024)] })] } }, .mgmt, 5, { members := [(0, 16), (1, 16 + 1024)] },
      by decide⟩,
   ⟨{ up with coll := { up.coll with defs := [(5, {})], nodes := [(0, node0)] } }, .mgmt, 5, 0, {}, node0, by decide⟩,
   ⟨{ up with coll := { up.coll with defs := [(5, {})], nodes := [(0, { node0 with st := 2 })] } }, .mgmt, 5, 0, {}, { node0 with st := 2 },
      by decide⟩,
   ⟨{ up with coll := { up.coll with defs := [(5, {})], nodes := [(0, { node0 with st := 1 })] } }, .mgmt, 5, 0, {}, { node0 with st := 1 },
      (by decide +kernel), (by decide +kernel), (by decide +kernel), (by decide +kernel), (by decide +kernel), (fun _ => rfl)⟩,
   ⟨up, .mgmt, 0, 65536, by decide⟩⟩

theorem witness_ControlCommandsCompleteAtTheHeadOfTheirQueue :
    (∃ (s : State) (g : Nat) (e : Nat) (q : Nat) (i : Nat) (l : CmdList), s.Works g e q 0x01 l i) ∧
    (∃ (s : State) (g : Nat) (e : Nat) (q : Nat) (i : Nat) (l : CmdList), s.Works g e q 0x05 l i) ∧
    (∃ (s : State) (g : Nat) (e : Nat) (q : Nat) (i : Nat) (l : CmdList), s.Works g e q 0x02 l i ∧
      met ((s.grp g).ctr (bits (cmdAt l i) 64 12)) (BitVec.ofNat 32 (bits (cmdAt l i) 96 32)) = true) ∧
    (∃ (s : State) (g : Nat) (e : Nat) (q : Nat) (i : Nat) (l : CmdList), s.Works g e q 0x02 l i ∧
      met ((s.grp g).ctr (bits (cmdAt l i) 64 12)) (BitVec.ofNat 32 (bits (cmdAt l i) 96 32)) = false) ∧
    (∃ (s : State) (g : Nat) (e : Nat) (q : Nat) (i : Nat) (l : CmdList), s.Works g e q 0x03 l i ∧ bitAt (cmdAt l i) 76 = false ∧
      ctrOwner s g (bits (cmdAt l i) 64 12) = some l.part) ∧
    (∃ (s : State) (g : Nat) (e : Nat) (q : Nat) (i : Nat) (l : CmdList) (targets : List Nat), s.Works g e q 0x03 l i ∧ bitAt (cmdAt l i) 76 = true ∧
      targets = ((List.range (bits (cmdAt l i) 77 5 + 1)).map fun k => (bits (cmdAt l i) 128 56 + k * bits (cmdAt l i) 192 32) % 2 ^ 56) ∧
      (targets.any fun a => engineConflict s g e a 8) = false) ∧
    (∃ (s : State) (g : Nat) (e : Nat) (q : Nat) (i : Nat) (l : CmdList), s.Works g e q 0x04 l i ∧ bits (cmdAt l i) 64 2 = 0) ∧
    (∃ (s : State) (g : Nat) (e : Nat) (q : Nat) (i : Nat) (l : CmdList), s.Works g e q 0x04 l i ∧
      heldParcels s (fenceLanes (bits (cmdAt l i) 64 2)) g ≠ []) ∧
    (∃ (s : State) (g : Nat) (e : Nat) (q : Nat) (i : Nat) (l : CmdList), s.Works g e q 0x04 l i ∧ bits (cmdAt l i) 64 2 = 1 ∧
      heldParcels s (fenceLanes 1) g = []) ∧
    (∃ (s : State) (g : Nat) (e : Nat) (q : Nat) (i : Nat) (l : CmdList), s.Works g e q 0x04 l i ∧ bits (cmdAt l i) 64 2 = 2 ∧
      heldParcels s (fenceLanes 2) g = []) ∧
    (∃ (s : State) (g : Nat) (e : Nat) (q : Nat) (i : Nat) (l : CmdList), s.Works g e q 0x04 l i ∧ bits (cmdAt l i) 64 2 = 3 ∧
      heldParcels s (fenceLanes 3) g = [] ∧ s.mem.lanes = []) :=
  ⟨⟨headOfQueue 1 0 0, 0, 0, 0, 0, list1 1, by decide +kernel⟩,
   ⟨headOfQueue 5 0 0, 0, 0, 0, 0, list1 5, by decide +kernel⟩,
   ⟨headOfQueue 2 0 0, 0, 0, 0, 0, list1 2, by decide +kernel⟩,
   ⟨headOfQueue (2 + 2 ^ 96) 0 0, 0, 0, 0, 0, list1 (2 + 2 ^ 96), by decide +kernel⟩,
   ⟨headOfQueue 3 0 0, 0, 0, 0, 0, list1 3, by decide +kernel⟩,
   ⟨headOfQueue (3 + 2 ^ 76) 0 0, 0, 0, 0, 0, list1 (3 + 2 ^ 76), [0], by decide +kernel⟩,
   ⟨headOfQueue 4 0 0, 0, 0, 0, 0, list1 4, by decide +kernel⟩,
   ⟨heldBehind (headOfQueue (4 + 1 * 2 ^ 64) 0 0), 0, 0, 0, 0, list1 (4 + 1 * 2 ^ 64), by decide +kernel⟩,
   ⟨headOfQueue (4 + 1 * 2 ^ 64) 0 0, 0, 0, 0, 0, list1 (4 + 1 * 2 ^ 64), by decide +kernel⟩,
   ⟨headOfQueue (4 + 2 * 2 ^ 64) 0 0, 0, 0, 0, 0, list1 (4 + 2 * 2 ^ 64), by decide +kernel⟩,
   ⟨headOfQueue (4 + 3 * 2 ^ 64) 0 0, 0, 0, 0, 0, list1 (4 + 3 * 2 ^ 64), by decide +kernel⟩⟩

theorem witness_HaltsAndTimeoutsEndCommands :
    (∃ (s : State) (g : Nat) (e : Nat) (q : Nat) (i : Nat) (l : CmdList), s.Works g e q 0x3F l i ∧ l.halting = false ∧ l.id ≠ 0) ∧
    (∃ (s : State) (g : Nat) (e : Nat) (q : Nat) (l : CmdList) (r : Running), s.Settled ∧ queueList (s.grp g) e q = some l ∧
      (((s.grp g).que e q).started.find? (fun r => (r.opcode == 2 || r.opcode == 0x31) && r.st == 0) = some r) ∧ r.opcode = 2) ∧
    (∃ (s : State) (g : Nat) (e : Nat) (q : Nat) (r : Running), s.Settled ∧
      (((s.grp g).que e q).started.find? (fun r => r.opcode == 4 && r.st == 0) = some r)) :=
  ⟨⟨headOfQueue 0x3F 0 0, 0, 0, 0, 0, list1 0x3F, by decide +kernel⟩,
   ⟨started 2 0 0 { opcode := 2 }, 0, 0, 0, list1 2, { opcode := 2 }, by decide +kernel⟩,
   ⟨started 4 0 0 { opcode := 4 }, 0, 0, 0, { opcode := 4 }, by decide⟩⟩

theorem witness_TheFrontEndLoadsAbortsDispatchesAndArbitrates :
    (∃ (s : State) (g : Nat) (v : BitVec 64), s.Settled ∧ hostUp s = true ∧ g < 32 ∧ bar2Pending s = false) ∧
    (∃ (s : State) (g : Nat) (p : Nat) (v : BitVec 64), s.Settled ∧ p < 64) ∧
    (∃ (s : State) (s1 : State) (s2 : State) (s3 : State) (u : State) (i : Instr) (g : Nat) (p : Nat) (v : BitVec 64) (hd : Bytes) (body : Bytes) (ok : Bool) (h : Header) (d : Decl) (l : CmdList),
      s.Settled ∧
      ((i = .listLoad g p v ∧ p < 64) ∨ (i = .listDb g v ∧ p = hostLoader ∧ hostUp s = true ∧ g < 32 ∧ bar2Pending s = false ∧ leaveStandby s = s)) ∧
      (s.grp g).fenced = false ∧ s.power.epo = false ∧ 4 ≤ s.flt.phase ∧ s.flt.phase ≤ 6 ∧ (s.stk g).joined = true ∧
      (s.stk g).activating = false ∧ strapMismatch s = false ∧ sequencerServes s = true ∧ (s.grp g).loadReqs = [] ∧
      (∀ l ∈ (s.grp g).lists, l.checking = false) ∧ v.toNat < 2 ^ 56 ∧ v.toNat % 64 = 0 ∧
      s1 = (s.modGrp g fun x => { x with loadReqs := [(p, v.toNat)] }).modPower (fun w => { w with gated := w.gated.filter (· != g) }) ∧
      headerCtx s1 (if p = hostLoader then none else some p) v.toNat ≠ noCtx ∧
      readList s1 g (headerCtx s1 (if p = hostLoader then none else some p) v.toNat) v.toNat 128 = (s2, .bytes hd true) ∧
      h = parseHeader (leNat (slice hd 0 64)) ∧ d = parseDecl (leNat (slice hd 64 64)) ∧ h.ok = true ∧ d.ok = true ∧ d.inGroup = true ∧
      1 ≤ h.length ∧ h.length ≤ 65536 ∧ (s2.ctx d.ctx).valid = true ∧
      (if p = hostLoader then s2.host.hostParts.testBit (s2.ctx d.ctx).part else (s2.ctx d.ctx).part == p) = true ∧
      (s.grp g).list? h.listId = none ∧ prio0Over (s.grp g) d = false ∧ occupied' (s.grp g) d = false ∧
      l = { id := h.listId, checking := true, addr := v.toNat, ctx := d.ctx, part := (s2.ctx d.ctx).part, prio := d.prio, granFirst := d.granFirst, granCount := d.granCount, ctrFirst := d.ctrFirst, ctrCount := d.ctrCount, qmask := d.masks, seqSlots := d.seqSlots, collSlots := d.collSlots, ringAddr := h.ringAddr, ringLog2 := h.ringLog2, hostq := h.hostq, hostqEn := h.hostqEn, defTmo := h.defTmo, cmds := List.replicate h.length 0 } ∧
      u = (takeResources s2 g l d).modGrp g (fun x => { x with fes := AMap.erase x.fes v.toNat }) ∧
      readList u g l.ctx l.addr (128 + 64 * h.length) = (s3, .bytes body ok) ∧
      runInGranules { g := g, self := s3.self, d := declOf l } (l.ringAddr, 64 * 2 ^ l.ringLog2) = true ∧
      firstBad { g := g, self := s3.self, d := declOf l } l.hostqEn (s3.grp g).fmtAll (cacheFmt s3) 0 ((List.range h.length).map fun i => leNat (slice body (128 + 64 * i) 64)) = none) ∧
    (∃ (s : State) (g : Nat) (p : Nat) (v : BitVec 64), s.Settled ∧ p < 64 ∧ (s.grp g).fenced = false ∧ s.power.epo = true ∧
      (s.grp g).loadReqs = [] ∧ v.toNat % 64 ≠ 0) ∧
    (∃ (s : State) (s1 : State) (s2 : State) (g : Nat) (p : Nat) (v : BitVec 64) (hd : Bytes) (h : Header), s.Settled ∧ p < 64 ∧
      (s.grp g).fenced = false ∧ s.power.epo = true ∧ (s.grp g).loadReqs = [] ∧ v.toNat < 2 ^ 56 ∧ v.toNat % 64 = 0 ∧
      s1 = s.modGrp g (fun x => { x with loadReqs := [(p, v.toNat)] }) ∧ headerCtx s1 (some p) v.toNat ≠ noCtx ∧
      readList s1 g (headerCtx s1 (some p) v.toNat) v.toNat 128 = (s2, .bytes hd true) ∧ h = parseHeader (leNat (slice hd 0 64)) ∧
      h.ok = true ∧ (parseDecl (leNat (slice hd 64 64))).ok = true) ∧
    (∃ (s : State) (g : Nat) (p : Nat) (v : BitVec 64), s.Settled ∧ p < 64 ∧ (s.grp g).fenced = false ∧ s.power.epo = false ∧
      (s.stk g).activating = false ∧ 4 ≤ s.flt.phase ∧ s.flt.phase ≤ 6 ∧ (s.stk g).joined = true ∧ strapMismatch s = false ∧
      sequencerServes s = true ∧ (s.grp g).loadReqs = [] ∧ (∀ l ∈ (s.grp g).lists, l.checking = false) ∧ v.toNat % 64 ≠ 0) ∧
    (∃ (s : State) (g : Nat) (p : Nat) (v : BitVec 64) (l : CmdList), s.Settled ∧ (s.grp g).list? (v.toNat % 65536) = some l ∧ v.toNat < 65536 ∧
      l.part = p ∧ (s.grp g).fenced = false ∧ l.halting = false ∧ l.checking = false) ∧
    (∃ (s : State) (g : Nat) (id : Nat) (l : CmdList), s.Settled ∧ groupRuns s g = true ∧ sequencerServes s = true ∧ (s.grp g).list? id = some l ∧
      l.halting = false ∧ l.checking = false ∧ l.next < l.cmds.length ∧
      ((s.grp g).que (cEngine (cmdAt l l.next)) (cQueue (cmdAt l l.next))).fifo.length < 64 ∧ storedCmd s l l.next = cmdAt l l.next) ∧
    (∃ (s : State) (g : Nat) (id : Nat) (l : CmdList), s.Settled ∧ groupRuns s g = true ∧ sequencerServes s = true ∧ (s.grp g).list? id = some l ∧
      l.halting = false ∧ l.checking = false ∧ l.next < l.cmds.length ∧ (∀ y ∈ (s.grp g).queues, y.2.fifo.length < 64) ∧
      storedCmd s l l.next ≠ cmdAt l l.next) ∧
    (∃ (s : State) (g : Nat) (e : Nat) (q : Nat), s.Settled ∧ groupRuns s g = true ∧ AMap.get 0 (s.grp g).sliceQ e = q + 1 ∧
      queueReady (s.grp g) e q = true) ∧
    (∃ (s : State) (g : Nat) (e : Nat), s.Settled ∧ groupRuns s g = true ∧ AMap.get 0 (s.grp g).sliceQ e = 0 ∧
      ((∃ q < 16, queueReady (s.grp g) e q = true))) :=
  ⟨⟨up, 0, 0, by decide +kernel⟩,
   ⟨up, 0, 1, 0, by decide +kernel⟩,
   ⟨listMem, loadS1, loadS2, loadS3, loadU, .listLoad 0 1 (BitVec.ofNat 64 (2 ^ 50)), 0, 1, BitVec.ofNat 64 (2 ^ 50), listBytes.take 128, listBytes,
      true, parseHeader (leNat (slice listBytes 0 64)), parseDecl (leNat (slice listBytes 64 64)), loadL, by decide +kernel⟩,
   ⟨{ up with power := { up.power with epo := true } }, 0, 1, 1, by decide +kernel⟩,
   ⟨listMemOff, listMemOff.modGrp 0 (fun x => { x with loadReqs := [(1, 2 ^ 50)] }),
      (readList (listMemOff.modGrp 0 fun x => { x with loadReqs := [(1, 2 ^ 50)] }) 0 0 (2 ^ 50) 128).1, 0, 1, BitVec.ofNat 64 (2 ^ 50),
      listBytes.take 128, parseHeader (leNat (slice listBytes 0 64)), by decide +kernel⟩,
   ⟨upm, 0, 1, 1, by decide +kernel⟩,
   ⟨headOfQueue 1 0 0, 0, 1, 1, list1 1, by decide +kernel⟩,
   ⟨{ upm with groups := [(0, { lists := [{ list1 1 with next := 0 }] })] }, 0, 1, { list1 1 with next := 0 }, by decide +kernel⟩,
   ⟨{ upm with groups := [(0, { lists := [{ list1 1 with next := 0, addr := 1128098930098176 }] })] }, 0, 1,
      { list1 1 with next := 0, addr := 1128098930098176 }, by decide +kernel⟩,
   ⟨headOfQueue 1 0 0, 0, 0, 0, by decide +kernel⟩,
   ⟨idleQueue 1 0 0, 0, 0, by decide +kernel⟩⟩

theorem witness_CompletionsReleaseAndAdvanceCounters :
    (∃ (s : State) (g : Nat) (e : Nat) (q : Nat) (i : Nat) (l : CmdList) (r : Running), s.Settled ∧ queueList (s.grp g) e q = some l ∧
      ((s.grp g).que e q).started.find? (fun r => r.idx == i) = some r ∧ (s.grp g).fenced = false ∧ s.power.epo = false ∧ r.outstanding = 0 ∧
      r.st = 1 ∧ r.holds = [] ∧ r.invalid = false ∧ endStatus r = OK ∧ r.naninf = false ∧ r.opcode ≠ 5 ∧ r.opcode ≠ 0x21 ∧
      cRec (cmdAt l i) = false ∧ (cCtrEn (cmdAt l i) = true → ctrOwner s g (cCtr (cmdAt l i)) = some l.part)) ∧
    (∃ (s : State) (g : Nat) (e : Nat) (q : Nat) (i : Nat) (l : CmdList) (r : Running), s.Settled ∧ queueList (s.grp g) e q = some l ∧
      (((s.grp g).que e q).started.find? (fun r => r.idx == i) = some r) ∧ (s.grp g).fenced = false ∧ s.power.epo = false ∧ r.outstanding = 0 ∧
      r.st = 1 ∧ r.holds = [] ∧ r.invalid = false ∧ halting r.opcode r.status = true ∧ l.halting = false) ∧
    (∃ (s : State) (g : Nat) (id : Nat) (l : CmdList) (f : FinalRec), s.Settled ∧ (s.grp g).list? id = some l ∧ l.halting = true ∧
      (s.grp g).fenced = false ∧ s.power.epo = false ∧ listQuiet (s.grp g) id = true ∧ l.finalOut ≠ 0 ∧ l.final = some f ∧ f.notify = false ∧
      f.ctr = none ∧
      (theRun s g (cEngine (cmdAt l (l.cmds.length - 1))) (cQueue (cmdAt l (l.cmds.length - 1))) (l.cmds.length - 1)).outstanding = 0 ∧
      (theRun s g (cEngine (cmdAt l (l.cmds.length - 1))) (cQueue (cmdAt l (l.cmds.length - 1))) (l.cmds.length - 1)).denied = none) ∧
    (∃ (s : State) (g : Nat) (c : Nat) (p : Nat) (n : BitVec 32), s.Settled ∧ ctrOwner s g c = some p) ∧
    (∃ (s : State) (g : Nat) (c : Nat) (p : Nat) (n : BitVec 32), s.Settled ∧ ctrOwner s g c ≠ some p) ∧
    (∃ (s : State) (g : Nat) (c : Nat) (p : Nat) (n : Nat), s.Settled ∧ firstInc g s.mem.lanes = some (c, p, n) ∧ incReady g s.mem.lanes = true ∧
      ctrOwner s g c = some p) ∧
    (∃ (s : State) (c : Nat) (y : Nat) (g : Nat) (e : Nat) (q : Nat) (i : Nat) (x : SeqCtx) (v : Resv) (r : Running), s.Settled ∧
      s.seqCtx c = some x ∧ (s.seqs.resvs.find? (fun r => r.ctx == c && r.layer == y && r.first == seqLen x y) = some v) ∧
      v.owner = .cmd g e q i ∧ runOf s v.owner = some r ∧ r.phase = 2 ∧ r.outstanding = 0 ∧ r.denied = none ∧ r.rowsWritten = false) :=
  ⟨⟨started 1 0 0 { opcode := 1, st := 1 }, 0, 0, 0, 0, list1 1, { opcode := 1, st := 1 }, by decide +kernel⟩,
   ⟨started 0x10 1 0 { opcode := 0x10, st := 1, status := 7 }, 0, 1, 0, 0, list1 0x10, { opcode := 0x10, st := 1, status := 7 }, by decide +kernel⟩,
   ⟨{ upm with groups := [(0, { lists := [{ list1 1 with halting := true, finalOut := 1, final := some {} }] })] }, 0, 1,
      { list1 1 with halting := true, finalOut := 1, final := some {} }, {}, by decide +kernel⟩,
   ⟨headOfQueue 1 0 0, 0, 0, 1, 1, by decide⟩,
   ⟨up, 0, 0, 1, 1, by decide⟩,
   ⟨{ headOfQueue 1 0 0 with mem := { upm.mem with lanes := [.inc 0 0 1 1 []] } }, 0, 0, 1, 1, by decide⟩,
   ⟨{ started 0x29 3 0 { opcode := 0x29, phase := 2 } with seqs := { ctxs := [(0, {})], resvs := [{ count := 1, owner := .cmd 0 3 0 0 }] } }, 0, 0,
      0, 3, 0, 0, {}, { count := 1, owner := .cmd 0 3 0 0 }, { opcode := 0x29, phase := 2 }, by decide +kernel⟩⟩

set_option maxRecDepth 100000 in
theorem witness_EngineCommandsComputeOnceTheirOperandsAreHere_1 :
    ∃ (s : State) (w : State) (v : State) (g : Nat) (q : Nat) (c : Nat) (op : Nat) (i : Instr) (sc : Bool) (l : CmdList) (r : Running) (new : Bool),
      ((i = .mma g q ∧ op = 0x10 ∧ sc = false) ∨ (i = .mmaScaled g q ∧ op = 0x11 ∧ sc = true)) ∧ s.Goes g 1 q op l r new ∧ cmdAt l r.idx = c ∧
      w = s.going g 1 q r new ∧ w.Fetched g 1 l.part r (mmaReads c) ∧ demandWrites w g (mmaWrites c) = (v, false) :=
  ⟨headCtx (0x10 + 2 ^ 114 + 2 ^ 242 + 2 ^ 370) 1 0, _, _, 0, 0, 0x10 + 2 ^ 114 + 2 ^ 242 + 2 ^ 370, 0x10, .mma 0 0, false,
      list1 (0x10 + 2 ^ 114 + 2 ^ 242 + 2 ^ 370), { opcode := 0x10 }, true, (by decide +kernel), (by decide +kernel), (by decide +kernel), rfl,
      (by decide +kernel), Prod.ext rfl (by decide +kernel)⟩

set_option maxRecDepth 100000 in
theorem witness_EngineCommandsComputeOnceTheirOperandsAreHere_2 :
    ∃ (s : State) (w : State) (g : Nat) (q : Nat) (c : Nat) (op : Nat) (i : Instr) (l : CmdList) (r : Running) (new : Bool),
      ((i = .mma g q ∧ op = 0x10) ∨ (i = .mmaScaled g q ∧ op = 0x11)) ∧ s.Goes g 1 q op l r new ∧ cmdAt l r.idx = c ∧ w = s.going g 1 q r new ∧
      w.Fetched g 1 l.part r (mmaReads c) ∧ mmaSlices c ≤ r.slices + 1 ∧ (descAt c 320).layout ≠ 1 ∧ w.readable l.part (mmaReads c) = true ∧
      w.writable (w.ctx l.ctx).part (mmaWrites c) = true :=
  ⟨headCtx (0x10 + 2 ^ 114 + 2 ^ 242 + 2 ^ 370) 1 0, _, 0, 0, 0x10 + 2 ^ 114 + 2 ^ 242 + 2 ^ 370, 0x10, .mma 0 0,
      list1 (0x10 + 2 ^ 114 + 2 ^ 242 + 2 ^ 370), { opcode := 0x10 }, true, (by decide +kernel), (by decide +kernel), (by decide +kernel), rfl,
      (by decide +kernel), (by decide +kernel), (by decide +kernel), (by decide +kernel), (by decide +kernel)⟩

set_option maxRecDepth 100000 in
theorem witness_EngineCommandsComputeOnceTheirOperandsAreHere_3 :
    ∃ (s : State) (w : State) (v : State) (g : Nat) (q : Nat) (c : Nat) (l : CmdList) (r : Running) (new : Bool), s.Goes g 2 q 0x18 l r new ∧
      cmdAt l r.idx = c ∧ w = s.going g 2 q r new ∧ bits c 480 8 ≠ 0x10 ∧ bits c 480 8 ≠ 0x11 ∧ w.Fetched g 2 l.part r (vopReads c) ∧
      demandWrites w g (vopWrites c) = (v, false) :=
  ⟨headCtx (0x18 + 2 ^ 114 + 2 ^ 242 + 2 ^ 370) 2 0, _, _, 0, 0, 0x18 + 2 ^ 114 + 2 ^ 242 + 2 ^ 370, list1 (0x18 + 2 ^ 114 + 2 ^ 242 + 2 ^ 370),
      { opcode := 0x18 }, true, (by decide +kernel), (by decide +kernel), rfl, (by decide +kernel), (by decide +kernel), (by decide +kernel),
      Prod.ext rfl (by decide +kernel)⟩

set_option maxRecDepth 100000 in
theorem witness_EngineCommandsComputeOnceTheirOperandsAreHere_4 :
    ∃ (s : State) (w : State) (v : State) (g : Nat) (q : Nat) (c : Nat) (l : CmdList) (r : Running) (new : Bool), s.Goes g 2 q 0x18 l r new ∧
      cmdAt l r.idx = c ∧ w = s.going g 2 q r new ∧ (bits c 480 8 = 0x10 ∨ bits c 480 8 = 0x11) ∧ w.Fetched g 2 l.part r (entryReads c) ∧
      demandWrites w g (vopWrites c) = (v, false) :=
  ⟨headCtx (0x18 + 2 ^ 114 + 2 ^ 242 + 2 ^ 370 + 2 ^ 484) 2 0, _, _, 0, 0, 0x18 + 2 ^ 114 + 2 ^ 242 + 2 ^ 370 + 2 ^ 484,
      list1 (0x18 + 2 ^ 114 + 2 ^ 242 + 2 ^ 370 + 2 ^ 484), { opcode := 0x18 }, true, (by decide +kernel), (by decide +kernel), rfl,
      (by decide +kernel), (by decide +kernel), Prod.ext rfl (by decide +kernel)⟩

set_option maxRecDepth 100000 in
theorem witness_EngineCommandsComputeOnceTheirOperandsAreHere_5 :
    ∃ (s : State) (w : State) (g : Nat) (q : Nat) (c : Nat) (l : CmdList) (r : Running) (new : Bool), s.Goes g 2 q 0x18 l r new ∧ cmdAt l r.idx = c ∧
      w = s.going g 2 q r new ∧ (w.Fetched g 2 l.part r (if bits c 480 8 = 0x10 ∨ bits c 480 8 = 0x11 then entryReads c else vopReads c)) ∧
      vecSlices (s.begunRun g 2 q r new) g (vopCycles c) ≤ r.slices + 1 ∧ (descAt c 320).layout = 0 ∧
      (bits c 480 8 = 0x0F → (descAt c 320).scaled = true) ∧
      (w.readable l.part (if bits c 480 8 = 0x10 ∨ bits c 480 8 = 0x11 then entryReads c else vopReads c) = true) ∧
      w.writable (w.ctx l.ctx).part (vopWrites c) = true :=
  ⟨headCtx (0x18 + 2 ^ 114 + 2 ^ 242 + 2 ^ 370) 2 0, _, 0, 0, 0x18 + 2 ^ 114 + 2 ^ 242 + 2 ^ 370, list1 (0x18 + 2 ^ 114 + 2 ^ 242 + 2 ^ 370),
      { opcode := 0x18 }, true, (by decide +kernel), (by decide +kernel), rfl, (by decide +kernel), (by decide +kernel), (by decide +kernel),
      (by decide +kernel), (by decide +kernel), (by decide +kernel)⟩

set_option maxRecDepth 100000 in
theorem witness_EngineCommandsComputeOnceTheirOperandsAreHere_6 :
    ∃ (s : State) (w : State) (v : State) (g : Nat) (q : Nat) (c : Nat) (l : CmdList) (r : Running) (new : Bool), s.Goes g 2 q 0x19 l r new ∧
      cmdAt l r.idx = c ∧ w = s.going g 2 q r new ∧
      w.Fetched g 2 l.part r (operandRanges (descAt c 64) (bits c 448 16 + 1) (bits c 464 16 + 1) false) ∧
      demandWrites w g [((descAt c 320).addr, 4 * (bits c 448 16 + 1))] = (v, false) :=
  ⟨headCtx (0x19 + 2 ^ 114 + 2 ^ 370) 2 0, _, _, 0, 0, 0x19 + 2 ^ 114 + 2 ^ 370, list1 (0x19 + 2 ^ 114 + 2 ^ 370), { opcode := 0x19 }, true,
      (by decide +kernel), (by decide +kernel), rfl, (by decide +kernel), Prod.ext rfl (by decide +kernel)⟩

set_option maxRecDepth 100000 in
theorem witness_EngineCommandsComputeOnceTheirOperandsAreHere_7 :
    ∃ (s : State) (w : State) (g : Nat) (q : Nat) (c : Nat) (l : CmdList) (r : Running) (new : Bool), s.Goes g 2 q 0x19 l r new ∧ cmdAt l r.idx = c ∧
      w = s.going g 2 q r new ∧ w.Fetched g 2 l.part r (operandRanges (descAt c 64) (bits c 448 16 + 1) (bits c 464 16 + 1) false) ∧
      vecSlices (s.begunRun g 2 q r new) g ((bits c 448 16 + 1) * (bits c 464 16 + 1)) ≤ r.slices + 1 ∧
      w.readable l.part (operandRanges (descAt c 64) (bits c 448 16 + 1) (bits c 464 16 + 1) false) = true ∧
      w.writable (w.ctx l.ctx).part [((descAt c 320).addr, 4 * (bits c 448 16 + 1))] = true :=
  ⟨headCtx (0x19 + 2 ^ 114 + 2 ^ 370) 2 0, _, 0, 0, 0x19 + 2 ^ 114 + 2 ^ 370, list1 (0x19 + 2 ^ 114 + 2 ^ 370), { opcode := 0x19 }, true,
      (by decide +kernel), (by decide +kernel), rfl, (by decide +kernel), (by decide +kernel), (by decide +kernel), (by decide +kernel)⟩

set_option maxRecDepth 100000 in
theorem witness_EngineCommandsComputeOnceTheirOperandsAreHere_8 :
    ∃ (s : State) (t : State) (u : State) (g : Nat) (q : Nat) (d : Nat) (l : CmdList) (r : Running) (new : Bool) (x : AttnCmd) (cx : SeqCtx),
      s.Goes g 1 q 0x28 l r new ∧ attnOf (cmdAt l r.idx) = x ∧ s.seqCtx x.ctx = some cx ∧ cx.desc.toNat = d ∧
      ((new = true ∧ seqCheck s l x.slot x.ctx x.layer true x.partial' (x.headFirst + x.heads - 1) = OK ∧ stripeSet s d g ≠ [] ∧ cacheFmtOk s g x.ctx = true ∧ x.append = false ∧ t = modRun (bindSlot (modRun (beginRun s g 1 q r) g 1 q r.idx fun r => { r with ctx := x.ctx, layer := x.layer, tokens := x.t, stripes := stripeSet s d g }) g l.id x.slot x.ctx) g 1 q r.idx fun r => { r with phase := 3, lenRead := some (seqLen cx x.layer) }) ∨ (new = false ∧ r.phase = 3 ∧ t = s)) ∧
      u = modRun t g 1 q r.idx (fun r => { r with phase := if r.phase = 0 then 1 else r.phase }) ∧
      u.Fetched g 1 l.part (theRun t g 1 q r.idx) (attnReads x d (theRun t g 1 q r.idx)) :=
  ⟨attnS, _, _, 0, 0, attnC.desc.toNat, attnL, { opcode := 0x28 }, true, attnX, attnC, (by decide +kernel), rfl, (by decide +kernel), rfl,
      Or.inl ⟨rfl, (by decide +kernel), (by decide +kernel), (by decide +kernel), (by decide +kernel), rfl⟩, rfl, (by decide +kernel)⟩

set_option maxRecDepth 100000 in
theorem witness_EngineCommandsComputeOnceTheirOperandsAreHere_9 :
    ∃ (s : State) (t : State) (u : State) (g : Nat) (q : Nat) (d : Nat) (l : CmdList) (r : Running) (new : Bool) (x : AttnCmd) (cx : SeqCtx),
      s.Goes g 1 q 0x28 l r new ∧ attnOf (cmdAt l r.idx) = x ∧ s.seqCtx x.ctx = some cx ∧ cx.desc.toNat = d ∧
      ((new = true ∧ seqCheck s l x.slot x.ctx x.layer true x.partial' (x.headFirst + x.heads - 1) = OK ∧ stripeSet s d g ≠ [] ∧ cacheFmtOk s g x.ctx = true ∧ x.append = false ∧ t = modRun (bindSlot (modRun (beginRun s g 1 q r) g 1 q r.idx fun r => { r with ctx := x.ctx, layer := x.layer, tokens := x.t, stripes := stripeSet s d g }) g l.id x.slot x.ctx) g 1 q r.idx fun r => { r with phase := 3, lenRead := some (seqLen cx x.layer) }) ∨ (new = false ∧ r.phase = 3 ∧ t = s)) ∧
      u = modRun t g 1 q r.idx (fun r => { r with phase := if r.phase = 0 then 1 else r.phase }) ∧
      u.Fetched g 1 l.part (theRun t g 1 q r.idx) (attnReads x d (theRun t g 1 q r.idx)) ∧ x.t * x.heads ≤ r.slices + 1 ∧
      u.readable l.part (attnReads x d (theRun t g 1 q r.idx)) = true ∧ u.writable (u.ctx l.ctx).part (attnWrites x d) = true :=
  ⟨attnS, _, _, 0, 0, attnC.desc.toNat, attnL, { opcode := 0x28 }, true, attnX, attnC, (by decide +kernel), rfl, (by decide +kernel), rfl,
      Or.inl ⟨rfl, (by decide +kernel), (by decide +kernel), (by decide +kernel), (by decide +kernel), rfl⟩, rfl, (by decide +kernel),
      (by decide +kernel), (by decide +kernel), (by decide +kernel)⟩

set_option maxRecDepth 100000 in
theorem witness_EngineCommandsComputeOnceTheirOperandsAreHere_10 :
    ∃ (s : State) (u : State) (v : State) (g : Nat) (q : Nat) (d : Nat) (first : Nat) (l : CmdList) (r : Running) (x : AttnCmd) (cx : SeqCtx),
      s.Goes g 1 q 0x28 l r true ∧ attnOf (cmdAt l r.idx) = x ∧ s.seqCtx x.ctx = some cx ∧ cx.desc.toNat = d ∧
      seqCheck s l x.slot x.ctx x.layer true x.partial' (x.headFirst + x.heads - 1) = OK ∧ stripeSet s d g ≠ [] ∧ cacheFmtOk s g x.ctx = true ∧
      x.append = true ∧
      reserve (bindSlot (modRun (beginRun s g 1 q r) g 1 q r.idx fun r => { r with ctx := x.ctx, layer := x.layer, tokens := x.t, stripes := stripeSet s d g }) g l.id x.slot x.ctx) x.ctx x.layer x.t (.cmd g 1 q r.idx) = some (first,
      u) ∧ v = modRun u g 1 q r.idx (fun r => { r with resv := some (first, x.t), phase := 1 }) :=
  ⟨attnAppS, _, _, 0, 0, attnC.desc.toNat, 0, attnAppL, { opcode := 0x28 }, attnAppX, attnC, (by decide +kernel), rfl, (by decide +kernel), rfl,
      (by decide +kernel), (by decide +kernel), (by decide +kernel), (by decide +kernel), rfl, rfl⟩

set_option maxRecDepth 100000 in
theorem witness_EngineCommandsComputeOnceTheirOperandsAreHere_11 :
    ∃ (s : State) (a : State) (b : State) (u : State) (g : Nat) (q : Nat) (c : Nat) (n : Nat) (node : Nat) (off : Nat) (old : Nat) (l : CmdList) (r : Running),
      s.Goes g 0 q 0x38 l r true ∧ cmdAt l r.idx = c ∧ n = 4 * 2 ^ bits c 452 2 ∧ engineConflict s g 0 (bits c 64 56) n = false ∧
      demandRange (beginRun s g 0 q r) g (bits c 64 56) n = (a, false) ∧
      b = addHolds (dropFarRange a (bits c 64 56) n) g 0 q r.idx (bits c 64 56) n ∧ placeOf b (bits c 64 56) = .here node off ∧
      isCtlOff off = false ∧ accCheck b node off n l.part true = some OK ∧ tileCopying b node off = false ∧
      atomicHere (countAccess b node off (0x200 + g)) node off n l.part (bits c 448 4) (bits c 192 (8 * n)) (bits c 320 (8 * n)) (! localAcc (countAccess b node off (0x200 + g)) g node off false) = (u,
      some old) :=
  ⟨atomS, atomA, atomB, atomU, 0, 0, 0x38 + 2 ^ 114, 4, 8, 0, 0, list1 (0x38 + 2 ^ 114), { opcode := 0x38 }, (by decide +kernel),
      (by decide +kernel), (by decide +kernel), (by decide +kernel), Prod.ext rfl (by decide +kernel), (by decide +kernel), (by decide +kernel),
      (by decide +kernel), (by decide +kernel), (by decide +kernel), Prod.ext rfl (by decide +kernel)⟩

set_option maxRecDepth 100000 in
theorem witness_EngineCommandsComputeOnceTheirOperandsAreHere_12 :
    ∃ (s : State) (a : State) (b : State) (u : State) (g : Nat) (q : Nat) (c : Nat) (n : Nat) (node : Nat) (off : Nat) (old : Nat) (l : CmdList) (r : Running),
      s.Goes g 0 q 0x38 l r true ∧ cmdAt l r.idx = c ∧ n = 4 * 2 ^ bits c 452 2 ∧ engineConflict s g 0 (bits c 64 56) n = false ∧
      demandRange (beginRun s g 0 q r) g (bits c 64 56) n = (a, false) ∧
      b = addHolds (dropFarRange a (bits c 64 56) n) g 0 q r.idx (bits c 64 56) n ∧ placeOf b (bits c 64 56) = .here node off ∧
      isCtlOff off = false ∧ accCheck b node off n l.part true = some OK ∧ tileCopying b node off = false ∧
      atomicHere (countAccess b node off (0x200 + g)) node off n l.part (bits c 448 4) (bits c 192 (8 * n)) (bits c 320 (8 * n)) (! localAcc (countAccess b node off (0x200 + g)) g node off false) = (u,
      some old) ∧ mirrored u node off = false ∧ (bitAt c 454 = true → u.writable (u.ctx l.ctx).part [(bits c 128 56, n)] = true) :=
  ⟨atomS, atomA, atomB, atomU, 0, 0, 0x38 + 2 ^ 114, 4, 8, 0, 0, list1 (0x38 + 2 ^ 114), { opcode := 0x38 }, (by decide +kernel),
      (by decide +kernel), (by decide +kernel), (by decide +kernel), Prod.ext rfl (by decide +kernel), (by decide +kernel), (by decide +kernel),
      (by decide +kernel), (by decide +kernel), (by decide +kernel), Prod.ext rfl (by decide +kernel), (by decide +kernel), (by decide +kernel)⟩

set_option maxRecDepth 100000 in
theorem witness_EngineCommandsComputeOnceTheirOperandsAreHere :
    (∃ (s : State) (w : State) (v : State) (g : Nat) (q : Nat) (c : Nat) (op : Nat) (i : Instr) (sc : Bool) (l : CmdList) (r : Running) (new : Bool),
      ((i = .mma g q ∧ op = 0x10 ∧ sc = false) ∨ (i = .mmaScaled g q ∧ op = 0x11 ∧ sc = true)) ∧ s.Goes g 1 q op l r new ∧ cmdAt l r.idx = c ∧
      w = s.going g 1 q r new ∧ w.Fetched g 1 l.part r (mmaReads c) ∧ demandWrites w g (mmaWrites c) = (v, false)) ∧
    (∃ (s : State) (w : State) (g : Nat) (q : Nat) (c : Nat) (op : Nat) (i : Instr) (l : CmdList) (r : Running) (new : Bool),
      ((i = .mma g q ∧ op = 0x10) ∨ (i = .mmaScaled g q ∧ op = 0x11)) ∧ s.Goes g 1 q op l r new ∧ cmdAt l r.idx = c ∧ w = s.going g 1 q r new ∧
      w.Fetched g 1 l.part r (mmaReads c) ∧ mmaSlices c ≤ r.slices + 1 ∧ (descAt c 320).layout ≠ 1 ∧ w.readable l.part (mmaReads c) = true ∧
      w.writable (w.ctx l.ctx).part (mmaWrites c) = true) ∧
    (∃ (s : State) (w : State) (v : State) (g : Nat) (q : Nat) (c : Nat) (l : CmdList) (r : Running) (new : Bool), s.Goes g 2 q 0x18 l r new ∧
      cmdAt l r.idx = c ∧ w = s.going g 2 q r new ∧ bits c 480 8 ≠ 0x10 ∧ bits c 480 8 ≠ 0x11 ∧ w.Fetched g 2 l.part r (vopReads c) ∧
      demandWrites w g (vopWrites c) = (v, false)) ∧
    (∃ (s : State) (w : State) (v : State) (g : Nat) (q : Nat) (c : Nat) (l : CmdList) (r : Running) (new : Bool), s.Goes g 2 q 0x18 l r new ∧
      cmdAt l r.idx = c ∧ w = s.going g 2 q r new ∧ (bits c 480 8 = 0x10 ∨ bits c 480 8 = 0x11) ∧ w.Fetched g 2 l.part r (entryReads c) ∧
      demandWrites w g (vopWrites c) = (v, false)) ∧
    (∃ (s : State) (w : State) (g : Nat) (q : Nat) (c : Nat) (l : CmdList) (r : Running) (new : Bool), s.Goes g 2 q 0x18 l r new ∧ cmdAt l r.idx = c ∧
      w = s.going g 2 q r new ∧ (w.Fetched g 2 l.part r (if bits c 480 8 = 0x10 ∨ bits c 480 8 = 0x11 then entryReads c else vopReads c)) ∧
      vecSlices (s.begunRun g 2 q r new) g (vopCycles c) ≤ r.slices + 1 ∧ (descAt c 320).layout = 0 ∧
      (bits c 480 8 = 0x0F → (descAt c 320).scaled = true) ∧
      (w.readable l.part (if bits c 480 8 = 0x10 ∨ bits c 480 8 = 0x11 then entryReads c else vopReads c) = true) ∧
      w.writable (w.ctx l.ctx).part (vopWrites c) = true) ∧
    (∃ (s : State) (w : State) (v : State) (g : Nat) (q : Nat) (c : Nat) (l : CmdList) (r : Running) (new : Bool), s.Goes g 2 q 0x19 l r new ∧
      cmdAt l r.idx = c ∧ w = s.going g 2 q r new ∧
      w.Fetched g 2 l.part r (operandRanges (descAt c 64) (bits c 448 16 + 1) (bits c 464 16 + 1) false) ∧
      demandWrites w g [((descAt c 320).addr, 4 * (bits c 448 16 + 1))] = (v, false)) ∧
    (∃ (s : State) (w : State) (g : Nat) (q : Nat) (c : Nat) (l : CmdList) (r : Running) (new : Bool), s.Goes g 2 q 0x19 l r new ∧ cmdAt l r.idx = c ∧
      w = s.going g 2 q r new ∧ w.Fetched g 2 l.part r (operandRanges (descAt c 64) (bits c 448 16 + 1) (bits c 464 16 + 1) false) ∧
      vecSlices (s.begunRun g 2 q r new) g ((bits c 448 16 + 1) * (bits c 464 16 + 1)) ≤ r.slices + 1 ∧
      w.readable l.part (operandRanges (descAt c 64) (bits c 448 16 + 1) (bits c 464 16 + 1) false) = true ∧
      w.writable (w.ctx l.ctx).part [((descAt c 320).addr, 4 * (bits c 448 16 + 1))] = true) ∧
    (∃ (s : State) (t : State) (u : State) (g : Nat) (q : Nat) (d : Nat) (l : CmdList) (r : Running) (new : Bool) (x : AttnCmd) (cx : SeqCtx),
      s.Goes g 1 q 0x28 l r new ∧ attnOf (cmdAt l r.idx) = x ∧ s.seqCtx x.ctx = some cx ∧ cx.desc.toNat = d ∧
      ((new = true ∧ seqCheck s l x.slot x.ctx x.layer true x.partial' (x.headFirst + x.heads - 1) = OK ∧ stripeSet s d g ≠ [] ∧ cacheFmtOk s g x.ctx = true ∧ x.append = false ∧ t = modRun (bindSlot (modRun (beginRun s g 1 q r) g 1 q r.idx fun r => { r with ctx := x.ctx, layer := x.layer, tokens := x.t, stripes := stripeSet s d g }) g l.id x.slot x.ctx) g 1 q r.idx fun r => { r with phase := 3, lenRead := some (seqLen cx x.layer) }) ∨ (new = false ∧ r.phase = 3 ∧ t = s)) ∧
      u = modRun t g 1 q r.idx (fun r => { r with phase := if r.phase = 0 then 1 else r.phase }) ∧
      u.Fetched g 1 l.part (theRun t g 1 q r.idx) (attnReads x d (theRun t g 1 q r.idx))) ∧
    (∃ (s : State) (t : State) (u : State) (g : Nat) (q : Nat) (d : Nat) (l : CmdList) (r : Running) (new : Bool) (x : AttnCmd) (cx : SeqCtx),
      s.Goes g 1 q 0x28 l r new ∧ attnOf (cmdAt l r.idx) = x ∧ s.seqCtx x.ctx = some cx ∧ cx.desc.toNat = d ∧
      ((new = true ∧ seqCheck s l x.slot x.ctx x.layer true x.partial' (x.headFirst + x.heads - 1) = OK ∧ stripeSet s d g ≠ [] ∧ cacheFmtOk s g x.ctx = true ∧ x.append = false ∧ t = modRun (bindSlot (modRun (beginRun s g 1 q r) g 1 q r.idx fun r => { r with ctx := x.ctx, layer := x.layer, tokens := x.t, stripes := stripeSet s d g }) g l.id x.slot x.ctx) g 1 q r.idx fun r => { r with phase := 3, lenRead := some (seqLen cx x.layer) }) ∨ (new = false ∧ r.phase = 3 ∧ t = s)) ∧
      u = modRun t g 1 q r.idx (fun r => { r with phase := if r.phase = 0 then 1 else r.phase }) ∧
      u.Fetched g 1 l.part (theRun t g 1 q r.idx) (attnReads x d (theRun t g 1 q r.idx)) ∧ x.t * x.heads ≤ r.slices + 1 ∧
      u.readable l.part (attnReads x d (theRun t g 1 q r.idx)) = true ∧ u.writable (u.ctx l.ctx).part (attnWrites x d) = true) ∧
    (∃ (s : State) (u : State) (v : State) (g : Nat) (q : Nat) (d : Nat) (first : Nat) (l : CmdList) (r : Running) (x : AttnCmd) (cx : SeqCtx),
      s.Goes g 1 q 0x28 l r true ∧ attnOf (cmdAt l r.idx) = x ∧ s.seqCtx x.ctx = some cx ∧ cx.desc.toNat = d ∧
      seqCheck s l x.slot x.ctx x.layer true x.partial' (x.headFirst + x.heads - 1) = OK ∧ stripeSet s d g ≠ [] ∧ cacheFmtOk s g x.ctx = true ∧
      x.append = true ∧
      reserve (bindSlot (modRun (beginRun s g 1 q r) g 1 q r.idx fun r => { r with ctx := x.ctx, layer := x.layer, tokens := x.t, stripes := stripeSet s d g }) g l.id x.slot x.ctx) x.ctx x.layer x.t (.cmd g 1 q r.idx) = some (first, u) ∧
      v = modRun u g 1 q r.idx (fun r => { r with resv := some (first, x.t), phase := 1 })) ∧
    (∃ (s : State) (a : State) (b : State) (u : State) (g : Nat) (q : Nat) (c : Nat) (n : Nat) (node : Nat) (off : Nat) (old : Nat) (l : CmdList) (r : Running),
      s.Goes g 0 q 0x38 l r true ∧ cmdAt l r.idx = c ∧ n = 4 * 2 ^ bits c 452 2 ∧ engineConflict s g 0 (bits c 64 56) n = false ∧
      demandRange (beginRun s g 0 q r) g (bits c 64 56) n = (a, false) ∧
      b = addHolds (dropFarRange a (bits c 64 56) n) g 0 q r.idx (bits c 64 56) n ∧ placeOf b (bits c 64 56) = .here node off ∧
      isCtlOff off = false ∧ accCheck b node off n l.part true = some OK ∧ tileCopying b node off = false ∧
      atomicHere (countAccess b node off (0x200 + g)) node off n l.part (bits c 448 4) (bits c 192 (8 * n)) (bits c 320 (8 * n)) (! localAcc (countAccess b node off (0x200 + g)) g node off false) = (u, some old)) ∧
    (∃ (s : State) (a : State) (b : State) (u : State) (g : Nat) (q : Nat) (c : Nat) (n : Nat) (node : Nat) (off : Nat) (old : Nat) (l : CmdList) (r : Running),
      s.Goes g 0 q 0x38 l r true ∧ cmdAt l r.idx = c ∧ n = 4 * 2 ^ bits c 452 2 ∧ engineConflict s g 0 (bits c 64 56) n = false ∧
      demandRange (beginRun s g 0 q r) g (bits c 64 56) n = (a, false) ∧
      b = addHolds (dropFarRange a (bits c 64 56) n) g 0 q r.idx (bits c 64 56) n ∧ placeOf b (bits c 64 56) = .here node off ∧
      isCtlOff off = false ∧ accCheck b node off n l.part true = some OK ∧ tileCopying b node off = false ∧
      atomicHere (countAccess b node off (0x200 + g)) node off n l.part (bits c 448 4) (bits c 192 (8 * n)) (bits c 320 (8 * n)) (! localAcc (countAccess b node off (0x200 + g)) g node off false) = (u, some old) ∧
      mirrored u node off = false ∧ (bitAt c 454 = true → u.writable (u.ctx l.ctx).part [(bits c 128 56, n)] = true)) :=
  ⟨witness_EngineCommandsComputeOnceTheirOperandsAreHere_1, witness_EngineCommandsComputeOnceTheirOperandsAreHere_2, witness_EngineCommandsComputeOnceTheirOperandsAreHere_3, witness_EngineCommandsComputeOnceTheirOperandsAreHere_4, witness_EngineCommandsComputeOnceTheirOperandsAreHere_5, witness_EngineCommandsComputeOnceTheirOperandsAreHere_6, witness_EngineCommandsComputeOnceTheirOperandsAreHere_7, witness_EngineCommandsComputeOnceTheirOperandsAreHere_8, witness_EngineCommandsComputeOnceTheirOperandsAreHere_9, witness_EngineCommandsComputeOnceTheirOperandsAreHere_10, witness_EngineCommandsComputeOnceTheirOperandsAreHere_11, witness_EngineCommandsComputeOnceTheirOperandsAreHere_12⟩

set_option maxRecDepth 100000 in
theorem witness_DmaCommandsCopyDeliverAndAppend :
    (∃ (s : State) (w : State) (g : Nat) (q : Nat) (c : Nat) (op : Nat) (i : Instr) (l : CmdList) (r : Running) (new : Bool),
      ((i = .loadt g q ∧ op = 0x20) ∨ (i = .storet g q ∧ op = 0x21)) ∧ s.Goes g 3 q op l r new ∧ cmdAt l r.idx = c ∧ w = s.going g 3 q r new ∧
      w.Fetched g 3 l.part r ((moveSrc c).map fun x => (x.1, x.2, bitAt c 353))) ∧
    (∃ (s : State) (w : State) (g : Nat) (q : Nat) (c : Nat) (op : Nat) (i : Instr) (l : CmdList) (r : Running) (new : Bool),
      ((i = .loadt g q ∧ op = 0x20) ∨ (i = .storet g q ∧ op = 0x21)) ∧ s.Goes g 3 q op l r new ∧ cmdAt l r.idx = c ∧ w = s.going g 3 q r new ∧
      w.Fetched g 3 l.part r ((moveSrc c).map fun x => (x.1, x.2, bitAt c 353)) ∧ runsLeft r (cutRuns (movePairs c)) ≤ dmaSlice ∧
      w.fab.tracks = [] ∧ w.xlat.accs = [] ∧ w.readable l.part ((cutRuns (movePairs c)).map fun x => (x.1, x.2.2, bitAt c 353)) = true ∧
      w.writable (w.ctx l.ctx).part ((cutRuns (movePairs c)).map fun x => (x.2.1, x.2.2)) = true) ∧
    (∃ (s : State) (b : State) (t : State) (g : Nat) (q : Nat) (c : Nat) (l : CmdList) (r : Running) (new : Bool) (x : NdCmd),
      s.Goes g 3 q 0x22 l r new ∧ cmdAt l r.idx = c ∧ ndOf c = x ∧ b = s.begunRun g 3 q r new ∧
      t = modRun b g 3 q r.idx (fun r => { r with phase := 1 }) ∧ r.pageReq = false ∧ tileRefusal b r x r.tiles = none ∧ r.faulting = false ∧
      r.rowsWritten = false ∧ (∀ p ∈ (fetchTiles t g r x).flatMap (tilePieces t x), (p.1, p.2.1) ∈ r.reqd) ∧
      (∀ p ∈ tilePieces t x r.tiles, (p.1, p.2.1) ∈ r.reqd ∧ pieceOut t g q r.idx p.1 = false) ∧
      (((x.tile r.tiles).map fun y => (y.1, x.len)).any fun y => rangeHeld t l.part y.1 y.2 false || engineConflict t g 3 y.1 y.2) = false ∧
      untranslated t g l true ((x.tile r.tiles).map fun y => (y.2, x.len)) = []) ∧
    (∃ (s : State) (b : State) (t : State) (g : Nat) (q : Nat) (c : Nat) (l : CmdList) (r : Running) (new : Bool) (x : NdCmd),
      s.Goes g 3 q 0x22 l r new ∧ cmdAt l r.idx = c ∧ ndOf c = x ∧ b = s.begunRun g 3 q r new ∧
      t = modRun b g 3 q r.idx (fun r => { r with phase := 1 }) ∧ r.pageReq = false ∧ tileRefusal b r x r.tiles = none ∧ r.faulting = false ∧
      r.rowsWritten = false ∧ (∀ p ∈ (fetchTiles t g r x).flatMap (tilePieces t x), (p.1, p.2.1) ∈ r.reqd) ∧
      (∀ p ∈ tilePieces t x r.tiles, (p.1, p.2.1) ∈ r.reqd ∧ pieceOut t g q r.idx p.1 = false) ∧
      (((x.tile r.tiles).map fun y => (y.1, x.len)).any fun y => rangeHeld t l.part y.1 y.2 false || engineConflict t g 3 y.1 y.2) = false ∧
      untranslated t g l true ((x.tile r.tiles).map fun y => (y.2, x.len)) = [] ∧
      runsLeft r (cutRuns ((x.tile r.tiles).map fun y => (y.1, y.2, x.len))) ≤ dmaSlice ∧ t.fab.tracks = [] ∧ t.xlat.accs = [] ∧
      t.readable l.part ((cutRuns ((x.tile r.tiles).map fun y => (y.1, y.2, x.len))).map fun y => (y.1, y.2.2, x.vol)) = true ∧
      t.writable (t.ctx l.ctx).part ((cutRuns ((x.tile r.tiles).map fun y => (y.1, y.2, x.len))).map fun y => (y.2.1, y.2.2)) = true) ∧
    (∃ (s : State) (b : State) (u : State) (g : Nat) (q : Nat) (c : Nat) (first : Nat) (l : CmdList) (r : Running) (x : SeqCtx),
      s.Goes g 3 q 0x29 l r true ∧ cmdAt l r.idx = c ∧ s.seqCtx (bits c 192 14) = some x ∧
      seqCheck s l (bits c 228 5) (bits c 192 14) (bits c 206 10) false false 0 = OK ∧ cacheFmtOk s g (bits c 192 14) = true ∧
      b = bindSlot (modRun (beginRun s g 3 q r) g 3 q r.idx fun r => { r with ctx := bits c 192 14, layer := bits c 206 10, tokens := bits c 216 12 + 1 }) g l.id (bits c 228 5) (bits c 192 14) ∧
      reserve b (bits c 192 14) (bits c 206 10) (bits c 216 12 + 1) (.cmd g 3 q r.idx) = some (first, u)) ∧
    (∃ (s : State) (g : Nat) (q : Nat) (c : Nat) (l : CmdList) (r : Running), s.Goes g 3 q 0x29 l r false ∧ cmdAt l r.idx = c ∧ r.phase = 1) ∧
    (∃ (s : State) (g : Nat) (q : Nat) (c : Nat) (d : Nat) (first : Nat) (l : CmdList) (r : Running) (x : SeqCtx), s.Goes g 3 q 0x29 l r false ∧
      cmdAt l r.idx = c ∧ r.phase = 1 ∧ r.resv = some (first, bits c 216 12 + 1) ∧ s.seqCtx (bits c 192 14) = some x ∧ x.desc.toNat = d ∧
      s.Fetched g 3 l.part r [(bits c 64 56, (bits c 216 12 + 1) * (dHkv d + 1) * eBytes (bits c 233 4) (dDim d), false), (bits c 128 56, (bits c 216 12 + 1) * (dHkv d + 1) * eBytes (bits c 233 4) (dDim d), false)] ∧
      ((appendPairs c d first).length - r.written.length) * (2 * ceilDiv (dRb d) 2048) ≤ dmaSlice ∧ s.fab.tracks = [] ∧ s.xlat.accs = [] ∧
      s.readable l.part ((appendPairs c d first).map fun y => (y.1.1, y.1.2, false)) = true ∧
      s.writable (s.ctx l.ctx).part ((appendPairs c d first).map (·.2)) = true) ∧
    (∃ (s : State) (g : Nat) (q : Nat) (l : CmdList) (r : Running) (x : NdCmd), s.Settled ∧ queueList (s.grp g) 3 q = some l ∧
      ((s.grp g).que 3 q).started.find? (fun r => r.opcode == 0x22 && r.st == 0) = some r ∧ ndOf (cmdAt l r.idx) = x ∧ r.rowsWritten = true ∧
      r.outstanding = readsOut s g q r.idx ∧ r.phase ≠ 9 ∧ r.faulting = false ∧ tileRefusal s r x r.tiles = none ∧ x.tctrEn = false) ∧
    (∃ (s : State) (g : Nat) (q : Nat) (l : CmdList) (r : Running) (x : NdCmd), s.Settled ∧ queueList (s.grp g) 3 q = some l ∧
      ((s.grp g).que 3 q).started.find? (fun r => r.opcode == 0x22 && r.st == 0) = some r ∧ ndOf (cmdAt l r.idx) = x ∧ r.rowsWritten = true ∧
      r.outstanding = readsOut s g q r.idx ∧ r.phase ≠ 9 ∧ r.faulting = false ∧ tileRefusal s r x r.tiles = none ∧ x.tctrEn = true ∧
      ctrOwner s g x.tctr = some l.part) ∧
    (∃ (s : State) (g : Nat) (q : Nat) (l : CmdList) (r : Running), s.Settled ∧ queueList (s.grp g) 3 q = some l ∧
      ((s.grp g).que 3 q).started.find? (fun r => r.pageReq && r.st == 0 && r.phase != 9) = some r) ∧
    (∃ (s : State) (g : Nat) (q : Nat) (l : CmdList) (r : Running) (code : Nat), s.Settled ∧ queueList (s.grp g) 3 q = some l ∧
      ((s.grp g).que 3 q).started.find? (fun r => r.pageReq && r.st == 0 && r.phase != 9) = some r ∧ 0 < code ∧ code < 15) :=
  ⟨⟨headCtx (0x20 + 2 ^ 114 + 2 ^ 178) 3 0, _, 0, 0, 0x20 + 2 ^ 114 + 2 ^ 178, 0x20, .loadt 0 0, list1 (0x20 + 2 ^ 114 + 2 ^ 178),
      { opcode := 0x20 }, true, (by decide +kernel), (by decide +kernel), (by decide +kernel), rfl, (by decide +kernel)⟩,
   ⟨headCtx (0x20 + 2 ^ 114 + 2 ^ 178) 3 0, _, 0, 0, 0x20 + 2 ^ 114 + 2 ^ 178, 0x20, .loadt 0 0, list1 (0x20 + 2 ^ 114 + 2 ^ 178),
      { opcode := 0x20 }, true, (by decide +kernel), (by decide +kernel), (by decide +kernel), rfl, (by decide +kernel), (by decide +kernel),
      (by decide +kernel), (by decide +kernel), (by decide +kernel), (by decide +kernel)⟩,
   ⟨headCtx (0x22 + 2 ^ 114 + 2 ^ 178) 3 0, _, _, 0, 0, 0x22 + 2 ^ 114 + 2 ^ 178, list1 (0x22 + 2 ^ 114 + 2 ^ 178), { opcode := 0x22 }, true, _,
      (by decide +kernel), (by decide +kernel), rfl, rfl, rfl, (by decide +kernel), (by decide +kernel), (by decide +kernel), (by decide +kernel),
      (by decide +kernel), (by decide +kernel), (by decide +kernel), (by decide +kernel)⟩,
   ⟨headCtx (0x22 + 2 ^ 114 + 2 ^ 178) 3 0, _, _, 0, 0, 0x22 + 2 ^ 114 + 2 ^ 178, list1 (0x22 + 2 ^ 114 + 2 ^ 178), { opcode := 0x22 }, true, _,
      (by decide +kernel), (by decide +kernel), rfl, rfl, rfl, (by decide +kernel), (by decide +kernel), (by decide +kernel), (by decide +kernel),
      (by decide +kernel), (by decide +kernel), (by decide +kernel), (by decide +kernel), (by decide +kernel), (by decide +kernel),
      (by decide +kernel), (by decide +kernel), (by decide +kernel)⟩,
   ⟨{ headOfQueue (0x29 + 2 ^ 114) 3 0 with seqs := { ctxs := [(0, { desc := BitVec.ofNat 512 desc0 })] } }, _, _, 0, 0, 0x29 + 2 ^ 114, 0,
      list1 (0x29 + 2 ^ 114), { opcode := 0x29 }, { desc := BitVec.ofNat 512 desc0 }, (by decide +kernel), (by decide +kernel),
      (by decide +kernel), (by decide +kernel), (by decide +kernel), rfl, rfl⟩,
   ⟨appendS (0x29 + 2 ^ 114 + 2 ^ 178), 0, 0, 0x29 + 2 ^ 114 + 2 ^ 178, list1 (0x29 + 2 ^ 114 + 2 ^ 178),
      { opcode := 0x29, phase := 1, resv := some (0, 1) }, by decide +kernel⟩,
   ⟨appendS (0x29 + 2 ^ 114 + 2 ^ 178), 0, 0, 0x29 + 2 ^ 114 + 2 ^ 178, desc0, 0, list1 (0x29 + 2 ^ 114 + 2 ^ 178),
      { opcode := 0x29, phase := 1, resv := some (0, 1) }, { desc := BitVec.ofNat 512 desc0 }, by decide +kernel⟩,
   ⟨started 0x22 3 0 { opcode := 0x22, rowsWritten := true }, 0, 0, list1 0x22, { opcode := 0x22, rowsWritten := true }, _, (by decide +kernel),
      (by decide +kernel), (by decide +kernel), rfl, (by decide +kernel), (by decide +kernel), (by decide +kernel), (by decide +kernel),
      (by decide +kernel), (by decide +kernel)⟩,
   ⟨started (0x22 + 2 ^ 495) 3 0 { opcode := 0x22, rowsWritten := true }, 0, 0, list1 (0x22 + 2 ^ 495), { opcode := 0x22, rowsWritten := true }, _,
      (by decide +kernel), (by decide +kernel), (by decide +kernel), rfl, (by decide +kernel), (by decide +kernel), (by decide +kernel),
      (by decide +kernel), (by decide +kernel), (by decide +kernel), (by decide +kernel)⟩,
   ⟨started 0x22 3 0 { opcode := 0x22, pageReq := true }, 0, 0, list1 0x22, { opcode := 0x22, pageReq := true }, by decide +kernel⟩,
   ⟨started 0x22 3 0 { opcode := 0x22, pageReq := true }, 0, 0, list1 0x22, { opcode := 0x22, pageReq := true }, 1, by decide +kernel⟩⟩

theorem witness_CollectiveCommandsOfAListJoinStartAndWait :
    (∃ (s : State) (w : State) (g : Nat) (q : Nat) (c : Nat) (slot : Nat) (m : Nat) (l : CmdList) (r : Running) (new : Bool) (n : CollNode),
      s.Goes g 0 q 0x30 l r new ∧ cmdAt l r.idx = c ∧ r.phase ≤ 1 ∧ slotTaken s g l c = false ∧ nodeOf s (bits c 224 16) = some (slot, n) ∧
      memberOf s n g = some m ∧ n.part = l.part ∧ joinOk s n (joinOp s g c) m (bits c 64 56) (bits c 128 56) (joinFrame c) = true ∧
      w = s.going g 0 q r new ∧
      w.Fetched g 0 l.part r (if (joinOp s g c).srcBytes m = 0 then [] else [(bits c 64 56, (joinOp s g c).srcBytes m, false)])) ∧
    (∃ (s : State) (w : State) (g : Nat) (q : Nat) (c : Nat) (slot : Nat) (m : Nat) (l : CmdList) (r : Running) (new : Bool) (n : CollNode),
      s.Goes g 0 q 0x30 l r new ∧ cmdAt l r.idx = c ∧ r.phase ≤ 1 ∧ slotTaken s g l c = false ∧ nodeOf s (bits c 224 16) = some (slot, n) ∧
      memberOf s n g = some m ∧ n.part = l.part ∧ joinOk s n (joinOp s g c) m (bits c 64 56) (bits c 128 56) (joinFrame c) = true ∧
      w = s.going g 0 q r new ∧
      w.Fetched g 0 l.part r (if (joinOp s g c).srcBytes m = 0 then [] else [(bits c 64 56, (joinOp s g c).srcBytes m, false)]) ∧
      w.readable l.part (if (joinOp s g c).srcBytes m = 0 then [] else [(bits c 64 56, (joinOp s g c).srcBytes m, false)]) = true ∧
      (∀ f, joinFrame c = some f → f ≤ s.time.lfc)) ∧
    (∃ (s : State) (g : Nat) (q : Nat) (l : CmdList) (r : Running), s.Goes g 0 q 0x30 l r true ∧ slotTaken s g l (cmdAt l r.idx) = true) ∧
    (∃ (s : State) (g : Nat) (q : Nat) (k : Nat) (f : Nat) (r : Running) (j : Join), s.Settled ∧
      (((s.grp g).que 0 q).started.find? (fun r => r.opcode == 0x30 && r.st == 0 && r.phase != 9) = some r) ∧
      ((s.grp g).joins.find? (fun j => j.2.cmd == r.idx && j.2.queue == q && j.2.list == ((s.grp g).que 0 q).list && j.2.scheduled.isSome) = some (k, j)) ∧
      j.scheduled = some f ∧ f ≤ s.time.lfc) ∧
    (∃ (s : State) (g : Nat) (q : Nat) (i : Nat) (l : CmdList), s.Works g 0 q 0x31 l i) ∧
    (∃ (s : State) (g : Nat) (q : Nat) (i : Nat) (l : CmdList) (k : Nat) (j : Join), s.Works g 0 q 0x31 l i ∧
      (s.grp g).joins.find? (fun y => y.2.list == l.id && y.2.slot == bits (cmdAt l i) 64 5 && joinFinished y.2) = some (k, j)) :=
  ⟨⟨{ headOfQueue (0x30 + 5 * 2 ^ 224 + 6 * 2 ^ 240 + 2 ^ 244 + 2 ^ 248) 0 0 with coll := (withNode node0).coll }, _, 0, 0,
      0x30 + 5 * 2 ^ 224 + 6 * 2 ^ 240 + 2 ^ 244 + 2 ^ 248, 0, 0, list1 (0x30 + 5 * 2 ^ 224 + 6 * 2 ^ 240 + 2 ^ 244 + 2 ^ 248),
      { opcode := 0x30 }, true, node0, (by decide +kernel), (by decide +kernel), (by decide +kernel), (by decide +kernel), (by decide +kernel),
      (by decide +kernel), (by decide +kernel), (by decide +kernel), rfl, (by decide +kernel)⟩,
   ⟨{ headOfQueue (0x30 + 5 * 2 ^ 224 + 6 * 2 ^ 240 + 2 ^ 244 + 2 ^ 248) 0 0 with coll := (withNode node0).coll }, _, 0, 0,
      0x30 + 5 * 2 ^ 224 + 6 * 2 ^ 240 + 2 ^ 244 + 2 ^ 248, 0, 0, list1 (0x30 + 5 * 2 ^ 224 + 6 * 2 ^ 240 + 2 ^ 244 + 2 ^ 248),
      { opcode := 0x30 }, true, node0, (by decide +kernel), (by decide +kernel), (by decide +kernel), (by decide +kernel), (by decide +kernel),
      (by decide +kernel), (by decide +kernel), (by decide +kernel), rfl, (by decide +kernel), (by decide +kernel),
      (fun f h => by have e : joinFrame (0x30 + 5 * 2 ^ 224 + 6 * 2 ^ 240 + 2 ^ 244 + 2 ^ 248) = none := (by decide +kernel); rw [e] at h; cases h)⟩,
   ⟨withJoin (headOfQueue (0x30 + 5 * 2 ^ 224 + 6 * 2 ^ 240 + 2 ^ 244 + 2 ^ 248) 0 0) {list := 1}, 0, 0,
      list1 (0x30 + 5 * 2 ^ 224 + 6 * 2 ^ 240 + 2 ^ 244 + 2 ^ 248), { opcode := 0x30 }, by decide +kernel⟩,
   ⟨{ upm with groups := [(0, { lists := [list1 0x30], queues := [(0, { list := 1, started := [{ opcode := 0x30 }] })], joins := [(0, { list := 1, scheduled := some 0 })] })] },
      0, 0, 0, 0, { opcode := 0x30 }, { list := 1, scheduled := some 0 }, by decide⟩,
   ⟨headOfQueue 0x31 0 0, 0, 0, 0, list1 0x31, by decide +kernel⟩,
   ⟨withJoin (headOfQueue 0x31 0 0) {list := 1, abortReason := 2}, 0, 0, 0, list1 0x31, 0, {list := 1, abortReason := 2}, by decide +kernel⟩⟩

theorem witness_RequestsReachTheMailboxAndAreServedInOrder :
    (∃ (s : State) (k : Nat), s.Settled ∧ hostUp s = true ∧ k ≤ 15 ∧ (AMap.get ({} : Slot) s.mbx.hostSlots k).st ≠ 1 ∧
      (AMap.get ({} : Slot) s.mbx.hostSlots k).st ≠ 2 ∧ s.flt.phase ≠ 7) ∧
    (∃ (s : State) (k : Nat), s.Settled ∧ hostUp s = true ∧ k ≤ 15 ∧
      ((AMap.get ({} : Slot) s.mbx.hostSlots k).st = 1 ∨ (AMap.get ({} : Slot) s.mbx.hostSlots k).st = 2)) ∧
    (∃ (s : State) (c : Nat) (k : Nat) (r : Nat) (b : Bytes), s.Settled ∧ 2 ≤ s.flt.phase ∧ AMap.has s.mgmt.conns c = true ∧ k ≤ 15 ∧
      b.length = 4096 ∧ (AMap.get ({} : Slot) s.mbx.mgmtSlots k).st ≠ 1 ∧ (AMap.get ({} : Slot) s.mbx.mgmtSlots k).st ≠ 2) ∧
    (∃ (s : State) (c : Nat) (kind : Nat) (k : Nat) (r : Nat) (b : Bytes), s.Settled ∧ 2 ≤ s.flt.phase ∧ AMap.has s.mgmt.conns c = true ∧ k ≤ 15 ∧
      (kind = 0 ∨ 5 < kind)) ∧
    (∃ (s : State) (c : Nat), s.Settled ∧ AMap.has s.mgmt.conns c = true) ∧
    (∃ (s : State) (chain : Bytes), s.Settled ∧ 2 ≤ s.flt.phase ∧ (s.mgmt.anchors = [] ∨ s.mgmt.anchors.any (Config.chainsTo chain) = true) ∧
      s.mgmt.conns.length < 4) ∧
    (∃ (s : State) (chain : Bytes), s.Settled) ∧
    (∃ (s : State) (s1 : State) (a : Arrival) (l : List Arrival) (r : Request) (c : Cmd) (v : List Val), s.Settled ∧ s.mbx.cur = none ∧
      2 ≤ s.flt.phase ∧ s.flt.phase ≠ 7 ∧ s.mgmt.halted = false ∧ s.mbx.arrivals = a :: l ∧ a.master = .mgmt ∧
      requestOf s .mgmt a.gen (slotOf s a).frame = r ∧ r.answer = .inr (c, v) ∧ r.enc = false ∧ r.tagFailed = false ∧
      s1 = s.modMbx (fun m => { m with arrivals := l, cur := some { master := .mgmt, slot := a.slot, tag := r.tag, enc := false, gen := a.gen }, mgmtSlots := AMap.set m.mgmtSlots a.slot { slotOf s a with st := 2 } }) ∧
      mustWait (c.run s1 .mgmt v) s r.code = false) ∧
    (∃ (s : State) (a : Arrival) (l : List Arrival) (r : Request), s.Settled ∧ s.mbx.cur = none ∧ 2 ≤ s.flt.phase ∧ s.flt.phase ≠ 7 ∧
      s.mgmt.halted = false ∧ s.host.wedged = false ∧ s.mbx.arrivals = a :: l ∧ a.master = .host ∧
      requestOf s .host a.gen (slotOf s a).frame = r ∧ r.answer = .inl REFUSED ∧ r.enc = false ∧ r.tagFailed = false) ∧
    (∃ (s : State) (i : Nat) (w : HwWait), s.Settled ∧ s.mbx.hwWait[i]? = some w ∧ w.ref = none ∧ w.resp.status = OK ∧
      [0x0504, 0x0605, 0x0304, 0x0703, 0x0704].contains w.resp.code = false) :=
  ⟨⟨up, 0, by decide⟩,
   ⟨{ up with mbx := { up.mbx with hostSlots := [(0, { st := 1 })] } }, 0, by decide⟩,
   ⟨{ up with mgmt := { up.mgmt with conns := [(0, {})] } }, 0, 0, 0, List.replicate 4096 0, (by decide), (by decide), (by decide), (by decide),
      List.length_replicate, (by decide), (by decide)⟩,
   ⟨{ up with mgmt := { up.mgmt with conns := [(0, {})] } }, 0, 0, 0, 0, [], by decide⟩,
   ⟨{ up with mgmt := { up.mgmt with conns := [(0, {})] } }, 0, by decide⟩,
   ⟨up, [], (by decide), (by decide), Or.inl rfl, (by decide)⟩,
   ⟨State.reset, [], by decide⟩,
   ⟨waitingRequest (0x0100 + 2 ^ 48), _, { master := .mgmt }, [], _, identifyCmd, [], by decide, rfl, by decide, by decide, rfl, rfl, rfl, rfl, rfl,
      rfl, rfl, rfl, by decide +kernel⟩,
   ⟨{ up with mbx := { up.mbx with arrivals := [{}], hostSlots := [(0, { st := 1 })] } }, {}, [], _, by decide, rfl, by decide, by decide, rfl, rfl,
      rfl, rfl, rfl, rfl, rfl, rfl⟩,
   ⟨{ up with mbx := { up.mbx with hwWait := [{}] } }, 0, {}, by decide⟩⟩

theorem witness_AttestationAnswersAndEndsSessions :
    (∃ (s : State) (t : Nat), s.Settled ∧ spdmUp s t = true) ∧
    (∃ (s : State) (t : Nat), s.Settled ∧ spdmUp s t = true ∧ (s.mgmt.sessions.countP (fun e => sessionSide e.2 == sessionSide t) < 4)) ∧
    (∃ (s : State) (t : Nat) (n : Nat), s.Settled ∧ spdmUp s t = true ∧ hasSession s t n = true) ∧
    (∃ (s : State) (t : Nat) (i : Nat) (b : Bytes), s.Settled ∧ spdmUp s t = true ∧ 1 ≤ i ∧ i ≤ 13) ∧
    (∃ (s : State) (t : Nat) (b : Bytes), s.Settled ∧ spdmUp s t = true ∧ b.length = 32) ∧
    (∃ (s : State) (n : Nat), s.Settled ∧ s.mgmt.sessions.any (·.1 == n) = true) :=
  ⟨⟨up, spdmHost, by decide⟩,
   ⟨up, spdmHost, by decide⟩,
   ⟨{ up with mgmt := { up.mgmt with sessions := [(1, spdmHost)] } }, spdmHost, 1, by decide⟩,
   ⟨up, spdmHost, 1, [], by decide⟩,
   ⟨up, spdmHost, List.replicate 32 0, by decide⟩,
   ⟨{ up with mgmt := { up.mgmt with sessions := [(1, spdmHost)] } }, 1, by decide⟩⟩

theorem witness_TheConsoleActsAtItsLevel :
    (∃ (s : State), s.Settled ∧ oagalUp s = true) ∧
    (∃ (s : State), s.Settled ∧ s.mgmt.nonce ≠ none ∧ s.mgmt.nonceAt + secFrames 600 ≤ s.time.lfc) ∧
    (∃ (s : State) (b : Bytes), s.Settled ∧ oagalUp s = true ∧ s.flt.phase ≠ 8) ∧
    (∃ (s : State), s.Settled ∧ s.mgmt.oagalLevel ≠ 0 ∧ s.mgmt.oagalUntil ≤ s.time.lfc) ∧
    (∃ (s : State), s.Settled ∧ oagalUp s = true ∧ s.flt.phase ≠ 8) ∧
    (∃ (s : State) (a : Nat), s.Settled ∧ oagalUp s = true ∧ s.flt.phase ≠ 8 ∧ 1 ≤ s.mgmt.oagalLevel ∧ a % 8 = 0 ∧ a < 0x200000) ∧
    (∃ (s : State), s.Settled ∧ oagalUp s = true ∧ s.flt.phase ≠ 8 ∧ 1 ≤ s.mgmt.oagalLevel) ∧
    (∃ (s : State) (f : Bytes) (r : Request), s.Settled ∧ oagalUp s = true ∧ s.flt.phase ≠ 8 ∧ 1 ≤ s.mgmt.oagalLevel ∧ f.length = 4096 ∧
      s.mbx.cur = none ∧ s.mgmt.halted = false ∧ requestOf s .mgmt 0 f = r ∧ r.answer = .inl REFUSED ∧ r.code ≠ 0) ∧
    (∃ (s : State) (f : Bytes) (r : Request) (c : Cmd) (v : List Val), s.Settled ∧ oagalUp s = true ∧ s.flt.phase ≠ 8 ∧ 2 ≤ s.mgmt.oagalLevel ∧
      f.length = 4096 ∧ s.mbx.cur = none ∧ s.mgmt.halted = false ∧ requestOf s .mgmt 0 f = r ∧ r.answer = .inr (c, v) ∧ r.keys = []) ∧
    (∃ (s : State) (a : Nat) (v : BitVec 64), s.Settled ∧ oagalUp s = true ∧ s.flt.phase ≠ 8 ∧ 2 ≤ s.mgmt.oagalLevel ∧ a % 8 = 0 ∧ a < 0x200000 ∧
      (readBar0 s a 8).isSome = true) ∧
    (∃ (s : State) (a : _) (v : BitVec 64), s.Settled ∧ oagalUp s = true ∧ s.flt.phase ≠ 8 ∧ 2 ≤ s.mgmt.oagalLevel ∧ a % 8 = 0 ∧ 0x200000 ≤ a ∧
      s.base ≤ a ∧ isCtlOff (a - s.base) = true) ∧
    (∃ (s : State) (sg : Bool) (b : Bytes), s.Settled ∧ oagalUp s = true ∧ s.flt.phase ≠ 8 ∧ 2 ≤ s.mgmt.oagalLevel) ∧
    (∃ (s : State) (cls : Nat) (inst : Nat) (cause : Nat) (n : Nat), s.Settled ∧ oagalUp s = true ∧ s.flt.phase ≠ 8 ∧ 2 ≤ s.mgmt.oagalLevel ∧
      sourceOk' cls inst = true ∧ 1 ≤ cause ∧ cause ≤ causeCount cls ∧ 1 ≤ n ∧ n ≤ 255) ∧
    (∃ (s : State), s.Settled ∧ oagalUp s = true ∧ s.flt.phase ≠ 8 ∧ 3 ≤ s.mgmt.oagalLevel) ∧
    (∃ (s : State), s.Settled ∧ oagalUp s = true ∧ s.flt.phase ≠ 8 ∧ 3 ≤ s.mgmt.oagalLevel ∧ s.mgmt.halted = true) ∧
    (∃ (s : State) (b : Bytes), s.Settled ∧ s.flt.phase = 8 ∧ b.length ≤ 48 * 2 ^ 20 ∧ s.mgmt.update.writing = none) ∧
    (∃ (s : State) (a : Nat), s.Settled ∧ s.mgmt.oagalLevel = 0) ∧
    (∃ (s : State) (a : Nat) (v : Nat), s.Settled ∧ s.mgmt.oagalLevel = 0) ∧
    (∃ (s : State) (f : Bytes), s.Settled ∧ s.mgmt.oagalLevel = 0) ∧
    (∃ (s : State) (g : Bool) (b : Bytes), s.Settled ∧ s.mgmt.oagalLevel = 0) ∧
    (∃ (s : State) (a : Nat) (b : Nat) (c : Nat) (d : Nat), s.Settled ∧ s.mgmt.oagalLevel = 0) ∧
    (∃ (s : State), s.Settled ∧ s.mgmt.oagalLevel = 0) :=
  ⟨⟨up, by decide⟩,
   ⟨{ up with mgmt := { up.mgmt with nonce := some 0 }, time := { up.time with lfc := 10000000 } }, by decide⟩,
   ⟨up, [], by decide⟩,
   ⟨og 1, by decide⟩,
   ⟨up, by decide⟩,
   ⟨og 1, 0, by decide⟩,
   ⟨og 1, by decide⟩,
   ⟨og 1, leBytes 64 0x0100 ++ List.replicate 4032 0, _, by decide, by decide, by decide, by decide, length_of_frame _, rfl, rfl, rfl, rfl,
     by decide +kernel⟩,
   ⟨og 2, leBytes 64 (0x0100 + 2 ^ 48) ++ List.replicate 4032 0, _, identifyCmd, [], by decide, by decide, by decide, by decide, length_of_frame _,
     rfl, rfl, rfl, rfl, rfl⟩,
   ⟨og 2, 0, 0, by decide⟩,
   ⟨og 2, 2 ^ 50 + 0x020040000000, 0, by decide⟩,
   ⟨og 2, true, [], by decide⟩,
   ⟨og 2, 6, 0, 1, 1, by decide⟩,
   ⟨og 3, by decide⟩,
   ⟨{ og 3 with mgmt := { (og 3).mgmt with halted := true } }, by decide⟩,
   ⟨{ up with flt := { up.flt with phase := 8 } }, [], by decide⟩,
   ⟨up, 0, by decide⟩,
   ⟨up, 0, 0, by decide⟩,
   ⟨up, [], by decide⟩,
   ⟨up, true, [], by decide⟩,
   ⟨up, 0, 0, 0, 0, by decide⟩,
   ⟨up, by decide⟩⟩

theorem witness_Bar2ReadsAndWritesThePoolForItsPartition :
    (∃ (s : State) (t : State) (o : Nat) (n : Nat) (node : Nat) (off : Nat), s.Settled ∧ hostUp s = true ∧ bar2Shape o n = true ∧
      s.power.standby = false ∧ bar2Served s = true ∧ accCheck s s.self (bar2Off s o) n s.host.mapPart false = some OK ∧
      placeOf s (s.base + bar2Off s o) = .here node off ∧ t = countRange s 32 (s.base + bar2Off s o) n) ∧
    (∃ (s : State) (o : Nat) (n : Nat), s.Settled ∧ hostUp s = true ∧ bar2Shape o n = true ∧ s.power.standby = false ∧ bar2Served s = true ∧
      accCheck s s.self (bar2Off s o) n s.host.mapPart false = none) ∧
    (∃ (s : State) (o : Nat) (n : Nat), s.Settled ∧ hostUp s = true ∧ bar2Shape o n = true ∧ s.power.standby = false ∧ bar2Served s = true ∧
      accCheck s s.self (bar2Off s o) n s.host.mapPart false = some DENIED) ∧
    (∃ (s : State) (o : Nat) (n : Nat), s.Settled ∧ hostUp s = true ∧ bar2Shape o n = true ∧ s.power.standby = false ∧ bar2Served s = false) ∧
    (∃ (s : State) (o : Nat) (d : Bytes), s.Settled ∧ hostUp s = true ∧ bar2Shape o d.length = true ∧ s.power.standby = false ∧ bar2Served s = true ∧
      accCheck s s.self (bar2Off s o) d.length s.host.mapPart true = some OK) ∧
    (∃ (s : State) (o : Nat) (d : Bytes), s.Settled ∧ hostUp s = true ∧ bar2Shape o d.length = true ∧ s.power.standby = false ∧ bar2Served s = false) :=
  ⟨⟨{ upm with host := { upm.host with mapEn := true, mapPart := 1, hostParts := 2 } }, _, 0, 8, 8, 0, (by decide +kernel), (by decide +kernel),
      (by decide +kernel), (by decide +kernel), (by decide +kernel), (by decide +kernel), (by decide +kernel), rfl⟩,
   ⟨{ up with host := { up.host with mapEn := true, mapPart := 1, hostParts := 2 }, flt := { up.flt with directoryRebuild := [0] } }, 0, 8,
      by decide +kernel⟩,
   ⟨{ up with host := { up.host with mapEn := true, mapPart := 1 } }, 0, 8, by decide⟩,
   ⟨up, 0, 8, by decide⟩,
   ⟨{ upm with host := { upm.host with mapEn := true, mapPart := 1 } }, 0, [1], by decide⟩,
   ⟨up, 0, [1], by decide⟩⟩

theorem witness_TheFunctionTakesWritesConfigurationAndItsLink :
    (∃ (s : State) (v : Nat), s.Settled ∧ hostUp s = true ∧ v < 2 ^ 18) ∧
    (∃ (s : State) (v : Nat), s.Settled ∧ hostUp s = true ∧ v < 2 ^ 12) ∧
    (∃ (s : State) (v : Nat), s.Settled ∧ hostUp s = true ∧ v < 0xE) ∧
    (∃ (s : State) (k : Nat) (o : Nat) (n : Nat) (v : Nat), s.Settled ∧ hostUp s = true ∧ s.flt.phase ≠ 7 ∧ k < 16 ∧ o < 4096 ∧
      (n = 4 ∨ n = 8 ∨ n = 16 ∨ n = 32 ∨ n = 64) ∧ o % n = 0 ∧ (AMap.get ({} : Slot) s.mbx.hostSlots k).st ≠ 1 ∧
      (AMap.get ({} : Slot) s.mbx.hostSlots k).st ≠ 2 ∧ v < 2 ^ (8 * n)) ∧
    (∃ (s : State) (p : Nat), s.Settled ∧ p < 128) ∧
    (∃ (s : State) (n : Nat), s.Settled ∧ hostUp s = true ∧ n < 32) ∧
    (∃ (s : State) (v : Nat), s.Settled ∧ hostUp s = true ∧ v < 2048 ∧ (AMap.get ({} : Msix) s.host.msix v).pendingBit = true ∧
      s.host.functionMask = false) ∧
    (∃ (s : State) (op : ConfigOp), s.Settled ∧ s.host.wedged = false ∧ s.flt.phase < 2) ∧
    (∃ (s : State) (on : Bool), s.Settled ∧ s.host.wedged = false ∧ 2 ≤ s.flt.phase) ∧
    (∃ (s : State) (flit : Bool) (speed : Nat) (width : Nat), s.Settled) ∧
    (∃ (s : State) (flit : Bool) (speed : Nat) (width : Nat), s.Settled ∧ 1 ≤ speed ∧ speed ≤ 7 ∧ (width = 1 ∨ width = 2 ∨ width = 4 ∨ width = 8) ∧
      (flit = false → speed ≤ 5)) ∧
    (∃ (s : State), s.Settled ∧ s.host.wedged = false) ∧
    (∃ (s : State), s.Settled ∧ s.host.wedged = false ∧ 2 ≤ s.flt.phase) :=
  ⟨⟨up, 0, by decide⟩,
   ⟨up, 0, by decide⟩,
   ⟨up, 0, by decide⟩,
   ⟨up, 0, 0, 4, 0, by decide⟩,
   ⟨up, 0, by decide⟩,
   ⟨up, 0, by decide⟩,
   ⟨{ up with host := { up.host with msix := [(0, { pendingBit := true })] } }, 0, by decide⟩,
   ⟨State.reset, .read, by decide⟩,
   ⟨up, true, by decide⟩,
   ⟨up, true, 0, 0, by decide⟩,
   ⟨up, true, 1, 1, by decide⟩,
   ⟨up, by decide⟩,
   ⟨up, by decide⟩⟩

theorem witness_SharedQueuesPopArmAndReset :
    (∃ (s : State) (q : Nat) (e : Nat) (es : List Nat), s.Settled ∧ hostUp s = true ∧ q < 512 ∧ (s.squeue q).stuck = false ∧
      (s.squeue q).entries = e :: es) ∧
    (∃ (s : State) (q : Nat), s.Settled ∧ hostUp s = true ∧ q < 512 ∧ (s.squeue q).entries = []) ∧
    (∃ (s : State) (q : Nat), s.Settled ∧ hostUp s = true ∧ q < 512) ∧
    (∃ (s : State) (q : Nat) (v : BitVec 64), s.Settled ∧ hostUp s = true ∧ q < 512 ∧ bits v.toNat 57 7 = 0 ∧ bits v.toNat 1 2 ≠ 3 ∧
      bits v.toNat 31 16 ≠ 0 ∧ (bitAt v.toNat 30 = false ∨ (s.qcfg q).irqEn = true)) ∧
    (∃ (s : State) (q : Nat), s.Settled ∧ hostUp s = true ∧ q < 512 ∧ (s.qcfg q).irqEn = true ∧ irqDue (s.qcfg q) (s.squeue q) = true ∧
      (AMap.get ({} : Msix) s.host.msix (s.qcfg q).vec).masked = false ∧ s.host.functionMask = false) ∧
    (∃ (s : State) (q : Nat), s.Settled ∧ hostUp s = true ∧ q < 512 ∧ irqDue (s.qcfg q) (s.squeue q) = false) ∧
    (∃ (s : State) (q : Nat) (u : Bool) (o : Bool) (b : Bool), s.Settled ∧ hostUp s = true ∧ q < 512) ∧
    (∃ (s : State) (q : Nat), s.Settled ∧ s.host.wedged = false ∧ (s.squeue q).waiting = true ∧ (s.qcfg q).irqEn = false) :=
  ⟨⟨{ up with host := { up.host with queues := [(0, { entries := [5] })] } }, 0, 5, [], by decide⟩,
   ⟨up, 0, by decide⟩,
   ⟨up, 0, by decide⟩,
   ⟨up, 0, 0x80000000, by decide⟩,
   ⟨{ up with host := { up.host with queues := [(0, { entries := [5] })], qcfg := [(0, { en := true, irqEn := true })], msix := [(0, { masked := false })] } },
     0, by decide⟩,
   ⟨up, 0, by decide⟩,
   ⟨up, 0, true, true, true, by decide⟩,
   ⟨{ up with host := { up.host with queues := [(0, { waiting := true })] } }, 0, by decide⟩⟩

theorem witness_TranslationsArriveAreInvalidatedAndBringTheirData :
    (∃ (s : State) (i : Nat) (base : Nat) (size : Nat) (ta : Nat) (r : Bool) (w : Bool) (a : HostAcc), s.Settled ∧ s.xlat.accs[i]? = some a ∧
      s.host.wedged = false ∧ a.st = 0 ∧ a.stale = false ∧ ((if a.write then w else r) = true) ∧ xlatCovers a base size = true) ∧
    (∃ (s : State) (i : Nat) (base : Nat) (size : Nat) (ta : Nat) (a : HostAcc), s.Settled ∧ s.xlat.accs[i]? = some a ∧ s.host.wedged = false ∧
      a.st = 0 ∧ a.stale = false) ∧
    (∃ (s : State) (i : Nat) (base : Nat) (size : Nat) (a : HostAcc) (r : _) (w : _), s.Settled ∧ s.xlat.accs[i]? = some a ∧ s.host.wedged = false ∧
      a.st = 0 ∧ a.stale = false ∧ (r || w) = true ∧ (if a.write then w else r) = false ∧ xlatCovers a base size = true) ∧
    (∃ (s : State) (i : Nat) (base : Nat) (size : Nat) (ta : Nat) (r : Bool) (w : Bool) (a : HostAcc), s.Settled ∧ s.xlat.accs[i]? = some a ∧
      s.host.wedged = false ∧ a.st = 0 ∧ a.stale = true) ∧
    (∃ (s : State) (tag : Nat) (p : Nat) (base : Nat) (size : Nat), s.Settled ∧ s.host.wedged = false ∧ s.xlat.invals.length < 32 ∧
      (s.xlat.invals.any (fun v => v.tag == tag) = false)) ∧
    (∃ (s : State) (tag : Nat) (v : Inval), s.Settled ∧ s.host.wedged = false ∧ ((s.xlat.invals.find? fun v => v.tag == tag) = some v) ∧
      invQuiet s (invPasid v.pasid) v.base v.size = true) ∧
    (∃ (s : State) (i : Nat) (d : Bytes) (a : HostAcc), s.Settled ∧ s.xlat.accs[i]? = some a ∧ s.host.wedged = false ∧ accGoes s.xlat.accs a = true ∧
      a.write = false ∧ d.length = a.len ∧ ((a.stale = false ∨ ndOwner s a.owner = false))) ∧
    (∃ (s : State) (i : Nat) (d : Bytes) (a : HostAcc), s.Settled ∧ s.xlat.accs[i]? = some a ∧ s.host.wedged = false ∧ accGoes s.xlat.accs a = true ∧
      a.write = false ∧ d.length = a.len ∧ a.stale = true ∧ ndOwner s a.owner = true) ∧
    (∃ (s : State) (i : Nat) (a : HostAcc), s.Settled ∧ s.xlat.accs[i]? = some a ∧ s.host.wedged = false ∧ accGoes s.xlat.accs a = true ∧
      a.write = false) :=
  ⟨⟨{ up with xlat := { up.xlat with accs := [{ len := 8 }] } }, 0, 0, 4096, 0, true, true, { len := 8 }, by decide⟩,
   ⟨{ up with xlat := { up.xlat with accs := [{ len := 8 }] } }, 0, 0, 4096, 0, { len := 8 }, by decide⟩,
   ⟨{ up with xlat := { up.xlat with accs := [{ len := 8 }] } }, 0, 0, 4096, { len := 8 }, false, true, by decide +kernel⟩,
   ⟨{ up with xlat := { up.xlat with accs := [{ len := 8, stale := true }] } }, 0, 0, 4096, 0, true, true, { len := 8, stale := true }, by decide⟩,
   ⟨up, 0, 0, 0, 4096, by decide⟩,
   ⟨{ up with xlat := { up.xlat with invals := [{}] } }, 0, {}, by decide⟩,
   ⟨{ up with xlat := { up.xlat with accs := [{ len := 1, st := 1 }] } }, 0, [1], { len := 1, st := 1 }, by decide +kernel⟩,
   ⟨staleNd, 0, [1], { len := 1, st := 1, stale := true, owner := .cmd 0 3 0 0 }, by decide +kernel⟩,
   ⟨{ up with xlat := { up.xlat with accs := [{ len := 1, st := 1 }] } }, 0, { len := 1, st := 1 }, by decide +kernel⟩⟩

theorem witness_SluiceTakesItsRingAndCompletesDescriptors :
    (∃ (s : State) (v : BitVec 64), s.Settled ∧ hostUp s = true ∧ v.toNat < 2 ^ s.host.sluice.sizeLog2) ∧
    (∃ (s : State) (v : BitVec 64), s.Settled ∧ hostUp s = true ∧ s.host.sluice.head = s.host.sluice.tail ∧ 6 ≤ bits v.toNat 0 4 ∧
      bits v.toNat 0 4 ≤ 12 ∧ bits v.toNat 4 8 = 0) ∧
    (∃ (s : State) (w : BitVec 512) (l : List (Bytes × Nat)), s.Settled ∧ s.host.wedged = false ∧ s.host.sluice.st = 2 ∧
      s.host.sluice.head ≠ s.host.sluice.tail ∧ s.host.sluice.flight = none ∧ s.host.sluice.outstanding = 0) ∧
    (∃ (s : State) (w : BitVec 512) (l : List (Bytes × Nat)), s.Settled ∧ s.host.wedged = false ∧ s.host.sluice.st = 1 ∧
      s.host.sluice.head ≠ s.host.sluice.tail ∧ s.host.sluice.flight = none ∧ s.host.sluice.outstanding = 0 ∧
      sluiceOk s (sluiceDesc w.toNat) = false) ∧
    (∃ (s : State) (w : BitVec 512) (l : List (Bytes × Nat)) (d : SluiceDesc), s.Settled ∧ s.host.wedged = false ∧ s.host.sluice.st = 1 ∧
      s.host.sluice.head ≠ s.host.sluice.tail ∧ s.host.sluice.flight = none ∧ s.host.sluice.outstanding = 0 ∧ sluiceDesc w.toNat = d ∧
      sluiceOk s d = true ∧ sluiceHeld s d = false ∧ sluiceAway s d = [] ∧ d.dir = true ∧ s.host.sluice.failed = false) ∧
    (∃ (s : State) (u : State) (w : BitVec 512) (l : List (Bytes × Nat)) (d : SluiceDesc), s.Settled ∧ s.host.wedged = false ∧ s.host.sluice.st = 1 ∧
      s.host.sluice.head ≠ s.host.sluice.tail ∧ s.host.sluice.flight = none ∧ s.host.sluice.outstanding = 0 ∧ sluiceDesc w.toNat = d ∧
      sluiceOk s d = true ∧ sluiceHeld s d = false ∧ d.dir = false ∧ l.length = (sluiceSegs d.len).length ∧
      (∀ y ∈ (sluiceSegs d.len).zip l, y.2.1.length = y.1.2.2) ∧
      (u = modSluice s (fun x => { x with lastH2d := some (d.ctr + (sluiceSegs d.len).length - 1) }))) :=
  ⟨⟨up, 0, by decide⟩,
   ⟨up, 6, by decide⟩,
   ⟨{ up with host := { up.host with sluice := { st := 2, tail := 1 } } }, 0, [], by decide⟩,
   ⟨{ up with host := { up.host with sluice := { st := 1, tail := 1 } } }, 2, [], by decide +kernel⟩,
   ⟨{ up with host := { up.host with sluice := { st := 1, tail := 1 } } }, BitVec.ofNat 512 (1 + 2 ^ 178 + 2 ^ 320), [],
      sluiceDesc (1 + 2 ^ 178 + 2 ^ 320), by decide⟩,
   ⟨{ up with host := { up.host with sluice := { st := 1, tail := 1 } } },
      modSluice { up with host := { up.host with sluice := { st := 1, tail := 1 } } } (fun x => { x with lastH2d := some 0 }),
      BitVec.ofNat 512 (2 ^ 178 + 2 ^ 320), [([1], 0)], sluiceDesc (2 ^ 178 + 2 ^ 320), by decide⟩⟩

theorem witness_PacketsAreAdmittedCheckedOrRefused :
    (∃ (s : State) (p : Packet), s.Arriving p ∧ p.opcode = opRD ∧ malformed p = false ∧ (p.inPort < 128 → epOf s p.inPort = none) ∧
      forHere s p = false) ∧
    (∃ (s : State) (p : Packet), s.Arriving p ∧ p.opcode = opRD ∧ malformed p = false ∧ (p.inPort < 128 → epOf s p.inPort = none) ∧
      forHere s p = true ∧ s.Ahead p) ∧
    (∃ (s : State) (p : Packet), s.Arriving p ∧ p.opcode = opRD ∧ malformed p = false ∧ (p.inPort < 128 → epOf s p.inPort = none) ∧
      forHere s p = true ∧ ¬ s.Ahead p) ∧
    (∃ (s : State) (p : Packet), s.Arriving p ∧ p.opcode = opWRP ∧ malformed p = true ∧ fromEp s p = true) ∧
    (∃ (s : State) (p : Packet), s.Arriving p ∧ p.opcode = opWR ∧ malformed p = true ∧ fromEp s p = false) ∧
    (∃ (s : State) (p : Packet) (ep : Nat), s.Arriving p ∧ p.opcode = opRD ∧ malformed p = false ∧ p.inPort < 128 ∧ epOf s p.inPort = some ep ∧
      p.vc = 1 ∧ p.fwd = false ∧ p.term = false ∧ AMap.find s.xlat.binds (ep % 16 * 64 + p.part) = none) ∧
    (∃ (s : State) (p : Packet) (ep : Nat) (c : Nat), s.Arriving p ∧ p.opcode = opWRP ∧ malformed p = false ∧ p.inPort < 128 ∧
      epOf s p.inPort = some ep ∧ p.vc = 1 ∧ p.fwd = false ∧ p.term = false ∧ AMap.find s.xlat.binds (ep % 16 * 64 + p.part) = some c ∧
      isHostOff (addrOff p.addr) = false ∧ reach s c p.addr (max 1 p.len) .wr = none) ∧
    (∃ (s : State) (p : Packet) (q : Packet) (ep : Nat) (c : Nat) (part : Nat), s.Arriving p ∧ p.opcode = opRD ∧ malformed p = false ∧
      p.inPort < 128 ∧ epOf s p.inPort = some ep ∧ p.vc = 1 ∧ p.fwd = false ∧ p.term = false ∧
      AMap.find s.xlat.binds (ep % 16 * 64 + p.part) = some c ∧ isHostOff (addrOff p.addr) = false ∧
      reach s c p.addr (max 1 p.len) .rd = some part ∧ s.fab.dead.contains (addrNode p.addr) = false ∧ tracksOf s p.inPort < 4096 ∧
      p.holder = none ∧ addrNode p.addr ≠ s.self ∧ s.flt.servingPartner = false ∧
      q = { p with tag := freeTag s p.inPort, part := part, colour := 0, epoch := s.route.active.epoch }) :=
  ⟨⟨up, { opcode := opRD, addr := 24 * 2 ^ 47, srcNode := 24, inPort := 0, len := 64 }, by decide⟩,
   ⟨up, { opcode := opRD, addr := 2 ^ 50, srcNode := 24, inPort := 0, len := 64 }, by decide +kernel⟩,
   ⟨deliveredTo up { opcode := opWR, addr := 2 ^ 50, srcNode := 24, inPort := 0, len := 1, payload := [1] },
      { opcode := opRD, addr := 2 ^ 50, srcNode := 24, inPort := 0, len := 64 }, by decide +kernel⟩,
   ⟨up, { opcode := opWRP, addr := 2 ^ 50, inPort := 1, vc := 0 }, by decide⟩,
   ⟨up, { opcode := opWR, addr := 2 ^ 50, srcNode := 24, inPort := 0, vc := 0 }, by decide⟩,
   ⟨up, { opcode := opRD, addr := 2 ^ 50, inPort := 1, len := 64 }, 0, by decide⟩,
   ⟨{ up with xlat := { up.xlat with binds := [(0, 0)] } }, { opcode := opWRP, addr := 2 ^ 50, inPort := 1, len := 1, payload := [0] }, 0, 0,
      by decide⟩,
   ⟨{ up with xlat := { up.xlat with binds := [(0, 0)], ctxs := [(0, { valid := true, part := 1 })] } },
      { opcode := opRD, addr := 9 * 2 ^ 47, inPort := 1, len := 64 }, { opcode := opRD, addr := 9 * 2 ^ 47, inPort := 1, len := 64, part := 1 },
      0, 0, 1, by decide⟩⟩

set_option maxRecDepth 100000 in
theorem witness_ReadPacketsAnswerWhatTheTargetHolds_1 :
    ∃ (s : State) (v : State) (p : Packet) (i : Instr), s.Delivered p ∧ ((p.opcode = opRD ∧ i = .rd p) ∨ (p.opcode = opRDV ∧ i = .rdv p)) ∧
      v = fetchFor (s.taking p) p s.self (addrOff p.addr) ∧ (crosses p.addr p.len = true ∨ p.ctrEn = true) :=
  ⟨deliveredTo (up) ({ opcode := opRD, addr := 2 ^ 50 + 4095, len := 2 } : Packet), _, { opcode := opRD, addr := 2 ^ 50 + 4095, len := 2 },
      .rd ({ opcode := opRD, addr := 2 ^ 50 + 4095, len := 2 } : Packet), (by decide +kernel), (by decide +kernel), rfl, (by decide +kernel)⟩

set_option maxRecDepth 100000 in
theorem witness_ReadPacketsAnswerWhatTheTargetHolds_2 :
    ∃ (s : State) (v : State) (p : Packet) (i : Instr), s.Delivered p ∧ ((p.opcode = opRD ∧ i = .rd p) ∨ (p.opcode = opRDV ∧ i = .rdv p)) ∧
      v = fetchFor (s.taking p) p s.self (addrOff p.addr) ∧ crosses p.addr p.len = false ∧ p.ctrEn = false ∧ addrNode p.addr = s.self ∧
      accCheck s s.self (addrOff p.addr) p.len p.part (copyRead p) = some DENIED :=
  ⟨deliveredTo (up) ({ opcode := opRD, addr := 2 ^ 50, len := 8 } : Packet), _, { opcode := opRD, addr := 2 ^ 50, len := 8 },
      .rd ({ opcode := opRD, addr := 2 ^ 50, len := 8 } : Packet), (by decide +kernel), (by decide +kernel), rfl, (by decide +kernel),
      (by decide +kernel), (by decide +kernel), (by decide +kernel)⟩

set_option maxRecDepth 100000 in
theorem witness_ReadPacketsAnswerWhatTheTargetHolds_3 :
    ∃ (s : State) (v : State) (p : Packet) (i : Instr), s.Delivered p ∧ ((p.opcode = opRD ∧ i = .rd p) ∨ (p.opcode = opRDV ∧ i = .rdv p)) ∧
      v = fetchFor (s.taking p) p s.self (addrOff p.addr) ∧ crosses p.addr p.len = false ∧ p.ctrEn = false ∧ addrNode p.addr = s.self ∧
      accCheck s s.self (addrOff p.addr) p.len p.part (copyRead p) = some POISONED :=
  ⟨deliveredTo ({ up with mem := { up.mem with dir := [(0, { st := 3 })] } }) ({ opcode := opRD, addr := 2 ^ 50, len := 8 } : Packet), _,
      { opcode := opRD, addr := 2 ^ 50, len := 8 }, .rd ({ opcode := opRD, addr := 2 ^ 50, len := 8 } : Packet), (by decide +kernel),
      (by decide +kernel), rfl, (by decide +kernel), (by decide +kernel), (by decide +kernel), (by decide +kernel)⟩

set_option maxRecDepth 100000 in
theorem witness_ReadPacketsAnswerWhatTheTargetHolds_4 :
    ∃ (s : State) (v : State) (p : Packet) (i : Instr), s.Delivered p ∧ ((p.opcode = opRD ∧ i = .rd p) ∨ (p.opcode = opRDV ∧ i = .rdv p)) ∧
      v = fetchFor (s.taking p) p s.self (addrOff p.addr) ∧ crosses p.addr p.len = false ∧ p.ctrEn = false ∧ addrNode p.addr = s.self ∧
      accCheck s s.self (addrOff p.addr) p.len p.part (copyRead p) = some TIMEOUT :=
  ⟨deliveredTo ({ up with flt := { up.flt with selfFenced := true }, mem := { up.mem with dir := [(0, { st := 1, mirror := true, home := { kind := 1, holder := 8 } })] } }) ({ opcode := opRD, addr := 2 ^ 50, len := 8 } : Packet),
      _, { opcode := opRD, addr := 2 ^ 50, len := 8 }, .rd ({ opcode := opRD, addr := 2 ^ 50, len := 8 } : Packet), (by decide +kernel),
      (by decide +kernel), rfl, (by decide +kernel), (by decide +kernel), (by decide +kernel), (by decide +kernel)⟩

set_option maxRecDepth 100000 in
theorem witness_ReadPacketsAnswerWhatTheTargetHolds_5 :
    ∃ (s : State) (v : State) (p : Packet) (i : Instr), s.Delivered p ∧ ((p.opcode = opRD ∧ i = .rd p) ∨ (p.opcode = opRDV ∧ i = .rdv p)) ∧
      v = fetchFor (s.taking p) p s.self (addrOff p.addr) ∧ crosses p.addr p.len = false ∧ p.ctrEn = false ∧ addrNode p.addr = s.self ∧
      accCheck s s.self (addrOff p.addr) p.len p.part (copyRead p) = none :=
  ⟨deliveredTo ({ up with flt := { up.flt with directoryRebuild := [0] } }) ({ opcode := opRD, addr := 2 ^ 50, len := 8 } : Packet), _,
      { opcode := opRD, addr := 2 ^ 50, len := 8 }, .rd ({ opcode := opRD, addr := 2 ^ 50, len := 8 } : Packet), (by decide +kernel),
      (by decide +kernel), rfl, (by decide +kernel), (by decide +kernel), (by decide +kernel), (by decide +kernel)⟩

set_option maxRecDepth 100000 in
theorem witness_ReadPacketsAnswerWhatTheTargetHolds_6 :
    ∃ (s : State) (v : State) (p : Packet) (i : Instr) (b : _), s.Delivered p ∧ ((p.opcode = opRD ∧ i = .rd p) ∨ (p.opcode = opRDV ∧ i = .rdv p)) ∧
      v = fetchFor (s.taking p) p s.self (addrOff p.addr) ∧ crosses p.addr p.len = false ∧ p.ctrEn = false ∧ addrNode p.addr = s.self ∧
      accCheck s s.self (addrOff p.addr) p.len p.part (copyRead p) = some OK ∧ isCtlOff (addrOff p.addr) = true ∧
      readCtl v.drawTick.2 (addrOff p.addr) p.len v.drawTick.1 = some b :=
  ⟨ctlS 0x020042200000, ctlV 0x020042200000, ctlP 0x020042200000, .rd (ctlP 0x020042200000), (ctlRead 0x020042200000).getD [], (by decide +kernel),
      (by decide +kernel), (by decide +kernel), (by decide +kernel), (by decide +kernel), (by decide +kernel), (by decide +kernel),
      (by decide +kernel), isSome_getD (by decide +kernel)⟩

set_option maxRecDepth 100000 in
theorem witness_ReadPacketsAnswerWhatTheTargetHolds_7 :
    ∃ (s : State) (v : State) (p : Packet) (i : Instr), s.Delivered p ∧ ((p.opcode = opRD ∧ i = .rd p) ∨ (p.opcode = opRDV ∧ i = .rdv p)) ∧
      v = fetchFor (s.taking p) p s.self (addrOff p.addr) ∧ crosses p.addr p.len = false ∧ p.ctrEn = false ∧ addrNode p.addr = s.self ∧
      accCheck s s.self (addrOff p.addr) p.len p.part (copyRead p) = some OK ∧ isPoolOff (addrOff p.addr) = true ∧
      fetching v p s.self (addrOff p.addr) = true :=
  ⟨deliveredTo ({ upm with mem := { upm.mem with dir := [(0, { st := 2, owner := 1, src := { kind := 1, holder := 8 }, home := { kind := 1, holder := 24 } })], moves := [(0, { demand := [0], copying := some 0 })] } }) ({ opcode := opRD, addr := 2 ^ 50, len := 8, part := 1, srcNode := 24, inPort := 0 } : Packet),
      _, { opcode := opRD, addr := 2 ^ 50, len := 8, part := 1, srcNode := 24, inPort := 0 },
      .rd ({ opcode := opRD, addr := 2 ^ 50, len := 8, part := 1, srcNode := 24, inPort := 0 } : Packet), (by decide +kernel),
      (by decide +kernel), rfl, (by decide +kernel), (by decide +kernel), (by decide +kernel), (by decide +kernel), (by decide +kernel),
      (by decide +kernel)⟩

set_option maxRecDepth 100000 in
theorem witness_ReadPacketsAnswerWhatTheTargetHolds_8 :
    ∃ (s : State) (v : State) (p : Packet) (i : Instr), s.Delivered p ∧ ((p.opcode = opRD ∧ i = .rd p) ∨ (p.opcode = opRDV ∧ i = .rdv p)) ∧
      v = fetchFor (s.taking p) p s.self (addrOff p.addr) ∧ crosses p.addr p.len = false ∧ p.ctrEn = false ∧ addrNode p.addr = s.self ∧
      accCheck s s.self (addrOff p.addr) p.len p.part (copyRead p) = some OK ∧ isPoolOff (addrOff p.addr) = true ∧
      fetching v p s.self (addrOff p.addr) = false ∧ locLocal v (ordLoc v s.self (addrOff p.addr)) = false :=
  ⟨deliveredTo ({ upm with mem := { upm.mem with dir := [(0, { st := 1, owner := 1, home := { kind := 1, holder := 24 } })] } }) ({ opcode := opRD, addr := 2 ^ 50, len := 8, part := 1, srcNode := 8 } : Packet),
      _, { opcode := opRD, addr := 2 ^ 50, len := 8, part := 1, srcNode := 8 },
      .rd ({ opcode := opRD, addr := 2 ^ 50, len := 8, part := 1, srcNode := 8 } : Packet), (by decide +kernel), (by decide +kernel), rfl,
      (by decide +kernel), (by decide +kernel), (by decide +kernel), (by decide +kernel), (by decide +kernel), (by decide +kernel),
      (by decide +kernel)⟩

set_option maxRecDepth 100000 in
theorem witness_ReadPacketsAnswerWhatTheTargetHolds_9 :
    ∃ (s : State) (v : State) (p : Packet) (i : Instr), s.Delivered p ∧ ((p.opcode = opRD ∧ i = .rd p) ∨ (p.opcode = opRDV ∧ i = .rdv p)) ∧
      v = fetchFor (s.taking p) p s.self (addrOff p.addr) ∧ crosses p.addr p.len = false ∧ p.ctrEn = false ∧ addrNode p.addr = s.self ∧
      accCheck s s.self (addrOff p.addr) p.len p.part (copyRead p) = some OK ∧ isPoolOff (addrOff p.addr) = true ∧
      fetching v p s.self (addrOff p.addr) = false ∧ locLocal v (ordLoc v s.self (addrOff p.addr)) = true :=
  ⟨deliveredTo (upm) ({ opcode := opRD, addr := 2 ^ 50, len := 8, part := 1, srcNode := 8 } : Packet), _,
      { opcode := opRD, addr := 2 ^ 50, len := 8, part := 1, srcNode := 8 },
      .rd ({ opcode := opRD, addr := 2 ^ 50, len := 8, part := 1, srcNode := 8 } : Packet), (by decide +kernel), (by decide +kernel), rfl,
      (by decide +kernel), (by decide +kernel), (by decide +kernel), (by decide +kernel), (by decide +kernel), (by decide +kernel),
      (by decide +kernel)⟩

set_option maxRecDepth 100000 in
theorem witness_ReadPacketsAnswerWhatTheTargetHolds :
    (∃ (s : State) (v : State) (p : Packet) (i : Instr), s.Delivered p ∧ ((p.opcode = opRD ∧ i = .rd p) ∨ (p.opcode = opRDV ∧ i = .rdv p)) ∧
      v = fetchFor (s.taking p) p s.self (addrOff p.addr) ∧ (crosses p.addr p.len = true ∨ p.ctrEn = true)) ∧
    (∃ (s : State) (v : State) (p : Packet) (i : Instr), s.Delivered p ∧ ((p.opcode = opRD ∧ i = .rd p) ∨ (p.opcode = opRDV ∧ i = .rdv p)) ∧
      v = fetchFor (s.taking p) p s.self (addrOff p.addr) ∧ crosses p.addr p.len = false ∧ p.ctrEn = false ∧ addrNode p.addr = s.self ∧
      accCheck s s.self (addrOff p.addr) p.len p.part (copyRead p) = some DENIED) ∧
    (∃ (s : State) (v : State) (p : Packet) (i : Instr), s.Delivered p ∧ ((p.opcode = opRD ∧ i = .rd p) ∨ (p.opcode = opRDV ∧ i = .rdv p)) ∧
      v = fetchFor (s.taking p) p s.self (addrOff p.addr) ∧ crosses p.addr p.len = false ∧ p.ctrEn = false ∧ addrNode p.addr = s.self ∧
      accCheck s s.self (addrOff p.addr) p.len p.part (copyRead p) = some POISONED) ∧
    (∃ (s : State) (v : State) (p : Packet) (i : Instr), s.Delivered p ∧ ((p.opcode = opRD ∧ i = .rd p) ∨ (p.opcode = opRDV ∧ i = .rdv p)) ∧
      v = fetchFor (s.taking p) p s.self (addrOff p.addr) ∧ crosses p.addr p.len = false ∧ p.ctrEn = false ∧ addrNode p.addr = s.self ∧
      accCheck s s.self (addrOff p.addr) p.len p.part (copyRead p) = some TIMEOUT) ∧
    (∃ (s : State) (v : State) (p : Packet) (i : Instr), s.Delivered p ∧ ((p.opcode = opRD ∧ i = .rd p) ∨ (p.opcode = opRDV ∧ i = .rdv p)) ∧
      v = fetchFor (s.taking p) p s.self (addrOff p.addr) ∧ crosses p.addr p.len = false ∧ p.ctrEn = false ∧ addrNode p.addr = s.self ∧
      accCheck s s.self (addrOff p.addr) p.len p.part (copyRead p) = none) ∧
    (∃ (s : State) (v : State) (p : Packet) (i : Instr) (b : _), s.Delivered p ∧ ((p.opcode = opRD ∧ i = .rd p) ∨ (p.opcode = opRDV ∧ i = .rdv p)) ∧
      v = fetchFor (s.taking p) p s.self (addrOff p.addr) ∧ crosses p.addr p.len = false ∧ p.ctrEn = false ∧ addrNode p.addr = s.self ∧
      accCheck s s.self (addrOff p.addr) p.len p.part (copyRead p) = some OK ∧ isCtlOff (addrOff p.addr) = true ∧
      readCtl v.drawTick.2 (addrOff p.addr) p.len v.drawTick.1 = some b) ∧
    (∃ (s : State) (v : State) (p : Packet) (i : Instr), s.Delivered p ∧ ((p.opcode = opRD ∧ i = .rd p) ∨ (p.opcode = opRDV ∧ i = .rdv p)) ∧
      v = fetchFor (s.taking p) p s.self (addrOff p.addr) ∧ crosses p.addr p.len = false ∧ p.ctrEn = false ∧ addrNode p.addr = s.self ∧
      accCheck s s.self (addrOff p.addr) p.len p.part (copyRead p) = some OK ∧ isPoolOff (addrOff p.addr) = true ∧
      fetching v p s.self (addrOff p.addr) = true) ∧
    (∃ (s : State) (v : State) (p : Packet) (i : Instr), s.Delivered p ∧ ((p.opcode = opRD ∧ i = .rd p) ∨ (p.opcode = opRDV ∧ i = .rdv p)) ∧
      v = fetchFor (s.taking p) p s.self (addrOff p.addr) ∧ crosses p.addr p.len = false ∧ p.ctrEn = false ∧ addrNode p.addr = s.self ∧
      accCheck s s.self (addrOff p.addr) p.len p.part (copyRead p) = some OK ∧ isPoolOff (addrOff p.addr) = true ∧
      fetching v p s.self (addrOff p.addr) = false ∧ locLocal v (ordLoc v s.self (addrOff p.addr)) = false) ∧
    (∃ (s : State) (v : State) (p : Packet) (i : Instr), s.Delivered p ∧ ((p.opcode = opRD ∧ i = .rd p) ∨ (p.opcode = opRDV ∧ i = .rdv p)) ∧
      v = fetchFor (s.taking p) p s.self (addrOff p.addr) ∧ crosses p.addr p.len = false ∧ p.ctrEn = false ∧ addrNode p.addr = s.self ∧
      accCheck s s.self (addrOff p.addr) p.len p.part (copyRead p) = some OK ∧ isPoolOff (addrOff p.addr) = true ∧
      fetching v p s.self (addrOff p.addr) = false ∧ locLocal v (ordLoc v s.self (addrOff p.addr)) = true) :=
  ⟨witness_ReadPacketsAnswerWhatTheTargetHolds_1, witness_ReadPacketsAnswerWhatTheTargetHolds_2, witness_ReadPacketsAnswerWhatTheTargetHolds_3, witness_ReadPacketsAnswerWhatTheTargetHolds_4, witness_ReadPacketsAnswerWhatTheTargetHolds_5, witness_ReadPacketsAnswerWhatTheTargetHolds_6, witness_ReadPacketsAnswerWhatTheTargetHolds_7, witness_ReadPacketsAnswerWhatTheTargetHolds_8, witness_ReadPacketsAnswerWhatTheTargetHolds_9⟩

theorem witness_WritePacketsAreAcceptedAndFencesAndInvalidationsAct :
    (∃ (s : State) (u : State) (v : State) (p : Packet) (i : Instr), s.Delivered p ∧
      ((p.opcode = opWR ∧ i = .wr p) ∨ (p.opcode = opWRP ∧ i = .wrp p)) ∧ v = fetchFor (s.taking p) p s.self (addrOff p.addr) ∧
      u = countServed v p s.self (addrOff p.addr) ∧ crosses p.addr p.len = true) ∧
    (∃ (s : State) (u : State) (v : State) (p : Packet) (i : Instr), s.Delivered p ∧
      ((p.opcode = opWR ∧ i = .wr p) ∨ (p.opcode = opWRP ∧ i = .wrp p)) ∧ v = fetchFor (s.taking p) p s.self (addrOff p.addr) ∧
      u = countServed v p s.self (addrOff p.addr) ∧ crosses p.addr p.len = false ∧ isCopy p = false ∧ addrNode p.addr = s.self ∧
      accCheck s s.self (addrOff p.addr) p.len p.part true = some DENIED) ∧
    (∃ (s : State) (u : State) (v : State) (p : Packet) (i : Instr), s.Delivered p ∧
      ((p.opcode = opWR ∧ i = .wr p) ∨ (p.opcode = opWRP ∧ i = .wrp p)) ∧ v = fetchFor (s.taking p) p s.self (addrOff p.addr) ∧
      u = countServed v p s.self (addrOff p.addr) ∧ crosses p.addr p.len = false ∧ isCopy p = false ∧ addrNode p.addr = s.self ∧
      accCheck s s.self (addrOff p.addr) p.len p.part true = some POISONED) ∧
    (∃ (s : State) (u : State) (v : State) (p : Packet) (i : Instr), s.Delivered p ∧
      ((p.opcode = opWR ∧ i = .wr p) ∨ (p.opcode = opWRP ∧ i = .wrp p)) ∧ v = fetchFor (s.taking p) p s.self (addrOff p.addr) ∧
      u = countServed v p s.self (addrOff p.addr) ∧ crosses p.addr p.len = false ∧ isCopy p = false ∧ addrNode p.addr = s.self ∧
      accCheck s s.self (addrOff p.addr) p.len p.part true = none) ∧
    (∃ (s : State) (u : State) (v : State) (p : Packet) (i : Instr), s.Delivered p ∧
      ((p.opcode = opWR ∧ i = .wr p) ∨ (p.opcode = opWRP ∧ i = .wrp p)) ∧ v = fetchFor (s.taking p) p s.self (addrOff p.addr) ∧
      u = countServed v p s.self (addrOff p.addr) ∧ crosses p.addr p.len = false ∧ isCopy p = false ∧ addrNode p.addr = s.self ∧
      accCheck s s.self (addrOff p.addr) p.len p.part true = some OK ∧ isPoolOff (addrOff p.addr) = true ∧
      tileCopying v s.self (addrOff p.addr) = false ∧ fetching v p s.self (addrOff p.addr) = true) ∧
    (∃ (s : State) (u : State) (v : State) (p : Packet) (i : Instr), s.Delivered p ∧
      ((p.opcode = opWR ∧ i = .wr p) ∨ (p.opcode = opWRP ∧ i = .wrp p)) ∧ v = fetchFor (s.taking p) p s.self (addrOff p.addr) ∧
      u = countServed v p s.self (addrOff p.addr) ∧ crosses p.addr p.len = false ∧ isCopy p = false ∧ addrNode p.addr = s.self ∧
      accCheck s s.self (addrOff p.addr) p.len p.part true = some OK ∧ isPoolOff (addrOff p.addr) = true ∧
      tileCopying v s.self (addrOff p.addr) = false ∧ fetching v p s.self (addrOff p.addr) = false ∧
      locLocal v (ordLoc v s.self (addrOff p.addr)) = false) ∧
    (∃ (s : State) (u : State) (v : State) (p : Packet) (i : Instr), s.Delivered p ∧
      ((p.opcode = opWR ∧ i = .wr p) ∨ (p.opcode = opWRP ∧ i = .wrp p)) ∧ v = fetchFor (s.taking p) p s.self (addrOff p.addr) ∧
      u = countServed v p s.self (addrOff p.addr) ∧ crosses p.addr p.len = false ∧ isCopy p = false ∧ addrNode p.addr = s.self ∧
      accCheck s s.self (addrOff p.addr) p.len p.part true = some OK ∧ isPoolOff (addrOff p.addr) = true ∧
      (tileCopying v s.self (addrOff p.addr) = true ∨ (fetching v p s.self (addrOff p.addr) = false ∧ locLocal v (ordLoc v s.self (addrOff p.addr)) = true)) ∧
      incRefused v p = false ∧ p.chk = true) ∧
    (∃ (s : State) (u : State) (v : State) (p : Packet) (i : Instr), s.Delivered p ∧
      ((p.opcode = opWR ∧ i = .wr p) ∨ (p.opcode = opWRP ∧ i = .wrp p)) ∧ v = fetchFor (s.taking p) p s.self (addrOff p.addr) ∧
      u = countServed v p s.self (addrOff p.addr) ∧ crosses p.addr p.len = false ∧ isCopy p = false ∧ addrNode p.addr = s.self ∧
      accCheck s s.self (addrOff p.addr) p.len p.part true = some OK ∧ isPoolOff (addrOff p.addr) = true ∧
      (tileCopying v s.self (addrOff p.addr) = true ∨ (fetching v p s.self (addrOff p.addr) = false ∧ locLocal v (ordLoc v s.self (addrOff p.addr)) = true)) ∧
      incRefused v p = false ∧ p.chk = false ∧ mirrored u s.self (addrOff p.addr) = false) ∧
    (∃ (s : State) (u : State) (v : State) (p : Packet) (i : Instr), s.Delivered p ∧
      ((p.opcode = opWR ∧ i = .wr p) ∨ (p.opcode = opWRP ∧ i = .wrp p)) ∧ v = fetchFor (s.taking p) p s.self (addrOff p.addr) ∧
      u = countServed v p s.self (addrOff p.addr) ∧ crosses p.addr p.len = false ∧ isCopy p = false ∧ addrNode p.addr = s.self ∧
      accCheck s s.self (addrOff p.addr) p.len p.part true = some OK ∧ isPoolOff (addrOff p.addr) = true ∧
      (tileCopying v s.self (addrOff p.addr) = true ∨ (fetching v p s.self (addrOff p.addr) = false ∧ locLocal v (ordLoc v s.self (addrOff p.addr)) = true)) ∧
      incRefused v p = false ∧ p.chk = false ∧ mirrored u s.self (addrOff p.addr) = true) ∧
    (∃ (s : State) (p : Packet) (c : Nat), s.Delivered p ∧ p.opcode = opWR ∧ p.len = 64 ∧ epOf s p.inPort = none ∧ p.chk = false ∧ p.ctrEn = false ∧
      addrNode p.addr = s.self ∧ addrOff p.addr = ctxFenceOff ∧ fenceCtx (leNat p.payload) = some c ∧ reqTrack s p = none ∧
      (s.fab.tracks.any fun t => t.ctx == c && ! t.timedOut) = false ∧ (s.xlat.accs.any fun a => a.ctx == c && a.st != 2) = false) ∧
    (∃ (s : State) (p : Packet) (c : Nat), s.Delivered p ∧ p.opcode = opWR ∧ p.len = 64 ∧ epOf s p.inPort = none ∧ p.chk = false ∧ p.ctrEn = false ∧
      addrNode p.addr = s.self ∧ addrOff p.addr = ctxFenceOff ∧ fenceCtx (leNat p.payload) = some c ∧ reqTrack s p = none ∧
      ((s.fab.tracks.any fun t => t.ctx == c && ! t.timedOut) = true ∨ (s.xlat.accs.any fun a => a.ctx == c && a.st != 2) = true)) ∧
    (∃ (s : State) (p : Packet), s.Delivered p ∧ p.opcode = opINV ∧ addrOff p.addr = 0x020042200040 ∧ p.len = 64 ∧ bits (leNat p.payload) 56 8 = 0 ∧
      bits (leNat p.payload) 112 400 = 0 ∧ addrNode p.addr = s.self) ∧
    (∃ (s : State) (p : Packet), s.Delivered p ∧ p.opcode = opINV ∧
      (addrOff p.addr ≠ 0x020042200040 ∨ p.len ≠ 64 ∨ bits (leNat p.payload) 56 8 ≠ 0 ∨ bits (leNat p.payload) 112 400 ≠ 0)) ∧
    (∃ (s : State) (p : Packet), s.Delivered p ∧ (p.opcode = opWR ∨ p.opcode = opWRP) ∧ addrOff p.addr = 0x020042200040) :=
  ⟨⟨deliveredTo (up) ({ opcode := opWR, addr := 2 ^ 50 + 4095, len := 2, payload := List.replicate 2 0 } : Packet), _, _,
      { opcode := opWR, addr := 2 ^ 50 + 4095, len := 2, payload := List.replicate 2 0 },
      .wr ({ opcode := opWR, addr := 2 ^ 50 + 4095, len := 2, payload := List.replicate 2 0 } : Packet), (by decide +kernel), (by decide +kernel),
      rfl, rfl, (by decide +kernel)⟩,
   ⟨deliveredTo (up) ({ opcode := opWR, addr := 2 ^ 50, len := 1, payload := [1] } : Packet), _, _,
      { opcode := opWR, addr := 2 ^ 50, len := 1, payload := [1] }, .wr ({ opcode := opWR, addr := 2 ^ 50, len := 1, payload := [1] } : Packet),
      (by decide +kernel), (by decide +kernel), rfl, rfl, (by decide +kernel), (by decide +kernel), (by decide +kernel), (by decide +kernel)⟩,
   ⟨deliveredTo ({ up with mem := { up.mem with dir := [(0, { st := 3 })] } }) ({ opcode := opWR, addr := 2 ^ 50, len := 1, payload := [1] } : Packet),
      _, _, { opcode := opWR, addr := 2 ^ 50, len := 1, payload := [1] },
      .wr ({ opcode := opWR, addr := 2 ^ 50, len := 1, payload := [1] } : Packet), (by decide +kernel), (by decide +kernel), rfl, rfl,
      (by decide +kernel), (by decide +kernel), (by decide +kernel), (by decide +kernel)⟩,
   ⟨deliveredTo ({ up with flt := { up.flt with directoryRebuild := [0] } }) ({ opcode := opWR, addr := 2 ^ 50, len := 1, payload := [1] } : Packet),
      _, _, { opcode := opWR, addr := 2 ^ 50, len := 1, payload := [1] },
      .wr ({ opcode := opWR, addr := 2 ^ 50, len := 1, payload := [1] } : Packet), (by decide +kernel), (by decide +kernel), rfl, rfl,
      (by decide +kernel), (by decide +kernel), (by decide +kernel), (by decide +kernel)⟩,
   ⟨deliveredTo ({ upm with mem := { upm.mem with dir := [(0, { st := 2, owner := 1, src := { kind := 1, holder := 8 }, home := { kind := 1, holder := 24 } })], moves := [(0, { demand := [0] })] } }) ({ opcode := opWR, addr := 2 ^ 50, len := 1, payload := [1], part := 1, srcNode := 24, inPort := 0 } : Packet),
      _, _, { opcode := opWR, addr := 2 ^ 50, len := 1, payload := [1], part := 1, srcNode := 24, inPort := 0 },
      .wr ({ opcode := opWR, addr := 2 ^ 50, len := 1, payload := [1], part := 1, srcNode := 24, inPort := 0 } : Packet), (by decide +kernel),
      (by decide +kernel), rfl, rfl, (by decide +kernel), (by decide +kernel), (by decide +kernel), (by decide +kernel), (by decide +kernel),
      (by decide +kernel), (by decide +kernel)⟩,
   ⟨deliveredTo ({ upm with mem := { upm.mem with dir := [(0, { st := 1, owner := 1, home := { kind := 1, holder := 24 } })] } }) ({ opcode := opWR, addr := 2 ^ 50, len := 1, payload := [1], part := 1, srcNode := 8 } : Packet),
      _, _, { opcode := opWR, addr := 2 ^ 50, len := 1, payload := [1], part := 1, srcNode := 8 },
      .wr ({ opcode := opWR, addr := 2 ^ 50, len := 1, payload := [1], part := 1, srcNode := 8 } : Packet), (by decide +kernel),
      (by decide +kernel), rfl, rfl, (by decide +kernel), (by decide +kernel), (by decide +kernel), (by decide +kernel), (by decide +kernel),
      (by decide +kernel), (by decide +kernel), (by decide +kernel)⟩,
   ⟨deliveredTo (upm) ({ opcode := opWR, addr := 2 ^ 50, len := 1, payload := [1], part := 1, srcNode := 8, chk := true } : Packet), _, _,
      { opcode := opWR, addr := 2 ^ 50, len := 1, payload := [1], part := 1, srcNode := 8, chk := true },
      .wr ({ opcode := opWR, addr := 2 ^ 50, len := 1, payload := [1], part := 1, srcNode := 8, chk := true } : Packet), (by decide +kernel),
      (by decide +kernel), rfl, rfl, (by decide +kernel), (by decide +kernel), (by decide +kernel), (by decide +kernel), (by decide +kernel),
      (by decide +kernel), (by decide +kernel), (by decide +kernel)⟩,
   ⟨deliveredTo (upm) ({ opcode := opWR, addr := 2 ^ 50, len := 1, payload := [1], part := 1, srcNode := 8 } : Packet), _, _,
      { opcode := opWR, addr := 2 ^ 50, len := 1, payload := [1], part := 1, srcNode := 8 },
      .wr ({ opcode := opWR, addr := 2 ^ 50, len := 1, payload := [1], part := 1, srcNode := 8 } : Packet), (by decide +kernel),
      (by decide +kernel), rfl, rfl, (by decide +kernel), (by decide +kernel), (by decide +kernel), (by decide +kernel), (by decide +kernel),
      (by decide +kernel), (by decide +kernel), (by decide +kernel), (by decide +kernel)⟩,
   ⟨deliveredTo ({ upm with mem := { upm.mem with dir := [(0, { st := 1, owner := 1, mirror := true, home := { kind := 1, holder := 8 } })] } }) ({ opcode := opWR, addr := 2 ^ 50, len := 1, payload := [1], part := 1, srcNode := 8 } : Packet),
      _, _, { opcode := opWR, addr := 2 ^ 50, len := 1, payload := [1], part := 1, srcNode := 8 },
      .wr ({ opcode := opWR, addr := 2 ^ 50, len := 1, payload := [1], part := 1, srcNode := 8 } : Packet), (by decide +kernel),
      (by decide +kernel), rfl, rfl, (by decide +kernel), (by decide +kernel), (by decide +kernel), (by decide +kernel), (by decide +kernel),
      (by decide +kernel), (by decide +kernel), (by decide +kernel), (by decide +kernel)⟩,
   ⟨deliveredTo up ({ opcode := opWR, addr := 2 ^ 50 + ctxFenceOff, len := 64, payload := leBytes 64 3, srcNode := 8 } : Packet),
      { opcode := opWR, addr := 2 ^ 50 + ctxFenceOff, len := 64, payload := leBytes 64 3, srcNode := 8 }, 3, by decide +kernel⟩,
   ⟨deliveredTo { up with fab := { up.fab with tracks := [{ ctx := 3 }] } } ({ opcode := opWR, addr := 2 ^ 50 + ctxFenceOff, len := 64, payload := leBytes 64 3, srcNode := 8 } : Packet),
      { opcode := opWR, addr := 2 ^ 50 + ctxFenceOff, len := 64, payload := leBytes 64 3, srcNode := 8 }, 3, by decide +kernel⟩,
   ⟨deliveredTo up ({ opcode := opINV, addr := 2 ^ 50 + 0x020042200040, len := 64, payload := leBytes 64 0 } : Packet),
      { opcode := opINV, addr := 2 ^ 50 + 0x020042200040, len := 64, payload := leBytes 64 0 }, by decide +kernel⟩,
   ⟨deliveredTo up ({ opcode := opINV, addr := 2 ^ 50 } : Packet), { opcode := opINV, addr := 2 ^ 50 }, by decide +kernel⟩,
   ⟨deliveredTo up ({ opcode := opWR, addr := 2 ^ 50 + 0x020042200040, len := 64, payload := leBytes 64 0 } : Packet),
      { opcode := opWR, addr := 2 ^ 50 + 0x020042200040, len := 64, payload := leBytes 64 0 }, by decide +kernel⟩⟩

theorem witness_AtomicAndReducingPacketsModifyTheTarget :
    (∃ (s : State) (p : Packet), s.Delivered p ∧ p.opcode = opATOM ∧
      (12 < p.aop ∨ p.len ≠ (if p.aop = 7 then 2 * (4 * 2 ^ p.size) else 4 * 2 ^ p.size) ∨ p.addr % (4 * 2 ^ p.size) ≠ 0)) ∧
    (∃ (s : State) (v : State) (u : State) (t : State) (p : Packet) (n : Nat) (off : Nat), s.Delivered p ∧ p.opcode = opATOM ∧ p.aop ≤ 12 ∧
      n = 4 * 2 ^ p.size ∧ p.len = (if p.aop = 7 then 2 * n else n) ∧ p.addr % n = 0 ∧ addrNode p.addr = s.self ∧ off = addrOff p.addr ∧
      accCheck s s.self off n p.part true = some OK ∧ isPoolOff off = true ∧ v = fetchFor (s.taking p) p s.self off ∧
      u = countServed v p s.self off ∧ t = meetErrors (drainTarget u (targetOf u s.self off)) (keyOf s s.self off) n ∧
      tileCopying v s.self off = true) ∧
    (∃ (s : State) (v : State) (u : State) (t : State) (p : Packet) (n : Nat) (off : Nat), s.Delivered p ∧ p.opcode = opATOM ∧ p.aop ≤ 12 ∧
      n = 4 * 2 ^ p.size ∧ p.len = (if p.aop = 7 then 2 * n else n) ∧ p.addr % n = 0 ∧ addrNode p.addr = s.self ∧ off = addrOff p.addr ∧
      accCheck s s.self off n p.part true = some OK ∧ isPoolOff off = true ∧ v = fetchFor (s.taking p) p s.self off ∧
      u = countServed v p s.self off ∧ t = meetErrors (drainTarget u (targetOf u s.self off)) (keyOf s s.self off) n ∧
      tileCopying v s.self off = false ∧ fetching v p s.self off = false ∧ locLocal v (ordLoc v s.self off) = true ∧ incRefused v p = false ∧
      badAtoms t (keyOf s s.self off) n p.part = []) ∧
    (∃ (s : State) (v : State) (u : State) (t : State) (p : Packet) (n : Nat) (off : Nat), s.Delivered p ∧ p.opcode = opATOM ∧ p.aop ≤ 12 ∧
      n = 4 * 2 ^ p.size ∧ p.len = (if p.aop = 7 then 2 * n else n) ∧ p.addr % n = 0 ∧ addrNode p.addr = s.self ∧ off = addrOff p.addr ∧
      accCheck s s.self off n p.part true = some OK ∧ isPoolOff off = true ∧ v = fetchFor (s.taking p) p s.self off ∧
      u = countServed v p s.self off ∧ t = meetErrors (drainTarget u (targetOf u s.self off)) (keyOf s s.self off) n ∧
      tileCopying v s.self off = false ∧ fetching v p s.self off = false ∧ locLocal v (ordLoc v s.self off) = true ∧ incRefused v p = false ∧
      badAtoms t (keyOf s s.self off) n p.part ≠ []) ∧
    (∃ (s : State) (p : Packet), s.Delivered p ∧ p.opcode = opRED ∧
      (crosses p.addr p.len = true ∨ 1 < p.size ∨ p.addr % (4 * 2 ^ p.size) ≠ 0 ∨ p.len % (4 * 2 ^ p.size) ≠ 0 ∨ p.aop = 6 ∨ p.aop = 7 ∨ 12 < p.aop)) ∧
    (∃ (s : State) (v : State) (u : State) (t : State) (p : Packet) (off : Nat), s.Delivered p ∧ p.opcode = opRED ∧ crosses p.addr p.len = false ∧
      p.size < 2 ∧ p.addr % (4 * 2 ^ p.size) = 0 ∧ p.len % (4 * 2 ^ p.size) = 0 ∧ p.aop ≠ 6 ∧ p.aop ≠ 7 ∧ p.aop ≤ 12 ∧ addrNode p.addr = s.self ∧
      off = addrOff p.addr ∧ accCheck s s.self off p.len p.part true = some OK ∧ isPoolOff off = true ∧ v = fetchFor (s.taking p) p s.self off ∧
      u = countServed v p s.self off ∧ t = meetErrors (drainTarget u (targetOf u s.self off)) (keyOf s s.self off) p.len ∧
      tileCopying v s.self off = true) ∧
    (∃ (s : State) (v : State) (u : State) (t : State) (p : Packet) (off : Nat), s.Delivered p ∧ p.opcode = opRED ∧ crosses p.addr p.len = false ∧
      p.size < 2 ∧ p.addr % (4 * 2 ^ p.size) = 0 ∧ p.len % (4 * 2 ^ p.size) = 0 ∧ p.aop ≠ 6 ∧ p.aop ≠ 7 ∧ p.aop ≤ 12 ∧ addrNode p.addr = s.self ∧
      off = addrOff p.addr ∧ accCheck s s.self off p.len p.part true = some OK ∧ isPoolOff off = true ∧ v = fetchFor (s.taking p) p s.self off ∧
      u = countServed v p s.self off ∧ t = meetErrors (drainTarget u (targetOf u s.self off)) (keyOf s s.self off) p.len ∧
      tileCopying v s.self off = false ∧ fetching v p s.self off = false ∧ locLocal v (ordLoc v s.self off) = true ∧ incRefused v p = false) :=
  ⟨⟨deliveredTo up ({ opcode := opATOM, addr := 2 ^ 50, aop := 13 } : Packet), { opcode := opATOM, addr := 2 ^ 50, aop := 13 }, by decide +kernel⟩,
   ⟨deliveredTo ({ upm with mem := { upm.mem with dir := [(0, { st := 2, owner := 1, src := { kind := 1, holder := 8 }, home := { kind := 1, stack := 1, holder := 8 } })], moves := [(0, { copying := some 0 })] } }) ({ opcode := opATOM, addr := 2 ^ 50, len := 4, payload := [1, 0, 0, 0], part := 1, srcNode := 8 } : Packet),
      _, _, _, { opcode := opATOM, addr := 2 ^ 50, len := 4, payload := [1, 0, 0, 0], part := 1, srcNode := 8 }, 4, 0, (by decide +kernel),
      (by decide +kernel), (by decide +kernel), (by decide +kernel), (by decide +kernel), (by decide +kernel), (by decide +kernel),
      (by decide +kernel), (by decide +kernel), (by decide +kernel), rfl, rfl, rfl, (by decide +kernel)⟩,
   ⟨deliveredTo (upm) ({ opcode := opATOM, addr := 2 ^ 50, len := 4, payload := [1, 0, 0, 0], part := 1, srcNode := 8 } : Packet), _, _, _,
      { opcode := opATOM, addr := 2 ^ 50, len := 4, payload := [1, 0, 0, 0], part := 1, srcNode := 8 }, 4, 0, (by decide +kernel),
      (by decide +kernel), (by decide +kernel), (by decide +kernel), (by decide +kernel), (by decide +kernel), (by decide +kernel),
      (by decide +kernel), (by decide +kernel), (by decide +kernel), rfl, rfl, rfl, (by decide +kernel), (by decide +kernel), (by decide +kernel),
      (by decide +kernel), (by decide +kernel)⟩,
   ⟨deliveredTo ({ upm with mem := { upm.mem with poison := [0] } }) ({ opcode := opATOM, addr := 2 ^ 50, len := 4, payload := [1, 0, 0, 0], part := 1, srcNode := 8 } : Packet),
      _, _, _, { opcode := opATOM, addr := 2 ^ 50, len := 4, payload := [1, 0, 0, 0], part := 1, srcNode := 8 }, 4, 0, (by decide +kernel),
      (by decide +kernel), (by decide +kernel), (by decide +kernel), (by decide +kernel), (by decide +kernel), (by decide +kernel),
      (by decide +kernel), (by decide +kernel), (by decide +kernel), rfl, rfl, rfl, (by decide +kernel), (by decide +kernel), (by decide +kernel),
      (by decide +kernel), (by decide +kernel)⟩,
   ⟨deliveredTo up ({ opcode := opRED, addr := 2 ^ 50, aop := 6 } : Packet), { opcode := opRED, addr := 2 ^ 50, aop := 6 }, by decide +kernel⟩,
   ⟨deliveredTo ({ upm with mem := { upm.mem with dir := [(0, { st := 2, owner := 1, src := { kind := 1, holder := 8 }, home := { kind := 1, stack := 1, holder := 8 } })], moves := [(0, { copying := some 0 })] } }) ({ opcode := opRED, addr := 2 ^ 50, len := 4, payload := [1, 0, 0, 0], part := 1, srcNode := 8 } : Packet),
      _, _, _, { opcode := opRED, addr := 2 ^ 50, len := 4, payload := [1, 0, 0, 0], part := 1, srcNode := 8 }, 0, (by decide +kernel),
      (by decide +kernel), (by decide +kernel), (by decide +kernel), (by decide +kernel), (by decide +kernel), (by decide +kernel),
      (by decide +kernel), (by decide +kernel), (by decide +kernel), (by decide +kernel), (by decide +kernel), (by decide +kernel), rfl, rfl, rfl,
      (by decide +kernel)⟩,
   ⟨deliveredTo (upm) ({ opcode := opRED, addr := 2 ^ 50, len := 4, payload := [1, 0, 0, 0], part := 1, srcNode := 8 } : Packet), _, _, _,
      { opcode := opRED, addr := 2 ^ 50, len := 4, payload := [1, 0, 0, 0], part := 1, srcNode := 8 }, 0, (by decide +kernel),
      (by decide +kernel), (by decide +kernel), (by decide +kernel), (by decide +kernel), (by decide +kernel), (by decide +kernel),
      (by decide +kernel), (by decide +kernel), (by decide +kernel), (by decide +kernel), (by decide +kernel), (by decide +kernel), rfl, rfl, rfl,
      (by decide +kernel), (by decide +kernel), (by decide +kernel), (by decide +kernel)⟩⟩

theorem witness_CompletionsCloseTheirTrackers :
    (∃ (s : State) (p : Packet) (i : Instr), s.Delivered p ∧
      ((p.opcode = opCPL ∧ i = .cpl p) ∨ (p.opcode = opCPLD ∧ i = .cplData p) ∨ (p.opcode = opCPLP ∧ i = .cplPosted p)) ∧ trackFor s p = none) ∧
    (∃ (s : State) (p : Packet) (i : Instr) (k : Nat) (t : Track), s.Delivered p ∧
      ((p.opcode = opCPL ∧ i = .cpl p) ∨ (p.opcode = opCPLD ∧ i = .cplData p) ∨ (p.opcode = opCPLP ∧ i = .cplPosted p)) ∧ trackFor s p = some k ∧
      s.fab.tracks[k]? = some t ∧ t.ingress.isSome = true ∧ p.opcode = opCPLP) ∧
    (∃ (s : State) (p : Packet) (i : Instr) (k : Nat) (t : Track), s.Delivered p ∧
      ((p.opcode = opCPL ∧ i = .cpl p) ∨ (p.opcode = opCPLD ∧ i = .cplData p) ∨ (p.opcode = opCPLP ∧ i = .cplPosted p)) ∧ trackFor s p = some k ∧
      s.fab.tracks[k]? = some t ∧ t.ingress.isSome = true ∧ p.opcode ≠ opCPLP) ∧
    (∃ (s : State) (p : Packet) (i : Instr) (k : Nat) (t : Track), s.Delivered p ∧
      ((p.opcode = opCPL ∧ i = .cpl p) ∨ (p.opcode = opCPLD ∧ i = .cplData p) ∨ (p.opcode = opCPLP ∧ i = .cplPosted p)) ∧ trackFor s p = some k ∧
      s.fab.tracks[k]? = some t ∧ t.ingress = none ∧ p.status = BUSY) ∧
    (∃ (s : State) (p : Packet) (i : Instr) (k : Nat) (t : Track) (u : State), s.Delivered p ∧
      ((p.opcode = opCPL ∧ i = .cpl p) ∨ (p.opcode = opCPLD ∧ i = .cplData p) ∨ (p.opcode = opCPLP ∧ i = .cplPosted p)) ∧ trackFor s p = some k ∧
      s.fab.tracks[k]? = some t ∧ t.ingress = none ∧ p.status = OK ∧
      u = (if t.pkt.opcode ≠ opRDV ∧ p.fwd = false then locFill (s.taking p) t.pkt.port t.pkt.place p.srcNode else s.taking p) ∧
      cplOf t.pkt.opcode ≠ opCPLD) ∧
    (∃ (s : State) (p : Packet) (i : Instr) (k : Nat) (t : Track) (u : State), s.Delivered p ∧
      ((p.opcode = opCPL ∧ i = .cpl p) ∨ (p.opcode = opCPLD ∧ i = .cplData p) ∨ (p.opcode = opCPLP ∧ i = .cplPosted p)) ∧ trackFor s p = some k ∧
      s.fab.tracks[k]? = some t ∧ t.ingress = none ∧ p.status = OK ∧
      u = (if t.pkt.opcode ≠ opRDV ∧ p.fwd = false then locFill (s.taking p) t.pkt.port t.pkt.place p.srcNode else s.taking p) ∧
      cplOf t.pkt.opcode = opCPLD ∧ p.poison = false ∧ replyOk t p = true) ∧
    (∃ (s : State) (p : Packet), s.Delivered p ∧ p.opcode = opCTRL) ∧
    (∃ (s : State) (p : Packet), s.Delivered p ∧ p.opcode = opCTRL ∧ (bits (leNat p.payload) 0 8 < 16 ∨ 37 < bits (leNat p.payload) 0 8)) :=
  ⟨⟨deliveredTo up { opcode := opCPL, addr := 2 ^ 50 }, { opcode := opCPL, addr := 2 ^ 50 }, .cpl { opcode := opCPL, addr := 2 ^ 50 }, (by decide),
      Or.inl ⟨rfl, rfl⟩, (by decide)⟩,
   ⟨deliveredTo { up with fab := { up.fab with tracks := [{ ingress := some 1, pkt := { opcode := opWRP } }] } } { opcode := opCPLP },
      { opcode := opCPLP }, .cplPosted { opcode := opCPLP }, 0, { ingress := some 1, pkt := { opcode := opWRP } }, (by decide),
      Or.inr (Or.inr ⟨rfl, rfl⟩), (by decide), (by decide), (by decide), (by decide)⟩,
   ⟨deliveredTo { up with fab := { up.fab with tracks := [{ ingress := some 1, pkt := { opcode := opWR } }] } } { opcode := opCPL },
      { opcode := opCPL }, .cpl { opcode := opCPL }, 0, { ingress := some 1, pkt := { opcode := opWR } }, (by decide), Or.inl ⟨rfl, rfl⟩,
      (by decide), (by decide), (by decide), (by decide)⟩,
   ⟨deliveredTo { up with fab := { up.fab with tracks := [{ pkt := { opcode := opWR, srcNode := 8 } }] } } { opcode := opCPL, addr := 2 ^ 50, status := 1 },
      { opcode := opCPL, addr := 2 ^ 50, status := 1 }, .cpl { opcode := opCPL, addr := 2 ^ 50, status := 1 }, 0,
      { pkt := { opcode := opWR, srcNode := 8 } }, (by decide), Or.inl ⟨rfl, rfl⟩, (by decide), (by decide), (by decide), (by decide)⟩,
   ⟨deliveredTo { up with fab := { up.fab with tracks := [({ pkt := { opcode := opWR, srcNode := 8 } } : Track)] } } ({ opcode := opCPL, addr := 2 ^ 50 } : Packet),
      { opcode := opCPL, addr := 2 ^ 50 }, .cpl ({ opcode := opCPL, addr := 2 ^ 50 } : Packet), 0, { pkt := { opcode := opWR, srcNode := 8 } }, _,
      (by decide +kernel), (by decide +kernel), (by decide +kernel), (by decide +kernel), (by decide +kernel), (by decide +kernel), rfl,
      (by decide +kernel)⟩,
   ⟨deliveredTo { up with fab := { up.fab with tracks := [({ pkt := { opcode := opRD, srcNode := 8, len := 8 } } : Track)] } } ({ opcode := opCPLD, addr := 2 ^ 50, len := 8, payload := List.replicate 8 0 } : Packet),
      { opcode := opCPLD, addr := 2 ^ 50, len := 8, payload := List.replicate 8 0 },
      .cplData ({ opcode := opCPLD, addr := 2 ^ 50, len := 8, payload := List.replicate 8 0 } : Packet), 0,
      { pkt := { opcode := opRD, srcNode := 8, len := 8 } }, _, (by decide +kernel), (by decide +kernel), (by decide +kernel),
      (by decide +kernel), (by decide +kernel), (by decide +kernel), rfl, (by decide +kernel), (by decide +kernel), (by decide +kernel)⟩,
   ⟨deliveredTo up { opcode := opCTRL, addr := 2 ^ 50 }, { opcode := opCTRL, addr := 2 ^ 50 }, by decide⟩,
   ⟨deliveredTo up ({ opcode := opCTRL, addr := 2 ^ 50 } : Packet), { opcode := opCTRL, addr := 2 ^ 50 }, by decide +kernel⟩⟩

theorem witness_CollectivePacketsDriveTheOperationOfTheirGroup :
    (∃ (s : State) (p : Packet) (i : Instr), s.Delivered p ∧
      ((p.opcode = opJOIN ∧ i = .join p) ∨ (p.opcode = opCONTRIB ∧ i = .contrib p) ∨ (p.opcode = opPARTIAL ∧ i = .partialPkt p) ∨ (p.opcode = opRESULT ∧ i = .result p) ∨ (p.opcode = opACK ∧ i = .ack p) ∨ (p.opcode = opNACK ∧ i = .nack p) ∨ (p.opcode = opDONE ∧ i = .done p) ∨ (p.opcode = opABORT ∧ i = .abort p) ∨ (p.opcode = opRESET ∧ i = .reset p)) ∧
      nodeOf s p.group = none) ∧
    (∃ (s : State) (p : Packet) (slot : Nat) (who : Nat) (n : CollNode), s.Relative p slot who n ∧ p.opcode = opJOIN ∧ (who < 4096 ∨ n.apex = true)) ∧
    (∃ (s : State) (p : Packet) (slot : Nat) (who : Nat) (n : CollNode) (i : Instr), s.Relative p slot who n ∧
      ((p.opcode = opCONTRIB ∧ who < 4096 ∧ i = .contrib p) ∨ (p.opcode = opPARTIAL ∧ 4096 ≤ who ∧ n.apex = true ∧ i = .partialPkt p) ∨ (p.opcode = opRESULT ∧ 4096 ≤ who ∧ n.apex = false ∧ i = .result p)) ∧
      n.st = 1 ∧ n.digest = some p.digest) ∧
    (∃ (s : State) (p : Packet) (slot : Nat) (who : Nat) (n : CollNode) (i : Instr), s.Relative p slot who n ∧
      ((p.opcode = opCONTRIB ∧ who < 4096 ∧ i = .contrib p) ∨ (p.opcode = opPARTIAL ∧ 4096 ≤ who ∧ n.apex = true ∧ i = .partialPkt p) ∨ (p.opcode = opRESULT ∧ 4096 ≤ who ∧ n.apex = false ∧ i = .result p)) ∧
      n.st = 0 ∧ p.opcode ≠ opRESULT) ∧
    (∃ (s : State) (p : Packet) (slot : Nat) (who : Nat) (n : CollNode) (i : Instr) (d : _), s.Relative p slot who n ∧
      ((p.opcode = opCONTRIB ∧ who < 4096 ∧ i = .contrib p) ∨ (p.opcode = opPARTIAL ∧ 4096 ≤ who ∧ n.apex = true ∧ i = .partialPkt p) ∨ (p.opcode = opRESULT ∧ 4096 ≤ who ∧ n.apex = false ∧ i = .result p)) ∧
      n.st = 1 ∧ n.digest = some d ∧ d ≠ p.digest) ∧
    (∃ (s : State) (p : Packet) (slot : Nat) (who : Nat) (i : Nat) (n : CollNode) (o : CollOp), s.Relative p slot who n ∧ p.opcode = opACK ∧
      n.opOf = some o ∧ ackBits p = [i] ∧ (who < 4096 ∨ n.apex = true)) ∧
    (∃ (s : State) (p : Packet) (slot : Nat) (who : Nat) (i : Nat) (n : CollNode) (o : CollOp), s.Relative p slot who n ∧ p.opcode = opACK ∧
      n.opOf = some o ∧ ackBits p = [i] ∧ 4096 ≤ who ∧ n.apex = false) ∧
    (∃ (s : State) (p : Packet) (slot : Nat) (who : Nat) (n : CollNode) (o : CollOp), s.Relative p slot who n ∧ p.opcode = opNACK ∧ n.opOf = some o ∧
      who < 4096) ∧
    (∃ (s : State) (p : Packet) (slot : Nat) (who : Nat) (n : CollNode) (o : CollOp) (pk : _), s.Relative p slot who n ∧ p.opcode = opNACK ∧
      n.opOf = some o ∧ 4096 ≤ who ∧ AMap.find n.sentParts (verdictName o who p) = some pk) ∧
    (∃ (s : State) (p : Packet) (slot : Nat) (who : Nat) (n : CollNode), s.Relative p slot who n ∧ 4096 ≤ who ∧ n.apex = false ∧ p.opcode = opDONE ∧
      n.st = 1 ∧ n.digest = some p.digest) ∧
    (∃ (s : State) (p : Packet) (slot : Nat) (who : Nat) (n : CollNode) (d : _), s.Relative p slot who n ∧ 4096 ≤ who ∧ n.apex = false ∧
      p.opcode = opDONE ∧ n.st = 1 ∧ n.digest = some d ∧ d ≠ p.digest) ∧
    (∃ (s : State) (p : Packet) (slot : Nat) (who : Nat) (n : CollNode), s.Relative p slot who n ∧ 4096 ≤ who ∧ n.apex = false ∧ p.opcode = opABORT ∧
      n.st ≠ 2) ∧
    (∃ (s : State) (p : Packet) (slot : Nat) (who : Nat) (n : CollNode), s.Relative p slot who n ∧ 4096 ≤ who ∧ n.apex = false ∧ p.opcode = opRESET ∧
      s.isUnitFenced 3 n.xd = false) :=
  ⟨⟨deliveredTo up { opcode := opJOIN }, { opcode := opJOIN }, .join { opcode := opJOIN }, (by decide), Or.inl ⟨rfl, rfl⟩, (by decide)⟩,
   ⟨deliveredTo (withNode ({ node0 with members := [(0, 1), (1, 16 + 1024)] } : CollNode)) ({ opcode := opJOIN, group := 5, part := 1, srcNode := 0, inPort := 1 } : Packet),
      { opcode := opJOIN, group := 5, part := 1, srcNode := 0, inPort := 1 }, 0, 0, { node0 with members := [(0, 1), (1, 16 + 1024)] },
      by decide +kernel⟩,
   ⟨deliveredTo (withNode ({ node0 with members := [(0, 1), (1, 16 + 1024)], st := 1, digest := some 3 } : CollNode)) ({ opcode := opCONTRIB, digest := 3, group := 5, part := 1, srcNode := 0, inPort := 1 } : Packet),
      { opcode := opCONTRIB, digest := 3, group := 5, part := 1, srcNode := 0, inPort := 1 }, 0, 0,
      { node0 with members := [(0, 1), (1, 16 + 1024)], st := 1, digest := some 3 },
      .contrib ({ opcode := opCONTRIB, digest := 3, group := 5, part := 1, srcNode := 0, inPort := 1 } : Packet), by decide +kernel⟩,
   ⟨deliveredTo (withNode ({ node0 with members := [(0, 1), (1, 16 + 1024)] } : CollNode)) ({ opcode := opCONTRIB, digest := 3, group := 5, part := 1, srcNode := 0, inPort := 1 } : Packet),
      { opcode := opCONTRIB, digest := 3, group := 5, part := 1, srcNode := 0, inPort := 1 }, 0, 0,
      { node0 with members := [(0, 1), (1, 16 + 1024)] },
      .contrib ({ opcode := opCONTRIB, digest := 3, group := 5, part := 1, srcNode := 0, inPort := 1 } : Packet), by decide +kernel⟩,
   ⟨deliveredTo (withNode ({ node0 with members := [(0, 1), (1, 16 + 1024)], st := 1, digest := some 4 } : CollNode)) ({ opcode := opCONTRIB, digest := 3, group := 5, part := 1, srcNode := 0, inPort := 1 } : Packet),
      { opcode := opCONTRIB, digest := 3, group := 5, part := 1, srcNode := 0, inPort := 1 }, 0, 0,
      { node0 with members := [(0, 1), (1, 16 + 1024)], st := 1, digest := some 4 },
      .contrib ({ opcode := opCONTRIB, digest := 3, group := 5, part := 1, srcNode := 0, inPort := 1 } : Packet), 4, by decide +kernel⟩,
   ⟨deliveredTo (withNode ({ node0 with members := [(0, 1), (1, 16 + 1024)], desc := some 0 } : CollNode)) ({ opcode := opACK, len := 8, payload := [1, 0, 0, 0, 0, 0, 0, 0], group := 5, part := 1, srcNode := 0, inPort := 1 } : Packet),
      { opcode := opACK, len := 8, payload := [1, 0, 0, 0, 0, 0, 0, 0], group := 5, part := 1, srcNode := 0, inPort := 1 }, 0, 0, 0,
      { node0 with members := [(0, 1), (1, 16 + 1024)], desc := some 0 }, collOpOf 0, by decide +kernel⟩,
   ⟨deliveredTo (withNode ({ node0 with apexNode := 24, desc := some 0 } : CollNode)) ({ opcode := opACK, len := 8, payload := [1, 0, 0, 0, 0, 0, 0, 0], group := 5, part := 1, srcNode := 24, inPort := 0 } : Packet),
      { opcode := opACK, len := 8, payload := [1, 0, 0, 0, 0, 0, 0, 0], group := 5, part := 1, srcNode := 24, inPort := 0 }, 0, 4120, 0,
      { node0 with apexNode := 24, desc := some 0 }, collOpOf 0, by decide +kernel⟩,
   ⟨deliveredTo (withNode ({ node0 with members := [(0, 1), (1, 16 + 1024)], desc := some 0 } : CollNode)) ({ opcode := opNACK, group := 5, part := 1, srcNode := 0, inPort := 1 } : Packet),
      { opcode := opNACK, group := 5, part := 1, srcNode := 0, inPort := 1 }, 0, 0,
      { node0 with members := [(0, 1), (1, 16 + 1024)], desc := some 0 }, collOpOf 0, by decide +kernel⟩,
   ⟨deliveredTo (withNode ({ node0 with apexNode := 24, desc := some 0, sentParts := [(verdictName (collOpOf 0) 4120 ({ opcode := opNACK, group := 5, part := 1, srcNode := 24, inPort := 0 } : Packet), [])] } : CollNode)) ({ opcode := opNACK, group := 5, part := 1, srcNode := 24, inPort := 0 } : Packet),
      { opcode := opNACK, group := 5, part := 1, srcNode := 24, inPort := 0 }, 0, 4120,
      { node0 with apexNode := 24, desc := some 0, sentParts := [(verdictName (collOpOf 0) 4120 ({ opcode := opNACK, group := 5, part := 1, srcNode := 24, inPort := 0 } : Packet), [])] },
      collOpOf 0, [], by decide +kernel⟩,
   ⟨deliveredTo (withNode { node0 with st := 1, digest := some 0, apexNode := 24 }) { opcode := opDONE, group := 5, part := 1, srcNode := 24 },
      { opcode := opDONE, group := 5, part := 1, srcNode := 24 }, 0, 4120, { node0 with st := 1, digest := some 0, apexNode := 24 }, by decide⟩,
   ⟨deliveredTo (withNode ({ node0 with st := 1, digest := some 4, apexNode := 24 } : CollNode)) ({ opcode := opDONE, group := 5, part := 1, srcNode := 24, inPort := 0 } : Packet),
      { opcode := opDONE, group := 5, part := 1, srcNode := 24, inPort := 0 }, 0, 4120, { node0 with st := 1, digest := some 4, apexNode := 24 },
      4, by decide +kernel⟩,
   ⟨deliveredTo (withNode ({ node0 with st := 1, digest := some 0, apexNode := 24 } : CollNode)) ({ opcode := opABORT, group := 5, part := 1, srcNode := 24, inPort := 0 } : Packet),
      { opcode := opABORT, group := 5, part := 1, srcNode := 24, inPort := 0 }, 0, 4120, { node0 with st := 1, digest := some 0, apexNode := 24 },
      by decide +kernel⟩,
   ⟨deliveredTo (withNode { node0 with apexNode := 24 }) { opcode := opRESET, group := 5, part := 1, srcNode := 24 },
      { opcode := opRESET, group := 5, part := 1, srcNode := 24 }, 0, 4120, { node0 with apexNode := 24 }, by decide⟩⟩

theorem witness_CollectiveNodesCombineJudgeTimeOutAndInstall :
    (∃ (s : State) (die : Nat) (k : Nat) (slot : Nat) (w : AMap Int) (u : CollUnit), s.Settled ∧ die < 4 ∧ s.isUnitFenced 3 die = false ∧
      wrrPick s die = some (k, w) ∧ waitingIn s die k = [slot] ∧ (s.node slot).units.find? (·.stream == k) = some u) ∧
    (∃ (s : State) (d : State) (a : State) (b : State) (c : State) (g : Nat) (k : Nat) (chunk : Nat) (slot : Nat) (j : Join) (n : CollNode) (js : List (Nat × Nat × Bool)),
      s.Settled ∧ AMap.find (s.grp g).joins k = some j ∧ chunk < j.counted ∧ AMap.find j.verdicts chunk = none ∧
      chunkReadable s g k chunk = true ∧ nodeOf s j.group = some (slot, n) ∧ js = j.subs.filter (fun x => x.1 / 4 == chunk) ∧
      d = js.foldl (fun s x => drainRange s (subPlace j x.1).1 (subPlace j x.1).2) s ∧ (∀ x ∈ js, subStoredOk d j x.1 x.2.1 x.2.2 = true) ∧
      a = modJoin d g k (fun j => { j with verdicts := AMap.set j.verdicts chunk true }) ∧
      b = advanceAll (a.modGrp g fun x => { x with spec := x.spec.filter fun e => e.ref != refOf j chunk }) g ∧
      c = js.foldl (fun s x => ackResult s slot j.member (j.opOf.resultName j.n j.member chunk (x.1 % 4))) b) ∧
    (∃ (s : State) (group : Nat) (slot : Nat) (n : CollNode), s.Settled ∧ nodeOf s group = some (slot, n) ∧ s.node slot = n ∧ n.apex = true ∧
      n.st = 1) ∧
    (∃ (s : State) (g : Nat) (k : Nat) (slot : Nat) (qk : Nat) (j : Join) (n : CollNode) (q : HwQueue) (r : Running) (l : CmdList), s.Settled ∧
      AMap.find (s.grp g).joins k = some j ∧ (qk, q) ∈ (s.grp g).queues ∧ q.list = j.list ∧ r ∈ q.started ∧ r.opcode = 0x31 ∧ r.st = 0 ∧
      (s.grp g).list? q.list = some l ∧ bits (cmdAt l r.idx) 64 5 = j.slot ∧ joinFinished j = false ∧ nodeOf s j.group = some (slot, n) ∧
      s.node slot = n ∧ n.st = 1) ∧
    (∃ (s : State) (d : NodeDesc) (die : Nat), s.Settled ∧ s.coll.nodes.length < 1024 ∧ d.die = some die ∧ d.window * 16 ≤ cellsFree s die ∧
      nodeOf s d.group = none) ∧
    (∃ (s : State) (d : NodeDesc), s.Settled) ∧
    (∃ (s : State) (group : Nat) (key : Nat) (slot : Nat) (n : CollNode) (h : Retained), s.Settled ∧ nodeOf s group = some (slot, n) ∧
      AMap.find n.held key = some h) :=
  ⟨⟨withNode { node0 with units := [{}] }, 0, 0, 0, ((wrrPick (withNode { node0 with units := [{}] }) 0).getD (0, [])).2, {}, by decide⟩,
   ⟨judgeS, _, _, _, _, 0, 0, 0, 0, judgeJ, node0, judgeJ.subs, (by decide +kernel), (by decide +kernel), (by decide +kernel), (by decide +kernel),
      (by decide +kernel), (by decide +kernel), (by decide +kernel), rfl, (by decide +kernel), rfl, rfl, rfl⟩,
   ⟨withNode { node0 with st := 1, apex := true }, 5, 0, { node0 with st := 1, apex := true }, by decide +kernel⟩,
   ⟨{ withNode { node0 with st := 1 } with groups := [(0, { lists := [list1 0x31], queues := [(0, { list := 1, started := [{ opcode := 0x31 }] })], joins := [(0, { group := 5, list := 1 })] })] },
      0, 0, 0, 0, { group := 5, list := 1 }, { node0 with st := 1 }, { list := 1, started := [{ opcode := 0x31 }] }, { opcode := 0x31 },
      list1 0x31, by decide +kernel⟩,
   ⟨up, { die := some 0 }, 0, by decide⟩,
   ⟨up, {}, by decide⟩,
   ⟨withNode { node0 with held := [(0, {})] }, 5, 0, 0, { node0 with held := [(0, {})] }, {}, by decide⟩⟩

theorem witness_ChunksLanesAndTrackersMoveOn :
    (∃ (s : State) (src : Nat) (port : Nat) (block : Nat) (c : OpenChunk), s.Settled ∧ s.mem.chunks.find? (chunkAt src port block) = some c ∧
      c.chkLen = some c.bytes ∧ chunkWaits s c = false ∧ c.control = false ∧ c.bad = false ∧ s.mem.lanes = [] ∧ (∀ x ∈ c.got, x.2.2.2 = true) ∧
      crc64 (chunkBytes s c) = c.crc) ∧
    (∃ (s : State) (src : Nat) (port : Nat) (block : Nat) (c : OpenChunk), s.Settled ∧ s.mem.chunks.find? (chunkAt src port block) = some c ∧
      c.chkLen = some c.bytes ∧ chunkWaits s c = false ∧ c.control = false ∧ c.bad = false ∧ s.mem.lanes = [] ∧ (∀ x ∈ c.got, x.2.2.2 = true) ∧
      crc64 (chunkBytes s c) ≠ c.crc) ∧
    (∃ (s : State) (src : Nat) (port : Nat) (block : Nat) (c : OpenChunk), s.Settled ∧ s.mem.chunks.find? (chunkAt src port block) = some c ∧
      c.chkLen = none) ∧
    (∃ (s : State) (n : Nat) (key : Nat) (part : Nat) (l : Lane) (d : Bytes) (rest : List LaneItem), s.Settled ∧ s.MemCanonical ∧
      s.mem.lanes = .write (.stack n) l key d part false :: rest ∧ key + d.length ≤ 0x020000000000 ∧ s.mem.upsets = []) ∧
    (∃ (s : State) (i : Nat) (t : Track), s.Settled ∧ s.fab.tracks[i]? = some t ∧ t.timedOut = false ∧ t.held = false ∧
      trackWaits s.fab.tracks i = false) ∧
    (∃ (s : State) (i : Nat) (t : Track), s.Settled ∧ s.fab.tracks[i]? = some t ∧ t.timedOut = true) ∧
    (∃ (s : State) (i : Nat) (t : Track), s.Settled ∧ s.fab.tracks[i]? = some t ∧ t.timedOut = true ∧ (∀ u ∈ s.fab.tracks, u.tag < 4096) ∧
      (∀ k, trackWaits s.fab.tracks k = false)) ∧
    (∃ (s : State) (i : Nat) (t : Track), s.Settled ∧ s.fab.tracks[i]? = some t ∧ t.timedOut = false ∧ t.retryDue = true) :=
  ⟨⟨{ up with mem := { up.mem with chunks := [{ chkLen := some 0, crc := crc64 [] }] } }, 0, 0, 0, { chkLen := some 0, crc := crc64 [] }, by decide⟩,
   ⟨{ up with mem := { up.mem with chunks := [{ chkLen := some 0, crc := crc64 [] + 1 }] } }, 0, 0, 0, { chkLen := some 0, crc := crc64 [] + 1 },
      by decide⟩,
   ⟨{ up with mem := { up.mem with chunks := [{}] } }, 0, 0, 0, {}, by decide⟩,
   ⟨{ upm with mem := { upm.mem with lanes := [.write (.stack 0) .package 0 [1] 1 false] } }, 0, 0, 1, .package, [1], [], by decide +kernel⟩,
   ⟨{ up with fab := { up.fab with tracks := [{}] } }, 0, {}, by decide +kernel⟩,
   ⟨{ up with fab := { up.fab with tracks := [{ timedOut := true }] } }, 0, { timedOut := true }, by decide⟩,
   ⟨{ up with fab := { up.fab with tracks := [{ timedOut := true }] } }, 0, { timedOut := true }, (by decide +kernel), (by decide +kernel),
      (by decide +kernel), (by decide +kernel), (fun k => by cases k <;> rfl)⟩,
   ⟨{ up with fab := { up.fab with tracks := [{ retryDue := true }] } }, 0, { retryDue := true }, by decide⟩⟩

theorem witness_PacketsAreRoutedQueuedAndLeave :
    (∃ (s : State) (port : Nat) (vc : Nat) (i : Nat) (q : QPkt), s.Settled ∧ findIdx (fun q => q.port == port && q.vc == vc) s.fab.inbuf = some i ∧
      s.fab.inbuf[i]? = some q ∧ s.isUnitFenced 4 (pktDie s q.pkt) = false ∧ forHere s q.pkt = true) ∧
    (∃ (s : State) (port : Nat) (vc : Nat) (i : Nat) (out : Nat) (q : QPkt), s.Settled ∧
      findIdx (fun q => q.port == port && q.vc == vc) s.fab.inbuf = some i ∧ s.fab.inbuf[i]? = some q ∧
      s.isUnitFenced 4 (pktDie s q.pkt) = false ∧ forHere s q.pkt = false ∧ s.route.st ≠ 2 ∧ q.pkt.inPort < 128 ∧ fromEp s q.pkt = false ∧
      q.pkt.epoch = s.route.active.epoch ∧ isCplOp q.pkt.opcode = false ∧ q.vc ≠ 3 ∧ q.vc ≠ 6 ∧
      routeOf s s.route.active q.pkt q.vc = { ports := [out], adaptive := false, case := 0 } ∧ queueRoom s q.pkt out q.vc = true) ∧
    (∃ (s : State) (port : Nat) (vc : Nat) (i : Nat) (q : QPkt), s.Settled ∧ findIdx (fun q => q.port == port && q.vc == vc) s.fab.inbuf = some i ∧
      s.fab.inbuf[i]? = some q ∧ s.isUnitFenced 4 (pktDie s q.pkt) = false ∧ forHere s q.pkt = false ∧ s.route.st ≠ 2 ∧ q.pkt.inPort < 128 ∧
      fromEp s q.pkt = false ∧ q.pkt.epoch = s.route.active.epoch ∧ routeOf s s.route.active q.pkt q.vc = {}) ∧
    (∃ (s : State) (s' : State) (port : Nat) (i : Nat) (q : QPkt), s.Settled ∧ (s.prt port).st = 2 ∧ s.present port = true ∧ s.live port = true ∧
      pickNext s port = (s', some (i, q)) ∧ (s.prt port).replay.length + (packetFrames q.pkt).length ≤ 256) ∧
    (∃ (s : State) (port : Nat), s.Settled ∧ (s.prt port).st = 2 ∧ s.present port = true ∧ s.live port = false ∧ (s.prt port).txIdle = false) ∧
    (∃ (s : State) (port : Nat) (vc : Nat) (i : Nat) (p : Nat) (l : List Nat) (q : QPkt), s.Settled ∧
      (findIdx (fun q => q.port == port && q.vc == vc) s.fab.inbuf = some i) ∧ s.fab.inbuf[i]? = some q ∧ 1 ≤ vc ∧ vc ≤ 4 ∧
      forHere s q.pkt = false ∧ (routeOf s (bankOf s q.pkt).1 q.pkt vc).ports = p :: l ∧ (p :: l).any (creditOk s · q.pkt vc) = false) ∧
    (∃ (s : State) (port : Nat) (i : Nat), s.Settled ∧ (findIdx (fun q => q.port == port && q.pkt.colour == 2 && ! q.waitedRed) s.fab.outq = some i)) ∧
    (∃ (s : State) (port : Nat) (vc : Nat) (i : Nat) (q : QPkt), s.Settled ∧ (findIdx (fun q => q.port == port && q.vc == vc) s.fab.outq = some i) ∧
      s.fab.outq[i]? = some q) ∧
    (∃ (s : State) (die : Nat), s.Settled ∧ die < 4 ∧ (∀ q ∈ s.fab.outq, q.port < 128 ∧ q.vc < 8)) :=
  ⟨⟨{ up with fab := { up.fab with inbuf := [{ pkt := { opcode := opRD, addr := 2 ^ 50 } }] } }, 0, 1, 0,
      { pkt := { opcode := opRD, addr := 2 ^ 50 } }, by decide +kernel⟩,
   ⟨{ withPort { st := 2, accepted := true, inSets := true } with fab := { up.fab with inbuf := [{ pkt := { opcode := opRD, addr := 24 * 2 ^ 47, inPort := 0 } }] }, route := { up.route with active := { entries := [(1, { valid := true, maskA := 1 })] } } },
      0, 1, 0, 0, { pkt := { opcode := opRD, addr := 24 * 2 ^ 47, inPort := 0 } }, by decide +kernel⟩,
   ⟨{ up with fab := { up.fab with inbuf := [{ pkt := { opcode := opRD, addr := 24 * 2 ^ 47, inPort := 0 } }] } }, 0, 1, 0,
      { pkt := { opcode := opRD, addr := 24 * 2 ^ 47, inPort := 0 } }, by decide +kernel⟩,
   ⟨{ withPort { st := 2, accepted := true, inSets := true, credits := [(5, 100)] } with fab := { up.fab with outq := [{ vc := 5, pkt := { opcode := opCTRL, vc := 5 } }] } },
      { withPort { st := 2, accepted := true, inSets := true, credits := [(5, 100)] } with fab := { up.fab with outq := [{ vc := 5, pkt := { opcode := opCTRL, vc := 5 } }] } },
      0, 0, { vc := 5, pkt := { opcode := opCTRL, vc := 5 } }, by decide⟩,
   ⟨withPort { st := 2 }, 0, by decide⟩,
   ⟨{ withPort { st := 2, accepted := true, inSets := true } with fab := { up.fab with inbuf := [{ pkt := { opcode := opRD, addr := 24 * 2 ^ 47, inPort := 0 } }] }, route := { up.route with active := { entries := [(1, { valid := true, maskA := 1 })] } } },
      0, 1, 0, 0, [], { pkt := { opcode := opRD, addr := 24 * 2 ^ 47, inPort := 0 } }, by decide⟩,
   ⟨{ up with fab := { up.fab with outq := [{ pkt := { colour := 2 } }] } }, 0, 0, by decide⟩,
   ⟨{ up with fab := { up.fab with outq := [{}] } }, 0, 1, 0, {}, by decide⟩,
   ⟨{ up with fab := { up.fab with outq := [{}] } }, 0, by decide⟩⟩

theorem witness_TableChangesHoldDrainSwitchAndRetire :
    (∃ (s : State), s.Settled ∧ s.route.committed = true ∧ s.route.st = 1 ∧ s.route.drainAt ≤ s.time.lfc) ∧
    (∃ (s : State), s.Settled ∧ s.route.st = 2 ∧ s.route.sentDrained = false ∧ transitCount s = 0) ∧
    (∃ (s : State) (node : Nat) (frame : Nat), s.Settled ∧ s.route.committed = true ∧ s.route.st ≤ 2 ∧ (otherPackages s).contains node = true) ∧
    (∃ (s : State) (b : Bank), s.Settled ∧ s.route.st = 2 ∧ s.route.staged = some b ∧ s.route.sentDrained = true ∧
      (otherPackages s).all (AMap.has s.route.drainedBy) = true ∧ s.time.lfc ≤ s.route.drainAt + s.route.drainFrames ∧
      s.time.lfc = (s.route.drainedBy.map (·.2)).foldl max 0 + 2) ∧
    (∃ (s : State) (b : Bank), s.Settled ∧ s.route.st = 2 ∧ s.route.staged = some b ∧ s.route.drainAt + s.route.drainFrames ≤ s.time.lfc) ∧
    (∃ (s : State), s.Settled ∧ s.route.st = 3 ∧ s.route.drainAt + s.route.drainFrames + 16 ≤ s.time.lfc ∧ oldPackets s = 0) ∧
    (∃ (s : State) (port : Nat) (node : Nat) (e : PortEntry), s.Settled ∧ s.manPort port = some e ∧ e.endPoint = false ∧
      (node % 16 = 8 ∨ node % 16 = 9) ∧ s.straps.role = 0 ∧ e.node ≠ s.partner) :=
  ⟨⟨{ up with route := { up.route with committed := true, st := 1 } }, by decide⟩,
   ⟨{ up with route := { up.route with st := 2 } }, by decide⟩,
   ⟨{ up with route := { up.route with committed := true } }, 24, 0, by decide⟩,
   ⟨{ up with route := { up.route with st := 2, staged := some {}, sentDrained := true, drainedBy := [(9, 3), (24, 4), (25, 1), (40, 0)] }, time := { up.time with lfc := 6 } },
      {}, by decide⟩,
   ⟨{ up with route := { up.route with st := 2, staged := some {} }, time := { up.time with lfc := 60 } }, {}, by decide⟩,
   ⟨{ up with route := { up.route with st := 3 }, time := { up.time with lfc := 60 } }, by decide⟩,
   ⟨up, 0, 9, { node := 24 }, by decide⟩⟩

theorem witness_TrainingBlocksMoveAPort :
    (∃ (s : State) (p : Nat) (lane : Nat) (body : BitVec 56), s.Settled ∧ s.present p = true ∧ lane < 4 ∧ blockOk body 0 = true ∧ (s.prt p).st = 1 ∧
      (s.prt p).trainStep = 1 ∧ bits body.toNat 4 2 = lane) ∧
    (∃ (s : State) (p : Nat) (lane : Nat) (body : BitVec 56), s.Settled ∧ s.present p = true ∧ lane < 4 ∧ blockOk body 1 = true ∧
      ((s.prt p).st = 1 ∨ (s.prt p).st = 4) ∧ (s.prt p).trainStep = 2) ∧
    (∃ (s : State) (p : Nat) (lane : Nat) (body : BitVec 56), s.Settled ∧ s.present p = true ∧ lane < 4 ∧ blockOk body 2 = true ∧ (s.prt p).st = 1 ∧
      (s.prt p).trainStep = 3 ∧ bits body.toNat 28 10 = 0 ∧ bitAt body.toNat 43 = true) ∧
    (∃ (s : State) (p : Nat) (lane : Nat) (body : BitVec 56), s.Settled ∧ s.present p = true ∧ lane < 4 ∧ blockOk body 3 = true ∧ (s.prt p).st = 2 ∧
      (s.prt p).rate < 3 ∧ (s.prt p).rate < (s.prt p).maxRate ∧ (bits body.toNat 22 4).testBit ((s.prt p).rate + 1) = true ∧
      (s.prt p).rateCapped = false ∧ (s.prt p).replayCount = 0) ∧
    (∃ (s : State) (p : Nat) (lane : Nat) (body : BitVec 56), s.Settled ∧ s.present p = true ∧ lane < 4 ∧ blockOk body 4 = true ∧ (s.prt p).st = 3 ∧
      bits body.toNat 26 2 = (s.prt p).target ∧ lane = 0) ∧
    (∃ (s : State) (p : Nat) (lane : Nat) (body : BitVec 56), s.Settled ∧ s.present p = true ∧ lane < 4 ∧ blockOk body 5 = true ∧ lane = 0 ∧
      (s.prt p).trainStep = 4 ∧ (s.prt p).st = 3 ∧ 15 ≤ (s.prt p).readys ∧ (s.prt p).stepDue = false) ∧
    (∃ (s : State) (p : Nat) (lane : Nat) (body : BitVec 56), s.Settled ∧ s.present p = true ∧ lane < 4 ∧ blockOk body 6 = true ∧ lane = 0 ∧
      (s.prt p).st = 2 ∧ 15 ≤ (s.prt p).idleBlocks) ∧
    (∃ (s : State) (p : Nat) (lane : Nat) (body : BitVec 56), s.Settled ∧ s.present p = true ∧ lane < 4 ∧ blockOk body 7 = true ∧ lane = 0 ∧
      (s.prt p).st = 2 ∧ 63 ≤ (s.prt p).wakeBlocks) ∧
    (∃ (s : State) (p : Nat) (lane : Nat) (body : BitVec 56), s.Settled ∧ s.present p = true ∧ lane < 4 ∧ blockOk body 8 = true) ∧
    (∃ (s : State) (p : Nat), s.Settled ∧ (s.prt p).st = 2 ∧ (s.prt p).retrainAt = []) ∧
    (∃ (s : State) (p : Nat), s.Settled ∧ (s.prt p).st = 1 ∧ (s.prt p).tries < 3) ∧
    (∃ (s : State) (p : Nat), s.Settled ∧ (s.prt p).st = 1 ∧ 3 ≤ (s.prt p).tries) ∧
    (∃ (s : State) (p : Nat), s.Settled ∧ (s.prt p).st = 3) ∧
    (∃ (s : State) (p : Nat), s.Settled ∧ (s.prt p).st = 4) ∧
    (∃ (s : State) (p : Nat), s.Settled ∧ mayTrain s p = true ∧ ((s.prt p).st = 5 ∨ (s.prt p).st = 0)) ∧
    (∃ (s : State) (p : Nat), s.Settled ∧ (s.prt p).st = 2 ∧ (s.prt p).idleEn = true ∧ (s.prt p).txIdle = false ∧ (s.prt p).replay = [] ∧
      (s.prt p).returns = [] ∧ s.fab.outq = []) :=
  ⟨⟨withPort { st := 1, trainStep := 1 }, 0, 0, block0 0 0, by decide +kernel⟩,
   ⟨withPort { st := 1, trainStep := 2 }, 0, 0, block0 1 0, by decide +kernel⟩,
   ⟨withPort { st := 1, trainStep := 3 }, 0, 0, block0 2 (2 ^ 39), by decide +kernel⟩,
   ⟨withPort { st := 2 }, 0, 0, block0 3 (2 * 2 ^ 18), by decide +kernel⟩,
   ⟨withPort { st := 3 }, 0, 0, block0 4 0, by decide +kernel⟩,
   ⟨withPort { st := 3, trainStep := 4, readys := 15 }, 0, 0, block0 5 0, by decide +kernel⟩,
   ⟨withPort { st := 2, idleBlocks := 15 }, 0, 0, block0 6 0, by decide +kernel⟩,
   ⟨withPort { st := 2, wakeBlocks := 63 }, 0, 0, block0 7 0, by decide +kernel⟩,
   ⟨up, 0, 0, block0 8 0, by decide +kernel⟩,
   ⟨withPort { st := 2 }, 0, by decide⟩,
   ⟨withPort { st := 1 }, 0, by decide⟩,
   ⟨withPort { st := 1, tries := 3 }, 0, by decide⟩,
   ⟨withPort { st := 3 }, 0, by decide⟩,
   ⟨withPort { st := 4 }, 0, by decide⟩,
   ⟨up, 0, by decide⟩,
   ⟨withPort { st := 2, idleEn := true }, 0, by decide⟩⟩

set_option maxRecDepth 100000 in
theorem witness_FramesReplaysAndNeighboursOfAPort :
    (∃ (s : State) (p : Nat) (f : Frame), s.Settled ∧ s.present p = true ∧ (s.prt p).st = 2 ∧ f.payload.length = 256 ∧ f.crc ≠ frameCrc f) ∧
    (∃ (s : State) (p : Nat) (f : Frame), s.Settled ∧ s.present p = true ∧ (s.prt p).st = 2 ∧ f.payload.length = 256 ∧ (s.prt p).rate < 2) ∧
    (∃ (s : State) (p : Nat) (f : Frame), s.Settled ∧ s.present p = true ∧ (s.prt p).st = 2 ∧ f.payload.length = 256 ∧ f.fecBad = false ∧
      f.crc = frameCrc f ∧ f.seq ≠ (s.prt p).expected ∧ (f.seq + 1) % 1024 ≠ (s.prt p).expected) ∧
    (∃ (s : State) (p : Nat) (f : Frame), s.Settled ∧ s.present p = true ∧ (s.prt p).st = 2 ∧ f.payload.length = 256 ∧ f.fecBad = false ∧
      f.crc = frameCrc f ∧ f.seq = (s.prt p).expected ∧ f.side = true ∧ f.payload = List.replicate 256 0 ∧ (s.prt p).rx = []) ∧
    (∃ (s : State) (p : Nat), s.Settled ∧ (s.prt p).st = 2 ∧ (s.prt p).replay ≠ [] ∧ (s.prt p).replayCount < 7) ∧
    (∃ (s : State) (p : Nat), s.Settled ∧ (s.prt p).st ≠ 5 ∧ s.fab.outq = [] ∧ isEpPort s p = true) ∧
    (∃ (s : State) (p : Nat) (e : PortEntry), s.Settled ∧ s.manPort p = some e ∧ p < 128 ∧ (s.prt p).accepted = false ∧
      (s.prt p).quarantined = false ∧ (s.prt p).missing = false ∧ (s.prt p).heldDown = false ∧ (s.prt p).down = false ∧
      (s.prt p).heldEpo = false ∧ 2 ≤ s.flt.phase ∧ s.flt.phase ≠ 8) ∧
    (∃ (s : State) (p : Nat) (c : Nat) (node : Nat) (peer : Nat) (version : Nat) (o : Bytes) (e : PortEntry), s.Settled ∧ s.manPort p = some e ∧
      p < 128 ∧ e.endPoint = false ∧ (s.prt p).st = 2 ∧ (s.prt p).accepted = false ∧ (s.prt p).quarantined = false ∧ 2 ≤ s.flt.phase ∧
      s.flt.phase ≠ 8) :=
  ⟨⟨withPort { st := 2 }, 0, { payload := List.replicate 256 0, crc := frameCrc { payload := List.replicate 256 0 } + 1 }, by decide +kernel⟩,
   ⟨withPort { st := 2 }, 0, { payload := List.replicate 256 0, fecBad := true }, by decide +kernel⟩,
   ⟨withPort { st := 2 }, 0, { payload := List.replicate 256 0, seq := 5, crc := frameCrc { payload := List.replicate 256 0, seq := 5 } },
      by decide +kernel⟩,
   ⟨withPort { st := 2 }, 0, { payload := List.replicate 256 0, side := true, crc := frameCrc { payload := List.replicate 256 0, side := true } },
      by decide +kernel⟩,
   ⟨withPort { st := 2, replay := [{}] }, 0, by decide⟩,
   ⟨up, 1, by decide⟩,
   ⟨up, 0, { node := 24 }, by decide⟩,
   ⟨withPort { st := 2 }, 0, 0, 24, 0, 0, [], { node := 24 }, by decide⟩⟩

theorem witness_HeartbeatsAndLeasesWatchThePartner :
    (∃ (s : State) (heard : Nat) (mirror : Nat), s.Settled ∧ pairRuns s = true ∧ s.partner < 512 ∧ mirror ≤ 15248 ∧ s.flt.heardPartner = none ∧
      s.flt.selfFenced = false) ∧
    (∃ (s : State) (heard : Nat) (mirror : Nat), s.Settled ∧ pairRuns s = true ∧ s.partner < 512 ∧ mirror ≤ 15248 ∧ s.flt.heardPartner ≠ none ∧
      s.flt.pair ≠ 1 ∧ s.flt.selfFenced = false) ∧
    (∃ (s : State) (node : Nat) (heard : Nat) (mirror : Nat), s.Settled ∧ pairRuns s = true ∧ node < 512 ∧ node ≠ s.self ∧ node ≠ s.partner ∧
      mirror ≤ 15248 ∧ witnessOf s node = true) ∧
    (∃ (s : State) (node : Nat) (heard : Nat), s.Settled ∧ pairRuns s = true ∧ s.man.witnesses.contains node = true ∧ s.flt.pair ≠ 1 ∧
      s.flt.selfFenced = false) ∧
    (∃ (s : State), s.Settled ∧ pairRuns s = true) ∧
    (∃ (s : State), s.Settled ∧ leaseHeld s = false ∧ s.flt.selfFenced = false ∧ 3 ≤ s.flt.phase) ∧
    (∃ (s : State) (h : Nat), s.Settled ∧ s.flt.heardPartner = some h ∧ s.flt.pair = 0 ∧ h + 3 ≤ s.time.lfc ∧ pairRuns s = true ∧
      s.fab.dead.length < 64) :=
  ⟨⟨up, 0, 0, by decide⟩,
   ⟨{ up with flt := { up.flt with heardPartner := some 0 } }, 0, 0, by decide⟩,
   ⟨up, 24, 0, 0, by decide⟩,
   ⟨up, 24, 0, by decide⟩,
   ⟨up, by decide⟩,
   ⟨{ up with flt := { up.flt with heardPartner := some 0 }, time := { up.time with lfc := 100 } }, by decide⟩,
   ⟨{ up with flt := { up.flt with heardPartner := some 0 }, time := { up.time with lfc := 100 } }, 0, by decide⟩⟩

theorem witness_PromotionHandbackAndMigration :
    (∃ (s : State) (h : Nat) (reports : List WitnessReport), s.Settled ∧ s.flt.heardPartner = some h ∧ s.flt.pair = 1 ∧ h + 48 ≤ s.time.lfc ∧
      3 ≤ s.man.witnesses.length ∧ leaseHeld s = true ∧ ((∀ w ∈ s.man.witnesses, ∃ r ∈ reports, r.node = w ∧ r.heard + 32 ≤ s.time.lfc)) ∧
      s.mem.mirrorDir = [] ∧ s.seqs.mirror = [] ∧ s.coll.nodes = [] ∧
      (∀ x ∈ s.mem.dir, inPackage x.2.home s.partner = false ∧ inPackage x.2.src s.partner = false)) ∧
    (∃ (s : State), s.Settled ∧ s.flt.heardPartner ≠ none ∧ s.flt.pair < 2 ∧ pairRuns s = true ∧ s.mem.mirrorDir = [] ∧ s.seqs.mirror = [] ∧
      s.coll.nodes = [] ∧ (∀ x ∈ s.mem.dir, inPackage x.2.home s.partner = false ∧ inPackage x.2.src s.partner = false)) ∧
    (∃ (s : State) (p : Nat) (e : DirEntry), s.Settled ∧ s.flt.heardPartner ≠ none ∧ s.flt.pair < 2 ∧ pairRuns s = true ∧ s.mem.mirrorDir = [(p, e)] ∧
      p < 2 ^ 20 ∧ e.st = 1 ∧ inPackage e.home s.self = true ∧ dataFrames s ≤ e.home.frame ∧ s.partner ≠ s.self ∧ (entOf s s.partner p).st ≠ 1 ∧
      s.mem.dir = [] ∧ s.seqs.mirror = [] ∧ s.coll.nodes = []) ∧
    (∃ (s : State) (x : Nat), s.Settled ∧ s.flt.handbackAt = some x ∧ s.flt.pair = 3 ∧ x ≤ s.time.lfc) ∧
    (∃ (s : State) (r : SeqRecord), s.Settled ∧ r.move = false ∧ 16384 ≤ s.seqs.ctxs.length) ∧
    (∃ (s : State) (r : SeqRecord), s.Settled ∧ r.move = false ∧ s.seqs.ctxs.length < 16384) ∧
    (∃ (s : State) (c : Nat) (base : Nat) (m : Master) (move : Bool) (x : SeqCtx), s.Settled ∧ s.seqCtx c = some x ∧ x.mig = some (m, base, move) ∧
      s.mbx.cur = none) ∧
    (∃ (s : State) (c : Nat) (base : Nat) (m : Master) (move : Bool) (x : SeqCtx) (n : Nat), s.Settled ∧ s.seqCtx c = some x ∧
      x.mig = some (m, base, move) ∧ s.mbx.cur = none ∧ move = false) :=
  ⟨⟨{ up with flt := { up.flt with heardPartner := some 0, pair := 1, witnessAcks := [(24, 95), (25, 95)] }, time := { up.time with lfc := 100 } },
      0, [{ node := 24 }, { node := 25 }, { node := 40 }], by decide +kernel⟩,
   ⟨{ up with flt := { up.flt with heardPartner := some 0 } }, by decide +kernel⟩,
   ⟨{ up with flt := { up.flt with heardPartner := some 0 }, mem := { up.mem with mirrorDir := [(0, ({ st := 1, owner := 1, home := { kind := 1, holder := 8, frame := 40000 } } : DirEntry))] } },
      0, { st := 1, owner := 1, home := { kind := 1, holder := 8, frame := 40000 } }, by decide +kernel⟩,
   ⟨{ up with flt := { up.flt with handbackAt := some 0, pair := 3 } }, 0, by decide⟩,
   ⟨{ up with seqs := { up.seqs with ctxs := List.replicate 16384 (0, {}) } }, {}, (by decide), (by decide),
      (by show 16384 ≤ (List.replicate 16384 _).length; exact Nat.le_of_eq List.length_replicate.symm)⟩,
   ⟨up, {}, by decide⟩,
   ⟨{ up with seqs := { up.seqs with ctxs := [(0, { mig := some (.mgmt, 0, false) })] } }, 0, 0, .mgmt, false, { mig := some (.mgmt, 0, false) },
      by decide +kernel⟩,
   ⟨{ up with seqs := { up.seqs with ctxs := [(0, { mig := some (.mgmt, 0, false) })] } }, 0, 0, .mgmt, false, { mig := some (.mgmt, 0, false) }, 7,
      by decide +kernel⟩⟩

theorem witness_TimeAdvancesAndObeysItsCommands :
    (∃ (s : State) (w : Nat), s.Settled ∧ s.flt.phase = 0) ∧
    (∃ (s : State) (w : Nat), s.Settled ∧ s.flt.phase ≠ 0 ∧ s.time.rebase = none) ∧
    (∃ (s : State), s.Settled ∧ s.time.rebase = none ∧ s.time.st = .locked) ∧
    (∃ (s : State), s.Settled ∧ s.time.pinsOk = false ∧ s.time.goodFrames < 15) ∧
    (∃ (s : State), s.Settled ∧ s.time.pinsOk = false ∧ 15 ≤ s.time.goodFrames) ∧
    (∃ (s : State), s.Settled ∧ s.time.pinsOk = true ∧ s.time.rebase = none ∧ s.time.st = .init ∧ isKeeper s.time = true ∧ s.time.numbered = false ∧
      s.time.roleSince + 16 ≤ s.time.lfc) ∧
    (∃ (s : State), s.Settled ∧ s.time.pinsOk = true ∧ s.time.rebase = none ∧ s.time.st = .init ∧ isKeeper s.time = false ∧ s.time.srcPort ≠ 0x7F ∧
      s.time.numbered = true) ∧
    (∃ (s : State), s.Settled ∧ isKeeper s.time = false ∧ s.time.st = .locked ∧ (∀ x ∈ s.time.sources, x.2.heardAt + 64 ≤ s.time.lfc)) ∧
    (∃ (s : State), s.Settled ∧ s.time.role = 2 ∧ s.time.altActive = false ∧ s.time.lastHoldClear + 16 ≤ s.time.lfc) ∧
    (∃ (s : State), s.Settled ∧ s.time.altActive = true ∧ 16 ≤ s.time.altClearRun) ∧
    (∃ (s : State) (p : Nat) (a : BitVec 56) (b : BitVec 56) (late : Bool), s.Settled ∧ a ≠ b) ∧
    (∃ (s : State) (p : Nat) (a : BitVec 56) (late : Bool), s.Settled ∧ bits a.toNat 54 2 = 0 ∧ (s.prt p).st = 2 ∧ (s.prt p).accepted = true ∧
      (s.prt p).quarantined = false ∧ s.isEndPointPort p = false) ∧
    (∃ (s : State) (m : Master) (role : Nat) (base : Nat) (limit : Nat), s.Takes m 0x03A0 [] ∧ role ≤ 2 ∧ base < frameMod ∧ 1 ≤ limit ∧ limit ≤ 4096) ∧
    (∃ (s : State) (m : Master), s.Takes m 0x03A2 [] ∧ s.time.rebase = none ∧ s.time.st = .jumped ∧ s.time.pinsOk = true) ∧
    (∃ (s : State) (m : Master), s.Takes m 0x03A2 [] ∧ s.time.rebase = none ∧ (s.time.st ≠ .jumped ∨ s.time.pinsOk = false)) :=
  ⟨⟨State.reset, 0, by decide⟩,
   ⟨up, 0, by decide⟩,
   ⟨{ up with time := { up.time with st := .locked } }, by decide⟩,
   ⟨up, by decide⟩,
   ⟨{ up with time := { up.time with goodFrames := 15 } }, by decide⟩,
   ⟨{ up with time := { up.time with pinsOk := true, role := 1, lfc := 16 } }, by decide⟩,
   ⟨{ up with time := { up.time with pinsOk := true, srcPort := 0, numbered := true } }, by decide⟩,
   ⟨{ up with time := { up.time with st := .locked } }, by decide⟩,
   ⟨{ up with time := { up.time with role := 2, lfc := 16 } }, by decide⟩,
   ⟨{ up with time := { up.time with altActive := true, altClearRun := 16 } }, by decide⟩,
   ⟨up, 0, 0, 1, true, by decide⟩,
   ⟨withPort { st := 2, accepted := true }, 0, 0, true, by decide⟩,
   ⟨up, .mgmt, 1, 0, 256, by decide⟩,
   ⟨{ up with time := { up.time with st := .jumped, pinsOk := true } }, .mgmt, by decide⟩,
   ⟨up, .mgmt, by decide⟩⟩

theorem witness_StacksAreScrubbedAndParcelsMoved :
    (∃ (s : State) (n : Nat) (atom : Nat) (key : Nat), s.Settled ∧ s.time.lfc % 16 = 8 ∧ (s.stk n).joined = true ∧ (s.stk n).fenced = false ∧
      frameUse s n (atom / 0x8000) = (some key, false) ∧ (s.stk n).scrubPass = scrubPassOf s ∧ (s.stk n).scrubbed.contains atom = true) ∧
    (∃ (s : State) (n : Nat) (atom : Nat) (bad : Nat) (key : Nat), s.Settled ∧ s.time.lfc % 16 = 8 ∧ (s.stk n).joined = true ∧
      (s.stk n).fenced = false ∧ frameUse s n (atom / 0x8000) = (some key, false) ∧ (s.stk n).scrubPass = scrubPassOf s ∧
      (s.stk n).scrubbed.contains atom = false ∧ AMap.has s.mem.upsets (key / 64 + atom % 0x8000) = false ∧ bad = 0) ∧
    (∃ (s : State) (n : Nat) (atom : Nat) (bad : Nat) (key : Nat), s.Settled ∧ s.time.lfc % 16 = 8 ∧ (s.stk n).joined = true ∧
      (s.stk n).fenced = false ∧ frameUse s n (atom / 0x8000) = (some key, false) ∧ (s.stk n).scrubPass = scrubPassOf s ∧
      (s.stk n).scrubbed.contains atom = false ∧ AMap.has s.mem.upsets (key / 64 + atom % 0x8000) = false ∧ 1 ≤ bad ∧ bad ≤ 4 ∧
      AMap.get 0 (s.stk n).rowHits (atom / 32) < 2) ∧
    (∃ (s : State) (n : Nat) (atom : Nat) (bad : Nat) (key : Nat), s.Settled ∧ s.time.lfc % 16 = 8 ∧ (s.stk n).joined = true ∧
      (s.stk n).fenced = false ∧ frameUse s n (atom / 0x8000) = (some key, false) ∧ (s.stk n).scrubPass = scrubPassOf s ∧
      (s.stk n).scrubbed.contains atom = false ∧ AMap.has s.mem.upsets (key / 64 + atom % 0x8000) = false ∧ 5 ≤ bad ∧
      key / 64 + atom % 0x8000 < 2 ^ 58) ∧
    (∃ (s : State) (i : Nat), s.Settled ∧ i < 32) ∧
    (∃ (s : State) (p : Nat) (k : Nat) (mv : Move), s.Settled ∧ AMap.find s.mem.moves p = some mv ∧ mv.copying = some k ∧ mv.failed = false ∧
      mv.held = [] ∧ locLocal s (s.ent p).src = true ∧ locLocal s (s.ent p).home = true ∧ tileBusy s p = false) ∧
    (∃ (s : State) (p : Nat) (k : Nat) (mv : Move), s.Settled ∧ AMap.find s.mem.moves p = some mv ∧ mv.copying = some k ∧ mv.held = [] ∧
      s.fab.tracks = [] ∧ s.xlat.accs = [] ∧ remoteSource s (s.ent p) = false) ∧
    (∃ (s : State) (p : Nat) (mv : Move), s.Settled ∧ AMap.find s.mem.moves p = some mv ∧ 128 ≤ mv.present.length ∧ mv.held = [] ∧ p < 2 ^ 20 ∧
      mv.acks = none ∧ livePackages s ≠ []) ∧
    (∃ (s : State) (p : Nat) (mv : Move), s.Settled ∧ AMap.find s.mem.moves p = some mv ∧ 128 ≤ mv.present.length ∧ mv.held = [] ∧ p < 2 ^ 20 ∧
      mv.acks = some [] ∧ mv.evacuation = false ∧ remoteSource s (s.ent p) = false ∧ s.mem.lends = [] ∧ (∀ n, (s.stk n).evacuating = false)) ∧
    (∃ (s : State), s.Settled ∧ s.time.lfc % 16 ≠ 0) ∧
    (∃ (s : State), s.Settled ∧ s.time.lfc % 16 = 0 ∧ s.mem.lastInterval ≠ s.time.lfc + 1 ∧ 4 ≤ s.flt.phase ∧ s.flt.phase ≤ 7 ∧ s.flt.pair ≠ 5 ∧
      s.mem.resyncing = [] ∧ s.mem.lends = [] ∧ (∀ n, (s.stk n).evacuating = false) ∧ moveStopped s = true ∧
      (∀ x ∈ s.mem.dir, x.2.mirror = false ∧ (s.pol x.2.owner).mirror = 0)) :=
  ⟨⟨{ upm with time := { upm.time with lfc := 8 }, mem := { upm.mem with stks := [(0, { joined := true, scrubbed := [0] })] } }, 0, 0, 0,
      by decide +kernel⟩,
   ⟨{ upm with time := { upm.time with lfc := 8 } }, 0, 0, 0, 0, by decide +kernel⟩,
   ⟨{ upm with time := { upm.time with lfc := 8 } }, 0, 0, 4, 0, by decide +kernel⟩,
   ⟨{ upm with time := { upm.time with lfc := 8 } }, 0, 0, 5, 0, by decide +kernel⟩,
   ⟨upm, 31, by decide⟩,
   ⟨{ upm with mem := { upm.mem with dir := [(0, { st := 2, home := { kind := 1, holder := 8 }, src := { kind := 1, stack := 1, holder := 8 } })], moves := [(0, { copying := some 0 })] } },
      0, 0, { copying := some 0 }, by decide⟩,
   ⟨{ upm with mem := { upm.mem with moves := [(0, { copying := some 0 })] } }, 0, 0, { copying := some 0 }, by decide +kernel⟩,
   ⟨{ up with mem := { up.mem with moves := [(0, { present := List.range 128 })] } }, 0, { present := List.range 128 }, by decide +kernel⟩,
   ⟨{ up with mem := { up.mem with moves := [(0, { present := List.range 128, acks := some [] })] } }, 0,
      { present := List.range 128, acks := some [] }, (by decide +kernel), (by decide +kernel), (by decide +kernel), (by decide +kernel),
      (by decide +kernel), (by decide +kernel), (by decide +kernel), (by decide +kernel), (by decide +kernel), (fun _ => rfl)⟩,
   ⟨{ up with time := { up.time with lfc := 1 } }, by decide⟩,
   ⟨{ up with power := { up.power with capLag := true } }, (by decide), (by decide), (by decide), (by decide), (by decide), (by decide), (by decide),
      (by decide), (fun _ => rfl), (by decide), (by decide)⟩⟩

theorem witness_CapsSupplyAndTemperatureAct :
    (∃ (s : State) (c : Nat) (f : Nat), s.Settled ∧ s.power.pendMgmt = some (c, f) ∧ s.power.pendHost = none ∧ f ≤ s.time.lfc) ∧
    (∃ (s : State) (f : Nat), s.Settled ∧ s.power.hbAt = some f ∧ s.power.safe = false ∧ f + 76294 ≤ s.time.lfc) ∧
    (∃ (s : State) (mv : Nat), s.Settled ∧ 640 ≤ mv ∧ mv < 690 ∧ s.power.dipInFrame ≠ 0 ∧ actionOn s = true) ∧
    (∃ (s : State) (mv : Nat), s.Settled ∧ 640 ≤ mv ∧ mv < 690 ∧ s.power.dipInFrame = 0 ∧ actionOn s = false) ∧
    (∃ (s : State), s.Settled) ∧
    (∃ (s : State) (i : Nat), s.Settled ∧ i < 16 ∧ i < s.man.regulators.length ∧ 2 ≤ s.flt.phase ∧ AMap.find s.power.regSilent i = none) ∧
    (∃ (s : State) (i : Nat) (f : Nat), s.Settled ∧ i < 16 ∧ i < s.man.regulators.length ∧ 2 ≤ s.flt.phase ∧ AMap.find s.power.regSilent i = some f ∧
      f + 16 ≤ s.time.lfc ∧ AMap.get false s.power.regFault i = false) ∧
    (∃ (s : State) (i : Nat), s.Settled ∧ i < 16 ∧ i < s.man.regulators.length ∧ 2 ≤ s.flt.phase ∧ AMap.get false s.power.regFault i = false) ∧
    (∃ (s : State) (i : Nat), s.Settled ∧ i < 16 ∧ i < s.man.regulators.length ∧ 2 ≤ s.flt.phase) ∧
    (∃ (s : State) (tj : Nat), s.Settled ∧ s.power.flowSelf = false ∧ s.power.ladder < stepFor tj s.power.flowReported) ∧
    (∃ (s : State) (tj : Nat) (k : Nat) (f : Nat), s.Settled ∧ s.power.flowSelf = false ∧ s.power.ladder = k ∧ 1 ≤ k ∧ k ≤ 4 ∧
      s.power.flowReported = false ∧ AMap.find s.power.cool k = some f ∧ f + 16 ≤ s.time.lfc ∧ tj < exitTemp k) :=
  ⟨⟨{ up with power := { up.power with pendMgmt := some (2000, 0) } }, 2000, 0, by decide⟩,
   ⟨{ up with power := { up.power with hbAt := some 0 }, time := { up.time with lfc := 76294 } }, 0, by decide⟩,
   ⟨{ up with power := { up.power with dipInFrame := 1, supply := true } }, 689, by decide⟩,
   ⟨up, 640, by decide⟩,
   ⟨up, by decide⟩,
   ⟨up, 1, by decide⟩,
   ⟨{ up with power := { up.power with regSilent := [(1, 0)] }, time := { up.time with lfc := 16 } }, 1, 0, by decide⟩,
   ⟨up, 1, by decide⟩,
   ⟨up, 1, by decide⟩,
   ⟨up, 112, by decide⟩,
   ⟨{ up with power := { up.power with ladder := 4, cool := [(4, 0)] }, time := { up.time with lfc := 16 } }, 108, 4, 0, by decide⟩⟩

theorem witness_PowerLeavesAndReturns :
    (∃ (s : State), s.Settled ∧ s.power.epo = false) ∧
    (∃ (s : State), s.Settled ∧ s.power.trip = false ∧ s.power.epo = false) ∧
    (∃ (s : State), s.Settled ∧ s.power.epoPin = true) ∧
    (∃ (s : State) (g : Nat), s.Settled ∧ g < 32 ∧ s.power.cfg.gateEn = true ∧ (s.grp g).lists = [] ∧ (s.grp g).joins = [] ∧
      (s.grp g).fenced = false ∧ s.power.gated.contains g = false) ∧
    (∃ (s : State), s.Settled ∧ hostUp s = true ∧ s.power.cfg.standbyEn = false) ∧
    (∃ (s : State), s.Settled ∧ hostUp s = true ∧ (standbyOk (s.modPower fun p => { p with d3hot := true }) = true)) ∧
    (∃ (s : State), s.Settled ∧ standbyOk s = true) ∧
    (∃ (s : State), s.Settled ∧ hostUp s = true ∧ s.power.standby = true) :=
  ⟨⟨up, by decide⟩,
   ⟨up, by decide⟩,
   ⟨{ up with power := { up.power with epoPin := true } }, by decide⟩,
   ⟨up, 31, by decide⟩,
   ⟨up, by decide⟩,
   ⟨{ up with power := { up.power with cfg := { standbyEn := true } } }, by decide⟩,
   ⟨{ up with power := { up.power with cfg := { standbyEn := true }, d3hot := true } }, by decide⟩,
   ⟨{ up with power := { up.power with standby := true, d3hot := true } }, by decide⟩⟩

theorem witness_ResetsLeaveWhatTheyKeepAndBringUpProceeds :
    (∃ (s : State) (role : Nat) (side : Nat) (slot : Nat), s.Settled ∧ role < 2 ∧ side < 2 ∧ slot < 32 ∧ (s.power.trip = true → s.power.tj < 90)) ∧
    (∃ (s : State), s.Settled ∧ 2 ≤ s.flt.phase ∧ s.flt.phase ≠ 8 ∧ s.power.standby = false) ∧
    (∃ (s : State), s.Settled ∧ s.flt.phase = 1) ∧
    (∃ (s : State) (i : Image), s.Settled ∧ s.flt.phase = 1 ∧ s.mgmt.logBuf = [] ∧ s.flt.savedCaptures = [] ∧ s.mgmt.tripLatch = false ∧
      s.power.epo = false ∧ s.mgmt.update.flash = some i ∧ s.mgmt.minSvn ≤ i.svn ∧ i.keyPair ∉ s.mgmt.revoked) ∧
    (∃ (s : State) (i : Image), s.Settled ∧ s.flt.phase = 1 ∧ s.mgmt.logBuf = [] ∧ s.flt.savedCaptures = [] ∧ s.mgmt.tripLatch = false ∧
      s.power.epo = false ∧ s.mgmt.update.flash = some i ∧ i.svn < s.mgmt.minSvn) ∧
    (∃ (s : State) (n : Nat), s.Settled ∧ n < 32 ∧ s.flt.phase = 4 ∧ (s.stk n).joined = false ∧ (s.stk n).fenced = false ∧ s.power.epo = false) ∧
    (∃ (s : State) (n : Nat), s.Settled ∧ n < 32 ∧ s.flt.phase = 4 ∧ (s.stk n).joined = false ∧ (s.stk n).fenced = false ∧ s.power.epo = false ∧
      (s.stk n).trainFails < 2) ∧
    (∃ (s : State) (n : Nat), s.Settled ∧ n < 32 ∧ s.flt.phase = 4 ∧ (s.stk n).joined = false ∧ (s.stk n).fenced = false ∧ s.power.epo = false ∧
      (s.stk n).trainFails = 2) ∧
    (∃ (s : State), s.Settled ∧ s.flt.phase = 5) ∧
    (∃ (s : State) (m : Master), s.Takes m 0x0605 [] ∧ s.coll.nodes = [] ∧ (∀ g, (s.grp g).lists = []) ∧ s.xlat.accs = []) :=
  ⟨⟨up, 1, 1, 31, by decide⟩,
   ⟨up, by decide⟩,
   ⟨{ up with flt := { up.flt with phase := 1 } }, by decide⟩,
   ⟨{ up with flt := { up.flt with phase := 1 } }, {}, by decide⟩,
   ⟨{ up with flt := { up.flt with phase := 1 }, mgmt := { up.mgmt with minSvn := 1 } }, {}, by decide⟩,
   ⟨{ up with flt := { up.flt with phase := 4 } }, 31, by decide⟩,
   ⟨{ up with flt := { up.flt with phase := 4 } }, 31, by decide⟩,
   ⟨{ up with flt := { up.flt with phase := 4 }, mem := { up.mem with stks := [(31, { trainFails := 2 })] } }, 31, by decide⟩,
   ⟨{ up with flt := { up.flt with phase := 5 } }, by decide⟩,
   ⟨up, .mgmt, (by decide +kernel), (by decide +kernel), (fun _ => rfl), (by decide +kernel)⟩⟩

theorem witness_FaultEventsAreTakenEnteredAndCleared :
    (∃ (s : State) (cls : Nat) (inst : Nat) (cause : Nat) (status : Nat) (addr : Nat) (ctx : Nat) (part : Nat) (node : Nat), s.Settled ∧
      sourceOk' cls inst = true ∧ 1 ≤ cause ∧ cause ≤ causeCount cls ∧ 2 ≤ s.flt.phase ∧ (cls = 0x0C → cause ≠ 4) ∧
      (cls = 1 → s.present inst = true)) ∧
    (∃ (s : State) (g : Nat) (e : Nat) (q : Nat), s.Settled ∧ g < 32 ∧ e < 4 ∧ q < 16 ∧ groupRuns s g = true ∧ queueReady (s.grp g) e q = true) ∧
    (∃ (s : State), s.Settled ∧ 2 ≤ s.flt.phase ∧ s.flt.captures = [] ∧ s.flt.reactions = [] ∧ s.power.trip = false) ∧
    (∃ (s : State), s.Settled ∧ 2 ≤ s.flt.phase ∧ s.flt.captures = [] ∧ s.flt.reactions = [] ∧ s.power.trip = false ∧ s.mgmt.update.handover = false) ∧
    (∃ (s : State), s.Settled ∧ 2 ≤ s.flt.phase ∧ s.flt.captures = [] ∧ s.flt.reactions = [] ∧ s.power.trip = false ∧ s.mgmt.update.handover = true) ∧
    (∃ (s : State) (c : Capture), s.Settled ∧ s.flt.captures = [c] ∧ s.flt.phase = 6 ∧ s.mgmt.halted = false ∧ s.flt.history.length < 32) ∧
    (∃ (s : State) (ty : Nat) (f : Nat) (body : Nat) (l : List (Nat × Nat × Nat)), s.Settled ∧ s.mgmt.logBuf = (ty, f, body) :: l ∧
      s.mgmt.update.writing = none ∧ 2 ≤ s.flt.phase ∧ s.mgmt.log.length < 524288) ∧
    (∃ (s : State) (k : Nat) (r : Nat) (l : AMap (Option Nat)), s.Settled ∧ s.flt.toFlash = (k, some r) :: l ∧ s.mgmt.update.writing = none ∧
      k % 65536 ≠ 0xFFFF) ∧
    (∃ (s : State) (cls : Nat) (inst : Nat) (u : Fenced), s.Settled ∧ s.flt.fenced = [u] ∧ u.cls = cls ∧ u.inst = inst ∧ u.block = true ∧
      u.at' + 152 ≤ s.time.lfc ∧ 2 ≤ s.flt.phase ∧ mayReturn s cls inst = true) ∧
    (∃ (s : State) (cls : Nat) (inst : Nat) (u : Fenced), s.Settled ∧ s.flt.fenced = [u] ∧ u.cls = cls ∧ u.inst = inst ∧ u.block = true ∧
      u.at' + 152 ≤ s.time.lfc ∧ 2 ≤ s.flt.phase ∧ mayReturn s cls inst = true ∧ cls = 6) ∧
    (∃ (s : State) (h : Nat), s.Settled) ∧
    (∃ (s : State), s.Settled ∧ s.mgmt.update.handover = true ∧ s.mbx.cur = none ∧ s.power.epo = false) :=
  ⟨⟨up, 6, 31, 2, 0, 0, 0, 0, 0, by decide⟩,
   ⟨headOfQueue 1 0 0, 0, 0, 0, by decide +kernel⟩,
   ⟨up, by decide⟩,
   ⟨up, by decide⟩,
   ⟨{ up with mgmt := { up.mgmt with update := { handover := true } } }, by decide⟩,
   ⟨{ up with flt := { up.flt with captures := [{ die := 18 }] } }, { die := 18 }, by decide⟩,
   ⟨{ up with mgmt := { up.mgmt with logBuf := [(1, 2, 3)] } }, 1, 2, 3, [], by decide⟩,
   ⟨{ up with flt := { up.flt with toFlash := [(5, some 1)] } }, 5, 1, [], by decide⟩,
   ⟨{ up with flt := { up.flt with fenced := [{ cls := 6, block := true }] }, time := { up.time with lfc := 152 } }, 6, 0,
      { cls := 6, block := true }, by decide⟩,
   ⟨{ up with flt := { up.flt with fenced := [{ cls := 6, block := true }] }, time := { up.time with lfc := 152 } }, 6, 0,
      { cls := 6, block := true }, by decide⟩,
   ⟨up, 0, by decide⟩,
   ⟨{ up with mgmt := { up.mgmt with update := { handover := true } } }, by decide⟩⟩

end Sys2Proof.Tests
end

