-- ==== Sys2Proof/WellFormed.lean ====
section
/-! DEFINITION. Well-formed commands: every operand lies in the width that the spec gives its field. A form that the spec
refuses (a partition of 64 or more in a mailbox request, a reserved opcode) is well formed; its meaning says what happens.
Positions in the package's own lists, and what the physical world decides (a power, a temperature), have no width. -/
namespace Sys2Proof

/-- A value of a field that holds `n` values. -/
def fits (v n : Nat) : Bool := decide (v < n)

/-- A packet whose fields lie within their widths, and whose payload is LEN bytes, none for RD and RDV (R285–R289). -/
def packetWf (p : Packet) : Bool :=
  fits p.addr (2 ^ 56) && fits p.opcode 256 && fits p.srcNode 512 && fits p.port 128 && fits p.vc 8 && fits p.colour 4 &&
  fits p.part 64 && fits p.len 4096 && fits p.ctr 4096 && fits p.tag 4096 && fits p.status 256 && fits p.aop 16 &&
  fits p.size 4 && fits p.chkLen 8192 && fits p.ctrGrp 32 && fits p.crc (2 ^ 64) && fits p.chunk (2 ^ 24) &&
  fits p.group (2 ^ 16) && fits p.digest (2 ^ 32) && p.payload.length == (if p.opcode = 1 ∨ p.opcode = 2 then 0 else p.len)

/-- A link frame: 256 bytes of payload and the trailer's fields (R359). -/
def frameWf (f : Frame) : Bool :=
  f.payload.length == 256 && fits f.crc (2 ^ 32) && fits f.seq 1024 && fits f.ackSeq 1024 && fits f.pool 8 && fits f.part 64 && fits f.count 16

/-- A stack or a group's scratchpad (R260). -/
def targetWf : Target → Bool
  | .stack n => fits n 32
  | .spad g => fits g 32

/-- A register access of 4 or 8 bytes (R380). -/
def sizeWf (size value : Nat) : Bool := (size == 4 || size == 8) && fits value (2 ^ (8 * size))

/-- A collective node as the apex describes it (R225, R258). -/
def nodeWf (d : NodeDesc) : Bool := fits d.group (2 ^ 16) && fits d.part 64 && fits d.n 4097 && fits d.apexNode 512

/-- A command whose operands fit their fields. -/
def Instr.wf : Instr → Bool
  | .identify _ => true
  | .mbxInfo _ _ => true
  | .sensorGet _ first count => fits first 256 && fits count 256
  | .logRead _ first count => fits first (2 ^ 32) && fits count 256
  | .hostPartsSet _ _ => true
  | .partStart _ part => fits part 256
  | .partStop _ part => fits part 256
  | .ctxSet _ ctx _ => fits ctx (2 ^ 16)
  | .ctxClear _ ctx => fits ctx (2 ^ 16)
  | .segSet _ ctx slot _ => fits ctx (2 ^ 16) && fits slot 256
  | .segClear _ ctx slot => fits ctx (2 ^ 16) && fits slot 256
  | .bindSet _ node part ctx => fits node 256 && fits part 256 && fits ctx (2 ^ 16)
  | .bindClear _ node part => fits node 256 && fits part 256
  | .ctxGet _ ctx => fits ctx (2 ^ 16)
  | .xlatFlush _ ctx => fits ctx (2 ^ 16)
  | .listAbortCmd _ g listId => fits g 256 && fits listId (2 ^ 16)
  | .manifestLoad _ index count _ => fits index (2 ^ 16) && fits count (2 ^ 16)
  | .discoveryGet _ first count => fits first 256 && fits count 256
  | .quarantineClear _ port => fits port 256
  | .pairGet _ => true
  | .pairFailover _ _ => true
  | .pairRestore _ frame => fits frame (2 ^ 64)
  | .pktCtrlSet _ loadTmo _ => fits loadTmo (2 ^ 16)
  | .deadSet _ node => fits node (2 ^ 16)
  | .deadClear _ node => fits node (2 ^ 16)
  | .pktStats _ _ => true
  | .linkSet _ _ _ => true
  | .linkRetrain port => fits port 128
  | .linkDown port => fits port 128
  | .linkGet _ first count => fits first 256 && fits count 256
  | .timeSet _ role base steerLimit => fits role 256 && fits base (2 ^ 64) && fits steerLimit (2 ^ 16)
  | .timeGet _ => true
  | .timeAccept _ => true
  | .policySet _ part _ => fits part 256
  | .policyGet _ part => fits part 256
  | .budgetSet _ _ => true
  | .parcelSet _ first count op owner cls pin => fits first (2 ^ 32) && fits count (2 ^ 16) && fits op 256 && fits owner 256 && fits cls 256 && fits pin 256
  | .parcelGet _ parcel => fits parcel (2 ^ 32)
  | .move _ parcel _ => fits parcel (2 ^ 32)
  | .evacuate _ stack _ => fits stack 256
  | .lendSet _ region _ holder base count => fits region 256 && fits holder (2 ^ 16) && fits base (2 ^ 64) && fits count (2 ^ 16)
  | .lendClear _ region => fits region 256
  | .mirrorReserveSet _ perStack => fits perStack (2 ^ 16)
  | .maintSet _ hours => fits hours 256
  | .placeStats _ _ => true
  | .powerSet _ capFrame _ => fits capFrame (2 ^ 64)
  | .powerGet _ => true
  | .powerPlanGet _ => true
  | .powerHeartbeat _ => true
  | .powerResume _ => true
  | .flowReport _ _ => true
  | .faultGet _ seq => fits seq (2 ^ 16)
  | .faultSet _ cls inst reaction => fits cls 256 && fits inst (2 ^ 16) && fits reaction 256
  | .faultAck _ seq => fits seq (2 ^ 16)
  | .unitFence _ cls inst => fits cls 256 && fits inst (2 ^ 16)
  | .unitReturn _ cls inst _ => fits cls 256 && fits inst (2 ^ 16)
  | .warmReset _ => true
  | .faultInject _ cls inst cause count => fits cls 256 && fits inst (2 ^ 16) && fits cause 256 && fits count 256
  | .updateBegin _ bytes => fits bytes (2 ^ 32)
  | .updateData _ offset _ => fits offset (2 ^ 32)
  | .updateVerify _ => true
  | .updateCommit _ _ => true
  | .updateActivate _ comp mask _ => fits comp 256 && fits mask (2 ^ 32)
  | .updateStatus _ => true
  | .updateAbort _ => true
  | .ownerSet _ _ _ _ => true
  | .credSet _ _ _ => true
  | .credGet _ => true
  | .svnRaise _ => true
  | .keyRevoke _ pair => fits pair 256
  | .oagalLock _ => true
  | .sluiceStart _ session => fits session (2 ^ 32)
  | .sluiceRekey _ => true
  | .seqRegister _ _ => true
  | .seqGet _ ctx first => fits ctx (2 ^ 16) && fits first (2 ^ 16)
  | .seqRelease _ ctx => fits ctx (2 ^ 16)
  | .seqTruncate _ ctx len => fits ctx (2 ^ 16) && fits len (2 ^ 32)
  | .seqMigrate _ ctx dest stripeBase _ => fits ctx (2 ^ 16) && fits dest (2 ^ 16) && fits stripeBase 256
  | .seqStats _ _ => true
  | .collCreate _ group part n window tmo => fits group (2 ^ 16) && fits part 256 && fits n (2 ^ 16) && fits window (2 ^ 16) && fits tmo (2 ^ 16)
  | .collMembers _ group first _ _ => fits group (2 ^ 16) && fits first (2 ^ 16)
  | .collCommit _ group => fits group (2 ^ 16)
  | .collDestroy _ group => fits group (2 ^ 16)
  | .collReset _ group => fits group (2 ^ 16)
  | .collAbort _ group => fits group (2 ^ 16)
  | .collGet _ group => fits group (2 ^ 16)
  | .collCellsSet _ die share => fits die 256 && fits share (2 ^ 32)
  | .collStats _ _ => true
  | .routeStage _ version first _ => fits version (2 ^ 16) && fits first 256
  | .routeCommit _ version drain drainFrames _ root => fits version (2 ^ 16) && fits drain (2 ^ 64) && fits drainFrames 256 && fits root (2 ^ 16)
  | .routeGet _ bank first count => fits bank 256 && fits first 256 && fits count 256
  | .shareSet _ _ => true
  | .shareGet _ => true
  | .meterSet _ part _ => fits part 256
  | .dropSet _ _ _ => true
  | .riffleSet _ die index _ _ _ => fits die 256 && fits index 256
  | .riffleRead _ die seq => fits die 256 && fits seq (2 ^ 32)
  | .routeStats _ _ => true
  | .mgmtConnectionOpen _ _ => true
  | .mgmtMessage _ kind slot rsvd length body => fits kind 256 && fits slot 256 && fits rsvd (2 ^ 16) && fits length (2 ^ 32) && fits body.length 65537
  | .spdmRequest _ _ => true
  | .getMeasurements _ index _ => fits index 256
  | .oagalUnlock _ => true
  | .oagalRecover _ _ => true
  | .oagalRd addr => fits addr (2 ^ 56)
  | .oagalMbx frame => (frame.length == 4096)
  | .oagalWr addr _ => fits addr (2 ^ 56)
  | .configRequest _ => true
  | .listDb g _ => fits g 32
  | .listLoad g part _ => fits g 32 && fits part 64
  | .listAbort g part _ => fits g 32 && fits part 64
  | .counterAdd g ctr part _ => fits g 32 && fits ctr 4096 && fits part 64
  | .counterIncreaseApply g => fits g 32
  | .commandDispatch g listId => fits g 32 && fits listId (2 ^ 16)
  | .sliceArbitration g engine => fits g 32 && fits engine 4
  | .nop g engine queue => fits g 32 && fits engine 4 && fits queue 16
  | .wait g engine queue => fits g 32 && fits engine 4 && fits queue 16
  | .signal g engine queue => fits g 32 && fits engine 4 && fits queue 16
  | .fence g engine queue => fits g 32 && fits engine 4 && fits queue 16
  | .trap g engine queue => fits g 32 && fits engine 4 && fits queue 16
  | .halt g engine queue => fits g 32 && fits engine 4 && fits queue 16
  | .mma g queue => fits g 32 && fits queue 16
  | .mmaScaled g queue => fits g 32 && fits queue 16
  | .vop g queue => fits g 32 && fits queue 16
  | .vred g queue => fits g 32 && fits queue 16
  | .loadt g queue => fits g 32 && fits queue 16
  | .storet g queue => fits g 32 && fits queue 16
  | .dmaNd g queue => fits g 32 && fits queue 16
  | .attn g queue => fits g 32 && fits queue 16
  | .kvappend g queue => fits g 32 && fits queue 16
  | .appendLengthAdvance ctx layer => fits ctx (2 ^ 16) && fits layer (2 ^ 16)
  | .collJoin g queue => fits g 32 && fits queue 16
  | .collScheduledStart g queue => fits g 32 && fits queue 16
  | .collWait g queue => fits g 32 && fits queue 16
  | .atomic g queue => fits g 32 && fits queue 16
  | .commandComplete g engine queue index => fits g 32 && fits engine 4 && fits queue 16 && fits index (2 ^ 16)
  | .listRelease g listId => fits g 32 && fits listId (2 ^ 16)
  | .waitTimeout g engine queue => fits g 32 && fits engine 4 && fits queue 16
  | .fenceTimeout g engine queue => fits g 32 && fits engine 4 && fits queue 16
  | .tileDelivered g queue => fits g 32 && fits queue 16
  | .pageRequestResponse g queue code => fits g 32 && fits queue 16 && fits code 16
  | .translationCompletion _ _ _ base size taddr => fits base (2 ^ 64) && fits size (2 ^ 65) && fits taddr (2 ^ 64)
  | .atsInvalidationRequest tag pasid base size => fits tag 32 && fits pasid (2 ^ 20) && fits base (2 ^ 64) && fits size (2 ^ 64)
  | .invalidationComplete tag => fits tag 32
  | .hostReadCompletion _ _ _ => true
  | .bar2Read offset len => fits offset (2 ^ 36) && fits len 4097
  | .bar2Write offset data => fits offset (2 ^ 36) && fits data.length 4097
  | .popRead q _ _ => fits q 512
  | .qcfgWrite q _ => fits q 512
  | .queueArm q => fits q 512
  | .qreset q => fits q 512
  | .qstatusFlagClear q _ _ _ => fits q 512
  | .msixUnmask vec => fits vec 2048
  | .sluiceDb _ => true
  | .sluiceRingWrite _ => true
  | .sluiceDescriptor _ _ => true
  | .linkErrClr port => fits port 128
  | .registerWrite offset size value => fits offset (2 ^ 24) && sizeWf size value
  | .inv p => packetWf p
  | .ctxFence p => packetWf p
  | .rd p => packetWf p
  | .rdv p => packetWf p
  | .wr p => packetWf p
  | .wrp p => packetWf p
  | .atom p => packetWf p
  | .red p => packetWf p
  | .ctrl p => packetWf p
  | .cpl p => packetWf p
  | .cplData p => packetWf p
  | .cplPosted p => packetWf p
  | .join p => packetWf p
  | .contrib p => packetWf p
  | .partialPkt p => packetWf p
  | .result p => packetWf p
  | .ack p => packetWf p
  | .nack p => packetWf p
  | .done p => packetWf p
  | .abort p => packetWf p
  | .reset p => packetWf p
  | .confluenceCombine die => fits die 4
  | .resultVerdict g slot chunk => fits g 32 && fits slot 32 && fits chunk (2 ^ 24)
  | .collTimeout group => fits group (2 ^ 16)
  | .collWaitTimeout g slot => fits g 32 && fits slot 32
  | .collNodeInstall desc _ => nodeWf desc
  | .chunkVerdict srcNode port block => fits srcNode 512 && fits port 128 && fits block (2 ^ 44)
  | .chunkOpenTimeout srcNode port block => fits srcNode 512 && fits port 128 && fits block (2 ^ 44)
  | .accessPerformed target _ badSymbols => targetWf target && fits badSymbols 73
  | .loadTimeout _ => true
  | .tagHoldExpiry _ => true
  | .busyRetry _ => true
  | .packetRoute port vc => fits port 128 && fits vc 8
  | .outputArbitration port => fits port 128
  | .escapeMove port vc => fits port 128 && fits vc 8
  | .redPromotion port => fits port 128
  | .packetAged port vc => fits port 128 && fits vc 8
  | .queueCountExchange die => fits die 4
  | .reach port node _ => fits port 128 && fits node 512
  | .drained node frame => fits node 512 && fits frame (2 ^ 48)
  | .linkFrame port frame => fits port 128 && frameWf frame
  | .replayTimeout port => fits port 128
  | .timeBlock port _ _ _ => fits port 128
  | .detect port lane _ => fits port 128 && fits lane 4
  | .lock port lane _ => fits port 128 && fits lane 4
  | .eq port lane _ => fits port 128 && fits lane 4
  | .rate port lane _ => fits port 128 && fits lane 4
  | .step port lane _ => fits port 128 && fits lane 4
  | .ready port lane _ => fits port 128 && fits lane 4
  | .idle port lane _ => fits port 128 && fits lane 4
  | .wake port lane _ => fits port 128 && fits lane 4
  | .retrain port lane _ => fits port 128 && fits lane 4
  | .trainingTimeout port => fits port 128
  | .rateStepTimeout port => fits port 128
  | .retrainTimeout port => fits port 128
  | .signalLoss port lane => fits port 128 && fits lane 4
  | .trainingRestart port => fits port 128
  | .idleEntry port => fits port 128
  | .identityBlock port partCode node peerPort version _ => fits port 128 && fits partCode (2 ^ 16) && fits node 512 && fits peerPort 128 && fits version (2 ^ 16)
  | .portMissing port => fits port 128
  | .heartbeat node heard mirrorPerStack => fits node 512 && fits heard (2 ^ 48) && fits mirrorPerStack (2 ^ 16)
  | .witnessAck node heard => fits node 512 && fits heard (2 ^ 48)
  | .promotion _ => true
  | .failing node => fits node 512
  | .seqMigrateRecord _ => true
  | .seqMigrateReply ctx _ => fits ctx (2 ^ 16)
  | .frameStart _ => true
  | .racksyncEdge _ => true
  | .patrolScrub stack cell badSymbols => fits stack 32 && fits cell 999981056 && fits badSymbols 73
  | .refreshSlot index => fits index 32
  | .tileFlip parcel => fits parcel (2 ^ 20)
  | .moveComplete parcel => fits parcel (2 ^ 20)
  | .thermalSample _ _ _ => true
  | .supplyWarning _ => true
  | .supplyReset role side slot => fits role 2 && fits side 2 && fits slot 32
  | .regulatorPoll index _ => fits index (2 ^ 16)
  | .pmbAlert index _ => fits index (2 ^ 16)
  | .groupGate g => fits g 32
  | .powerOn role side slot => fits role 2 && fits side 2 && fits slot 32
  | .resetN role side slot => fits role 2 && fits side 2 && fits slot 32
  | .headwaterBoot _ => true
  | .stackJoin stack _ => fits stack 32
  | .faultRaise cls inst cause status addr ctx part node => fits cls 256 && fits inst (2 ^ 16) && fits cause 256 && fits status 256 && fits addr (2 ^ 56) && fits ctx 4096 && fits part 64 && fits node 512
  | .mbxDb slot => fits slot 16
  | .serialiserHardwareWaitEnd _ => true
  | .mgmtConnectionClose _ => true
  | .hostLinkStateChange _ _ speed width => fits speed 8 && fits width 32
  | .spdmHeartbeatMiss _ => true
  | .oagalNet _ _ => true
  | .oagalInject cls inst cause count => fits cls 256 && fits inst (2 ^ 16) && fits cause 256 && fits count 256
  | .priTimeout g queue => fits g 32 && fits queue 16
  | .interruptModerationExpiry q => fits q 512
  | .msErrcntClr stack => fits stack 32
  | .resultRetainExpiry group chunk => fits group (2 ^ 16) && fits chunk (2 ^ 24)
  | .tileCopyAbandon parcel => fits parcel (2 ^ 20)
  | .blockReturn cls inst _ => fits cls 256 && fits inst (2 ^ 16)
  | .directoryRebuildDone hd => fits hd 4
  | .noProgressTimeout g engine => fits g 32 && fits engine 4
  | .mailboxServiceStart => true
  | .oagalStatus => true
  | .oagalChallenge => true
  | .oagalSerialLock => true
  | .oagalSensors => true
  | .oagalLog => true
  | .oagalHist => true
  | .oagalJtag => true
  | .oagalHalt => true
  | .oagalStep => true
  | .oagalNonceExpiry => true
  | .oagalUnlockExpiry => true
  | .priStoppedClear => true
  | .routeHoldStart => true
  | .routeDrainedSend => true
  | .routeSwitch => true
  | .routeFallbackSwitch => true
  | .routeRetire => true
  | .heartbeatSend => true
  | .leaseLapse => true
  | .pairSuspect => true
  | .handback => true
  | .rackclkLoss => true
  | .numberSourceLoss => true
  | .alternateTakeover => true
  | .alternateStop => true
  | .capStep => true
  | .placementInterval => true
  | .thermalTrip => true
  | .supplyThrottleLift => true
  | .safeSet => true
  | .epoAssert => true
  | .epoDeassert => true
  | .d3hot => true
  | .d0 => true
  | .standbyReentry => true
  | .perstN => true
  | .calibrationComplete => true
  | .historyEntryWrite => true
  | .wedgeDetect => true
  | .watchdogExpiry => true
  | .lockstepMismatch => true
  | .logWrite => true
  | .faultRecordFlash => true
  | .handoverSwitch => true

end Sys2Proof
end

