-- ==== Sys2Proof/Tests/Slice0.lean ====
section
/-! SUPPORT. Tests: ill-formed commands that well-formedness refuses, values that the spec works out, and single steps. -/
open Sys2Proof Sys2Proof.Machine
namespace Sys2Proof.Tests

/-! ## Well-formedness: for every check an ill-formed term, which it refuses -/

theorem test_ill_formed_1 :
    ([.sensorGet .mgmt 256 0, .sensorGet .mgmt 0 256, .logRead .mgmt (2 ^ 32) 0, .logRead .mgmt 0 256, .partStart .mgmt 256,
    .partStop .mgmt 256, .ctxSet .mgmt (2 ^ 16) 0, .ctxClear .mgmt (2 ^ 16), .segSet .mgmt (2 ^ 16) 0 0, .segSet .mgmt 0 256 0,
    .segClear .mgmt (2 ^ 16) 0, .segClear .mgmt 0 256, .bindSet .mgmt 256 0 0, .bindSet .mgmt 0 256 0, .bindSet .mgmt 0 0 (2 ^ 16),
    .bindClear .mgmt 256 0, .bindClear .mgmt 0 256, .ctxGet .mgmt (2 ^ 16), .xlatFlush .mgmt (2 ^ 16), .listAbortCmd .mgmt 256 0,
    .listAbortCmd .mgmt 0 (2 ^ 16), .manifestLoad .mgmt (2 ^ 16) 0 [], .manifestLoad .mgmt 0 (2 ^ 16) [], .discoveryGet .mgmt 256 0] : List Instr).all (fun i => ! i.wf) = true := by decide +kernel

theorem test_ill_formed_2 :
    ([.discoveryGet .mgmt 0 256, .quarantineClear .mgmt 256, .pairRestore .mgmt (2 ^ 64), .pktCtrlSet .mgmt (2 ^ 16) false,
    .deadSet .mgmt (2 ^ 16), .deadClear .mgmt (2 ^ 16), .linkRetrain 128, .linkDown 128, .linkGet .mgmt 256 0, .linkGet .mgmt 0 256,
    .timeSet .mgmt 256 0 0, .timeSet .mgmt 0 (2 ^ 64) 0, .timeSet .mgmt 0 0 (2 ^ 16), .policySet .mgmt 256 0, .policyGet .mgmt 256,
    .parcelSet .mgmt (2 ^ 32) 0 0 0 0 0, .parcelSet .mgmt 0 (2 ^ 16) 0 0 0 0, .parcelSet .mgmt 0 0 256 0 0 0,
    .parcelSet .mgmt 0 0 0 256 0 0, .parcelSet .mgmt 0 0 0 0 256 0, .parcelSet .mgmt 0 0 0 0 0 256, .parcelGet .mgmt (2 ^ 32),
    .move .mgmt (2 ^ 32) 0, .evacuate .mgmt 256 false] : List Instr).all (fun i => ! i.wf) = true := by decide +kernel

theorem test_ill_formed_3 :
    ([.lendSet .mgmt 256 false 0 0 0, .lendSet .mgmt 0 false (2 ^ 16) 0 0, .lendSet .mgmt 0 false 0 (2 ^ 64) 0,
    .lendSet .mgmt 0 false 0 0 (2 ^ 16), .lendClear .mgmt 256, .mirrorReserveSet .mgmt (2 ^ 16), .maintSet .mgmt 256,
    .powerSet .mgmt (2 ^ 64) 0, .faultGet .mgmt (2 ^ 16), .faultSet .mgmt 256 0 0, .faultSet .mgmt 0 (2 ^ 16) 0, .faultSet .mgmt 0 0 256,
    .faultAck .mgmt (2 ^ 16), .unitFence .mgmt 256 0, .unitFence .mgmt 0 (2 ^ 16), .unitReturn .mgmt 256 0 false,
    .unitReturn .mgmt 0 (2 ^ 16) false, .faultInject .mgmt 256 0 0 0, .faultInject .mgmt 0 (2 ^ 16) 0 0, .faultInject .mgmt 0 0 256 0,
    .faultInject .mgmt 0 0 0 256, .updateBegin .mgmt (2 ^ 32), .updateData .mgmt (2 ^ 32) [], .updateActivate .mgmt 256 0 false] : List Instr).all (fun i => ! i.wf) = true := by decide +kernel

theorem test_ill_formed_4 :
    ([.updateActivate .mgmt 0 (2 ^ 32) false, .keyRevoke .mgmt 256, .sluiceStart .mgmt (2 ^ 32), .seqGet .mgmt (2 ^ 16) 0,
    .seqGet .mgmt 0 (2 ^ 16), .seqRelease .mgmt (2 ^ 16), .seqTruncate .mgmt (2 ^ 16) 0, .seqTruncate .mgmt 0 (2 ^ 32),
    .seqMigrate .mgmt (2 ^ 16) 0 0 false, .seqMigrate .mgmt 0 (2 ^ 16) 0 false, .seqMigrate .mgmt 0 0 256 false,
    .collCreate .mgmt (2 ^ 16) 0 0 0 0, .collCreate .mgmt 0 256 0 0 0, .collCreate .mgmt 0 0 (2 ^ 16) 0 0,
    .collCreate .mgmt 0 0 0 (2 ^ 16) 0, .collCreate .mgmt 0 0 0 0 (2 ^ 16), .collMembers .mgmt (2 ^ 16) 0 [] [],
    .collMembers .mgmt 0 (2 ^ 16) [] [], .collCommit .mgmt (2 ^ 16), .collDestroy .mgmt (2 ^ 16), .collReset .mgmt (2 ^ 16),
    .collAbort .mgmt (2 ^ 16), .collGet .mgmt (2 ^ 16), .collCellsSet .mgmt 256 0] : List Instr).all (fun i => ! i.wf) = true := by decide +kernel

theorem test_ill_formed_5 :
    ([.collCellsSet .mgmt 0 (2 ^ 32), .routeStage .mgmt (2 ^ 16) 0 [], .routeStage .mgmt 0 256 [], .routeCommit .mgmt (2 ^ 16) 0 0 0 0,
    .routeCommit .mgmt 0 (2 ^ 64) 0 0 0, .routeCommit .mgmt 0 0 256 0 0, .routeCommit .mgmt 0 0 0 0 (2 ^ 16), .routeGet .mgmt 256 0 0,
    .routeGet .mgmt 0 256 0, .routeGet .mgmt 0 0 256, .meterSet .mgmt 256 0, .riffleSet .mgmt 256 0 0 false false,
    .riffleSet .mgmt 0 256 0 false false, .riffleRead .mgmt 256 0, .riffleRead .mgmt 0 (2 ^ 32), .mgmtMessage 0 256 0 0 0 [],
    .mgmtMessage 0 0 256 0 0 [], .mgmtMessage 0 0 0 (2 ^ 16) 0 [], .mgmtMessage 0 0 0 0 (2 ^ 32) [], .getMeasurements 0 256 [],
    .oagalRd (2 ^ 56), .oagalMbx [], .oagalWr (2 ^ 56) 0, .listDb 32 0] : List Instr).all (fun i => ! i.wf) = true := by decide +kernel

theorem test_ill_formed_6 :
    ([.listLoad 32 0 0, .listLoad 0 64 0, .listAbort 32 0 0, .listAbort 0 64 0, .counterAdd 32 0 0 0, .counterAdd 0 4096 0 0,
    .counterAdd 0 0 64 0, .counterIncreaseApply 32, .commandDispatch 32 0, .commandDispatch 0 (2 ^ 16), .sliceArbitration 32 0,
    .sliceArbitration 0 4, .nop 32 0 0, .nop 0 4 0, .nop 0 0 16, .wait 32 0 0, .wait 0 4 0, .wait 0 0 16, .signal 32 0 0, .signal 0 4 0,
    .signal 0 0 16, .fence 32 0 0, .fence 0 4 0, .fence 0 0 16] : List Instr).all (fun i => ! i.wf) = true := by decide +kernel

theorem test_ill_formed_7 :
    ([.trap 32 0 0, .trap 0 4 0, .trap 0 0 16, .halt 32 0 0, .halt 0 4 0, .halt 0 0 16, .mma 32 0, .mma 0 16, .mmaScaled 32 0,
    .mmaScaled 0 16, .vop 32 0, .vop 0 16, .vred 32 0, .vred 0 16, .loadt 32 0, .loadt 0 16, .storet 32 0, .storet 0 16, .dmaNd 32 0,
    .dmaNd 0 16, .attn 32 0, .attn 0 16, .kvappend 32 0, .kvappend 0 16] : List Instr).all (fun i => ! i.wf) = true := by decide +kernel

theorem test_ill_formed_8 :
    ([.appendLengthAdvance (2 ^ 16) 0, .appendLengthAdvance 0 (2 ^ 16), .collJoin 32 0, .collJoin 0 16, .collScheduledStart 32 0,
    .collScheduledStart 0 16, .collWait 32 0, .collWait 0 16, .atomic 32 0, .atomic 0 16, .commandComplete 32 0 0 0,
    .commandComplete 0 4 0 0, .commandComplete 0 0 16 0, .commandComplete 0 0 0 (2 ^ 16), .listRelease 32 0, .listRelease 0 (2 ^ 16),
    .waitTimeout 32 0 0, .waitTimeout 0 4 0, .waitTimeout 0 0 16, .fenceTimeout 32 0 0, .fenceTimeout 0 4 0, .fenceTimeout 0 0 16,
    .tileDelivered 32 0, .tileDelivered 0 16] : List Instr).all (fun i => ! i.wf) = true := by decide +kernel

theorem test_ill_formed_9 :
    ([.pageRequestResponse 32 0 0, .pageRequestResponse 0 16 0, .pageRequestResponse 0 0 16,
    .translationCompletion 0 false false (2 ^ 64) 0 0, .translationCompletion 0 false false 0 (2 ^ 65) 0,
    .translationCompletion 0 false false 0 0 (2 ^ 64), .atsInvalidationRequest 32 0 0 0, .atsInvalidationRequest 0 (2 ^ 20) 0 0,
    .atsInvalidationRequest 0 0 (2 ^ 64) 0, .atsInvalidationRequest 0 0 0 (2 ^ 64), .invalidationComplete 32, .bar2Read (2 ^ 36) 0,
    .bar2Read 0 4097, .bar2Write (2 ^ 36) [], .bar2Write 0 (List.replicate 4097 0), .popRead 512 false false, .qcfgWrite 512 0,
    .queueArm 512, .qreset 512, .qstatusFlagClear 512 false false false, .msixUnmask 2048, .linkErrClr 128, .registerWrite (2 ^ 24) 0 0,
    .registerWrite 0 3 0] : List Instr).all (fun i => ! i.wf) = true := by decide +kernel

theorem test_ill_formed_10 :
    ([.registerWrite 0 4 (2 ^ 32), .inv ({ part := 64 }), .ctxFence ({ part := 64 }), .rd ({ part := 64 }), .rdv ({ part := 64 }),
    .wr ({ part := 64 }), .wrp ({ part := 64 }), .atom ({ part := 64 }), .red ({ part := 64 }), .ctrl ({ part := 64 }),
    .cpl ({ part := 64 }), .cplData ({ part := 64 }), .cplPosted ({ part := 64 }), .join ({ part := 64 }), .contrib ({ part := 64 }),
    .partialPkt ({ part := 64 }), .result ({ part := 64 }), .ack ({ part := 64 }), .nack ({ part := 64 }), .done ({ part := 64 }),
    .abort ({ part := 64 }), .reset ({ part := 64 }), .confluenceCombine 4, .resultVerdict 32 0 0] : List Instr).all (fun i => ! i.wf) = true := by decide +kernel

theorem test_ill_formed_11 :
    ([.resultVerdict 0 32 0, .resultVerdict 0 0 (2 ^ 24), .collTimeout (2 ^ 16), .collWaitTimeout 32 0, .collWaitTimeout 0 32,
    .collNodeInstall ({ group := 2 ^ 16 }) false, .collNodeInstall ({ part := 64 }) false, .collNodeInstall ({ n := 4097 }) false,
    .collNodeInstall ({ apexNode := 512 }) false, .chunkVerdict 512 0 0, .chunkVerdict 0 128 0, .chunkVerdict 0 0 (2 ^ 44),
    .chunkOpenTimeout 512 0 0, .chunkOpenTimeout 0 128 0, .chunkOpenTimeout 0 0 (2 ^ 44), .accessPerformed (.stack 32) .package 0,
    .accessPerformed (.spad 32) .package 0, .accessPerformed (.stack 0) .package 73, .packetRoute 128 0, .packetRoute 0 8,
    .outputArbitration 128, .escapeMove 128 0, .escapeMove 0 8, .redPromotion 128] : List Instr).all (fun i => ! i.wf) = true := by decide +kernel

theorem test_ill_formed_12 :
    ([.packetAged 128 0, .packetAged 0 8, .queueCountExchange 4, .reach 128 0 false, .reach 0 512 false, .drained 512 0, .drained 0 (2 ^ 48),
    .linkFrame 128 ({}), .linkFrame 0 ({ payload := [] }), .replayTimeout 128, .timeBlock 128 0 0 false, .detect 128 0 0, .detect 0 4 0,
    .lock 128 0 0, .lock 0 4 0, .eq 128 0 0, .eq 0 4 0, .rate 128 0 0, .rate 0 4 0, .step 128 0 0, .step 0 4 0, .ready 128 0 0,
    .ready 0 4 0, .idle 128 0 0] : List Instr).all (fun i => ! i.wf) = true := by decide +kernel

theorem test_ill_formed_13 :
    ([.idle 0 4 0, .wake 128 0 0, .wake 0 4 0, .retrain 128 0 0, .retrain 0 4 0, .trainingTimeout 128, .rateStepTimeout 128,
    .retrainTimeout 128, .signalLoss 128 0, .signalLoss 0 4, .trainingRestart 128, .idleEntry 128, .identityBlock 128 0 0 0 0 [],
    .identityBlock 0 (2 ^ 16) 0 0 0 [], .identityBlock 0 0 512 0 0 [], .identityBlock 0 0 0 128 0 [], .identityBlock 0 0 0 0 (2 ^ 16) [],
    .portMissing 128, .heartbeat 512 0 0, .heartbeat 0 (2 ^ 48) 0, .heartbeat 0 0 (2 ^ 16), .witnessAck 512 0, .witnessAck 0 (2 ^ 48),
    .failing 512] : List Instr).all (fun i => ! i.wf) = true := by decide +kernel

theorem test_ill_formed_14 :
    ([.seqMigrateReply (2 ^ 16) none, .patrolScrub 32 0 0, .patrolScrub 0 999981056 0, .patrolScrub 0 0 73, .refreshSlot 32,
    .tileFlip (2 ^ 20), .moveComplete (2 ^ 20), .supplyReset 2 0 0, .supplyReset 0 2 0, .supplyReset 0 0 32, .regulatorPoll (2 ^ 16) none,
    .pmbAlert (2 ^ 16) false, .groupGate 32, .powerOn 2 0 0, .powerOn 0 2 0, .powerOn 0 0 32, .resetN 2 0 0, .resetN 0 2 0, .resetN 0 0 32,
    .stackJoin 32 false, .faultRaise 256 0 0 0 0 0 0 0, .faultRaise 0 (2 ^ 16) 0 0 0 0 0 0, .faultRaise 0 0 256 0 0 0 0 0,
    .faultRaise 0 0 0 256 0 0 0 0] : List Instr).all (fun i => ! i.wf) = true := by decide +kernel

theorem test_ill_formed_15 :
    ([.faultRaise 0 0 0 0 (2 ^ 56) 0 0 0, .faultRaise 0 0 0 0 0 4096 0 0, .faultRaise 0 0 0 0 0 0 64 0, .faultRaise 0 0 0 0 0 0 0 512,
    .mbxDb 16, .hostLinkStateChange false false 8 0, .hostLinkStateChange false false 0 32, .oagalInject 256 0 0 0,
    .oagalInject 0 (2 ^ 16) 0 0, .oagalInject 0 0 256 0, .oagalInject 0 0 0 256, .priTimeout 32 0, .priTimeout 0 16,
    .interruptModerationExpiry 512, .msErrcntClr 32, .resultRetainExpiry (2 ^ 16) 0, .resultRetainExpiry 0 (2 ^ 24),
    .tileCopyAbandon (2 ^ 20), .blockReturn 256 0 false, .blockReturn 0 (2 ^ 16) false, .directoryRebuildDone 4, .noProgressTimeout 32 0,
    .noProgressTimeout 0 4, .rd { addr := 2 ^ 56 }] : List Instr).all (fun i => ! i.wf) = true := by decide +kernel

theorem test_ill_formed_16 :
    ([.rd { opcode := 256 }, .rd { srcNode := 512 }, .rd { port := 128 }, .rd { vc := 8 }, .rd { colour := 4 }, .rd { part := 64 },
    .rd { len := 4096 }, .rd { ctr := 4096 }, .rd { tag := 4096 }, .rd { status := 256 }, .rd { aop := 16 }, .rd { size := 4 },
    .rd { chkLen := 8192 }, .rd { ctrGrp := 32 }, .rd { crc := 2 ^ 64 }, .rd { chunk := 2 ^ 24 }, .rd { group := 2 ^ 16 },
    .rd { digest := 2 ^ 32 }, .wr { opcode := 3, len := 2, payload := [0] }, .rd { opcode := 1, payload := [0] },
    .linkFrame 0 { payload := List.replicate 256 0, crc := 2 ^ 32 }, .linkFrame 0 { payload := List.replicate 256 0, seq := 1024 },
    .linkFrame 0 { payload := List.replicate 256 0, ackSeq := 1024 }, .linkFrame 0 { payload := List.replicate 256 0, pool := 8 }] : List Instr).all (fun i => ! i.wf) = true := by decide +kernel

theorem test_ill_formed_17 :
    ([.linkFrame 0 { payload := List.replicate 256 0, part := 64 }, .linkFrame 0 { payload := List.replicate 256 0, count := 16 }] : List Instr).all (fun i => ! i.wf) = true := by decide +kernel

theorem test_ill_formed_message (l : Bytes) (h : l.length = 65537) : (Instr.mgmtMessage 0 0 0 0 0 l).wf = false := by
  show (fits 0 256 && fits 0 256 && fits 0 (2 ^ 16) && fits 0 (2 ^ 32) && fits l.length 65537) = false
  rw [h, show fits 65537 65537 = false from rfl, Bool.and_false]

/-- Some well-formed commands. -/
theorem test_well_formed :
    ([.identify .mgmt, .bindSet .host 255 63 4095, .powerSet .mgmt 16 0, .nop 31 3 15, .msixUnmask 2047, .refreshSlot 31,
      .linkFrame 127 { payload := List.replicate 256 0 }] : List Instr).all (fun i => i.wf) = true := by decide +kernel

/-! ## The table gives its rows no bits -/

theorem test_no_word_spells_a_command : decodeTableWord 32 0 = none := by decide

theorem test_with_fetch_word : State.reset.withFetchWord 32 0 = State.reset := by decide

/-! ## Values that the spec works out -/

/-- R304: over the nine ASCII bytes "123456789" the CRC-64 gives 0x995D_C9BB_DF19_39FA. -/
theorem test_crc64 : crc64 [0x31, 0x32, 0x33, 0x34, 0x35, 0x36, 0x37, 0x38, 0x39] = 0x995DC9BBDF1939FA := by decide +kernel

/-- R360: over the same bytes the CRC-32 gives 0xCBF4_3926. -/
theorem test_crc32 : crc32 [0x31, 0x32, 0x33, 0x34, 0x35, 0x36, 0x37, 0x38, 0x39] = 0xCBF43926 := by decide +kernel

/-- R367: over the same bytes the CRC-8 gives 0xF4. -/
theorem test_crc8 : crc8 [0x31, 0x32, 0x33, 0x34, 0x35, 0x36, 0x37, 0x38, 0x39] = 0xF4 := by decide +kernel

/-- R180: 1.0 in BF16 is 0x3F80, and in FP32 0x3F80_0000. -/
theorem test_bf16_to_fp32 : encElem fFP32 true none (decElem fBF16 0x3F80) = 0x3F800000 := by decide +kernel

/-- R180: the largest number of E4M3 is 448, 0x43E0_0000 in FP32. -/
theorem test_e4m3_largest : encElem fFP32 true none (decElem fE4M3 0x7E) = 0x43E00000 := by decide +kernel

/-! ## One step each -/

def running (s : State) (c : Instr) : State := { s with pending := [c] }

def after (s : State) (c : Instr) : State := match step (running s c) with | .next t => t | _ => State.reset

theorem test_idle : step up = .next up := rfl

/-- R393: IDENTIFY answers OK. -/
theorem test_identify : (after up (.identify .host)).mbx.resp.status = OK := by decide +kernel

/-- R390: the host may not start the handback. -/
theorem test_host_denied : (after up (.powerHeartbeat .host)).mbx.resp.status = DENIED := by decide +kernel

/-- R438: POWER_SET with a cap of 700 W is REFUSED, since CAP is 800 to 3,000. -/
theorem test_power_set_refused : (after up (.powerSet .mgmt 16 (BitVec.ofNat 64 (power0.toNat - 1300)))).mbx.resp.status = REFUSED := by
  decide +kernel

theorem test_power_set_cap : ((after up (.powerSet .mgmt 16 power0)).power.cfg.slewUp, (after up (.powerSet .mgmt 16 power0)).power.cfg.safeCap) =
    (40, 1500) := by decide +kernel

/-- R155: SIGNAL of counter 3 by 5, twice from 0xFFFF_FFFE, wraps to 8 modulo 2^32. -/
theorem test_signal :
    ((after (headOfQueue (3 + 3 * 2 ^ 64 + 5 * 2 ^ 96) 0 0) (.signal 0 0 0)).grp 0).ctr 3 = 5 := by decide +kernel

/-- R158: TRAP's CODE is its DETAIL. -/
theorem test_trap : (theRun (after (headOfQueue (5 + 0xABCD * 2 ^ 64) 0 0) (.trap 0 0 0)) 0 0 0 0).detail = 0xABCD := by decide +kernel

/-- R154: a WAIT whose counter has not reached its target holds its queue. -/
theorem test_wait : (theRun (after (headOfQueue (2 + 2 ^ 96) 0 0) (.wait 0 0 0)) 0 0 0 0).st = 0 := by decide +kernel

/-- R396: a pop of an empty queue sets UNDERRUN. -/
theorem test_pop_empty : ((after up (.popRead 0 true true)).squeue 0).underrun = true := by decide +kernel

/-- R389: a doorbell makes its slot pending. -/
theorem test_doorbell : (AMap.get ({} : Slot) (after up (.mbxDb 3)).mbx.hostSlots 3).st = 1 := by decide +kernel

/-- R294: a packet that crosses a 4 KiB boundary is REFUSED. -/
theorem test_crossing : ((after (deliveredTo up { opcode := opRD, addr := 2 ^ 50 + 4095, len := 2 })
    (.rd { opcode := opRD, addr := 2 ^ 50 + 4095, len := 2 })).fab.inbuf.map fun x => x.pkt.status) = [REFUSED] := by decide +kernel

/-- R177: ATOM's ADD of 1 to a word that reads 255 gives 256. -/
theorem test_atom_add : atomicOp 0 4 255 1 0 = 256 := by decide +kernel

/-- R77: the first parcel of an empty stack lies in frame 0, and is resident. -/
theorem test_parcel_set : ((after { upm with mem := { upm.mem with dir := [] } } (.parcelSet .mgmt 0 1 0 1 0 0)).ent 0).st = 1 := by decide +kernel

/-- The local frame count advances by exactly 1 at the start of each frame (chapter 14, before R409). -/
theorem test_frame : (after up (.frameStart 900)).time.lfc = 1 := by decide +kernel

/-- R429: the first step of the ladder is entered at 100 °C. -/
theorem test_ladder : ((after up (.thermalSample 99 [] [])).power.ladder, (after up (.thermalSample 100 [] [])).power.ladder) = (0, 1) := by decide +kernel

/-- R433: EPO_N takes the power away. -/
theorem test_epo : (after up .epoAssert).power.epo = true := by decide +kernel

/-- R463: the partner's first heartbeat is noted. -/
theorem test_heartbeat : (after up (.heartbeat 9 0 0)).flt.heardPartner = some 0 := by decide +kernel

/-- R208: two positions of one block lie one row apart. -/
theorem test_cache_row : kvRow desc0 0 0 1 0 = kvRow desc0 0 0 0 0 + dRb desc0 := by decide +kernel

end Sys2Proof.Tests
end

section
/-! SUPPORT. What the function does with a write to BAR0, an unmasked vector, a configuration request and a change of its link
(R5, R379, R381, R385, R456): an equation per case of each operation, then the statement they settle. -/
namespace Sys2Proof.Machine

/-! ## Pending interrupts (R385) -/

/-- The function mask holds every pending interrupt back. -/
theorem sendPending_functionMask (s : State) (vs : List Nat) (h : s.host.functionMask = true) : sendPending s vs = s := by
  induction vs with
  | nil => rfl
  | cons v vs ih => simpa [sendPending, h] using ih

theorem sendPending_singleton (s : State) (v : Nat) (hp : (AMap.get ({} : Msix) s.host.msix v).pendingBit = true)
    (hm : (AMap.get ({} : Msix) s.host.msix v).masked = false) (hf : s.host.functionMask = false) :
    sendPending s [v] = s.modHost fun h => { h with
      msix := AMap.set h.msix v { AMap.get ({} : Msix) s.host.msix v with pendingBit := false }, irqs := h.irqs ++ [v] } := by
  simp [sendPending, hp, hm, hf]

/-- Unmasking a pending vector clears its mask and its pending bit, and sends its interrupt. -/
theorem msixMask_unmask_pending (s : State) (v : Nat) (hp : (AMap.get ({} : Msix) s.host.msix v).pendingBit = true)
    (hf : s.host.functionMask = false) :
    msixMask s v false = s.modHost fun h => { h with
      msix := AMap.set (AMap.modify {} h.msix v fun e => { e with masked := false }) v
        { AMap.get ({} : Msix) h.msix v with masked := false, pendingBit := false }
      irqs := h.irqs ++ [v] } := by
  unfold msixMask
  rw [sendPending_singleton _ v (by simpa using hp) (by simp) (by simpa using hf)]
  simp [State.modHost]

/-! ## Writes to BAR0 (R5, R379, R386) -/

/-- A write elsewhere than to the mailbox doorbell goes to its register. -/
theorem exec_registerWrite (s : State) (off size v : Nat) (hu : hostUp s = true) (hd : off ≠ 0x040) :
    exec (.registerWrite off size v) s = done (writeBar0 s off size v) := by
  change done (doRegisterWrite s off size v) = _
  simp [doRegisterWrite, bar0Store, hu, hd]

theorem writeBar0_respqEvq (s : State) (v : Nat) (hv : v < 2 ^ 18) :
    writeBar0 s 0x050 8 v = s.modHost fun h => { h with respq := bits v 0 9, evq := bits v 9 9 } := by
  have hm : v % 2 ^ (8 * 8) = v := Nat.mod_eq_of_lt (by omega)
  simp only [writeBar0, hm, if_pos hv]
  rfl

theorem writeBar0_bar2Map (s : State) (v : Nat) (hv : v < 2 ^ 12) :
    writeBar0 s 0x058 8 v = s.modHost fun h => { h with mapWin := bits v 0 5, mapPart := bits v 5 6, mapEn := bitAt v 11 } := by
  have hm : v % 2 ^ (8 * 8) = v := Nat.mod_eq_of_lt (by omega)
  simp only [writeBar0, hm, if_pos hv]
  rfl

theorem writeBar0_priTmo (s : State) (v : Nat) (hv : v < 0xE) :
    writeBar0 s 0x020 4 v = s.modXlat fun t => { t with priTmo := v } := by
  have hm : v % 2 ^ (8 * 4) = v := Nat.mod_eq_of_lt (by omega)
  simp only [writeBar0, hm, if_pos hv]
  rfl

/-- The mailbox slots lie from offset 0x10000 on. -/
theorem writeBar0_slots (s : State) (off size v : Nat) (ho : off < 0x10000) (hv : v < 2 ^ (8 * size)) :
    writeBar0 s (0x10000 + off) size v = slotWrite s off size v := by
  have hr : 0x10000 ≤ 0x10000 + off ∧ 0x10000 + off < 0x20000 := by omega
  simp only [writeBar0, Nat.mod_eq_of_lt hv, if_pos hr, Nat.add_sub_cancel_left]

/-- An aligned write at byte `o` of a free slot `k` is spliced into the slot's frame. -/
theorem slotWrite_free (s : State) (k o n v : Nat) (hf : s.flt.phase ≠ 7) (ho : o < 4096)
    (hn : n = 4 ∨ n = 8 ∨ n = 16 ∨ n = 32 ∨ n = 64) (ha : o % n = 0) (h1 : (AMap.get ({} : Slot) s.mbx.hostSlots k).st ≠ 1)
    (h2 : (AMap.get ({} : Slot) s.mbx.hostSlots k).st ≠ 2) :
    slotWrite s (4096 * k + o) n v = s.modMbx fun m => { m with
      hostSlots := AMap.set m.hostSlots k { AMap.get ({} : Slot) s.mbx.hostSlots k with
        frame := splice (slice (AMap.get ({} : Slot) s.mbx.hostSlots k).frame 0 4096) o (leBytes n v) } } := by
  have hk : (4096 * k + o) / 4096 = k := by omega
  have hb : (4096 * k + o) % 4096 = o := by omega
  -- a slot is a whole number of accesses of each size
  have haligned : (4096 * k + o) % n = 0 := by
    rcases hn with rfl | rfl | rfl | rfl | rfl <;> omega
  simp [slotWrite, hk, hb, haligned, hf, hn, h1, h2]

/-! ## Configuration requests (R46, R49, R385, R456) -/

theorem doConfig_early (s : State) (op : ConfigOp) (hw : s.host.wedged = false) (hp : s.flt.phase < 2) :
    doConfig s op = s.modHost fun h => { h with retryStatus := true } := by
  simp [doConfig, hw, hp]

section
variable (s : State) (hw : s.host.wedged = false) (hp : 2 ≤ s.flt.phase)
include hw hp

theorem doConfig_read : doConfig s .read = s.modHost fun h => { h with retryStatus := false } := by
  simp [doConfig, hw, Nat.not_lt.mpr hp]

theorem doConfig_atsEnable (on : Bool) :
    doConfig s (.atsEnable on) = atsSwitch (s.modHost fun h => { h with retryStatus := false }) on := by
  simp [doConfig, hw, Nat.not_lt.mpr hp]

theorem doConfig_priEnable (on : Bool) :
    doConfig s (.priEnable on) = (s.modHost fun h => { h with retryStatus := false }).modXlat fun t => { t with priEn := on } := by
  simp [doConfig, hw, Nat.not_lt.mpr hp]

/-- Setting the function mask sends nothing. -/
theorem doConfig_functionMask :
    doConfig s (.functionMask true) = s.modHost fun h => { h with retryStatus := false, functionMask := true } := by
  simp only [doConfig, hw, Nat.not_lt.mpr hp, if_false, Bool.false_eq_true]
  rw [sendPending_functionMask _ _ rfl]
  rfl

/-- WEDGE_DETECT wedges a function that answers and raises its fault (R408). -/
theorem doWedge_eq : doWedge s = raise (s.modHost fun h => { h with wedged := true }) { die := 19, cls := 9, cause := 1 } := by
  simp [doWedge, hw, Nat.not_lt.mpr hp]

end

/-! ## The function's link, its counters and PRI_STOPPED (R50, R103, R375, R381) -/

theorem doHostLink_down (s : State) (flit : Bool) (speed width : Nat) :
    doHostLink s false flit speed width = s.modHost fun h => { h with linkUp := false, flit := false, speed := 0, width := 0 } := rfl

/-- A speed, width and mode that R377 allows are taken. -/
theorem doHostLink_up (s : State) (flit : Bool) (speed width : Nat) (h1 : 1 ≤ speed) (h7 : speed ≤ 7)
    (hw : width = 1 ∨ width = 2 ∨ width = 4 ∨ width = 8) (hf : flit = false → speed ≤ 5) :
    doHostLink s true flit speed width = s.modHost fun h => { h with linkUp := true, flit := flit, speed := speed, width := width } := by
  have hs : ¬ (flit = false ∧ 5 < speed) := fun h => Nat.not_lt.mpr (hf h.1) h.2
  simp [doHostLink, Nat.ne_of_gt h1, Nat.not_lt.mpr h7, hw, hs]

theorem doLinkErrClr_eq (s : State) (p : Nat) (hp : p < 128) :
    doLinkErrClr s p = s.modPrt p fun x => { x with crcErr := 0, replays := 0, retrains := 0, downs := 0, fecUncorr := 0 } :=
  if_neg (Nat.not_le.mpr hp)

theorem msErrClr_eq (s : State) (n : Nat) (hu : hostUp s = true) (hn : n < 32) :
    msErrClr s n = s.modStk n fun x => { x with ce := 0, ue := 0 } := by
  simp [msErrClr, hu, Nat.not_le.mpr hn]

theorem doUnmask_eq (s : State) (v : Nat) (hu : hostUp s = true) (hv : v < 2048) : doUnmask s v = msixMask s v false := by
  simp [doUnmask, hu, Nat.not_le.mpr hv]

theorem priClear_eq (s : State) (hw : s.host.wedged = false) : priClear s = s.modXlat fun t => { t with priStopped := false } := by
  simp [priClear, hw]

/-! ## The commands -/

/-- A meaning whose operation is known and raises no fault ends in the operation's state. -/
theorem done_next_of_eq {u t : State} (h : u = t) (hr : t.flt.raised = []) : done u = .next t := by
  subst h; exact done_eq u hr

theorem exec_slotWrite (s : State) (k o n v : Nat) (hset : s.Settled) (hu : hostUp s = true) (hf : s.flt.phase ≠ 7) (hk : k < 16)
    (ho : o < 4096) (hn : n = 4 ∨ n = 8 ∨ n = 16 ∨ n = 32 ∨ n = 64) (ha : o % n = 0)
    (h1 : (AMap.get ({} : Slot) s.mbx.hostSlots k).st ≠ 1) (h2 : (AMap.get ({} : Slot) s.mbx.hostSlots k).st ≠ 2) (hv : v < 2 ^ (8 * n)) :
    exec (.registerWrite (0x10000 + 4096 * k + o) n v) s = .next (s.modMbx fun m => { m with
      hostSlots := AMap.set m.hostSlots k { AMap.get ({} : Slot) s.mbx.hostSlots k with
        frame := splice (slice (AMap.get ({} : Slot) s.mbx.hostSlots k).frame 0 4096) o (leBytes n v) } }) := by
  rw [exec_registerWrite s _ n v hu (by omega), Nat.add_assoc, writeBar0_slots s _ n v (by omega) hv]
  exact done_next_of_eq (slotWrite_free s k o n v hf ho hn ha h1 h2) hset

theorem exec_msixUnmask_pending (s : State) (v : Nat) (hset : s.Settled) (hu : hostUp s = true) (hv : v < 2048)
    (hp : (AMap.get ({} : Msix) s.host.msix v).pendingBit = true) (hf : s.host.functionMask = false) :
    ∃ t : State, exec (.msixUnmask v) s = .next t ∧ t.host.irqs = s.host.irqs ++ [v] ∧
      (AMap.get ({} : Msix) t.host.msix v).masked = false ∧ (AMap.get ({} : Msix) t.host.msix v).pendingBit = false ∧
      t = { s with host := t.host } := by
  have hmask := msixMask_unmask_pending s v hp hf
  refine ⟨_, done_next_of_eq ((doUnmask_eq s v hu hv).trans hmask) hset, ?_⟩
  simp [State.modHost]

/-- Settles O37: every command is its operation's equation, and none but a wedging and an ATS switched off leaves a fault to take. -/
theorem theFunctionTakesWritesConfigurationAndItsLink : Obligations.TheFunctionTakesWritesConfigurationAndItsLink := by
  unfold Obligations.TheFunctionTakesWritesConfigurationAndItsLink
  refine ⟨?respqEvq, ?bar2Map, ?priTmo, exec_slotWrite, ?linkErrClr, ?msErrcntClr, exec_msixUnmask_pending, ?early,
    ?configRequest, ?hostLink, ?priStopped, ?wedge⟩
  case respqEvq =>
    intro s v hset hu hv
    exact (exec_registerWrite s _ _ v hu (by decide)).trans (done_next_of_eq (writeBar0_respqEvq s v hv) hset)
  case bar2Map =>
    intro s v hset hu hv
    exact (exec_registerWrite s _ _ v hu (by decide)).trans (done_next_of_eq (writeBar0_bar2Map s v hv) hset)
  case priTmo =>
    intro s v hset hu hv
    exact (exec_registerWrite s _ _ v hu (by decide)).trans (done_next_of_eq (writeBar0_priTmo s v hv) hset)
  case linkErrClr =>
    intro s p hset hp
    exact done_next_of_eq (doLinkErrClr_eq s p hp) hset
  case msErrcntClr =>
    intro s n hset hu hn
    exact done_next_of_eq (msErrClr_eq s n hu hn) hset
  case early =>
    intro s op hset hw hp
    exact done_next_of_eq (doConfig_early s op hw hp) hset
  case configRequest =>
    intro s on hset hw hp
    refine ⟨?_, ?_, ?_, ?_, ?_⟩
    · exact done_next_of_eq (doConfig_read s hw hp) hset
    · exact done_next_of_eq (doConfig_atsEnable s hw hp true) hset
    · exact done_next_of_eq (doConfig_priEnable s hw hp on) hset
    · exact done_next_of_eq (doConfig_functionMask s hw hp) hset
    · exact congrArg done (doConfig_atsEnable s hw hp false)
  case hostLink =>
    intro s flit speed width hset
    refine ⟨?_, fun h1 h7 hw hf => ?_⟩
    · exact done_next_of_eq (doHostLink_down s flit speed width) hset
    · exact done_next_of_eq (doHostLink_up s flit speed width h1 h7 hw hf) hset
  case priStopped =>
    intro s hset hw
    exact done_next_of_eq (priClear_eq s hw) hset
  case wedge =>
    intro s _ hw hp
    exact congrArg done (doWedge_eq s hw hp)

end Sys2Proof.Machine
end

section
/-! SUPPORT. The setting commands of placement and of the packet unit (R73, R76, R79, R97, R98, R314–R316): what a mailbox row that
answers leaves, then each command with operands it accepts. -/
namespace Sys2Proof.Machine

/-- A mailbox row that runs and answers, raising no fault, ends in the answered state. -/
theorem done_row_answered {s t : State} {m : Master} {code st : Nat} {d : List (Nat × Nat)} {keys : List Key} {f : State → State}
    (h : s.Takes m code keys) (hf : f (s.begun m keys) = respond t m code st d) (hst : st ≠ SUPERSEDED) (hflt : t.flt = s.flt)
    (hcur : t.mbx.cur = s.mbx.cur) :
    done (direct s m code keys fun s => serve s m code f) = .next (t.answered m code st d) := by
  rw [row_eq s m code keys f h, hf]
  exact done_respond (hflt ▸ h.raised) (hcur ▸ h.cur) hst

theorem exec_policySet (s : State) (m : Master) (p : Nat) (b : BitVec 128) (h : s.Takes m 0x0400 [.policy p]) (hp : p < 64)
    (hm : mayManage s m p = true) (h1 : bits b.toNat 23 1 = 0) (h2 : bits b.toNat 26 2 = 0) (h3 : bits b.toNat 44 4 = 0)
    (h4 : bits b.toNat 64 64 = 0) :
    exec (.policySet m p b) s = .next (((s.begun m [.policy p]).modMem fun x => { x with policies := (AMap.set x.policies p
      { minCount := bits b.toNat 0 16, dominance := bits b.toNat 16 4, hysteresis := bits b.toNat 20 3, decay := bits b.toNat 24 2
        demand := bits b.toNat 28 4, lendAccel := bits b.toNat 32 4, lendHost := bits b.toNat 36 4, mirror := bits b.toNat 40 4
        maxMoves := bits b.toNat 48 16 }) }).answered m 0x0400 OK) := by
  refine done_row_answered h ?_ (by decide) (by simp) (by simp)
  simp [hm, h1, h2, h3, h4, Nat.not_lt.mpr (Nat.le_of_lt_succ hp)]

theorem exec_budgetSet (s : State) (m : Master) (b : BitVec 64) (h : s.Takes m 0x0402 [.placement]) (h1 : bits b.toNat 14 2 = 0)
    (h2 : bits b.toNat 54 10 = 0) (h3 : bits b.toNat 0 14 ≤ 8192) (h4 : bits b.toNat 40 14 ≤ 8192) :
    exec (.budgetSet m b) s = .next (((s.begun m [.placement]).modMem fun x => { x with budget :=
      { budget := bits b.toNat 0 14, lowWater := bits b.toNat 16 20, powerMargin := bits b.toNat 36 4
        resync := bits b.toNat 40 14 } }).answered m 0x0402 OK) := by
  refine done_row_answered h ?_ (by decide) (by simp) (by simp)
  simp [h1, h2, Nat.not_lt.mpr h3, Nat.not_lt.mpr h4]

theorem exec_mirrorReserveSet (s : State) (m : Master) (n : Nat) (h : s.Takes m 0x0409 [.placement]) (hn : n ≤ 15248)
    (hd : ∀ x ∈ s.mem.dir, x.2.st = 0) :
    exec (.mirrorReserveSet m n) s =
      .next (((s.begun m [.placement]).modMem fun x => { x with mirrorPerStack := n }).answered m 0x0409 OK) := by
  have hfree : (s.mem.dir.any fun x => x.2.st != 0) = false := List.any_eq_false.mpr fun x hx => by simp [hd x hx]
  refine done_row_answered h ?_ (by decide) (by simp) (by simp)
  simp only [State.begun_mem, hfree, Nat.not_lt.mpr hn, if_false, Bool.false_eq_true]

theorem exec_maintSet (s : State) (m : Master) (n : Nat) (h : s.Takes m 0x040A [.placement]) (h1 : 1 ≤ n) (h2 : n ≤ 168) :
    exec (.maintSet m n) s = .next (((s.begun m [.placement]).modMem fun x => { x with scrubHours := n }).answered m 0x040A OK) := by
  refine done_row_answered h ?_ (by decide) (by simp) (by simp)
  simp only [Nat.not_lt.mpr h1, Nat.not_lt.mpr h2, or_self, if_false]

/-- No lend region has the number, and none overlaps the new one. -/
theorem lends_disjoint {l : AMap Lend} {k : Nat} {r : Lend} (h : ∀ x ∈ l, x.1 ≠ k ∧ lendOverlap x.2 r = false) :
    (l.any fun x => x.1 == k || lendOverlap x.2 r) = false :=
  List.any_eq_false.mpr fun x hx => by simp [h x hx]

theorem exec_lendSet_accelerator (s : State) (m : Master) (r holder base count : Nat) (h : s.Takes m 0x0407 [.lend r]) (hr : r ≤ 14)
    (h1 : 1 ≤ count) (h2 : count ≤ 32768) (hh : holder ∈ s.man.endPoints) (hb : base < 2 ^ 56) (hn : addrNode base = holder)
    (ho : addrOff base + count * 0x200000 ≤ 2 ^ 47)
    (hl : ∀ x ∈ s.mem.lends, x.1 ≠ r ∧ lendOverlap x.2 { host := false, holder := holder, base := base, count := count } = false) :
    exec (.lendSet m r false holder base count) s = .next (((s.begun m [.lend r]).modMem fun x => { x with lends := (AMap.set x.lends r
      { host := false, holder := holder, base := base, count := count }) }).answered m 0x0407 OK) := by
  have hrange : (s.man.endPoints.contains holder && decide (base < 2 ^ 56) && addrNode base == holder &&
      decide (addrOff base + count * 0x200000 ≤ 2 ^ 47)) = true := by simp only [List.contains_iff_mem.mpr hh, hb, hn, ho]; simp
  refine done_row_answered h ?_ (by decide) (by simp) (by simp)
  simp only [State.begun_man, State.begun_mem, Bool.false_eq_true, if_false, lends_disjoint hl, hrange, Nat.not_lt.mpr hr, Nat.not_lt.mpr h2,
    Nat.ne_of_gt h1, Bool.not_true, false_and, or_self]

theorem exec_lendSet_host (s : State) (m : Master) (holder base count : Nat) (h : s.Takes m 0x0407 [.lend 15]) (h1 : 1 ≤ count)
    (h2 : count ≤ 32768) (ho : base + count * 0x200000 ≤ 0x400000000000) (hc : s.host.conf = false)
    (hl : ∀ x ∈ s.mem.lends, x.1 ≠ 15 ∧ lendOverlap x.2 { host := true, holder := s.self, base := base, count := count } = false) :
    exec (.lendSet m 15 true holder base count) s = .next (((s.begun m [.lend 15]).modMem fun x => { x with lends := (AMap.set x.lends 15
      { host := true, holder := s.self, base := base, count := count }) }).answered m 0x0407 OK) := by
  refine done_row_answered h ?_ (by decide) (by simp) (by simp)
  simp only [State.begun_self, State.begun_mem, State.begun_host, if_true, lends_disjoint hl, ho, hc, Nat.not_lt.mpr h2, Nat.ne_of_gt h1,
    decide_true, Bool.not_true, Bool.false_eq_true, and_false, ne_eq, not_true_eq_false, or_self, if_false]

theorem exec_pktCtrlSet (s : State) (m : Master) (n : Nat) (l : Bool) (h : s.Takes m 0x0380 [.pktCtrl]) (h1 : 2 ≤ n) (h2 : n ≤ 1000) :
    exec (.pktCtrlSet m n l) s =
      .next (((s.begun m [.pktCtrl]).modFab fun f => { f with loadTmo := n, localise := l }).answered m 0x0380 OK) := by
  refine done_row_answered h ?_ (by decide) (by simp) (by simp)
  simp only [Nat.not_lt.mpr h1, Nat.not_lt.mpr h2, or_self, if_false]

theorem exec_deadSet (s : State) (m : Master) (n : Nat) (h : s.Takes m 0x0381 [.dead n]) (hn : n < 512) (hs : n ≠ s.self)
    (hd : n ∉ s.fab.dead) (hl : s.fab.dead.length < 64) :
    exec (.deadSet m n) s = .next (((s.begun m [.dead n]).modFab fun f => { f with dead := f.dead ++ [n] }).answered m 0x0381 OK) := by
  refine done_row_answered h ?_ (by decide) (by simp) (by simp)
  simp [hs, hd, Nat.not_le.mpr hn, Nat.not_le.mpr hl]

theorem exec_deadClear (s : State) (m : Master) (n : Nat) (h : s.Takes m 0x0382 [.dead n]) (hn : n < 512) :
    exec (.deadClear m n) s =
      .next (((s.begun m [.dead n]).modFab fun f => { f with dead := f.dead.filter (· != n) }).answered m 0x0382 OK) := by
  refine done_row_answered h ?_ (by decide) (by simp) (by simp)
  simp only [Nat.not_le.mpr hn, if_false]

/-- Settles O15: each command accepts the operands that the statement allows, changes its setting and answers. -/
theorem settingCommandsSetWhatTheyName : Obligations.SettingCommandsSetWhatTheyName := by
  unfold Obligations.SettingCommandsSetWhatTheyName
  exact ⟨exec_policySet, exec_budgetSet, exec_mirrorReserveSet, exec_maintSet, exec_lendSet_accelerator, exec_lendSet_host,
    exec_pktCtrlSet, exec_deadSet, exec_deadClear⟩

end Sys2Proof.Machine
end

section
/-! SUPPORT. Completions and CTRL packets (R293, R298, R299, R301, R307, R317): what a delivered packet's row does, then what a completion
does with its tracker, case by case. -/
namespace Sys2Proof.Machine

/-! ## Rows of delivered packets -/

/-- A delivered packet other than CTRL is served as data. -/
theorem done_packetRow_data {s : State} {p : Packet} {ok : Packet → Bool} (h : s.Delivered p) (ho : ok p = true) (hc : p.opcode ≠ opCTRL) :
    done (packetRow s ok p) = .next (serveData (s.taking p) p).served := by
  rw [packetRow_delivered s ok p h ho, servePacket, if_neg hc]; rfl

theorem exec_ctrl {s : State} {p : Packet} (h : s.Delivered p) (hp : p.opcode = opCTRL) :
    exec (.ctrl p) s = .next (takeCtrl (s.taking p) p).served := by
  change done (packetRow s (opIs opCTRL) p) = _
  rw [packetRow_delivered s _ p h (by simp [opIs, hp]), servePacket, if_pos hp]; rfl

/-- The row of a completion, by its opcode. -/
abbrev CompletionRow (p : Packet) (i : Instr) : Prop :=
  (p.opcode = opCPL ∧ i = .cpl p) ∨ (p.opcode = opCPLD ∧ i = .cplData p) ∨ (p.opcode = opCPLP ∧ i = .cplPosted p)

theorem serveData_completion {s : State} {p : Packet} (h : isCplOp p.opcode = true) : serveData s p = serveCompletion s p := if_pos h

theorem exec_completion {s : State} {p : Packet} {i : Instr} (h : s.Delivered p) (hi : CompletionRow p i) :
    exec i s = .next (serveCompletion (s.taking p) p).served := by
  rcases hi with ⟨hp, rfl⟩ | ⟨hp, rfl⟩ | ⟨hp, rfl⟩ <;>
    exact (done_packetRow_data h (by simp [opIs, hp]) (by rw [hp]; decide)).trans
      (by rw [serveData_completion (by rw [hp]; decide)])

/-! ## What a completion does -/

section
variable {s : State} {p : Packet} {k : Nat} {t : Track}

theorem serveCompletion_unmatched (h : trackFor s p = none) : serveCompletion s p = countDiscard s := by
  simp only [serveCompletion, h]

variable (hk : trackFor s p = some k) (ht : s.fab.tracks[k]? = some t)
include hk ht

theorem serveCompletion_posted (hi : t.ingress.isSome = true) (hp : p.opcode = opCPLP) : serveCompletion s p = closeTrack s k := by
  simp only [serveCompletion, hk, ht, hi, hp, if_true]

/-- The completion of an end point's request goes on to it under its own tag. -/
theorem serveCompletion_endPoint (hi : t.ingress.isSome = true) (hp : p.opcode ≠ opCPLP) :
    serveCompletion s p = (closeTrack s k).modFab fun f => { f with
      inbuf := f.inbuf ++ [{ port := p.inPort, vc := 2, pkt := toEndPoint p t.origTag }] } := by
  simp only [serveCompletion, hk, ht, hi, hp, if_true, if_false]

theorem serveCompletion_unit (hi : t.ingress = none) : serveCompletion s p = takeCompletion s k t p := by
  simp only [serveCompletion, hk, ht, hi, Option.isSome_none, Bool.false_eq_true, if_false]

end

/-- BUSY leaves the tracker to be retried. -/
theorem takeCompletion_busy {s : State} {p : Packet} (k : Nat) (t : Track) (h : p.status = BUSY) :
    takeCompletion s k t p = modTrack s k fun t => { t with retryDue := true } := by
  have hok : p.status ≠ OK := by rw [h]; decide
  simp only [takeCompletion, hok, false_and, if_false, if_pos h]
  rfl

/-- The state in which a unit's access ends: a reply that came straight from the tile's holder has refilled the location cache (R83). -/
def State.refilled (s : State) (t : Track) (p : Packet) : State :=
  if t.pkt.opcode ≠ opRDV ∧ p.fwd = false then locFill s t.pkt.port t.pkt.place p.srcNode else s

theorem refilled_eq {s : State} {t : Track} {p : Packet} (h : p.status = OK) :
    (if p.status = OK ∧ t.pkt.opcode ≠ opRDV ∧ ! p.fwd then locFill s t.pkt.port t.pkt.place p.srcNode else s) = s.refilled t p := by
  simp [State.refilled, h]

theorem takeCompletion_plain {s : State} {p : Packet} (k : Nat) (t : Track) (h : p.status = OK) (hd : cplOf t.pkt.opcode ≠ opCPLD) :
    takeCompletion s k t p = endTrack (s.refilled t p) k t OK [] [] := by
  have hb : p.status ≠ BUSY := by rw [h]; decide
  simp only [takeCompletion, refilled_eq h, if_neg hb, if_pos (Or.inl hd : cplOf t.pkt.opcode ≠ opCPLD ∨ _)]
  rw [h]

/-- The far-line copies that a unit's read leaves behind (R270): an engine's read of the pool of a Devik whose directory is elsewhere. -/
def State.farFilled (w : State) (t : Track) (p : Packet) : State :=
  match t.owner with
  | .cmd g _ _ _ =>
    if (t.pkt.opcode = opRD ∨ t.pkt.opcode = opRDV) ∧ farEligible w t.pkt.place ∧ ! dirHere w t.pkt.place then
      fillFar w (groupHd w g) t.pkt.place t.pkt.part p.payload t.noFill (t.pkt.opcode == opRDV)
    else w
  | _ => w

theorem takeCompletion_data {s : State} {p : Packet} (k : Nat) (t : Track) (h : p.status = OK) (hd : cplOf t.pkt.opcode = opCPLD)
    (hpo : p.poison = false) (hr : replyOk t p = true) :
    takeCompletion s k t p = (endTrack (s.refilled t p) k t OK p.payload []).farFilled t p := by
  have hb : p.status ≠ BUSY := by rw [h]; decide
  have hends : ¬ (cplOf t.pkt.opcode ≠ opCPLD ∨ p.status ≠ OK ∧ p.status ≠ POISONED) := by simp [hd, h]
  have hclean : ¬ (p.status = POISONED ∨ p.poison = true) := by rw [h, hpo]; decide
  simp only [takeCompletion, refilled_eq h, if_neg hb, if_neg hends, if_neg hclean, if_pos hr]
  rfl

theorem farFilled_other {w : State} {t : Track} {p : Packet} (h : ∀ g e q c, t.owner ≠ .cmd g e q c) : w.farFilled t p = w := by
  unfold State.farFilled
  split
  next ho => exact absurd ho (h _ _ _ _)
  next => rfl

theorem farFilled_cmd {w : State} {t : Track} {p : Packet} {g e q c : Nat} (h : t.owner = .cmd g e q c) :
    w.farFilled t p = if (t.pkt.opcode = opRD ∨ t.pkt.opcode = opRDV) ∧ farEligible w t.pkt.place = true ∧ dirHere w t.pkt.place = false then
      fillFar w (groupHd w g) t.pkt.place t.pkt.part p.payload t.noFill (t.pkt.opcode == opRDV) else w := by
  simp only [State.farFilled, h, Bool.not_eq_true']

/-! ## CTRL packets -/

/-- A kind that is no message between directories or sequence services waits for its own row. -/
theorem takeCtrl_other {s : State} {p : Packet} (h : bits (leNat p.payload) 0 8 < 16 ∨ 37 < bits (leNat p.payload) 0 8) :
    takeCtrl s p = s.modFab fun f => { f with ctrlIn := f.ctrlIn ++ [p] } := by
  have hk : ∀ n, 16 ≤ n → n ≤ 37 → bits (leNat p.payload) 0 8 ≠ n := by omega
  simp only [takeCtrl, msgDrop, msgDropped, msgEntry, msgGuest, msgBegin, msgMarked, msgFlip, msgFree, msgEvac, msgOver, msgPromote,
    msgHomed, msgHandback, msgSeq, msgSeqLen, msgSeqGone, msgStripes, msgCollStuck, hk, Nat.reduceLeDiff, Nat.le_refl, if_false]

/-- Settles O45: a completion's row does what its tracker's kind and its status say, and a CTRL packet's row takes its message. -/
theorem completionsCloseTheirTrackers : Obligations.CompletionsCloseTheirTrackers := by
  unfold Obligations.CompletionsCloseTheirTrackers
  refine ⟨fun s p i h hi => ?completion, fun s p h hp => ⟨exec_ctrl h hp, fun hk => ?other⟩⟩
  case other => rw [exec_ctrl h hp, takeCtrl_other hk]
  case completion =>
    rw [exec_completion h hi]
    refine ⟨fun hk => ?unmatched, fun k t hk ht hin hp => ?posted, fun k t hk ht hin hp => ?endPoint, fun k t hk ht hin hb => ?busy,
      fun k t u hk ht hin hok hu => ?ended⟩
    case unmatched => rw [serveCompletion_unmatched (s := s.taking p) hk]
    case posted => rw [serveCompletion_posted (s := s.taking p) hk ht hin hp]
    case endPoint => rw [serveCompletion_endPoint (s := s.taking p) hk ht hin hp]
    case busy => rw [serveCompletion_unit (s := s.taking p) hk ht hin, takeCompletion_busy k t hb]
    case ended =>
      change u = (s.taking p).refilled t p at hu
      subst hu
      rw [serveCompletion_unit (s := s.taking p) hk ht hin]
      refine ⟨fun hd => ?_, fun hd hpo hr => ⟨_, rfl, fun ho => ?_, fun g e q c ho => ?_⟩⟩
      · rw [takeCompletion_plain k t hok hd]
      · rw [takeCompletion_data k t hok hd hpo hr, farFilled_other ho]
      · rw [takeCompletion_data k t hok hd hpo hr, farFilled_cmd ho]

end Sys2Proof.Machine
end

section
/-! SUPPORT. Write packets, fences and invalidations at their target (R259, R273, R276, R279, R294, R300, R305): what serving a request of
this node's own pool or control window does, case by case. -/
namespace Sys2Proof.Machine

/-! ## Requests of this node's own offsets -/

/-- Taking a packet leaves the package's own node number. -/
@[simp] theorem State.taking_self (s : State) (p : Packet) : (s.taking p).self = s.self := rfl

/-- The pair partner's number is never the package's own, so a request of this node is served under it. -/
theorem servedNode_own {s : State} {p : Packet} (hn : addrNode p.addr = s.self) : servedNode s p = some s.self := by
  simp only [servedNode, hn, true_or, if_true]

/-- A request of this node's own offsets wakes no mirror of the partner's (R449). -/
theorem wakeCopy_own (s : State) (p : Packet) : wakeCopy s p s.self = s := by
  simp only [wakeCopy, s.self_ne_partner, false_and, and_false, if_false]

/-- No own tile is a stray one (R88). -/
theorem strayTile_own (s : State) (off : Nat) : strayTile s s.self off = false := by
  simp [strayTile]

theorem isCtlOff_of_pool {off : Nat} (h : isPoolOff off = true) : isCtlOff off = false := by
  simp only [isPoolOff, decide_eq_true_eq] at h
  simp only [isCtlOff, decide_eq_false_iff_not]
  omega

/-! ## Writes of the own pool -/

section
variable {s : State} {p : Packet}

theorem serveData_write (h : p.opcode = opWR ∨ p.opcode = opWRP) : serveData s p = serveWrite s p := by
  rcases h with h | h <;> simp [serveData, h, opWR, opWRP, opRD, opRDV, isCplOp, isCollOp]

theorem serveWrite_crossing (h : crosses p.addr p.len = true) : serveWrite s p = answer s p REFUSED [] := by
  rw [serveWrite, if_pos h]

variable (hx : crosses p.addr p.len = false) (hcp : isCopy p = false) (hn : addrNode p.addr = s.self)
include hx hcp hn

theorem serveWrite_denied (hc : accCheck s s.self (addrOff p.addr) p.len p.part true = some DENIED) : serveWrite s p = denyReq s p := by
  simp [serveWrite, hx, hcp, servedNode_own hn, wakeCopy_own, strayTile_own, hc, DENIED, POISONED]

theorem serveWrite_poisoned (hc : accCheck s s.self (addrOff p.addr) p.len p.part true = some POISONED) :
    serveWrite s p = answer (bumpFor s p) p POISONED [] := by
  simp [serveWrite, hx, hcp, servedNode_own hn, wakeCopy_own, strayTile_own, hc, POISONED]

/-- A write that cannot be checked yet waits in the hub die. -/
theorem serveWrite_waiting (hc : accCheck s s.self (addrOff p.addr) p.len p.part true = none) : serveWrite s p = park s p := by
  simp [serveWrite, hx, hcp, servedNode_own hn, wakeCopy_own, strayTile_own, hc]

variable {v : State} (hv : v = fetchFor s p s.self (addrOff p.addr))
  (hc : accCheck s s.self (addrOff p.addr) p.len p.part true = some OK)
include hv hc

/-- A write to a tile that a demand fetch is bringing waits. -/
theorem serveWrite_fetching (ht : tileCopying v s.self (addrOff p.addr) = false) (hf : fetching v p s.self (addrOff p.addr) = true) :
    serveWrite s p = park v p := by
  subst hv
  simp [serveWrite, hx, hcp, servedNode_own hn, wakeCopy_own, strayTile_own, hc, OK, ht, hf]

/-- A write to a tile that lies elsewhere goes on there. -/
theorem serveWrite_elsewhere (ht : tileCopying v s.self (addrOff p.addr) = false) (hf : fetching v p s.self (addrOff p.addr) = false)
    (hl : locLocal v (ordLoc v s.self (addrOff p.addr)) = false) (hpool : isPoolOff (addrOff p.addr) = true) :
    serveWrite s p = relay v p s.self (addrOff p.addr) := by
  subst hv
  simp [serveWrite, hx, hcp, servedNode_own hn, wakeCopy_own, strayTile_own, hc, OK, ht, hf, hl, hpool]

variable (hhere : tileCopying v s.self (addrOff p.addr) = true ∨
    (fetching v p s.self (addrOff p.addr) = false ∧ locLocal v (ordLoc v s.self (addrOff p.addr)) = true))
  (hinc : incRefused v p = false)
include hhere hinc

theorem serveWrite_chunk (hk : p.chk = true) : serveWrite s p = addChunk v p s.self true := by
  subst hv
  rcases hhere with ht | ⟨hf, hl⟩
  · simp [serveWrite, hx, hcp, servedNode_own hn, wakeCopy_own, strayTile_own, hc, OK, ht, hinc, hk]
  · simp [serveWrite, hx, hcp, servedNode_own hn, wakeCopy_own, strayTile_own, hc, OK, hf, hl, hinc, hk]

/-- An unchecked write is accepted in its requester's lane, and answered at once or with its mirror. -/
theorem serveWrite_accepted {u w : State} (hu : u = countServed v p s.self (addrOff p.addr))
    (hw : w = acceptWrite u s.self (addrOff p.addr) (laneOf u p.srcNode) p.payload p.part p.poison) (hk : p.chk = false)
    (hpool : isPoolOff (addrOff p.addr) = true) :
    serveWrite s p =
      if mirrored u s.self (addrOff p.addr) then
        mirrorWrite w s.self (addrOff p.addr) p.payload p.part .none (some (cplInc w p OK [])) fun _ => p.poison
      else answer (bumpFor w p) p OK [] := by
  subst hv hu hw
  rcases hhere with ht | ⟨hf, hl⟩
  · simp [serveWrite, hx, hcp, servedNode_own hn, wakeCopy_own, strayTile_own, hc, OK, ht, hinc, hk, isCtlOff_of_pool hpool]
  · simp [serveWrite, hx, hcp, servedNode_own hn, wakeCopy_own, strayTile_own, hc, OK, hf, hl, hinc, hk, isCtlOff_of_pool hpool]

end

theorem exec_write {s : State} {p : Packet} {i : Instr} (h : s.Delivered p)
    (hi : (p.opcode = opWR ∧ i = .wr p) ∨ (p.opcode = opWRP ∧ i = .wrp p)) :
    exec i s = .next (serveWrite (s.taking p) p).served := by
  rcases hi with ⟨hp, rfl⟩ | ⟨hp, rfl⟩ <;>
    exact (done_packetRow_data h (by simp [opIs, hp]) (by rw [hp]; decide)).trans (by rw [serveData_write (by simp [hp])])

/-! ## Context fences (R276, R279) -/

theorem ctxFenceOff_window : winOf ctxFenceOff = .ncw 0x80 := rfl

/-- A write of the CTX_FENCE block lies within one 4 KiB block. -/
theorem crosses_ctxFence {a : Nat} (h : addrOff a = ctxFenceOff) : crosses a 64 = false := by
  simp only [addrOff, bits, Nat.shiftRight_zero, ctxFenceOff] at h
  simp only [crosses, bne_eq_false_iff_eq]
  omega

section
variable {s : State}

theorem accCheck_ctxFence (len part : Nat) : accCheck s s.self ctxFenceOff len part true = some OK := by
  simp [accCheck, unitFencedAt, ctxFenceOff_window]

/-- No demand fetch begins for a control window (R90). -/
theorem fetchFor_ctxFence (p : Packet) : fetchFor s p s.self ctxFenceOff = s := by
  simp only [fetchFor, demandFetch, ctxFenceOff_window, ite_self]

theorem fetching_ctxFence (p : Packet) : fetching s p s.self ctxFenceOff = false := by
  simp only [fetching, demandHeld, ctxFenceOff_window, Bool.and_false]

/-- The requests that a fence over a context waits for. -/
def fenceWaits (s : State) (c : Nat) : List (Nat × Nat) :=
  (s.fab.tracks.filter fun t => t.ctx == c && ! t.timedOut).map Track.name ++
    (s.xlat.accs.filter fun a => a.ctx == c && a.st != 2).map fun a => (512, a.id)

theorem fenceWaits_eq_nil (c : Nat) : fenceWaits s c = [] ↔
    (s.fab.tracks.any fun t => t.ctx == c && ! t.timedOut) = false ∧ (s.xlat.accs.any fun a => a.ctx == c && a.st != 2) = false := by
  simp only [fenceWaits, List.append_eq_nil_iff, List.map_eq_nil_iff, List.filter_eq_nil_iff, List.any_eq_false]

/-- A fence whose own request has no tracker here starts over every request of its context. -/
theorem startFence_eq (c : Nat) (p : Packet) : startFence s c (some p) .none none =
    if fenceWaits s c = [] then answer (s.modMem fun m => { m with ctxFences := satAdd 32 m.ctxFences 1 }) p OK []
    else s.modMem fun m => { m with fences := m.fences ++ [{ reply := some p, owner := .none, waits := fenceWaits s c }] } := by
  have hown : ∀ t : Track, (some t.name != none) = true := fun _ => rfl
  simp only [startFence, hown, Bool.and_true, List.isEmpty_iff]
  rfl

/-- A write of the CTX_FENCE block by a unit of a Devik starts the fence that it names. -/
theorem serveWrite_ctxFence {p : Packet} {c : Nat} (hlen : p.len = 64) (hep : epOf s p.inPort = none) (hk : p.chk = false)
    (hi : p.ctrEn = false) (hn : addrNode p.addr = s.self) (ho : addrOff p.addr = ctxFenceOff) (hc : fenceCtx (leNat p.payload) = some c)
    (ht : reqTrack s p = none) : serveWrite s p = startFence s c (some p) .none none := by
  have hx : crosses p.addr p.len = false := by rw [hlen]; exact crosses_ctxFence ho
  have hcopy : (isCopy p && isPoolOff ctxFenceOff) = false := Bool.and_eq_false_imp.mpr fun _ => rfl
  have happly : ctlApply s p = (startFence s c (some p) .none none, none) := by
    have hblock : ctxFenceOff - ctxFenceOff % 64 = ctxFenceOff := rfl
    simp [ctlApply, ho, hblock, hlen, fromEp, hep, hc, ht]
  have hpool : isPoolOff ctxFenceOff = false := rfl
  have hctl : isCtlOff ctxFenceOff = true := rfl
  simp [serveWrite, hx, servedNode_own hn, ho, hpool, wakeCopy_own, strayTile_own, accCheck_ctxFence, OK, fetchFor_ctxFence, fetching_ctxFence,
    incRefused, hi, hk, hctl, happly, bumpFor]

end

theorem exec_ctxFence {s : State} {p : Packet} {c : Nat} (h : s.Delivered p) (hp : p.opcode = opWR) (hlen : p.len = 64)
    (hep : epOf s p.inPort = none) (hk : p.chk = false) (hi : p.ctrEn = false) (hn : addrNode p.addr = s.self)
    (ho : addrOff p.addr = ctxFenceOff) (hc : fenceCtx (leNat p.payload) = some c) (ht : reqTrack s p = none) :
    exec (.ctxFence p) s = .next (startFence (s.taking p) c (some p) .none none).served := by
  have hrow : isFenceWrite p = true := by simp [isFenceWrite, hp, ho, ctxFenceOff]
  refine (done_packetRow_data h hrow (by rw [hp]; decide)).trans ?_
  rw [serveData_write (Or.inl hp), serveWrite_ctxFence (s := s.taking p) hlen hep hk hi hn ho hc ht]

/-! ## Invalidations (R273, R297) -/

section
variable {s : State} {p : Packet}

theorem serveData_inv (h : p.opcode = opINV) : serveData s p = serveInv s p := by
  simp [serveData, h, opINV, opWR, opWRP, opRD, opRDV, opATOM, opRED, isCplOp, isCollOp]

theorem exec_inv (h : s.Delivered p) (hp : p.opcode = opINV) : exec (.inv p) s = .next (serveInv (s.taking p) p).served := by
  refine (done_packetRow_data h (by simp [isInvPacket, hp]) (by rw [hp]; decide)).trans ?_
  rw [serveData_inv hp]

theorem serveInv_block (ho : addrOff p.addr = 0x020042200040) (hlen : p.len = 64) (h1 : bits (leNat p.payload) 56 8 = 0)
    (h2 : bits (leNat p.payload) 112 400 = 0) (hn : addrNode p.addr = s.self) :
    serveInv s p = answer (invBlock s (leNat p.payload)) p OK [] := by
  simp only [serveInv, ho, hlen, h1, h2, hn, ne_eq, not_true_eq_false, or_self, if_false]

theorem serveInv_refused (h : addrOff p.addr ≠ 0x020042200040 ∨ p.len ≠ 64 ∨ bits (leNat p.payload) 56 8 ≠ 0 ∨
    bits (leNat p.payload) 112 400 ≠ 0) : serveInv s p = answer s p REFUSED [] := if_pos h

theorem exec_inv_write (h : s.Delivered p) (hp : p.opcode = opWR ∨ p.opcode = opWRP) (ho : addrOff p.addr = 0x020042200040) :
    exec (.inv p) s = .next (serveWrite (s.taking p) p).served := by
  have hrow : isInvPacket p = true := by rcases hp with hp | hp <;> simp [isInvPacket, hp, ho]
  refine (done_packetRow_data h hrow (by rcases hp with hp | hp <;> rw [hp] <;> decide)).trans ?_
  rw [serveData_write hp]

end

/-- Settles O43: each row serves its packet, and the cases of the statement are the cases of what serving it does. -/
theorem writePacketsAreAcceptedAndFencesAndInvalidationsAct : Obligations.WritePacketsAreAcceptedAndFencesAndInvalidationsAct := by
  unfold Obligations.WritePacketsAreAcceptedAndFencesAndInvalidationsAct
  refine ⟨fun s u v p i h hi hv hu => ?write, fun s p c h hp hlen hep hk hinc hn ho hc ht => ?fence,
    fun s p h hp ho hlen h1 h2 hn => ?inv, fun s p h hp hbad => ?refused, fun s p h hp ho => exec_inv_write h hp ho⟩
  case write =>
    rw [exec_write h hi]
    refine ⟨fun hx => ?_, fun hx hcp hn => ⟨fun hc => ?_, fun hc => ?_, fun hc => ?_, fun hc hpool => ⟨fun ht hf => ?_, fun ht hf hl => ?_,
      fun hhere hinc => ⟨fun hk => ?_, fun hk hm => ?_, fun hk hm => ⟨_, rfl, ?_⟩⟩⟩⟩⟩
    · rw [serveWrite_crossing hx]
    · rw [serveWrite_denied (s := s.taking p) hx hcp hn hc]
    · rw [serveWrite_poisoned (s := s.taking p) hx hcp hn hc]
    · rw [serveWrite_waiting (s := s.taking p) hx hcp hn hc]
    · rw [serveWrite_fetching (s := s.taking p) hx hcp hn hv hc ht hf]
    · rw [serveWrite_elsewhere (s := s.taking p) hx hcp hn hv hc ht hf hl hpool, State.taking_self]
    · rw [serveWrite_chunk (s := s.taking p) hx hcp hn hv hc hhere hinc hk, State.taking_self]
    · rw [serveWrite_accepted (s := s.taking p) hx hcp hn hv hc hhere hinc hu rfl hk hpool, State.taking_self, hm]
      rfl
    · rw [serveWrite_accepted (s := s.taking p) hx hcp hn hv hc hhere hinc hu rfl hk hpool, State.taking_self, if_pos hm]
  case fence =>
    rw [exec_ctxFence h hp hlen hep hk hinc hn ho hc ht, startFence_eq]
    refine ⟨fun h1 h2 => ?_, fun hw => ?_⟩
    · rw [if_pos ((fenceWaits_eq_nil (s := s.taking p) c).mpr ⟨h1, h2⟩)]
    · rw [if_neg]
      · rfl
      · intro hnil
        obtain ⟨h1, h2⟩ := (fenceWaits_eq_nil (s := s.taking p) c).mp hnil
        rcases hw with hw | hw
        · exact absurd (hw.symm.trans h1) (by decide)
        · exact absurd (hw.symm.trans h2) (by decide)
  case inv => rw [exec_inv h hp, serveInv_block (s := s.taking p) ho hlen h1 h2 hn]
  case refused => rw [exec_inv h hp, serveInv_refused hbad]

end Sys2Proof.Machine
end

section
/-! SUPPORT. The straps, and with them the package's own node number (R16, R17), stay as they are while a request is checked, a demand
fetch begins, and accepted writes are performed: one lemma for each operation on the way. -/
namespace Sys2Proof.Machine

theorem foldl_straps {α : Type} {f : State → α → State} (h : ∀ s x, (f s x).straps = s.straps) (l : List α) (s : State) :
    (l.foldl f s).straps = s.straps := by
  induction l generalizing s with
  | nil => rfl
  | cons x l ih => exact (ih (f s x)).trans (h s x)

/-! ## Packets, refusals and replies -/

@[simp] theorem send_straps (s : State) (p : Packet) : (send s p).straps = s.straps := rfl
@[simp] theorem sendMsg_straps (s : State) (d k : Nat) (l : List (Nat × Nat)) : (sendMsg s d k l).straps = s.straps := rfl
@[simp] theorem answer_straps (s : State) (p : Packet) (st : Nat) (d : Bytes) : (answer s p st d).straps = s.straps := rfl
@[simp] theorem raise_straps (s : State) (c : Capture) : (raise s c).straps = s.straps := rfl
@[simp] theorem setEnt_straps (s : State) (p : Nat) (e : DirEntry) : (s.setEnt p e).straps = s.straps := rfl
@[simp] theorem modRun_straps (s : State) (g e q i : Nat) (f : Running → Running) : (modRun s g e q i f).straps = s.straps := rfl

@[simp] theorem noteRefusal_straps (s : State) (die : Nat) (c : Option Nat) (a p o : Nat) : (noteRefusal s die c a p o).straps = s.straps := by
  unfold noteRefusal
  cases c <;> dsimp only <;> split <;> rfl

@[simp] theorem notePacket_straps (s : State) (d : Nat) (c : Capture) : (notePacket s d c).straps = s.straps := by
  unfold notePacket
  split <;> rfl

@[simp] theorem noteTimeout_straps (s : State) (die d o c : Nat) : (noteTimeout s die d o c).straps = s.straps := by
  simp [noteTimeout]

@[simp] theorem sendReply_straps (s : State) (r : Packet) : (sendReply s r).straps = s.straps := by
  unfold sendReply
  split
  · dsimp only; split <;> simp [acceptInc, pushLane]
  · rfl

@[simp] theorem answerFor_straps (s : State) (p : Packet) (st : Nat) (d : Bytes) : (answerFor s p st d).straps = s.straps := by
  unfold answerFor
  split <;> simp

@[simp] theorem mirrorEntry_straps (s : State) (p : Nat) : (mirrorEntry s p).straps = s.straps := by
  unfold mirrorEntry
  split <;> rfl

/-! ## Accesses that end -/

@[simp] theorem clearBehind_straps (s : State) (p : Nat) : (clearBehind s p).straps = s.straps := by
  unfold clearBehind
  split <;> rfl

@[simp] theorem joinAccess_straps (s : State) (g k key kind : Nat) (rd : Bool) (a n st : Nat) (d : Bytes) (bad : List Nat) :
    (joinAccess s g k key kind rd a n st d bad).straps = s.straps := by
  unfold joinAccess
  dsimp only
  split
  · split <;> rfl
  · split
    · rfl
    · split <;> rfl

@[simp] theorem ownerDone_straps (s : State) (o : Owner) (rd : Bool) (a n st : Nat) (d : Bytes) (bad : List Nat) :
    (ownerDone s o rd a n st d bad).straps = s.straps := by
  cases o with
  | none => rfl
  | cmd g e q i => rfl
  | frontEnd g a => rfl
  | ring g c part => unfold ownerDone; dsimp only; split <;> rfl
  | mirror p => unfold ownerDone; dsimp only; (repeat' split) <;> simp
  | tile p => unfold ownerDone; dsimp only; (repeat' split) <;> rfl
  | reply req => simp [ownerDone]
  | bar2 => unfold ownerDone; dsimp only; split <;> rfl
  | sluice => rfl
  | forwarded p => simp [ownerDone]
  | clearing p m => rfl
  | coll g k key kind => simp [ownerDone]

@[simp] theorem answerFences_straps (s : State) (l : List CtxFenceS) : (answerFences s l).straps = s.straps := by
  refine foldl_straps (fun s f => ?_) l s
  dsimp only
  rw [ownerDone_straps]
  split <;> rfl

@[simp] theorem closeAcc_straps (s : State) (id : Nat) : (closeAcc s id).straps = s.straps := by
  simp [closeAcc, closeFences]

/-! ## Requests to other nodes and to the host -/

@[simp] theorem issue_straps (s : State) (p : Packet) (c : Nat) (o : Owner) (r : Option Packet) : (issue s p c o r).straps = s.straps := by
  unfold issue
  dsimp only
  split
  · simp
  · split <;> rfl

@[simp] theorem hostSend_straps (s : State) : (hostSend s).straps = s.straps := by
  unfold hostSend
  exact foldl_straps (fun s a => by simp) _ _

@[simp] theorem atcUse_straps (s : State) (o : Owner) (pasid : Option Nat) (v : Nat) (wr : Bool) : (atcUse s o pasid v wr).1.straps = s.straps := by
  unfold atcUse
  dsimp only
  cases copyOf o <;> dsimp only <;> (repeat' split) <;> rfl

theorem hostAccess_straps {s t : State} {c v n : Nat} {wr : Bool} {d : Bytes} {o : Owner} {lend : Bool} {nm : Nat}
    (h : hostAccess s c v n wr d o lend nm = some t) : t.straps = s.straps := by
  unfold hostAccess at h
  dsimp only at h
  split at h
  · cases h
  · injection h with h
    subst h
    split <;> simp

/-! ## Errors and writes of memory -/

@[simp] theorem poisonAtom_straps (s : State) (a : Nat) : (poisonAtom s a).straps = s.straps := by
  unfold poisonAtom
  dsimp only
  (repeat' split) <;> rfl

@[simp] theorem decodeAtom_straps (s : State) (n a b : Nat) : (decodeAtom s n a b).straps = s.straps := by
  unfold decodeAtom State.draw
  dsimp only
  (repeat' split) <;> simp [State.modStk]

@[simp] theorem decodeLine_straps (s : State) (l b : Nat) : (decodeLine s l b).straps = s.straps := by
  unfold decodeLine State.draw
  dsimp only
  (repeat' split) <;> simp

@[simp] theorem meetError_straps (s : State) (a : Nat) : (meetError s a).straps = s.straps := by
  unfold meetError
  (repeat' split) <;> simp

@[simp] theorem meetErrors_straps (s : State) (k n : Nat) : (meetErrors s k n).straps = s.straps := by
  unfold meetErrors
  split
  · rfl
  · exact foldl_straps meetError_straps _ _

@[simp] theorem writeAtom_straps (s : State) (k : Nat) (d : Bytes) (part : Nat) (poison : Bool) :
    (writeAtom s k d part poison).straps = s.straps := by
  unfold writeAtom
  dsimp only
  (repeat' split) <;> simp [clearPoison]

@[simp] theorem performWrite_straps (s : State) (k : Nat) (d : Bytes) (part : Nat) (poison : Bool) :
    (performWrite s k d part poison).straps = s.straps :=
  foldl_straps (fun s _ => writeAtom_straps s _ _ _ _) _ _

@[simp] theorem performItem_straps (s : State) (i : LaneItem) : (performItem s i).straps = s.straps := by
  cases i with
  | write t l k d part poison => exact performWrite_straps s k d part poison
  | inc g c part n behind => rfl

@[simp] theorem drain_straps (s : State) (sel : LaneItem → Bool) : (drain s sel).straps = s.straps := by
  unfold drain
  exact foldl_straps performItem_straps _ _

/-! ## Moves and demand fetches -/

@[simp] theorem fetchTile_straps (s : State) (p t : Nat) (l : Loc) : (fetchTile s p t l).straps = s.straps := by
  unfold fetchTile
  dsimp only
  split
  · refine foldl_straps (fun s x => ?_) _ _
    cases h : hostAccess s noCtx _ x.2 false [] (.tile p) true _ with
    | none => simp
    | some t => exact hostAccess_straps h
  · exact foldl_straps (fun s x => by simp) _ _

@[simp] theorem copyToHost_straps (s : State) (k n v : Nat) (o : Owner) : (copyToHost s k n v o).straps = s.straps := by
  unfold copyToHost
  refine foldl_straps (fun s x => ?_) _ _
  cases h : hostAccess s noCtx (v + x.1) x.2 true (Mem.readBytes s.mem.cells (k + x.1) x.2) o true (s.base + k + x.1) with
  | none => simp
  | some t => simp [hostAccess_straps h]

@[simp] theorem sendTile_straps (s : State) (p t : Nat) (l : Loc) (m : Bool) (c : Nat) : (sendTile s p t l m c).straps = s.straps := by
  unfold sendTile
  dsimp only
  split
  · simp
  · exact foldl_straps (fun s x => by simp) _ _

@[simp] theorem copyTile_straps (s : State) (p t : Nat) (mv : Move) : (copyTile s p t mv).straps = s.straps := by
  unfold copyTile
  dsimp only
  (repeat' split) <;> simp

@[simp] theorem beginTile_straps (s : State) (p : Nat) : (beginTile s p).straps = s.straps := by
  unfold beginTile drainTile
  dsimp only
  (repeat' split) <;> simp

@[simp] theorem startMove_straps (s : State) (p : Nat) (l : Loc) (d : List Nat) (c : Nat) (e : Bool) :
    (startMove s p l d c e).straps = s.straps := by
  unfold startMove placeCount
  dsimp only
  rw [beginTile_straps, mirrorEntry_straps]
  (repeat' split) <;> rfl

@[simp] theorem placeCount_straps (s : State) (i : Nat) : (placeCount s i).straps = s.straps := rfl

@[simp] theorem refusePower_straps (s : State) : (refusePower s).straps = s.straps := by
  unfold refusePower
  split <;> rfl

@[simp] theorem destAccepts_straps (s : State) (l : Loc) : (destAccepts s l).1.straps = s.straps := by
  unfold destAccepts
  split <;> rfl

@[simp] theorem demandFetch_straps (s : State) (off req node g : Nat) : (demandFetch s off req node g).straps = s.straps := by
  unfold demandFetch State.draw
  dsimp only
  (repeat' split) <;> simp [chargeMove]

@[simp] theorem fetchFor_straps (s : State) (p : Packet) (node off : Nat) : (fetchFor s p node off).straps = s.straps := by
  unfold fetchFor
  split <;> simp

@[simp] theorem countServed_straps (s : State) (p : Packet) (node off : Nat) : (countServed s p node off).straps = s.straps := by
  unfold countServed countAccess setEntOf
  (repeat' split) <;> rfl

end Sys2Proof.Machine
end

section
/-! SUPPORT. Atomics and reductions at their target (R86, R177, R277, R278, R295, R296): what serving them does on this node's own pool. -/
namespace Sys2Proof.Machine

/-- A key depends on the package's own place alone. -/
theorem keyOf_of_straps {s t : State} (h : t.straps = s.straps) (node off : Nat) : keyOf t node off = keyOf s node off := by
  have hself : t.self = s.self := by simp only [State.self, State.tray, State.nodeNo, h]
  rw [keyOf, keyOf, hself]

/-- Taking, checking and counting a request leaves the key of its target. -/
theorem keyOf_countServed (s : State) (p : Packet) (off : Nat) :
    keyOf (countServed (fetchFor (s.taking p) p s.self off) p s.self off) s.self off = keyOf s s.self off :=
  keyOf_of_straps (by simp [State.taking]) _ _

/-! ## Read-modify-writes of the own pool -/

section
variable {s v : State} {p : Packet} (k : State → Nat → Nat → State) (hn : addrNode p.addr = s.self)
  (hpool : isPoolOff (addrOff p.addr) = true) (hc : accCheck s s.self (addrOff p.addr) (reqLen p) p.part true = some OK)
  (hv : v = fetchFor s p s.self (addrOff p.addr))
include hn hpool hc hv

/-- While its tile is copying, a read-modify-write is held (R86). -/
theorem serveModify_copying (ht : tileCopying v s.self (addrOff p.addr) = true) :
    serveModify s p k = holdAccess v s.self (addrOff p.addr) (.req p) := by
  subst hv
  simp [serveModify, servedNode_own hn, wakeCopy_own, strayTile_own, isCtlOff_of_pool hpool, hc, OK, ht]

theorem serveModify_here (ht : tileCopying v s.self (addrOff p.addr) = false) (hf : fetching v p s.self (addrOff p.addr) = false)
    (hl : locLocal v (ordLoc v s.self (addrOff p.addr)) = true) (hinc : incRefused v p = false) :
    serveModify s p k = k (countServed v p s.self (addrOff p.addr)) s.self (addrOff p.addr) := by
  subst hv
  simp [serveModify, servedNode_own hn, wakeCopy_own, strayTile_own, isCtlOff_of_pool hpool, hc, OK, ht, hf, hl, hinc]

end

/-! ## ATOM -/

section
variable {s t : State} {node off n part : Nat}
  (ht : t = meetErrors (drainTarget s (targetOf s node off)) (keyOf s node off) n)
include ht

/-- An atomic that meets no poison writes what its operation gives for what it finds. -/
theorem atomicHere_clean (aop a b : Nat) (hb : badAtoms t (keyOf s node off) n part = []) :
    atomicHere s node off n part aop a b true =
      (performWrite t (keyOf s node off) (leBytes n (atomicOp aop n (leNat (readMem t (keyOf s node off) n part)) a b)) part false,
       some (leNat (readMem t (keyOf s node off) n part))) := by
  subst ht
  have hkey : keyOf (drainTarget s (targetOf s node off)) node off = keyOf s node off := keyOf_of_straps (drain_straps s _) node off
  simp only [atomicHere, if_true, hkey, hb, List.isEmpty_nil, Bool.not_true, Bool.false_eq_true, if_false]

/-- An atomic that meets poison leaves what it finds. -/
theorem atomicHere_poisoned (aop a b : Nat) (hb : badAtoms t (keyOf s node off) n part ≠ []) :
    atomicHere s node off n part aop a b true = (t, none) := by
  subst ht
  have hkey : keyOf (drainTarget s (targetOf s node off)) node off = keyOf s node off := keyOf_of_straps (drain_straps s _) node off
  have hbad := List.isEmpty_eq_false_iff.mpr hb
  simp only [atomicHere, if_true, hkey, hbad, Bool.not_false]

end

/-- What an ATOM does to a target here (R277): the read-modify-write, and its answer. -/
def performAtom (p : Packet) (s : State) (node off : Nat) : State :=
  match atomicHere s node off (4 * 2 ^ p.size) p.part p.aop (leNat (slice p.payload 0 (4 * 2 ^ p.size)))
      (leNat (slice p.payload (4 * 2 ^ p.size) (4 * 2 ^ p.size))) true with
  | (s, none) => answer s p POISONED []
  | (s, some old) => answerModified s p node off OK (leBytes (4 * 2 ^ p.size) old)

section
variable {s : State} {p : Packet}

theorem exec_atom (h : s.Delivered p) (hp : p.opcode = opATOM) : exec (.atom p) s = .next (serveAtom (s.taking p) p).served := by
  refine (done_packetRow_data h (by simp [opIs, hp]) (by rw [hp]; decide)).trans ?_
  simp [serveData, hp, opATOM, opRD, opRDV, opWR, opWRP, isCplOp, isCollOp]

theorem serveAtom_refused (h : 12 < p.aop ∨ p.len ≠ (if p.aop = 7 then 2 * (4 * 2 ^ p.size) else 4 * 2 ^ p.size) ∨
    p.addr % (4 * 2 ^ p.size) ≠ 0) : serveAtom s p = answer s p REFUSED [] := if_pos h

/-- An ATOM of a form that R295 allows is a read-modify-write. -/
theorem serveAtom_legal {n : Nat} (hn : n = 4 * 2 ^ p.size) (ha : p.aop ≤ 12) (hlen : p.len = (if p.aop = 7 then 2 * n else n))
    (hal : p.addr % n = 0) : serveAtom s p = serveModify s p (performAtom p) := by
  subst hn
  have hform : ¬ (p.aop > 12 ∨ p.len ≠ (if p.aop = 7 then 2 * (4 * 2 ^ p.size) else 4 * 2 ^ p.size) ∨ p.addr % (4 * 2 ^ p.size) ≠ 0) := by
    simp [hlen, hal, Nat.not_lt.mpr ha]
  rw [serveAtom, if_neg hform]
  rfl

variable {t : State} {node off n : Nat} (hn : n = 4 * 2 ^ p.size)
  (ht : t = meetErrors (drainTarget s (targetOf s node off)) (keyOf s node off) n)
include hn ht

theorem performAtom_clean (hb : badAtoms t (keyOf s node off) n p.part = []) :
    performAtom p s node off = answerModified (performWrite t (keyOf s node off)
      (leBytes n (atomicOp p.aop n (leNat (readMem t (keyOf s node off) n p.part)) (leNat (slice p.payload 0 n))
        (leNat (slice p.payload n n)))) p.part false) p node off OK (leBytes n (leNat (readMem t (keyOf s node off) n p.part))) := by
  subst hn
  rw [performAtom, atomicHere_clean ht _ _ _ hb]

theorem performAtom_poisoned (hb : badAtoms t (keyOf s node off) n p.part ≠ []) :
    performAtom p s node off = answer t p POISONED [] := by
  subst hn
  rw [performAtom, atomicHere_poisoned ht _ _ _ hb]

end

/-! ## RED -/

/-- What a RED does to a target here (R278): it combines the elements that are not poisoned, and answers. -/
def performRed (p : Packet) (s : State) (node off : Nat) : State :=
  let t := meetErrors (drainTarget s (targetOf s node off)) (keyOf s node off) p.len
  answerModified (redParts t p (keyOf s node off) (atomParts (keyOf s node off) p.len)) p node off
    (if badAtoms t (keyOf s node off) p.len p.part = [] then OK else POISONED) []

section
variable {s : State} {p : Packet}

theorem exec_red (h : s.Delivered p) (hp : p.opcode = opRED) : exec (.red p) s = .next (serveRed (s.taking p) p).served := by
  refine (done_packetRow_data h (by simp [opIs, hp]) (by rw [hp]; decide)).trans ?_
  simp [serveData, hp, opATOM, opRD, opRDV, opWR, opWRP, opRED, isCplOp, isCollOp]

theorem serveRed_refused (h : crosses p.addr p.len = true ∨ 1 < p.size ∨ p.addr % (4 * 2 ^ p.size) ≠ 0 ∨ p.len % (4 * 2 ^ p.size) ≠ 0 ∨
    p.aop = 6 ∨ p.aop = 7 ∨ 12 < p.aop) : serveRed s p = answer s p REFUSED [] := if_pos h

/-- A RED of a form that R296 allows is a read-modify-write. -/
theorem serveRed_legal (hx : crosses p.addr p.len = false) (hsz : p.size < 2) (hal : p.addr % (4 * 2 ^ p.size) = 0)
    (hlen : p.len % (4 * 2 ^ p.size) = 0) (h6 : p.aop ≠ 6) (h7 : p.aop ≠ 7) (ha : p.aop ≤ 12) :
    serveRed s p = serveModify s p (performRed p) := by
  have hbad : ∀ l : List Nat, (if (! l.isEmpty) = true then POISONED else OK) = if l = [] then OK else POISONED := by
    intro l; cases l <;> rfl
  have hform : ¬ (crosses p.addr p.len = true ∨ 1 < p.size ∨ p.addr % (4 * 2 ^ p.size) ≠ 0 ∨ p.len % (4 * 2 ^ p.size) ≠ 0 ∨
      p.aop = 6 ∨ p.aop = 7 ∨ 12 < p.aop) := by
    simp [hx, hal, hlen, h6, h7, Nat.not_lt.mpr ha, Nat.not_lt.mpr (Nat.le_of_lt_succ hsz)]
  rw [serveRed, if_neg hform]
  simp only [hbad]
  rfl

end

/-- Settles O44: a form that the rules allow is a read-modify-write, which is held or performed; every other form is refused. -/
theorem atomicAndReducingPacketsModifyTheTarget : Obligations.AtomicAndReducingPacketsModifyTheTarget := by
  unfold Obligations.AtomicAndReducingPacketsModifyTheTarget
  refine ⟨fun s p h hp hbad => ?atomRefused, fun s v u t p n off h hp ha hsz hlen hal hn ho hc hpool hv hu ht => ?atom,
    fun s p h hp hbad => ?redRefused, fun s v u t p off h hp hx hsz hal hlen h6 h7 ha hn ho hc hpool hv hu ht => ?red⟩
  case atomRefused => rw [exec_atom h hp, serveAtom_refused hbad]
  case atom =>
    have hkey : keyOf s s.self off = keyOf u s.self off := by rw [hu, hv, keyOf_countServed]
    have hreq : reqLen p = n := by rw [reqLen, if_pos hp, hsz]
    subst ho
    rw [exec_atom h hp, serveAtom_legal hsz ha hlen hal, hkey]
    rw [hkey] at ht
    refine ⟨fun hcopy => ?_, fun hcopy hf hl hinc => ?_⟩
    · rw [serveModify_copying (s := s.taking p) _ hn hpool (hreq ▸ hc) hv hcopy, State.taking_self]
    · rw [serveModify_here (s := s.taking p) _ hn hpool (hreq ▸ hc) hv hcopy hf hl hinc, State.taking_self, ← hu]
      refine ⟨fun hb => ?_, fun hb => ?_⟩
      · rw [performAtom_clean hsz ht hb]
      · rw [performAtom_poisoned hsz ht hb]
  case redRefused => rw [exec_red h hp, serveRed_refused hbad]
  case red =>
    have hkey : keyOf s s.self off = keyOf u s.self off := by rw [hu, hv, keyOf_countServed]
    have hreq : reqLen p = p.len := if_neg (by rw [hp]; decide)
    subst ho
    rw [exec_red h hp, serveRed_legal hx hsz hal hlen h6 h7 ha, hkey]
    refine ⟨fun hcopy => ?_, fun hcopy hf hl hinc => ?_⟩
    · rw [serveModify_copying (s := s.taking p) _ hn hpool (hreq ▸ hc) hv hcopy, State.taking_self]
    · rw [serveModify_here (s := s.taking p) _ hn hpool (hreq ▸ hc) hv hcopy hf hl hinc, State.taking_self, ← hu, ht, hkey]
      rfl

end Sys2Proof.Machine
end

section
/-! SUPPORT. A moving command and a scrub that the statements of placement do not foresee: a parcel whose PIN is the unused encoding 3
(R81, R94), and a table of stacks whose records are out of order. -/
namespace Sys2Proof.Machine

/-! ## MOVE of a parcel whose pin allows no destination (R94) -/

/-- A MOVE that the parcel's pin does not allow is REFUSED, and changes nothing else. -/
theorem exec_move_pinned (s : State) (m : Master) (p : Nat) (d : BitVec 32) (h : s.Takes m 0x0405 [.parcel p])
    (hm : mayManage s m (s.ent p).owner = true) (hpin : pinAllows (s.ent p) (locOf d.toNat 0) = false) :
    exec (.move m p d) s = .next ((s.begun m [.parcel p]).answered m 0x0405 REFUSED) := by
  refine done_row_answered h ?_ (by decide) (by simp) (by simp)
  simp [hm, hpin]

/-- A package whose only parcel is resident, with PIN 3, which its two bits can hold and no rule gives a meaning. -/
def pinnedThree : State :=
  { flt := { phase := 6 }, mgmt := { ownerKeys := some (1, 1) }
    mem := { stks := [(0, { joined := true }), (1, { joined := true })]
             dir := [(0, { st := 1, owner := 1, cls := 1, pin := 3, home := { kind := 1, holder := 8 } })] } }

/-- Frame 0 of stack 1 of that package. -/
def stackOne : BitVec 32 := BitVec.ofNat 32 (1 + 1 * 8 + 8 * 2 ^ 23)

/-- Refutes O17: its clause on MOVE excludes PIN 2 alone, and a parcel with PIN 3, which R94 lets move nowhere, is REFUSED and stays
resident. -/
theorem not_placementCommandsChangeTheDirectoryAsTold : ¬ Obligations.PlacementCommandsChangeTheDirectoryAsTold := by
  unfold Obligations.PlacementCommandsChangeTheDirectoryAsTold
  intro h
  obtain ⟨-, -, -, hmove, -, -⟩ := h
  have htakes : pinnedThree.Takes .mgmt 0x0405 [.parcel 0] := by decide +kernel
  obtain ⟨t, hexec, hent, -⟩ := hmove pinnedThree .mgmt 0 stackOne htakes (by decide +kernel) (by decide +kernel) (by decide +kernel)
    (by decide +kernel) (by decide +kernel) (by decide +kernel) (by decide +kernel) (by decide +kernel) (by decide +kernel)
    (by decide +kernel) (by decide +kernel) (by decide +kernel) (by decide +kernel) (by decide +kernel) (by decide +kernel)
  have hrefused := exec_move_pinned pinnedThree .mgmt 0 stackOne htakes (by decide +kernel) (by decide +kernel)
  rw [hrefused] at hexec
  injection hexec with hstate
  have hstays : t.ent 0 = pinnedThree.ent 0 := by rw [← hstate]; exact State.begun_ent pinnedThree .mgmt [.parcel 0] 0
  have hst : (t.ent 0).st = 2 := by rw [hent]
  rw [hstays] at hst
  exact absurd hst (by decide +kernel)

/-! ## A scrub of an atom that has been scrubbed in its pass (R73) -/

/-- A change of a stack's record counts by what it makes of that record. -/
theorem State.modStk_congr {s : State} {n : Nat} {f g : Stack → Stack} (h : f (s.stk n) = g (s.stk n)) : s.modStk n f = s.modStk n g :=
  congrArg (fun k : Stack => ({ s with mem := { s.mem with stks := AMap.set s.mem.stks n k } } : State)) h

/-- Such a scrub enters the stack's record in the table once more. -/
theorem exec_patrolScrub_again (s : State) (n atom bad key : Nat) (hset : s.Settled) (ht : s.time.lfc % 16 = 8)
    (hj : (s.stk n).joined = true) (hf : (s.stk n).fenced = false) (hu : frameUse s n (atom / 0x8000) = (some key, false))
    (hp : (s.stk n).scrubPass = scrubPassOf s) (hc : (s.stk n).scrubbed.contains atom = true) :
    exec (.patrolScrub n atom bad) s = .next (s.modStk n fun k => k) := by
  have hpass : s.modStk n (fun k => if k.scrubPass = scrubPassOf s then k
      else { k with scrubPass := scrubPassOf s, rowHits := [], scrubbed := [] }) = s.modStk n fun k => k := State.modStk_congr (if_pos hp)
  have hstk : (s.modStk n fun k => k).stk n = s.stk n := by simp [State.modStk, State.stk]
  have hop : doPatrolScrub s n atom bad = s.modStk n fun k => k := by
    simp only [doPatrolScrub, hu, ht, hj, hf, hpass, hstk, hc, ne_eq, not_true_eq_false, Bool.not_true, Bool.false_eq_true, or_self, if_false,
      if_true]
  change done (doPatrolScrub s n atom bad) = _
  rw [hop]
  exact done_eq _ hset

/-- A package in a scrubbing frame whose table of stacks lists stack 1 before stack 0, and has atom 0 of stack 0 scrubbed. -/
def disordered : State :=
  { time := { lfc := 8 }
    mem := { stks := [(1, { joined := true }), (0, { joined := true, scrubbed := [0] })]
             dir := [(0, { st := 1, owner := 1, home := { kind := 1, holder := 8 } })] } }

/-- Refutes O56: its first clause says that a second scrub of an atom leaves the whole state. The model writes the stack's record back
all the same, and where the table is out of order, which no hypothesis of the clause excludes, the record is entered a second time. -/
theorem not_stacksAreScrubbedAndParcelsMoved : ¬ Obligations.StacksAreScrubbedAndParcelsMoved := by
  unfold Obligations.StacksAreScrubbedAndParcelsMoved
  intro h
  obtain ⟨hscrub, -⟩ := h
  have hset : disordered.Settled := by decide +kernel
  have hframe : disordered.time.lfc % 16 = 8 := by decide +kernel
  have hjoined : (disordered.stk 0).joined = true := by decide +kernel
  have hfenced : (disordered.stk 0).fenced = false := by decide +kernel
  have huse : frameUse disordered 0 (0 / 0x8000) = (some 0, false) := by decide +kernel
  have hpass : (disordered.stk 0).scrubPass = scrubPassOf disordered := by decide +kernel
  have hdone : (disordered.stk 0).scrubbed.contains 0 = true := by decide +kernel
  obtain ⟨hsame, -⟩ := hscrub disordered 0 0 0 0 hset hframe hjoined hfenced huse hpass
  have hagain := exec_patrolScrub_again disordered 0 0 0 0 hset hframe hjoined hfenced huse hpass hdone
  rw [hsame hdone] at hagain
  injection hagain with hstate
  have hlength := congrArg (fun s : State => s.mem.stks.length) hstate
  exact absurd hlength (by decide +kernel)

end Sys2Proof.Machine
end

section
/-! SUPPORT. Number formats back and forth (R180–R182, R192, R193, R199–R201): the value of a code is one of the target's own
values, so rounding cuts nothing away, and converting it back gives the code. Then the statement this settles. -/
namespace Sys2Proof.Machine

/-! ## Fields of a code -/

/-- A code is its top bit and what stands below it. -/
theorem topBit_add_rest {n c : Nat} (hc : c < 2 ^ (n + 1)) : b2n (bitAt c n) * 2 ^ n + c % 2 ^ n = c := by
  have hdiv : c / 2 ^ n < 2 := (Nat.div_lt_iff_lt_mul (Nat.two_pow_pos n)).2 (by rw [Nat.pow_succ] at hc; omega)
  have hbit : b2n (bitAt c n) = c / 2 ^ n := by
    simp only [bitAt, bits, Nat.shiftRight_eq_div_pow, Nat.pow_one]
    match c / 2 ^ n, hdiv with
    | 0, _ => rfl
    | 1, _ => rfl
  rw [hbit, Nat.mul_comm, Nat.div_add_mod]

/-- The bits below the sign are the exponent field and then the fraction (R180). -/
theorem magnitude_eq_fields (x : FFmt) (c : Nat) :
    c % 2 ^ (x.eb + x.mb) = bits c x.mb x.eb * 2 ^ x.mb + bits c 0 x.mb := by
  simp only [bits, Nat.shiftRight_eq_div_pow, Nat.pow_zero, Nat.div_one]
  rw [Nat.add_comm x.eb, Nat.pow_add, Nat.mod_mul, Nat.add_comm, Nat.mul_comm (2 ^ x.mb)]

/-- The low field of a code that fills it is the code. -/
theorem bits_zero_of_lt {c w : Nat} (hc : c < 2 ^ w) : bits c 0 w = c := by
  simp only [bits, Nat.shiftRight_zero, Nat.mod_eq_of_lt hc]

/-! ## Float formats: rounding a format's own value -/

/-- A value of which nothing is cut away is not rounded, either way (R192, R193). -/
theorem round_of_cut_exact {x : FFmt} {m n : Nat} {e : Int} (h : x.cut m e = (n, 0, 1)) (sr : Option Nat) : x.round sr m e = n := by
  cases sr with
  | none => simp [FFmt.round, h]
  | some r =>
    have hr : r % 65536 < 65536 := Nat.mod_lt _ (by decide)
    simp [FFmt.round, h, hr]

/-- A subnormal value of a format is cut nowhere: its code is its fraction. -/
theorem cut_subnormal (x : FFmt) {f : Nat} (hf : f < 2 ^ x.mb) : x.cut f x.emin = (f, 0, 1) := by
  by_cases h0 : f = 0
  · simp [FFmt.cut, h0]
  · have hlog : f.log2 < x.mb := (Nat.log2_lt h0).2 hf
    have hq : x.lastPlace f x.emin = x.emin := Int.max_eq_left (by omega)
    simp [FFmt.cut, h0, hq]

/-- A normal value of a format is cut nowhere: its code is its exponent field and its fraction. -/
theorem cut_normal (x : FFmt) {f e : Nat} (hf : f < 2 ^ x.mb) (he : e ≠ 0) :
    x.cut (f + 2 ^ x.mb) (x.emin + (e : Int) - 1) = (e * 2 ^ x.mb + f, 0, 1) := by
  have hpos : f + 2 ^ x.mb ≠ 0 := Nat.ne_of_gt (Nat.add_pos_right f (Nat.two_pow_pos x.mb))
  have hlog : (f + 2 ^ x.mb).log2 = x.mb := (Nat.log2_eq_iff hpos).2 (by rw [Nat.pow_succ]; omega)
  have hq : x.lastPlace (f + 2 ^ x.mb) (x.emin + (e : Int) - 1) = x.emin + (e : Int) - 1 := by
    rw [FFmt.lastPlace, hlog]
    omega
  obtain ⟨k, rfl⟩ := Nat.exists_eq_succ_of_ne_zero he
  have htop : (x.emin + ((k + 1 : Nat) : Int) - 1 - x.emin).toNat = k := by omega
  simp only [FFmt.cut, hpos, if_false, hq, Int.le_refl, if_true, Int.sub_self, Int.toNat_zero, Nat.pow_zero, Nat.mul_one,
    Nat.succ_eq_add_one, htop]
  rw [Prod.mk.injEq, Nat.succ_mul]
  exact ⟨by omega, rfl⟩

/-! ## Float formats: what a code's value can be -/

/-- The magnitude of a code that is neither an infinity nor a NaN is at most the largest finite one (R180). -/
theorem magnitude_le_maxCode {x : FFmt} {e f : Nat} (he : e < 2 ^ x.eb) (hf : f < 2 ^ x.mb)
    (hieee : ¬ (x.sp = .ieee ∧ e = 2 ^ x.eb - 1)) (he4m3 : ¬ (x.sp = .e4m3 ∧ e = 2 ^ x.eb - 1 ∧ f = 2 ^ x.mb - 1)) :
    e * 2 ^ x.mb + f ≤ x.maxCode := by
  have hbelow : ∀ {k : Nat}, e < k → e * 2 ^ x.mb + 2 ^ x.mb ≤ k * 2 ^ x.mb := fun h =>
    Nat.succ_mul e _ ▸ Nat.mul_le_mul_right (2 ^ x.mb) (Nat.succ_le_of_lt h)
  have hrange := hbelow he
  rw [← Nat.pow_add] at hrange
  cases hsp : x.sp with
  | ieee =>
    have hlast := hbelow (k := 2 ^ x.eb - 1) (Nat.lt_of_le_of_ne (Nat.le_sub_one_of_lt he) fun he' => hieee ⟨hsp, he'⟩)
    simp only [FFmt.maxCode, hsp]
    omega
  | e4m3 =>
    simp only [FFmt.maxCode, hsp]
    by_cases hlast : e = 2 ^ x.eb - 1
    · have hfrac : f ≠ 2 ^ x.mb - 1 := fun hf' => he4m3 ⟨hsp, hlast, hf'⟩
      omega
    · have hnext := hbelow (k := 2 ^ x.eb - 1) (by omega)
      rw [Nat.sub_mul, ← Nat.pow_add] at hnext
      omega
  | none =>
    simp only [FFmt.maxCode, hsp]
    omega

/-- A code whose value is an infinity: only IEEE 754 formats have one, with the exponent field all ones and no fraction. -/
theorem decFloat_inf {x : FFmt} {c : Nat} {n : Bool} (h : decFloat x c = .inf n) :
    x.sp = .ieee ∧ bitAt c (x.eb + x.mb) = n ∧ c % 2 ^ (x.eb + x.mb) = (2 ^ x.eb - 1) * 2 ^ x.mb := by
  by_cases hieee : x.sp = .ieee ∧ bits c x.mb x.eb = 2 ^ x.eb - 1
  · obtain ⟨hsp, he⟩ := hieee
    by_cases hf : bits c 0 x.mb = 0
    · simp only [decFloat, hsp, he, hf, and_self, if_true] at h
      exact ⟨hsp, Num.inf.inj h, by rw [magnitude_eq_fields, he, hf, Nat.add_zero]⟩
    · simp only [decFloat, hsp, he, hf, and_self, if_true, if_false, reduceCtorEq] at h
  · simp only [decFloat, hieee, if_false] at h
    split at h
    · cases h
    · split at h <;> cases h

/-- A code whose value is finite: its sign is the top bit, and its magnitude is the format's own, cut nowhere and in range. -/
theorem decFloat_fin {x : FFmt} {c m : Nat} {n : Bool} {e : Int} (h : decFloat x c = .fin n m e) :
    bitAt c (x.eb + x.mb) = n ∧ x.cut m e = (c % 2 ^ (x.eb + x.mb), 0, 1) ∧ c % 2 ^ (x.eb + x.mb) ≤ x.maxCode := by
  have hf : bits c 0 x.mb < 2 ^ x.mb := Nat.mod_lt _ (Nat.two_pow_pos _)
  have he : bits c x.mb x.eb < 2 ^ x.eb := Nat.mod_lt _ (Nat.two_pow_pos _)
  simp only [decFloat] at h
  by_cases hieee : x.sp = .ieee ∧ bits c x.mb x.eb = 2 ^ x.eb - 1
  · rw [if_pos hieee] at h
    split at h <;> cases h
  by_cases he4m3 : x.sp = .e4m3 ∧ bits c x.mb x.eb = 2 ^ x.eb - 1 ∧ bits c 0 x.mb = 2 ^ x.mb - 1
  · rw [if_neg hieee, if_pos he4m3] at h
    cases h
  rw [if_neg hieee, if_neg he4m3] at h
  have hmax := magnitude_le_maxCode he hf hieee he4m3
  rw [magnitude_eq_fields]
  by_cases he0 : bits c x.mb x.eb = 0
  · rw [if_pos he0] at h
    obtain ⟨rfl, rfl, rfl⟩ := Num.fin.inj h
    exact ⟨rfl, by rw [he0, Nat.zero_mul, Nat.zero_add]; exact cut_subnormal x hf, hmax⟩
  · rw [if_neg he0] at h
    obtain ⟨rfl, rfl, rfl⟩ := Num.fin.inj h
    exact ⟨rfl, cut_normal x hf he0, hmax⟩

/-! ## Float formats: back to the code -/

/-- A finite value of a format goes back to its code with SPECIALS set or clear (R199 never applies to it). -/
theorem enc_decFloat_fin {x : FFmt} {c m : Nat} {n : Bool} {e : Int} (hc : c < 2 ^ (x.eb + x.mb + 1))
    (h : decFloat x c = .fin n m e) (specials : Bool) (sr : Option Nat) : x.enc specials sr (decFloat x c) = c := by
  obtain ⟨rfl, hcut, hmax⟩ := decFloat_fin h
  rw [h]
  simp only [FFmt.enc, round_of_cut_exact hcut, Nat.not_lt.2 hmax, if_false]
  exact topBit_add_rest hc

/-- An infinity goes back to its code with SPECIALS set: the code above the largest finite one (R199). -/
theorem enc_decFloat_inf {x : FFmt} {c : Nat} {n : Bool} (heb : x.eb ≠ 0) (hc : c < 2 ^ (x.eb + x.mb + 1))
    (h : decFloat x c = .inf n) (sr : Option Nat) : x.enc true sr (decFloat x c) = c := by
  obtain ⟨hsp, rfl, hmag⟩ := decFloat_inf h
  have hpos : 0 < (2 ^ x.eb - 1) * 2 ^ x.mb := Nat.mul_pos (Nat.sub_pos_of_lt (Nat.one_lt_two_pow heb)) (Nat.two_pow_pos _)
  calc x.enc true sr (decFloat x c)
      = b2n (bitAt c (x.eb + x.mb)) * 2 ^ (x.eb + x.mb) + ((2 ^ x.eb - 1) * 2 ^ x.mb - 1) + 1 := by
        rw [h]; simp [FFmt.enc, FFmt.overflow, FFmt.maxCode, hsp, b2n]
    _ = b2n (bitAt c (x.eb + x.mb)) * 2 ^ (x.eb + x.mb) + c % 2 ^ (x.eb + x.mb) := by rw [hmag]; omega
    _ = c := topBit_add_rest hc

/-- Whatever the layout, a code that is no NaN is the code of its value. -/
theorem enc_decFloat {x : FFmt} {c : Nat} (heb : x.eb ≠ 0) (hc : c < 2 ^ (x.eb + x.mb + 1)) (hnan : decFloat x c ≠ .nan)
    (sr : Option Nat) : x.enc true sr (decFloat x c) = c := by
  cases h : decFloat x c with
  | nan => exact absurd h hnan
  | inf n => exact h ▸ enc_decFloat_inf heb hc h sr
  | fin n m e => exact h ▸ enc_decFloat_fin hc h true sr

/-! ## Element codes of the float formats -/

/-- A float format's element is its sign, its exponent field and its fraction (R180). -/
theorem fmtBits_float {f : Nat} (h1 : 1 ≤ f) (h8 : f ≤ 8) : fmtBits f = (ffmt f).eb + (ffmt f).mb + 1 ∧ (ffmt f).eb ≠ 0 := by
  have hall : ∀ f < 9, 1 ≤ f → fmtBits f = (ffmt f).eb + (ffmt f).mb + 1 ∧ (ffmt f).eb ≠ 0 := by decide
  exact hall f (Nat.lt_succ_of_le h8) h1

theorem decElem_float {f : Nat} (h8 : f ≤ 8) (c : Nat) : decElem f c = decFloat (ffmt f) c := by
  have hne : ∀ k, 8 < k → f ≠ k := by omega
  simp [decElem, fINT32, fINT8, fUINT8, fINT4, fUINT4, fL4, fE8M0, hne]

/-- FP32 results keep round to nearest even (R193); the narrow float formats round as asked. -/
theorem encElem_float {f : Nat} (h8 : f ≤ 8) (sr : Option Nat) (v : Num) :
    encElem f true sr v = (ffmt f).enc true (if f = fFP32 then none else sr) v := by
  have hne : ∀ k, 8 < k → f ≠ k := by omega
  by_cases h32 : f = fFP32
  · subst h32; rfl
  · simp [encElem, fINT32, fINT8, fUINT8, fINT4, fUINT4, fL4, hne, h32]

theorem encElem_decElem_float {f c : Nat} (sr : Option Nat) (h1 : 1 ≤ f) (h8 : f ≤ 8) (hc : c < 2 ^ fmtBits f)
    (hnan : decElem f c ≠ .nan) : encElem f true sr (decElem f c) = c := by
  obtain ⟨hbits, heb⟩ := fmtBits_float h1 h8
  rw [decElem_float h8] at hnan ⊢
  rw [encElem_float h8]
  exact enc_decFloat heb (hbits ▸ hc) hnan _

/-! ## Integer formats -/

/-- An integer within the range is converted to itself (R199). -/
theorem encInt_of_mem {lo hi i : Int} (hlo : lo ≤ i) (hhi : i ≤ hi) : encInt lo hi (.fin (decide (i < 0)) i.natAbs 0) = i := by
  have hval : (if i < 0 then -(i.natAbs : Int) else i.natAbs) = i := by split <;> omega
  simp only [encInt, decide_eq_true_eq, Int.le_refl, if_true, Int.toNat_zero, Nat.pow_zero, Nat.mul_one, hval]
  omega

/-- The two's complement code of the number a code stands for is the code (R181). -/
theorem unsigned_signed {w c : Nat} (hc : c < 2 ^ w) : unsigned w (signed w c) = c := by
  simp only [unsigned, signed, Nat.mod_eq_of_lt hc]
  split
  · rw [Int.emod_eq_of_lt (by omega) (by omega), Int.toNat_natCast]
  · have hwrap : ((c : Int) - 2 ^ w) % ((2 ^ w : Nat) : Int) = c := by
      rw [Int.natCast_pow, Int.cast_ofNat_Int, Int.sub_emod_right]
      exact Int.emod_eq_of_lt (by omega) (by exact_mod_cast hc)
    rw [hwrap, Int.toNat_natCast]

theorem signed_mem {w c : Nat} (hw : w ≠ 0) (hc : c < 2 ^ w) : -(2 ^ (w - 1) : Nat) ≤ signed w c ∧ signed w c < (2 ^ (w - 1) : Nat) := by
  obtain ⟨k, rfl⟩ := Nat.exists_eq_succ_of_ne_zero hw
  simp only [signed, Nat.mod_eq_of_lt hc, Nat.succ_eq_add_one, Nat.add_sub_cancel]
  have hpow : (2 : Int) ^ (k + 1) = 2 * (2 ^ k : Nat) := by rw [Int.pow_succ, Int.mul_comm, Int.natCast_pow, Int.cast_ofNat_Int]
  rw [Nat.pow_succ] at hc
  split <;> omega

/-- A two's complement code goes back to itself through a range that holds every number of its width. -/
theorem encInt_signed {w c : Nat} {lo hi : Int} (hw : w ≠ 0) (hc : c < 2 ^ w) (hlo : lo ≤ -(2 ^ (w - 1) : Nat))
    (hhi : ((2 ^ (w - 1) : Nat) : Int) ≤ hi + 1) :
    unsigned w (encInt lo hi (.fin (decide (signed w c < 0)) (signed w c).natAbs 0)) = c := by
  obtain ⟨hmin, hmax⟩ := signed_mem hw hc
  rw [encInt_of_mem (Int.le_trans hlo hmin) (by omega), unsigned_signed hc]

/-- A plain binary code goes back to itself through a range that starts at 0 and holds every number of its width. -/
theorem encInt_plain {w c : Nat} {hi : Int} (hc : c < 2 ^ w) (hhi : ((2 ^ w : Nat) : Int) ≤ hi + 1) :
    unsigned w (encInt 0 hi (.fin false (bits c 0 w) 0)) = c := by
  have hpos : decide ((c : Int) < 0) = false := decide_eq_false (by omega)
  have hval : encInt 0 hi (.fin false c 0) = c := by
    have hmem := encInt_of_mem (lo := 0) (hi := hi) (i := c) (by omega) (by omega)
    rwa [hpos, Int.natAbs_natCast] at hmem
  rw [bits_zero_of_lt hc, hval, unsigned, Int.emod_eq_of_lt (by omega) (by omega), Int.toNat_natCast]

theorem encElem_decElem_integer {f c : Nat} (sp : Bool) (sr : Option Nat) (h9 : 9 ≤ f) (h13 : f ≤ 13) (hc : c < 2 ^ fmtBits f) :
    encElem f sp sr (decElem f c) = c := by
  obtain rfl | rfl | rfl | rfl | rfl : f = fINT8 ∨ f = fUINT8 ∨ f = fINT4 ∨ f = fUINT4 ∨ f = fINT32 := by
    simp only [fINT8, fUINT8, fINT4, fUINT4, fINT32]
    omega
  · exact encInt_signed (w := 8) (by decide) hc (by decide) (by decide)
  · exact encInt_plain (w := 8) hc (by decide)
  · exact encInt_signed (w := 4) (by decide) hc (by decide) (by decide)
  · exact encInt_plain (w := 4) hc (by decide)
  · exact encInt_signed (w := 32) (by decide) hc (by decide) (by decide)

/-! ## L4 -/

/-- Each magnitude code of L4 stands for a finite magnitude that exactly that many of the thresholds exceed (R182, R201). -/
theorem l4Mag_thresholds {k : Nat} (hk : k < 8) : ∃ m e, decFloat (ffmt fFP32) (l4Mag k) = .fin false m e ∧
    (l4Thresholds.filter fun t => (Num.fin false m e).lt (decFloat (ffmt fFP32) t)).length = k := by
  match k, hk with
  | 0, _ | 1, _ | 2, _ | 3, _ | 4, _ | 5, _ | 6, _ | 7, _ => exact ⟨_, _, rfl, by decide +kernel⟩

theorem encElem_decElem_l4 {c : Nat} (sp : Bool) (hc : c < 16) : encElem fL4 sp none (decElem fL4 c) = c := by
  obtain ⟨m, e, hmag, hcount⟩ := l4Mag_thresholds (k := bits c 0 3) (Nat.mod_lt _ (by decide))
  have hdec : decElem fL4 c = .fin (bitAt c 3) m e := by
    change (match decFloat (ffmt fFP32) (l4Mag (bits c 0 3)) with | .fin _ m e => Num.fin (bitAt c 3) m e | v => v) = _
    rw [hmag]
  have henc : encElem fL4 sp none (.fin (bitAt c 3) m e) = 8 * b2n (bitAt c 3) + bits c 0 3 :=
    congrArg (8 * b2n (bitAt c 3) + ·) hcount
  have hfields : b2n (bitAt c 3) * 2 ^ 3 + bits c 0 3 = c := topBit_add_rest hc
  rw [hdec, henc]
  omega

/-- Settles O10: a value decoded from a code is one of its format's own, so converting it back rounds nothing. -/
theorem valuesConvertBackToTheirCodes : Obligations.ValuesConvertBackToTheirCodes := by
  unfold Obligations.ValuesConvertBackToTheirCodes
  exact ⟨fun _ _ sr h1 h8 hc hnan => encElem_decElem_float sr h1 h8 hc hnan,
    fun _ _ sp sr h9 h13 hc => encElem_decElem_integer sp sr h9 h13 hc,
    fun _ sp hc => encElem_decElem_l4 sp hc⟩

end Sys2Proof.Machine
end

section
/-! SUPPORT. Where the rows of a cache lie (R208, R209): a row's address is a cell of a grid, its parcel of the region and its slot
within the parcel, and the row's coordinates are the digits of the two numbers. -/
namespace Sys2Proof.Machine

/-! ## Mixed radix -/

theorem mixedRadix_lt {a b m n : Nat} (ha : a < m) (hb : b < n) : a * n + b < m * n := by
  have hm : (a + 1) * n ≤ m * n := Nat.mul_le_mul_right n ha
  rw [Nat.succ_mul] at hm
  omega

theorem mixedRadix_inj {a b c d n : Nat} (hb : b < n) (hd : d < n) (h : a * n + b = c * n + d) : a = c ∧ b = d := by
  obtain ⟨hq, hr⟩ := (Nat.div_mod_unique (Nat.zero_lt_of_lt hb)).mpr ⟨(by rw [Nat.mul_comm, Nat.add_comm] : b + n * a = a * n + b), hb⟩
  obtain ⟨hq', hr'⟩ := (Nat.div_mod_unique (Nat.zero_lt_of_lt hd)).mpr ⟨(by rw [Nat.mul_comm, Nat.add_comm] : d + n * c = c * n + d), hd⟩
  exact ⟨by rw [← hq, h, hq'], by rw [← hr, h, hr']⟩

/-- Two cells of a grid of frames of `cap` bytes, cut into slots of `w` bytes, do not overlap unless they are the same. -/
theorem cells_apart {base cap w p s p' s' : Nat} (h : s * w + w ≤ cap) (h' : s' * w + w ≤ cap) (hne : ¬ (p = p' ∧ s = s')) :
    base + p * cap + s * w + w ≤ base + p' * cap + s' * w ∨ base + p' * cap + s' * w + w ≤ base + p * cap + s * w := by
  have next {x y n : Nat} (hxy : x < y) : x * n + n ≤ y * n := Nat.succ_mul x n ▸ Nat.mul_le_mul_right n hxy
  rcases Nat.lt_trichotomy p p' with hp | rfl | hp
  · have := next (n := cap) hp
    omega
  · rcases Nat.lt_or_gt_of_ne fun hs => hne ⟨rfl, hs⟩ with hs | hs
    · have := next (n := w) hs
      omega
    · have := next (n := w) hs
      omega
  · have := next (n := cap) hp
    omega

/-! ## The grid of a cache -/

/-- The number, within its stripe, of the block that holds the rows of layer `l` and position `q`. -/
def cacheBlock (d l q : Nat) : Nat := q / dBlock d / dStripes d * dLayers d + l

/-- The parcel of a row, counted from the region's first. -/
def cacheParcel (d l q : Nat) : Nat := cacheBlock d l q / dBpp d * dStripes d + q / dBlock d % dStripes d

/-- Rows of a block. -/
def blockRows (d : Nat) : Nat := (dHkv d + 1) * 2 * dBlock d

/-- A row's number within its block. -/
def blockRow (d g q v : Nat) : Nat := (2 * g + v) * dBlock d + q % dBlock d

/-- A row's number within its parcel. -/
def cacheSlot (d l g q v : Nat) : Nat := cacheBlock d l q % dBpp d * blockRows d + blockRow d g q v

theorem dPb_eq (d : Nat) : dPb d = blockRows d * dRb d := rfl

theorem dBlock_pos (d : Nat) : 0 < dBlock d := Nat.two_pow_pos _

theorem dStripes_pos (d : Nat) : 0 < dStripes d := Nat.two_pow_pos _

/-- A region that holds a position at all has a block in each parcel. -/
theorem dBpp_pos_of_lt_maxPos {d q : Nat} (h : q < maxPos d) : 0 < dBpp d :=
  Nat.pos_of_ne_zero fun h0 => by simp [maxPos, h0] at h

/-- The blocks of a parcel fit in it. -/
theorem dBpp_mul_dPb_le (d : Nat) : dBpp d * dPb d ≤ 0x200000 := by
  unfold dBpp
  split
  · omega
  · exact Nat.div_mul_le_self _ _

theorem kvRow_eq_cell {d : Nat} (h : 0 < dBpp d) (l g q v : Nat) :
    kvRow d l g q v = nodeBase (dRegNode d) + (dRegFirst d + cacheParcel d l q) * 0x200000 + cacheSlot d l g q v * dRb d := by
  have hmax : max 1 (dBpp d) = dBpp d := Nat.max_eq_right h
  simp only [kvRow, hmax, dPb_eq, cacheParcel, cacheSlot, cacheBlock, blockRow, Nat.add_mul, Nat.mul_assoc, Nat.add_assoc]

section
variable {d l g q v : Nat}

theorem cacheParcel_lt (hl : l < dLayers d) (hq : q < maxPos d) : cacheParcel d l q < dRegCount d := by
  have hblock : q / dBlock d / dStripes d < dRegCount d / dStripes d * dBpp d / dLayers d := by
    rw [Nat.div_lt_iff_lt_mul (dStripes_pos d), Nat.div_lt_iff_lt_mul (dBlock_pos d)]
    exact hq
  have hk : cacheBlock d l q < dRegCount d / dStripes d * dBpp d :=
    Nat.lt_of_lt_of_le (mixedRadix_lt hblock hl) (Nat.div_mul_le_self _ _)
  have hparcel : cacheBlock d l q / dBpp d < dRegCount d / dStripes d :=
    (Nat.div_lt_iff_lt_mul (dBpp_pos_of_lt_maxPos hq)).mpr hk
  exact Nat.lt_of_lt_of_le (mixedRadix_lt hparcel (Nat.mod_lt _ (dStripes_pos d))) (Nat.div_mul_le_self _ _)

theorem blockRow_lt (hg : g ≤ dHkv d) (hv : v ≤ 1) : blockRow d g q v < blockRows d :=
  mixedRadix_lt (by omega) (Nat.mod_lt _ (dBlock_pos d))

/-- A row ends within its parcel. -/
theorem cacheSlot_end_le (hg : g ≤ dHkv d) (hv : v ≤ 1) (hq : q < maxPos d) :
    cacheSlot d l g q v * dRb d + dRb d ≤ 0x200000 := by
  have hslot : cacheSlot d l g q v < dBpp d * blockRows d :=
    mixedRadix_lt (Nat.mod_lt _ (dBpp_pos_of_lt_maxPos hq)) (blockRow_lt hg hv)
  calc cacheSlot d l g q v * dRb d + dRb d = (cacheSlot d l g q v + 1) * dRb d := (Nat.succ_mul _ _).symm
    _ ≤ dBpp d * blockRows d * dRb d := Nat.mul_le_mul_right _ hslot
    _ = dBpp d * dPb d := by rw [Nat.mul_assoc, dPb_eq]
    _ ≤ 0x200000 := dBpp_mul_dPb_le d

/-- A parcel and a slot within it belong to one row. -/
theorem cacheCell_inj {l' g' q' v' : Nat} (hl : l < dLayers d) (hg : g ≤ dHkv d) (hv : v ≤ 1) (hl' : l' < dLayers d) (hg' : g' ≤ dHkv d)
    (hv' : v' ≤ 1) (hp : cacheParcel d l q = cacheParcel d l' q')
    (hs : cacheSlot d l g q v = cacheSlot d l' g' q' v') : (l, g, q, v) = (l', g', q', v') := by
  obtain ⟨hkdiv, hjmod⟩ := mixedRadix_inj (Nat.mod_lt _ (dStripes_pos d)) (Nat.mod_lt _ (dStripes_pos d)) hp
  obtain ⟨hkmod, hrow⟩ := mixedRadix_inj (blockRow_lt hg hv) (blockRow_lt hg' hv') hs
  have hk : cacheBlock d l q = cacheBlock d l' q' := by
    rw [← Nat.div_add_mod (cacheBlock d l q) (dBpp d), hkdiv, hkmod, Nat.div_add_mod]
  obtain ⟨hjdiv, rfl⟩ := mixedRadix_inj hl hl' hk
  have hj : q / dBlock d = q' / dBlock d := by
    rw [← Nat.div_add_mod (q / dBlock d) (dStripes d), hjdiv, hjmod, Nat.div_add_mod]
  obtain ⟨hgv, hqmod⟩ := mixedRadix_inj (Nat.mod_lt _ (dBlock_pos d)) (Nat.mod_lt _ (dBlock_pos d)) hrow
  have hqq : q = q' := by rw [← Nat.div_add_mod q (dBlock d), hj, hqmod, Nat.div_add_mod]
  obtain ⟨rfl, rfl⟩ : g = g' ∧ v = v' := by omega
  rw [hqq]

end

/-- Settles O9: a row is a cell of the region's grid, and no two rows have the same cell. -/
theorem cacheRowsLieInTheRegionAndNeverOverlap : Obligations.CacheRowsLieInTheRegionAndNeverOverlap := by
  unfold Obligations.CacheRowsLieInTheRegionAndNeverOverlap
  intro d l g q v hl hg hv hq
  have hbpp := dBpp_pos_of_lt_maxPos hq
  have hend := cacheSlot_end_le (l := l) hg hv hq
  refine ⟨⟨dRegFirst d + cacheParcel d l q, cacheSlot d l g q v * dRb d, Nat.le_add_right _ _,
    Nat.add_lt_add_left (cacheParcel_lt hl hq) _, hend, kvRow_eq_cell hbpp l g q v⟩, ?_⟩
  intro l' g' q' v' hl' hg' hv' hq' hne
  rw [kvRow_eq_cell hbpp, kvRow_eq_cell hbpp]
  refine cells_apart hend (cacheSlot_end_le hg' hv' hq') fun ⟨hp, hs⟩ => hne ?_
  exact cacheCell_inj hl hg hv hl' hg' hv' (Nat.add_left_cancel hp) hs

end Sys2Proof.Machine
end

section
/-! SUPPORT. Messages between the packages (R203, R220, R298): what tells another package of a record changes the packet unit alone. -/
namespace Sys2Proof.Machine

/-- Nothing but the packet unit differs. -/
def State.OnlyFabric (s t : State) : Prop := t = { s with fab := t.fab }

namespace State.OnlyFabric

theorem refl (s : State) : s.OnlyFabric s := rfl

theorem trans {s t u : State} (h : s.OnlyFabric t) (h' : t.OnlyFabric u) : s.OnlyFabric u := by
  unfold State.OnlyFabric at *
  rw [h'.trans (by rw [h] : { t with fab := u.fab } = { s with fab := u.fab })]

theorem foldl {α : Type} {f : State → α → State} (hf : ∀ (s : State) (x : α), s.OnlyFabric (f s x)) (l : List α) (s : State) :
    s.OnlyFabric (l.foldl f s) := by
  induction l generalizing s with
  | nil => exact refl s
  | cons x l ih => exact (hf s x).trans (ih _)

section
variable {s t : State} (h : s.OnlyFabric t)
include h

theorem flt : t.flt = s.flt := (congrArg State.flt h).trans rfl
theorem mem : t.mem = s.mem := (congrArg State.mem h).trans rfl
theorem mbx : t.mbx = s.mbx := (congrArg State.mbx h).trans rfl
theorem straps : t.straps = s.straps := (congrArg State.straps h).trans rfl
theorem groups : t.groups = s.groups := (congrArg State.groups h).trans rfl
theorem self : t.self = s.self := (congrArg State.self h).trans rfl

end
end State.OnlyFabric

/-! ## The messages -/

theorem sendMsg_onlyFabric (s : State) (d k : Nat) (l : List (Nat × Nat)) : s.OnlyFabric (sendMsg s d k l) := rfl

theorem mirrorEntry_onlyFabric (s : State) (p : Nat) : s.OnlyFabric (mirrorEntry s p) := by
  unfold mirrorEntry
  split
  · exact .refl s
  · exact sendMsg_onlyFabric s _ _ _

theorem mirrorSeq_onlyFabric (s : State) (c : Nat) : s.OnlyFabric (mirrorSeq s c) := by
  unfold mirrorSeq
  split <;> split
  · exact sendMsg_onlyFabric s _ _ _
  · exact .refl s
  · exact sendMsg_onlyFabric s _ _ _
  · exact .refl s

theorem mirrorLen_onlyFabric (s : State) (c l : Nat) : s.OnlyFabric (mirrorLen s c l) := by
  unfold mirrorLen
  split
  · split
    · exact sendMsg_onlyFabric s _ _ _
    · exact .refl s
  · exact .refl s

theorem mirrorSeqAll_onlyFabric (s : State) (c : Nat) : s.OnlyFabric (mirrorSeqAll s c) := by
  unfold mirrorSeqAll
  split
  · exact (mirrorSeq_onlyFabric s c).trans (.foldl (fun s l => mirrorLen_onlyFabric s c l) _ _)
  · exact .refl s

theorem sendRecord_onlyFabric (s : State) (c : Nat) (x : SeqCtx) (dest base : Nat) (mv : Bool) :
    s.OnlyFabric (sendRecord s c x dest base mv) :=
  (sendMsg_onlyFabric s _ _ _).trans (.foldl (fun s _ => sendMsg_onlyFabric s _ _ _) _ _)

end Sys2Proof.Machine
end

section
/-! SUPPORT. The sequence-context commands (R203, R206, R210, R212, R221, R224), each with operands it accepts. -/
namespace Sys2Proof.Machine

/-! ## What a command that has begun reads, and what a context entered leaves -/

@[simp] theorem State.setSeqCtx_flt (s : State) (c : Nat) (x : SeqCtx) : (s.setSeqCtx c x).flt = s.flt := rfl
@[simp] theorem State.setSeqCtx_mbx (s : State) (c : Nat) (x : SeqCtx) : (s.setSeqCtx c x).mbx = s.mbx := rfl
@[simp] theorem State.setSeqCtx_self (s : State) (c : Nat) (x : SeqCtx) : (s.setSeqCtx c x).self = s.self := rfl

@[simp] theorem State.begun_seqCtx (s : State) (m : Master) (k : List Key) (c : Nat) : (s.begun m k).seqCtx c = s.seqCtx c := by
  simp [State.seqCtx]

@[simp] theorem State.begun_inFlight (s : State) (m : Master) (k : List Key) (c : Nat) : inFlight (s.begun m k) c = inFlight s c := by
  simp [inFlight, boundCtxs]

@[simp] theorem State.begun_seqLost (s : State) (m : Master) (k : List Key) (d : Nat) : seqLost (s.begun m k) d = seqLost s d :=
  State.begun_fn (fun s => seqLost s d) (fun _ _ => rfl) s m k

/-- A length or a reservation pointer of a layer after all of them have been cut. -/
theorem get_mapVals_min (t : AMap Nat) (n l : Nat) : AMap.get 0 (AMap.mapVals (fun _ v => min v n) t) l = min (AMap.get 0 t l) n :=
  AMap.get_mapVals _ t 0 0 l (Nat.zero_min n)

/-! ## The commands -/

/-- The state in which SEQ_REGISTER has installed its context and told the partner of it. -/
def State.registered (s : State) (d : BitVec 512) : State :=
  mirrorSeq (s.setSeqCtx (freeSeqCtx s) { desc := BitVec.ofNat 512 (bits d.toNat 0 192) }) (freeSeqCtx s)

theorem registered_onlyFabric (s : State) (d : BitVec 512) :
    (s.setSeqCtx (freeSeqCtx s) { desc := BitVec.ofNat 512 (bits d.toNat 0 192) }).OnlyFabric (s.registered d) :=
  mirrorSeq_onlyFabric _ _

theorem seqRegionOk_elsewhere {s : State} {d : Nat} (h : dRegNode d ≠ s.self) : seqRegionOk s d = true := by simp [seqRegionOk, h]

/-- SEQ_REGISTER of a descriptor and a region that R206 accepts. -/
theorem exec_seqRegister {s : State} {m : Master} {d : BitVec 512} (h : s.Takes m 0x0900 []) (hm : mayManage s m (dPart d.toNat) = true)
    (hd : seqDescOk d.toNat = true) (hr : seqRegionOk s d.toNat = true) (hn : s.seqs.ctxs.length < 16384) :
    exec (.seqRegister m d) s = done (defer
      (if dRegNode d.toNat = s.self then queueStripes (s.registered d) (stripeTargets d.toNat (dStripeBase d.toNat) s.self)
        else s.registered d) m 0x0900 OK [(2, freeSeqCtx s), (4, maxPos d.toNat)]) := by
  refine congrArg done ((row_eq s m 0x0900 [] _ h).trans ?_)
  simp only [State.begun_nil, hm, hd, hr, Nat.not_le.mpr hn, Bool.not_true, Bool.false_eq_true, or_self, if_false,
    (mirrorSeq_onlyFabric _ _).self, State.setSeqCtx_self, State.registered]

theorem exec_seqRegister_elsewhere (s : State) (m : Master) (d : BitVec 512) (h : s.Takes m 0x0900 [])
    (hm : mayManage s m (dPart d.toNat) = true) (hd : seqDescOk d.toNat = true) (hnode : dRegNode d.toNat ≠ s.self)
    (hn : s.seqs.ctxs.length < 16384) :
    exec (.seqRegister m d) s = .next ((s.registered d).deferred m 0x0900 OK [(2, freeSeqCtx s), (4, maxPos d.toNat)]) := by
  rw [exec_seqRegister h hm hd (seqRegionOk_elsewhere hnode) hn, if_neg hnode]
  exact done_defer ((registered_onlyFabric s d).flt ▸ h.raised) ((registered_onlyFabric s d).mbx ▸ h.cur)

theorem exec_seqRegister_here (s : State) (m : Master) (d : BitVec 512) (h : s.Takes m 0x0900 [])
    (hm : mayManage s m (dPart d.toNat) = true) (hd : seqDescOk d.toNat = true) (hnode : dRegNode d.toNat = s.self)
    (hr : seqRegionOk s d.toNat = true) (hn : s.seqs.ctxs.length < 16384) :
    exec (.seqRegister m d) s = .next (settle (defer
      (queueStripes (s.registered d) (stripeTargets d.toNat (dStripeBase d.toNat) s.self)) m 0x0900 OK
      [(2, freeSeqCtx s), (4, maxPos d.toNat)])) := by
  rw [exec_seqRegister h hm hd hr hn, if_pos hnode]
  rfl

section
variable (s : State) (m : Master) (c : Nat) (x : SeqCtx)

theorem exec_seqRelease (h : s.Takes m 0x0902 [.seq c]) (hx : s.seqCtx c = some x) (hm : mayManage s m (dPart x.desc.toNat) = true)
    (hf : inFlight s c = false) (hg : x.migrating = false) :
    exec (.seqRelease m c) s = .next (State.answered (mirrorSeq ((s.begun m [.seq c]).modSeq fun q => { q with
      ctxs := AMap.erase q.ctxs c }) c) m 0x0902 OK) := by
  have hfab := mirrorSeq_onlyFabric ((s.begun m [.seq c]).modSeq fun q => { q with ctxs := AMap.erase q.ctxs c }) c
  refine done_row_answered h ?_ (by decide) (by simp [hfab.flt]) (by simp [hfab.mbx])
  simp [hx, hm, hf, hg]

/-- A context with LEN and the reservation pointer of every layer cut to `n` (R224). -/
def truncated (n : Nat) : SeqCtx :=
  { x with len := AMap.mapVals (fun _ v => min v n) x.len, res := AMap.mapVals (fun _ v => min v n) x.res }

theorem exec_seqTruncate (n : Nat) (h : s.Takes m 0x0903 [.seq c]) (hx : s.seqCtx c = some x)
    (hm : mayManage s m (dPart x.desc.toNat) = true) (hf : inFlight s c = false) (hg : x.migrating = false) :
    exec (.seqTruncate m c n) s =
      .next (State.answered (mirrorSeqAll ((s.begun m [.seq c]).setSeqCtx c (truncated x n)) c) m 0x0903 OK) := by
  have hfab := mirrorSeqAll_onlyFabric ((s.begun m [.seq c]).setSeqCtx c (truncated x n)) c
  refine done_row_answered h ?_ (by decide) (by simp [hfab.flt]) (by simp [hfab.mbx])
  simp [hx, hm, hf, hg, truncated]

theorem exec_seqMigrate (dest base : Nat) (mv : Bool) (h : s.Takes m 0x0904 [.seq c]) (hx : s.seqCtx c = some x)
    (hm : mayManage s m (dPart x.desc.toNat) = true) (hl : seqLost s x.desc.toNat = false) (hd : isDevik dest = true) (hs : dest ≠ s.self)
    (hp : ∃ p ∈ s.man.packages, p.node = dest) (hb : base ≤ 31) (hf : inFlight s c = false) (hg : x.migrating = false) :
    exec (.seqMigrate m c dest base mv) s = .next (sendRecord ((s.begun m [.seq c]).setSeqCtx c { x with
      migrating := true, mig := some (m, base, mv), migTo := dest }) c x dest base mv) := by
  have hlisted : (s.man.packages.any fun p => p.node == dest && p.node != s.self) = true := by
    obtain ⟨p, hmem, rfl⟩ := hp
    exact List.any_eq_true.mpr ⟨p, hmem, by simp [hs]⟩
  have hfab := sendRecord_onlyFabric ((s.begun m [.seq c]).setSeqCtx c { x with
    migrating := true, mig := some (m, base, mv), migTo := dest }) c x dest base mv
  refine (congrArg done ((row_eq s m 0x0904 [.seq c] _ h).trans ?_)).trans (done_eq _ ?_)
  · simp [hx, hm, hl, hd, hlisted, hf, hg, Nat.not_lt.mpr hb]
  · rw [hfab.flt]
    exact (State.begun_flt s m [.seq c]).symm ▸ h.raised

end

/-- Settles O24: each command accepts the operands that the statement allows, changes the contexts and tells the partner. -/
theorem sequenceCommandsRegisterReleaseTruncateAndMigrate : Obligations.SequenceCommandsRegisterReleaseTruncateAndMigrate := by
  unfold Obligations.SequenceCommandsRegisterReleaseTruncateAndMigrate
  refine ⟨exec_seqRegister_elsewhere, exec_seqRegister_here, exec_seqRelease, ?truncate, fun s m c dest base mv x => exec_seqMigrate s m c x dest base mv⟩
  case truncate =>
    intro s m c n x h hx hm hf hg
    exact ⟨truncated x n, exec_seqTruncate s m c x n h hx hm hf hg, rfl,
      fun l => ⟨get_mapVals_min x.len n l, get_mapVals_min x.res n l⟩⟩

end Sys2Proof.Machine
end

section
/-! SUPPORT. Promotion, handback and migration (R221, R464, R466–R470): what PAIR's changes and each step of a promotion leave, then the
events that set them off. -/
namespace Sys2Proof.Machine

/-! ## PAIR -/

/-- PAIR changes, with its event. -/
theorem setPair_eq {s : State} {n : Nat} (h : s.flt.pair ≠ n) :
    ∃ ho g, setPair s n = { s with fresh := s.fresh + 1, host := ho, mgmt := g, flt := { s.flt with pair := n } } := by
  unfold setPair
  rw [if_neg h]
  exact pushEvent_eq _ _ _

/-! ## Promotion (R467, R468) -/

/-- The state in which a package that promotes begins: it serves its partner, which takes no mirror write. -/
def State.servingBoth (s : State) : State :=
  (s.modMem fun m => { m with partnerDown := true }).modFlt fun f => { f with servingPartner := true }

/-- The state in which it has installed the partner's directory. -/
def State.tookDirectory (s : State) : State :=
  s.servingBoth.mem.mirrorDir.foldl (fun s x => if x.1 < 2 ^ 20 then promoteEntry s x.1 x.2 else promoteGuest s x.1) s.servingBoth

/-- The state in which it has recovered its own parcels that were at the partner. -/
def State.recoveredOwn (s : State) : State :=
  ((s.mem.dir.filter fun x => (x.2.st == 1 && inPackage x.2.home s.partner) ||
    (x.2.st == 2 && (inPackage x.2.home s.partner || inPackage x.2.src s.partner))).map (·.1)).foldl recoverOwn s

/-- The state in which the collective nodes know that the partner is lost, and its contexts are reinstated. -/
def State.reinstatedSeqs (s : State) : State := collNodeLost (reinstateSeqs s) s.partner

/-- The state in which the promotion has ended: the partner is not dead any more, and PAIR is serving both. -/
def State.servesBoth (s : State) : State :=
  raise (setPair (s.modFab fun f => { f with dead := f.dead.filter (· != s.partner) }) 3)
    { die := 18, cls := 0x11, cause := 2, node := s.partner % 512 }

theorem promote_stages (s : State) : promote s = s.tookDirectory.recoveredOwn.reinstatedSeqs.servesBoth := by
  unfold promote
  extract_lets _ _ took recovered reinstated
  have htook : took = s.tookDirectory := rfl
  have hrecovered : recovered = took.recoveredOwn := rfl
  have hreinstated : reinstated = recovered.reinstatedSeqs := rfl
  clear_value reinstated recovered took
  rw [← htook, ← hrecovered, ← hreinstated]
  rfl

/-- No own parcel is at the partner, or moves from it. -/
abbrev State.NoneAtPartner (s : State) : Prop :=
  ∀ x ∈ s.mem.dir, inPackage x.2.home s.partner = false ∧ inPackage x.2.src s.partner = false

/-- The fault that a promotion raises. -/
def promotionFault (s : State) : Capture := { die := 18, cls := 0x11, cause := 2, node := s.partner % 512, frame := s.time.lfc }

theorem reinstateSeqs_nil {s : State} (h : s.seqs.mirror = []) : reinstateSeqs s = s.modSeq fun q => { q with mirror := [] } := by
  simp [reinstateSeqs, reinstated, h]

theorem collNodeLost_nil {s : State} (h : s.coll.nodes = []) (n : Nat) : collNodeLost s n = s := by
  simp [collNodeLost, h]

/-- With none of its own parcels at the partner the package recovers none. -/
theorem recoveredOwn_eq {s : State} (h : s.NoneAtPartner) : s.recoveredOwn = s := by
  have hnone : (s.mem.dir.filter fun x => (x.2.st == 1 && inPackage x.2.home s.partner) ||
      (x.2.st == 2 && (inPackage x.2.home s.partner || inPackage x.2.src s.partner))) = [] :=
    List.filter_eq_nil_iff.mpr fun x hx => by
      obtain ⟨hhome, hsrc⟩ := h x hx
      simp [hhome, hsrc]
  rw [State.recoveredOwn, hnone]
  rfl

theorem servesBoth_eq {s : State} (h : s.flt.pair ≠ 3) :
    ∃ ho g, s.servesBoth = { s with
      fresh := s.fresh + 1, host := ho, mgmt := g, fab := { s.fab with dead := s.fab.dead.filter (· != s.partner) }
      flt := { s.flt with pair := 3, raised := s.flt.raised ++ [promotionFault s] } } := by
  obtain ⟨ho, g, hset⟩ := setPair_eq (s := s.modFab fun f => { f with dead := f.dead.filter (· != s.partner) }) h
  exact ⟨ho, g, by rw [State.servesBoth, hset]; rfl⟩

/-- A promotion that has installed the partner's directory, with no sequence context of the partner to reinstate, no collective node
here and no own parcel at the partner. -/
theorem promote_eq {s w : State} (hw : s.tookDirectory = w) (hseq : w.seqs.mirror = []) (hcoll : w.coll.nodes = []) (hdir : w.NoneAtPartner)
    (hpair : w.flt.pair ≠ 3) :
    ∃ ho g, promote s = { w with
      fresh := w.fresh + 1, host := ho, mgmt := g, seqs := { w.seqs with mirror := [] }
      fab := { w.fab with dead := w.fab.dead.filter (· != w.partner) }
      flt := { w.flt with pair := 3, raised := w.flt.raised ++ [promotionFault w] } } := by
  rw [promote_stages, hw, recoveredOwn_eq hdir, State.reinstatedSeqs, reinstateSeqs_nil hseq,
    collNodeLost_nil (s := w.modSeq _) hcoll]
  exact servesBoth_eq hpair

theorem tookDirectory_nil {s : State} (h : s.mem.mirrorDir = []) : s.tookDirectory = s.servingBoth := by
  rw [State.tookDirectory, show s.servingBoth.mem.mirrorDir = [] from h]
  rfl

theorem tookDirectory_singleton {s : State} {p : Nat} {e : DirEntry} (h : s.mem.mirrorDir = [(p, e)]) (hp : p < 2 ^ 20) :
    s.tookDirectory = promoteEntry s.servingBoth p e := by
  rw [State.tookDirectory, show s.servingBoth.mem.mirrorDir = [(p, e)] from h, List.foldl_cons, if_pos hp]
  rfl

/-! ### What a promotion leaves -/

/-- A package that holds no entry of the partner's directory promotes: it serves both, and its own directory stays. -/
theorem promote_emptyMirror {s : State} (hset : s.Settled) (hpair : s.flt.pair < 2) (hseq : s.seqs.mirror = []) (hcoll : s.coll.nodes = [])
    (hmir : s.mem.mirrorDir = []) (hdir : s.NoneAtPartner) :
    let u := promote (setPair s 2)
    u.flt.pair = 3 ∧ u.flt.servingPartner = true ∧ u.mem.partnerDown = true ∧ s.partner ∉ u.fab.dead ∧ u.mem.dir = s.mem.dir ∧
      u.groups = s.groups ∧ u.flt.raised = [promotionFault s] := by
  obtain ⟨ho, g, hto⟩ := setPair_eq (s := s) (n := 2) (by omega)
  obtain ⟨ho', g', hprom⟩ := promote_eq (s := setPair s 2) (tookDirectory_nil (by rw [hto]; exact hmir)) (by rw [hto]; exact hseq)
    (by rw [hto]; exact hcoll) (by rw [hto]; exact hdir) (by rw [hto]; exact (by decide : (2 : Nat) ≠ 3))
  rw [hprom, hto]
  refine ⟨rfl, rfl, rfl, ?_, rfl, rfl, ?_⟩
  · exact fun hmem => by simpa [State.partner, State.tray, State.servingBoth] using (List.mem_filter.mp hmem).2
  · simp [promotionFault, hset, State.servingBoth, State.partner, State.tray]

/-- The entry of a parcel of the partner whose mirror is here, once the package has promoted: a guest while the mirror is current, and
lost otherwise (R467). -/
def promotedMirror (e : DirEntry) : DirEntry :=
  if e.unmirrored then { e with st := 3, home := {}, src := {} } else { e with src := {}, unmirrored := true }

theorem promoteEntry_mirrorHere {s : State} {p : Nat} {e : DirEntry} (hst : e.st = 1) (hhome : inPackage e.home s.self = true)
    (hframe : dataFrames s ≤ e.home.frame) (hent : (entOf s s.partner p).st ≠ 1) :
    promoteEntry s p e = setEntOf (s.modMem fun m => { m with
      mirrorDir := AMap.erase m.mirrorDir p, mirrorMoves := AMap.erase m.mirrorMoves p }) s.partner p (promotedMirror e) := by
  obtain ⟨t, ht⟩ : ∃ t, t = s.modMem fun m => { m with
      mirrorDir := AMap.erase m.mirrorDir p, mirrorMoves := AMap.erase m.mirrorMoves p } := ⟨_, rfl⟩
  have hhome' : inPackage e.home t.self = true := ht ▸ hhome
  have hframe' : dataFrames t ≤ e.home.frame := ht ▸ hframe
  have hent' : (entOf t t.partner p).st ≠ 1 := ht ▸ hent
  have hpartner : s.partner = t.partner := ht ▸ rfl
  obtain ⟨hkind, hholder⟩ : e.home.kind = 1 ∧ e.home.holder = t.self := by simpa [inPackage] using hhome'
  have hne : t.self ≠ t.partner := t.self_ne_partner
  unfold promoteEntry
  dsimp only
  rw [← ht, hpartner]
  cases hu : e.unmirrored <;>
    simp [promotedMirror, hst, hhome', hframe', hent', hkind, hholder, hne, hu]

theorem setEntOf_partner (s : State) (p : Nat) (e : DirEntry) :
    setEntOf s s.partner p e = s.modMem fun m => { m with guests := AMap.set m.guests (s.partner * 2 ^ 20 + p) e } :=
  if_neg s.self_ne_partner.symm

theorem entOf_partner (s : State) (p : Nat) : entOf s s.partner p = AMap.get {} s.mem.guests (s.partner * 2 ^ 20 + p) :=
  if_neg s.self_ne_partner.symm

/-- A package that holds one entry of the partner's directory, mirrored here, promotes: the parcel becomes its guest, or is lost. -/
theorem promote_mirrorHere {s : State} {p : Nat} {e : DirEntry} (hpair : s.flt.pair < 2) (hseq : s.seqs.mirror = []) (hcoll : s.coll.nodes = [])
    (hmir : s.mem.mirrorDir = [(p, e)]) (hp : p < 2 ^ 20) (hst : e.st = 1) (hhome : inPackage e.home s.self = true)
    (hframe : dataFrames s ≤ e.home.frame) (hent : (entOf s s.partner p).st ≠ 1) (hdir : s.mem.dir = []) :
    let u := promote (setPair s 2)
    u.flt.pair = 3 ∧ u.mem.mirrorDir = [] ∧ entOf u s.partner p = promotedMirror e := by
  obtain ⟨ho, g, hto⟩ := setPair_eq (s := s) (n := 2) (by omega)
  have htook := (tookDirectory_singleton (s := setPair s 2) (by rw [hto]; exact hmir) hp).trans
    ((promoteEntry_mirrorHere hst (by rw [hto]; exact hhome) (by rw [hto]; exact hframe) (by rw [hto]; exact hent)).trans
      (setEntOf_partner _ p _))
  obtain ⟨ho', g', hprom⟩ := promote_eq htook (by rw [hto]; exact hseq) (by rw [hto]; exact hcoll)
    (by rw [hto]; intro x hx; exact absurd (hdir ▸ hx : x ∈ ([] : AMap DirEntry)) List.not_mem_nil)
    (by rw [hto]; exact (by decide : (2 : Nat) ≠ 3))
  rw [hprom, hto]
  refine ⟨rfl, ?_, ?_⟩
  · change AMap.erase s.mem.mirrorDir p = []
    simp [hmir, AMap.erase]
  · exact (entOf_partner _ p).trans (AMap.get_set_same ..)

/-! ### What sets a promotion off -/

/-- A majority of at least three witnesses reports the partner silent for 32 frames. -/
theorem doPromotion_eq {s : State} {h : Nat} {reports : List WitnessReport} (hh : s.flt.heardPartner = some h) (hpair : s.flt.pair = 1)
    (hlate : h + 48 ≤ s.time.lfc) (hw : 3 ≤ s.man.witnesses.length) (hl : leaseHeld s = true)
    (hr : ∀ w ∈ s.man.witnesses, ∃ r ∈ reports, r.node = w ∧ r.heard + 32 ≤ s.time.lfc) :
    doPromotion s reports = promote (setPair s 2) := by
  have hsilent : (s.man.witnesses.countP fun w => reports.any fun r => r.node == w && decide (r.heard + 32 ≤ s.time.lfc)) =
      s.man.witnesses.length := List.countP_eq_length.mpr fun w hmem => by
    obtain ⟨r, hr, hnode, hheard⟩ := hr w hmem
    exact List.any_eq_true.mpr ⟨r, hr, by simp [hnode, hheard]⟩
  have hmaj : majority s s.man.witnesses.length = true := decide_eq_true (by omega)
  simp [doPromotion, hh, hpair, hsilent, hmaj, hl, Nat.not_lt.mpr hlate, Nat.not_lt.mpr hw]

/-- The partner itself tells that it stops serving. -/
theorem doFailing_eq {s : State} (hh : s.flt.heardPartner ≠ none) (hpair : s.flt.pair < 2) (hr : pairRuns s = true) :
    doFailing s s.partner = promote (setPair s 2) := by
  have h2 : s.flt.pair ≠ 2 := by omega
  have h3 : s.flt.pair ≠ 3 := by omega
  simp [doFailing, hh, h2, h3, hr]

/-! ## Handback (R470) -/

/-- A parcel of the partner that stays here as a guest when the directory goes back. -/
def staysHere (s : State) (x : Nat × DirEntry) : Bool := x.2.st == 1 && inPackage x.2.home s.self

/-- The partner is brought current by messages alone. -/
theorem partnerBack_onlyFabric (s : State) :
    (s.modMem fun m => { m with partnerDown := false, mirrorLost := false }).OnlyFabric (partnerBack s) :=
  (State.OnlyFabric.foldl mirrorEntry_onlyFabric _ _).trans (.foldl mirrorSeqAll_onlyFabric _ _)

/-- Nothing but the packet unit, the guests and their moves differs. -/
def State.OnlyGuests (s t : State) : Prop :=
  t = { s with fab := t.fab, mem := { s.mem with guests := t.mem.guests, moves := t.mem.moves } }

theorem State.OnlyGuests.trans {s t u : State} (h : s.OnlyGuests t) (h' : t.OnlyGuests u) : s.OnlyGuests u := by
  unfold State.OnlyGuests at *
  rw [h'.trans (by rw [h] : { t with fab := u.fab, mem := { t.mem with guests := u.mem.guests, moves := u.mem.moves } } =
    { s with fab := u.fab, mem := { s.mem with guests := u.mem.guests, moves := u.mem.moves } })]

theorem handBack_eq (s : State) (x : Nat × DirEntry) :
    s.OnlyGuests (handBack s x) ∧ (handBack s x).mem.guests = s.mem.guests.filter fun y => staysHere s x || y.1 != x.1 := by
  by_cases h : x.2.st = 1 ∧ inPackage x.2.home s.self = true
  · have hs : staysHere s x = true := by simp [staysHere, h]
    have he : handBack s x = sendMsg s s.partner msgHandback
      [(20, x.1 % 2 ^ 20), (256, regDir x.2), (4, x.2.home.region), (4, x.2.src.region)] := if_pos h
    rw [he]
    refine ⟨rfl, (congrArg MemS.guests (sendMsg_onlyFabric s _ _ _).mem).trans (List.filter_eq_self.mpr fun y _ => ?_).symm⟩
    rw [hs, Bool.true_or]
  · have hs : staysHere s x = false := by simpa [staysHere] using h
    have he : handBack s x = (sendMsg s s.partner msgHandback
        [(20, x.1 % 2 ^ 20), (256, regDir x.2), (4, x.2.home.region), (4, x.2.src.region)]).modMem fun m => { m with
      guests := AMap.erase m.guests x.1, moves := AMap.erase m.moves x.1 } := if_neg h
    rw [he]
    exact ⟨rfl, by simp [hs, (sendMsg_onlyFabric s _ _ _).mem, AMap.erase]⟩

/-- The entries of the partner's directory go back one by one: of the guests those stay that are homed here. -/
theorem foldl_handBack (l : List (Nat × DirEntry)) (s : State) :
    s.OnlyGuests (l.foldl handBack s) ∧
      (l.foldl handBack s).mem.guests = s.mem.guests.filter fun y => l.all fun x => staysHere s x || y.1 != x.1 := by
  induction l generalizing s with
  | nil => exact ⟨rfl, (List.filter_eq_self.mpr fun _ _ => rfl).symm⟩
  | cons x l ih =>
    obtain ⟨hx, hguests⟩ := handBack_eq s x
    obtain ⟨hl, hrest⟩ := ih (handBack s x)
    have hself : (handBack s x).self = s.self := (congrArg State.self hx).trans rfl
    refine ⟨hx.trans hl, ?_⟩
    simp [List.foldl_cons, hrest, hguests, List.filter_filter, staysHere, hself, Bool.and_comm]

theorem find_eq_none_of_forall_ne {α : Type} {t : AMap α} {k : Nat} (h : ∀ x ∈ t, x.1 ≠ k) : AMap.find t k = none := by
  induction t with
  | nil => rfl
  | cons x t ih =>
    rw [AMap.find, if_neg (h x List.mem_cons_self).symm]
    exact ih fun y hy => h y (List.mem_cons_of_mem _ hy)

/-- The guests that are left when the partner's directory has gone back. -/
def State.guestsLeft (s : State) : AMap DirEntry := s.mem.guests.filter fun y => (partnerGuests s).all fun x => staysHere s x || y.1 != x.1

/-- A guest that is homed here stays, unless another entry has its number. -/
theorem mem_guestsLeft {s : State} {y : Nat × DirEntry} (hy : y ∈ partnerGuests s) (hs : staysHere s y = true)
    (huniq : ∀ z ∈ partnerGuests s, z.1 = y.1 → z = y) : y ∈ s.guestsLeft := by
  refine List.mem_filter.mpr ⟨(List.mem_filter.mp hy).1, List.all_eq_true.mpr fun z hz => ?_⟩
  by_cases hkey : z.1 = y.1
  · simp [huniq z hz hkey, hs]
  · simp [Ne.symm hkey]

/-- A parcel that is homed elsewhere is no guest any more. -/
theorem find_guestsLeft {s : State} {y : Nat × DirEntry} (hy : y ∈ partnerGuests s) (hs : staysHere s y = false) :
    AMap.find s.guestsLeft y.1 = none :=
  find_eq_none_of_forall_ne fun z hz => by
    have hall := List.all_eq_true.mp (List.mem_filter.mp hz).2 y hy
    simpa [hs] using hall

/-- The state in which the package has ceased to serve its partner, and the handback is no longer due. -/
def State.servingOne (s : State) : State := s.modFlt fun f => { f with handbackAt := none, servingPartner := false }

theorem doHandback_eq {s : State} {x : Nat} (hx : s.flt.handbackAt = some x) (hpair : s.flt.pair = 3) (ht : x ≤ s.time.lfc) :
    doHandback s = setPair ((partnerGuests s).foldl handBack (partnerBack s.servingOne)) 5 := by
  have hdue : ¬ (s.flt.pair ≠ 3 ∨ s.time.lfc < x) := by omega
  simp only [doHandback, hx, if_neg hdue]
  rfl

/-- The handback at its frame: PAIR is restoring, and only the partner's parcels that are homed here are guests still. -/
theorem exec_handback {s : State} {x : Nat} (hset : s.Settled) (hx : s.flt.handbackAt = some x) (hpair : s.flt.pair = 3)
    (hdue : x ≤ s.time.lfc) :
    ∃ t : State, exec .handback s = .next t ∧ t.flt.pair = 5 ∧ t.flt.servingPartner = false ∧ t.flt.handbackAt = none ∧
      t.mem.partnerDown = false ∧ t.mem.dir = s.mem.dir ∧ t.mem.cells = s.mem.cells ∧ t.groups = s.groups ∧ t.mem.guests = s.guestsLeft := by
  have hdo := doHandback_eq hx hpair hdue
  have hback := partnerBack_onlyFabric s.servingOne
  obtain ⟨hguests, hleft⟩ := foldl_handBack (partnerGuests s) (partnerBack s.servingOne)
  generalize partnerBack s.servingOne = b at hdo hback hguests hleft
  generalize (partnerGuests s).foldl handBack b = w at hdo hguests hleft
  have hflt : w.flt = { s.flt with handbackAt := none, servingPartner := false } := (congrArg State.flt hguests).trans hback.flt
  obtain ⟨ho, g, hto⟩ := setPair_eq (s := w) (n := 5) (by rw [hflt, hpair]; decide)
  have hmem : w.mem = { s.mem with partnerDown := false, mirrorLost := false, guests := w.mem.guests, moves := w.mem.moves } :=
    (congrArg State.mem hguests).trans (by rw [hback.mem]; rfl)
  have hself : b.self = s.self := hback.self
  refine ⟨_, done_next_of_eq (hdo.trans hto) (hflt ▸ hset), rfl, ?_, ?_, ?_, ?_, ?_, ?_, ?_⟩
  · exact congrArg FaultS.servingPartner hflt
  · exact congrArg FaultS.handbackAt hflt
  · exact congrArg MemS.partnerDown hmem
  · exact (congrArg MemS.dir hmem).trans rfl
  · exact (congrArg MemS.cells hmem).trans rfl
  · exact ((congrArg State.groups hguests).trans rfl).trans hback.groups
  · simp [hleft, State.guestsLeft, hback.mem, staysHere, hself, State.servingOne]

/-! ## Migration (R221) -/

theorem doMigrateRecord_full {s : State} (r : SeqRecord) (h : 16384 ≤ s.seqs.ctxs.length) :
    doMigrateRecord s r = sendMsg s r.fromNode msgRecordReply [(14, r.fromCtx), (1, 1), (14, 0)] := if_pos h

/-- The context that a migrated record becomes: its descriptor with the STRIPE_BASE of the request, and its lengths. -/
def migratedCtx (r : SeqRecord) : SeqCtx :=
  { desc := BitVec.ofNat 512 (r.desc.toNat - bits r.desc.toNat 48 5 * 2 ^ 48 + r.stripeBase % 32 * 2 ^ 48), len := r.lens, res := r.lens }

theorem migratedCtx_stripeBase (r : SeqRecord) : dStripeBase (migratedCtx r).desc.toNat = r.stripeBase % 32 := by
  simp only [migratedCtx, dStripeBase, bits, Nat.shiftRight_eq_div_pow, BitVec.toNat_ofNat]
  omega

theorem doMigrateRecord_installed {s : State} {r : SeqRecord} (hm : r.move = false) (h : s.seqs.ctxs.length < 16384) :
    doMigrateRecord s r = sendMsg (mirrorSeqAll (s.setSeqCtx (freeSeqCtx s) (migratedCtx r)) (freeSeqCtx s)) r.fromNode
      msgRecordReply [(14, r.fromCtx), (1, 0), (14, freeSeqCtx s)] := by
  simp only [doMigrateRecord, if_neg (Nat.not_le.mpr h), hm, Bool.false_eq_true, false_and, if_false]
  rfl

section
variable {s : State} {c base : Nat} {m : Master} {move : Bool} {x : SeqCtx} (hset : s.Settled) (hx : s.seqCtx c = some x)
  (hmig : x.mig = some (m, base, move)) (hcur : s.mbx.cur = none)
include hset hx hmig hcur

/-- The destination has no room: the context stays, and its command ends with BUSY. -/
theorem exec_seqMigrateReply_busy :
    exec (.seqMigrateReply c none) s = .next ((s.setSeqCtx c { x with migrating := false, mig := none }).answered m 0x0904 BUSY) := by
  have hdo : doMigrateReply s c none = respond (s.setSeqCtx c { x with migrating := false, mig := none }) m 0x0904 BUSY := by
    simp [doMigrateReply, hx, hmig]
  exact (congrArg done hdo).trans (done_respond hset hcur (by decide))

/-- The destination has the context: it leaves this package, and its command ends with its number there. -/
theorem exec_seqMigrateReply_installed (n : Nat) (hmove : move = false) :
    exec (.seqMigrateReply c (some n)) s = .next ((mirrorSeq (s.modSeq fun q => { q with
      ctxs := AMap.erase q.ctxs c, migrations := satAdd 32 q.migrations 1 }) c).answered m 0x0904 OK [(2, n)]) := by
  have hdo : doMigrateReply s c (some n) = respond (mirrorSeq (s.modSeq fun q => { q with
      ctxs := AMap.erase q.ctxs c, migrations := satAdd 32 q.migrations 1 }) c) m 0x0904 OK [(2, n)] := by
    simp [doMigrateReply, hx, hmig, hmove]
  have hfab := mirrorSeq_onlyFabric (s.modSeq fun q => { q with
    ctxs := AMap.erase q.ctxs c, migrations := satAdd 32 q.migrations 1 }) c
  exact (congrArg done hdo).trans (done_respond (hfab.flt ▸ hset) (hfab.mbx ▸ hcur) (by decide))

end

/-- Settles O54: a promotion installs what the mirror holds, a handback leaves the guests that are homed here, and a migration's two ends
tell each other. -/
theorem promotionHandbackAndMigration : Obligations.PromotionHandbackAndMigration := by
  unfold Obligations.PromotionHandbackAndMigration
  refine ⟨?promotion, ?failing, ?mirrorHere, ?handback, ?record, ?reply⟩
  case promotion =>
    intro s h reports hset hh hpair hlate hw hl hr hmir hseq hcoll hdir
    exact ⟨_, congrArg done (doPromotion_eq hh hpair hlate hw hl hr),
      promote_emptyMirror hset (by omega) hseq hcoll hmir hdir⟩
  case failing =>
    intro s hset hh hpair hr hmir hseq hcoll hdir
    obtain ⟨hp, hserving, hdown, _, hkept, hgroups, _⟩ := promote_emptyMirror hset hpair hseq hcoll hmir hdir
    exact ⟨_, congrArg done (doFailing_eq hh hpair hr), hp, hserving, hdown, hkept, hgroups⟩
  case mirrorHere =>
    intro s p e hset hh hpair hr hmir hp hst hhome hframe _ hent hdir hseq hcoll
    exact ⟨_, congrArg done (doFailing_eq hh hpair hr), promote_mirrorHere hpair hseq hcoll hmir hp hst hhome hframe hent hdir⟩
  case handback =>
    intro s x hset hx hpair hdue
    obtain ⟨t, hexec, hp, hserving, hat, hdown, hdir, hcells, hgroups, hleft⟩ := exec_handback hset hx hpair hdue
    refine ⟨t, hexec, hp, hserving, hat, hdown, hdir, hcells, hgroups, fun y hy hst hhome huniq => ?_, fun y hy => ?_⟩
    · exact hleft ▸ mem_guestsLeft hy (by simp [staysHere, hst, hhome]) huniq
    · cases hs : staysHere s y
      · exact .inr (hleft ▸ find_guestsLeft hy hs)
      · exact .inl (by simpa [staysHere] using hs)
  case record =>
    intro s r hset hm
    refine ⟨fun h => done_next_of_eq (doMigrateRecord_full r h) hset, fun h => ⟨migratedCtx r, ?_, rfl, rfl, migratedCtx_stripeBase r⟩⟩
    have hfab := mirrorSeqAll_onlyFabric (s.setSeqCtx (freeSeqCtx s) (migratedCtx r)) (freeSeqCtx s)
    exact done_next_of_eq (doMigrateRecord_installed hm h) (hfab.flt ▸ hset)
  case reply =>
    intro s c base m move x hset hx hmig hcur
    exact ⟨exec_seqMigrateReply_busy hset hx hmig hcur, exec_seqMigrateReply_installed hset hx hmig hcur⟩

end Sys2Proof.Machine
end

section
/-! SUPPORT. Aborts and resets of a group's node (R255): what they make of the node, and what they leave. -/
namespace Sys2Proof.Machine

/-! ## Writes of memory -/

/-- Nothing but memory, the faults raised and the free values drawn differs. -/
def State.OnlyMemory (s t : State) : Prop := t = { s with fresh := t.fresh, mem := t.mem, flt := t.flt }

namespace State.OnlyMemory

@[refl] theorem refl (s : State) : s.OnlyMemory s := rfl

theorem trans {s t u : State} (h : s.OnlyMemory t) (h' : t.OnlyMemory u) : s.OnlyMemory u := by
  unfold State.OnlyMemory at *
  rw [h'.trans (by rw [h] : { t with fresh := u.fresh, mem := u.mem, flt := u.flt } = { s with fresh := u.fresh, mem := u.mem, flt := u.flt })]

theorem foldl {α : Type} {f : State → α → State} (hf : ∀ (s : State) (x : α), s.OnlyMemory (f s x)) (l : List α) (s : State) :
    s.OnlyMemory (l.foldl f s) :=
  List.foldlRecOn l f (motive := s.OnlyMemory) (refl s) fun t ht x _ => ht.trans (hf t x)

theorem coll {s t : State} (h : s.OnlyMemory t) : t.coll = s.coll := (congrArg State.coll h).trans rfl

end State.OnlyMemory

theorem modMem_onlyMemory (s : State) (f : MemS → MemS) : s.OnlyMemory (s.modMem f) := rfl

theorem poisonAtom_onlyMemory (s : State) (a : Nat) : s.OnlyMemory (poisonAtom s a) := by
  unfold poisonAtom
  dsimp only
  (repeat' split) <;> rfl

theorem decodeAtom_onlyMemory (s : State) (n a b : Nat) : s.OnlyMemory (decodeAtom s n a b) := by
  unfold decodeAtom
  dsimp only [State.draw]
  split
  · rfl
  · split
    · rfl
    · split
      · split <;> rfl
      · exact .trans (by rfl) (poisonAtom_onlyMemory _ a)

theorem decodeLine_onlyMemory (s : State) (l b : Nat) : s.OnlyMemory (decodeLine s l b) := by
  unfold decodeLine
  dsimp only [State.draw]
  split
  · rfl
  · split
    · exact poisonAtom_onlyMemory s l
    · split
      · exact .trans (by rfl) (poisonAtom_onlyMemory _ l)
      · rfl

theorem meetError_onlyMemory (s : State) (a : Nat) : s.OnlyMemory (meetError s a) := by
  unfold meetError
  split
  · rfl
  · split
    · exact .trans (by split <;> rfl) (decodeLine_onlyMemory _ a _)
    · exact .trans (by split <;> rfl) (decodeAtom_onlyMemory _ _ a _)

theorem meetErrors_onlyMemory (s : State) (k n : Nat) : s.OnlyMemory (meetErrors s k n) := by
  unfold meetErrors
  split
  · rfl
  · exact .foldl meetError_onlyMemory _ _

/-- A write of an atom retags it, meets the errors of one that it writes in part, and ends with or without poison. -/
theorem writeAtom_onlyMemory (s : State) (k : Nat) (d : Bytes) (part : Nat) (poison : Bool) : s.OnlyMemory (writeAtom s k d part poison) := by
  have hmet (t : State) : t.OnlyMemory (if d.length = 64 then t else meetErrors t k d.length) := by
    split
    · rfl
    · exact meetErrors_onlyMemory t k d.length
  have hends (t : State) : t.OnlyMemory
      (if poison then poisonAtom t (k / 64) else if d.length = 64 then clearPoison t (k / 64) else t) := by
    split
    · exact poisonAtom_onlyMemory t _
    · split <;> rfl
  unfold writeAtom
  dsimp only
  refine .trans (.trans (.trans ?_ (hmet _)) (modMem_onlyMemory _ _)) (hends _)
  split <;> rfl

theorem performWrite_onlyMemory (s : State) (k : Nat) (d : Bytes) (part : Nat) (poison : Bool) :
    s.OnlyMemory (performWrite s k d part poison) :=
  .foldl (fun s _ => writeAtom_onlyMemory s _ _ _ _) _ _

theorem freeDst_onlyMemory (s : State) (j : Join) (part : Nat) : s.OnlyMemory (freeDst s j part) := by
  unfold freeDst
  refine .foldl (fun s x => ?_) _ _
  dsimp only [State.draw]
  split
  · split
    · rfl
    · exact .trans (by rfl) (performWrite_onlyMemory _ _ _ _ _)
  · rfl

/-! ## Aborts at a node -/

theorem State.OnlyFabric.coll {s t : State} (h : s.OnlyFabric t) : t.coll = s.coll := (congrArg State.coll h).trans rfl
theorem State.OnlyFabric.host {s t : State} (h : s.OnlyFabric t) : t.host = s.host := (congrArg State.host h).trans rfl

theorem node_of_coll {s t : State} (h : t.coll = s.coll) (k : Nat) : t.node k = s.node k := by simp only [State.node, h]

@[simp] theorem modJoin_coll (s : State) (g k : Nat) (f : Join → Join) : (modJoin s g k f).coll = s.coll := rfl
@[simp] theorem dropJoinTracks_coll (s : State) (g : Nat) (l : List Nat) : (dropJoinTracks s g l).coll = s.coll := rfl
@[simp] theorem clearSpec_coll (s : State) (g group opgen : Nat) : (clearSpec s g group opgen).coll = s.coll := rfl
@[simp] theorem collWake_coll (s : State) (g : Nat) : (collWake s g).coll = s.coll := rfl
@[simp] theorem freeDst_coll (s : State) (j : Join) (part : Nat) : (freeDst s j part).coll = s.coll := (freeDst_onlyMemory s j part).coll

theorem send_onlyFabric (s : State) (p : Packet) : s.OnlyFabric (send s p) := rfl

/-- The packet that tells of an abort. -/
def abortNotice (s : State) (n : CollNode) (reason offender detect dest : Nat) : Packet :=
  { collPkt s n opABORT dest 5 with len := 8, payload := leBytes 8 (pack [(8, reason), (12, offender), (9, detect)]) }

/-- What an abort does to a member: the join of a member of this package ends, an end point is told. -/
def abortMember (n : CollNode) (reason offender detect : Nat) (notice : Nat → Packet) (s : State) (m : Nat × BitVec 64) : State :=
  match memberEg n s.self m.1 with
  | some g =>
    (match joinOf s g n.group with
     | some (k, j) => collWake (clearSpec (freeDst (dropJoinTracks (modJoin s g k fun j => { j with
         abortReason := reason, offender := offender, detect := detect }) g [k]) j n.part) g j.group j.opgen) g
     | none => s)
  | none => send s (notice (entNode m.2))

/-- The state in which the node is ABORTED and the abort counted, and nobody has been told. -/
def State.nodeAborted (s : State) (slot reason : Nat) : State :=
  collCount (s.setNode slot { (s.node slot).clear with st := 2, lastReason := reason }) (min reason 6)

theorem nodeAborted_node (s : State) (slot reason : Nat) :
    (s.nodeAborted slot reason).node slot = { (s.node slot).clear with st := 2, lastReason := reason } :=
  AMap.get_set_same ..

section
variable {s : State} {slot : Nat} (reason offender detect : Nat)

theorem applyAbort_live (h : (s.node slot).st ≠ 2) :
    let a := s.nodeAborted slot reason
    let notice := abortNotice a (s.node slot) reason offender detect
    let b := (s.node slot).members.foldl (abortMember (s.node slot) reason offender detect notice) a
    applyAbort s slot reason offender detect =
      if (s.node slot).apex then (s.node slot).childNodes.foldl (fun s d => send s (notice d)) b else b := by
  unfold applyAbort
  exact if_neg h

/-- Of the collectives a member's abort changes nothing: it ends joins, frees memory and sends packets. -/
theorem abortMember_coll (n : CollNode) (notice : Nat → Packet) (t : State) (m : Nat × BitVec 64) :
    (abortMember n reason offender detect notice t m).coll = t.coll := by
  unfold abortMember
  split
  · split
    · simp
    · rfl
  · rfl

/-- Where no member of this package has joined, members are only told. -/
theorem abortMember_onlyFabric {n : CollNode} {t : State} (hj : ∀ g, joinOf t g n.group = none) (notice : Nat → Packet)
    (m : Nat × BitVec 64) : t.OnlyFabric (abortMember n reason offender detect notice t m) := by
  unfold abortMember
  split
  next g _ => rw [hj g]; rfl
  next => rfl

theorem foldl_send_onlyFabric {α : Type} (p : α → Packet) (l : List α) (t : State) : t.OnlyFabric (l.foldl (fun s d => send s (p d)) t) :=
  .foldl (fun s d => send_onlyFabric s (p d)) l t

theorem applyAbort_coll (h : (s.node slot).st ≠ 2) : (applyAbort s slot reason offender detect).coll = (s.nodeAborted slot reason).coll := by
  have hmembers (notice : Nat → Packet) : ((s.node slot).members.foldl (abortMember (s.node slot) reason offender detect notice)
      (s.nodeAborted slot reason)).coll = (s.nodeAborted slot reason).coll :=
    List.foldlRecOn _ _ (motive := fun t : State => t.coll = (s.nodeAborted slot reason).coll) rfl fun t ht m _ =>
      (abortMember_coll reason offender detect _ notice t m).trans ht
  rw [applyAbort_live reason offender detect h]
  split
  · exact (foldl_send_onlyFabric _ _ _).coll.trans (hmembers _)
  · exact hmembers _

theorem joinOf_congr {t u : State} (h : u.groups = t.groups) (g group : Nat) : joinOf u g group = joinOf t g group := by
  simp only [joinOf, State.grp, h]

/-- Where no member of this package has joined, an abort changes the node and its count, and sends packets. -/
theorem applyAbort_onlyFabric (h : (s.node slot).st ≠ 2) (hj : ∀ g, joinOf s g (s.node slot).group = none) :
    (s.nodeAborted slot reason).OnlyFabric (applyAbort s slot reason offender detect) := by
  have hmembers (notice : Nat → Packet) : (s.nodeAborted slot reason).OnlyFabric
      ((s.node slot).members.foldl (abortMember (s.node slot) reason offender detect notice) (s.nodeAborted slot reason)) :=
    List.foldlRecOn _ _ (motive := (s.nodeAborted slot reason).OnlyFabric) (.refl _) fun t ht m _ =>
      ht.trans (abortMember_onlyFabric reason offender detect (fun g => (joinOf_congr (ht.groups.trans rfl) g _).trans (hj g)) notice m)
  rw [applyAbort_live reason offender detect h]
  split
  · exact (hmembers _).trans (foldl_send_onlyFabric _ _ _)
  · exact hmembers _

end

/-! ## Aborts detected at a node -/

section
variable {s : State} {slot reason : Nat} (offender : Nat) (h : (s.node slot).st ≠ 2) (hidle : (s.node slot).st = 0 → reason = 5 ∨ reason = 6)
  (hr : reason ≠ 3)
include h hidle hr

/-- An abort that takes effect and is not for a lost node: after the node's own, the apex is told. -/
theorem collAbortOp_onlyFabric : (applyAbort s slot reason offender s.self).OnlyFabric (collAbortOp s slot reason offender) := by
  have hlive : ¬ ((s.node slot).st = 2 ∨ ((s.node slot).st = 0 ∧ reason ≠ 5 ∧ reason ≠ 6)) := by
    rintro (h2 | ⟨h0, h5, h6⟩)
    · exact h h2
    · exact (hidle h0).elim h5 h6
  have hstays : ¬ ((s.node slot).apex = true ∧ reason = 3) := fun x => hr x.2
  unfold collAbortOp
  simp only [if_neg hlive, if_neg hstays]
  split
  · exact .refl _
  · exact send_onlyFabric _ _

theorem collAbortOp_node : (collAbortOp s slot reason offender).node slot = { (s.node slot).clear with st := 2, lastReason := reason } := by
  have hcoll := (collAbortOp_onlyFabric offender h hidle hr).coll.trans (applyAbort_coll reason offender s.self h)
  rw [node_of_coll hcoll, nodeAborted_node]

theorem collAbortOp_unjoined (hj : ∀ g, joinOf s g (s.node slot).group = none) :
    (s.nodeAborted slot reason).OnlyFabric (collAbortOp s slot reason offender) :=
  (applyAbort_onlyFabric reason offender s.self h hj).trans (collAbortOp_onlyFabric offender h hidle hr)

end

/-! ## Resets -/

/-- The state in which the node is IDLE and its members start anew, and nobody has been told; a node of a fenced die stays ABORTED. -/
def State.nodeReset (s : State) (slot : Nat) : State :=
  clearGen (s.setNode slot { (s.node slot).clear with
    st := if s.isUnitFenced 3 (s.node slot).xd then 2 else 0, opgen := 0, epGen := [] }) (s.node slot).group

theorem applyReset_onlyFabric (s : State) (slot : Nat) : (s.nodeReset slot).OnlyFabric (applyReset s slot) := by
  have hmembers (t : State) (l : List (Nat × BitVec 64)) : t.OnlyFabric (l.foldl (fun t m =>
      if entKind m.2 = 1 then send t (collPkt (s.nodeReset slot) (s.node slot) opRESET (entNode m.2) 5) else t) t) :=
    .foldl (fun t m => by split <;> rfl) l t
  unfold applyReset
  dsimp only
  split
  · exact (hmembers _ _).trans (foldl_send_onlyFabric _ _ _)
  · exact hmembers _ _

theorem applyReset_node (s : State) (slot : Nat) : (applyReset s slot).node slot = { (s.node slot).clear with
    st := if s.isUnitFenced 3 (s.node slot).xd then 2 else 0, opgen := 0, epGen := [] } := by
  rw [node_of_coll (applyReset_onlyFabric s slot).coll]
  exact AMap.get_set_same ..

end Sys2Proof.Machine
end

section
/-! SUPPORT. The collective-group commands (R226–R229, R255, R258), each with operands it accepts. -/
namespace Sys2Proof.Machine

/-! ## What a command that has begun reads -/

/-- A mailbox row that runs and waits for hardware, raising no fault, ends in the deferred state. -/
theorem done_row_deferred {s t : State} {m : Master} {code st : Nat} {d : List (Nat × Nat)} {keys : List Key} {f : State → State}
    (h : s.Takes m code keys) (hf : f (s.begun m keys) = defer t m code st d) (hflt : t.flt = s.flt) (hcur : t.mbx.cur = s.mbx.cur) :
    done (direct s m code keys fun s => serve s m code f) = .next (t.deferred m code st d) := by
  rw [row_eq s m code keys f h, hf]
  exact done_defer (hflt ▸ h.raised) (hcur ▸ h.cur)

@[simp] theorem State.begun_nodeOf (s : State) (m : Master) (k : List Key) (g : Nat) : nodeOf (s.begun m k) g = nodeOf s g := by
  simp [nodeOf]

@[simp] theorem State.begun_node (s : State) (m : Master) (k : List Key) (i : Nat) : (s.begun m k).node i = s.node i := by
  simp [State.node]

@[simp] theorem State.begun_isUnitFenced (s : State) (m : Master) (k : List Key) (c i : Nat) :
    (s.begun m k).isUnitFenced c i = s.isUnitFenced c i := by
  simp [State.isUnitFenced]

@[simp] theorem State.begun_entryOk (s : State) (m : Master) (k : List Key) (e : BitVec 64) : entryOk (s.begun m k) e = entryOk s e := by
  simp [entryOk]

/-! ## COLL_CREATE and COLL_CELLS_SET (R228, R258) -/

theorem exec_collCreate (s : State) (m : Master) (g p n w t : Nat) (h : s.Takes m 0x0A00 [.group g]) (hm : mayManage s m p = true)
    (hg : g ≤ 0xFFFF) (hp : p ≤ 63) (h2 : 2 ≤ n) (hn : n ≤ 4096) (hw : w = 0 ∨ (16 ≤ w ∧ w ≤ 512)) (ht : t ≤ 1000)
    (hdef : AMap.has s.coll.defs g = false) (hnode : nodeOf s g = none) :
    exec (.collCreate m g p n w t) s = .next (((s.begun m [.group g]).modColl fun c => { c with
      defs := (AMap.set c.defs g
        { part := p, n := n, window := if w = 0 then 128 else w, tmo := if t = 0 then 10 else t }) }).answered m 0x0A00 OK) := by
  have hwindow : ¬ (if w = 0 then 128 else w) < 16 ∧ ¬ 512 < (if w = 0 then 128 else w) := by split <;> omega
  have htmo : ¬ 1000 < (if t = 0 then 10 else t) := by split <;> omega
  refine done_row_answered h ?_ (by decide) (by simp) (by simp)
  simp only [State.begun_mayManage, State.begun_coll, State.begun_nodeOf, hm, hdef, hnode, hwindow, htmo, gt_iff_lt, Nat.not_lt.mpr hg,
    Nat.not_lt.mpr hp, Nat.not_lt.mpr h2, Nat.not_lt.mpr hn, Option.isSome_none, Bool.not_true, Bool.false_eq_true, or_self, if_false]

theorem exec_collCellsSet (s : State) (m : Master) (die share : Nat) (h : s.Takes m 0x0A07 [.collDie die]) (hd : die ≤ 3)
    (h1 : 16384 ≤ share) (h2 : share ≤ 131072) (hn : s.coll.nodes = []) :
    exec (.collCellsSet m die share) s = .next (((s.begun m [.collDie die]).modColl fun c => { c with
      share := AMap.set c.share die share }).answered m 0x0A07 OK) := by
  refine done_row_answered h ?_ (by decide) (by simp) (by simp)
  simp only [State.begun_coll, hn, gt_iff_lt, Nat.not_lt.mpr hd, Nat.not_lt.mpr h1, Nat.not_lt.mpr h2, List.isEmpty_nil, Bool.not_true,
    Bool.false_eq_true, or_self, if_false]

/-! ## COLL_MEMBERS (R226) -/

/-- Entries from `first` on, entered one by one. -/
theorem find_enterFrom {α : Type} (t : AMap α) (first : Nat) (v : Nat → α) (n k : Nat) :
    AMap.find (((List.range n).map fun i => (first + i, v i)).foldl (fun t x => AMap.set t x.1 x.2) t) k =
      if first ≤ k ∧ k < first + n then some (v (k - first)) else AMap.find t k := by
  induction n with
  | zero =>
    have : ¬ (first ≤ k ∧ k < first + 0) := by omega
    rw [if_neg this]
    rfl
  | succ n ih =>
    rw [List.range_succ, List.map_append, List.foldl_append]
    by_cases hk : k = first + n
    · subst hk
      have hlast : first ≤ first + n ∧ first + n < first + (n + 1) := by omega
      rw [if_pos hlast, Nat.add_sub_cancel_left]
      exact AMap.find_set_same ..
    · have hrest : (first ≤ k ∧ k < first + (n + 1)) ↔ (first ≤ k ∧ k < first + n) := by omega
      simp only [hrest, ← ih]
      exact AMap.find_set_other _ _ hk

/-- A group's definition with entries from `first` on set, and the dies of its nodes. -/
def CollDef.withMembers (d : CollDef) (first : Nat) (l : List (BitVec 64)) (dies : List (Nat × Nat)) : CollDef :=
  { d with members := ((List.range l.length).map fun i => (first + i, l.getD i 0)).foldl (fun t x => AMap.set t x.1 x.2) d.members
           dies := dies.foldl (fun t x => AMap.set t x.1 x.2) d.dies }

theorem find_withMembers (d : CollDef) (first : Nat) (l : List (BitVec 64)) (dies : List (Nat × Nat)) (k : Nat) :
    AMap.find (d.withMembers first l dies).members k =
      if first ≤ k ∧ k < first + l.length then some (l.getD (k - first) 0) else AMap.find d.members k :=
  find_enterFrom d.members first (l.getD · 0) l.length k

/-- No entry names a member that an entry kept, or one before it, names. -/
theorem entries_distinct {d : CollDef} {first : Nat} {l : List (BitVec 64)}
    (hkept : ∀ i < l.length, ∀ x ∈ d.members, (x.1 < first ∨ first + l.length ≤ x.1) → sameMember x.2 (l.getD i 0) = false)
    (hnew : ∀ i < l.length, ∀ k < i, sameMember (l.getD k 0) (l.getD i 0) = false) :
    ((List.range l.length).any fun i =>
      ((d.members.filter fun x => ! decide (first ≤ x.1 ∧ x.1 < first + l.length)).any fun x => sameMember x.2 (l.getD i 0)) ||
      (List.range i).any fun k => sameMember (l.getD k 0) (l.getD i 0)) = false := by
  refine List.any_eq_false.mpr fun i hi => ?_
  rw [List.mem_range] at hi
  rw [Bool.not_eq_true, Bool.or_eq_false_iff]
  refine ⟨List.any_eq_false.mpr fun x hx => ?_, List.any_eq_false.mpr fun k hk => ?_⟩
  · obtain ⟨hmem, hout⟩ := List.mem_filter.mp hx
    have hout' : x.1 < first ∨ first + l.length ≤ x.1 := by simpa using hout
    rw [hkept i hi x hmem hout']
    exact Bool.false_ne_true
  · rw [hnew i hi k (List.mem_range.mp hk)]
    exact Bool.false_ne_true

theorem exec_collMembers {s : State} {m : Master} {g first : Nat} {l : List (BitVec 64)} {dies : List (Nat × Nat)} {d : CollDef}
    (h : s.Takes m 0x0A01 [.group g]) (hd : AMap.find s.coll.defs g = some d) (hm : mayManage s m d.part = true) (h1 : 1 ≤ l.length)
    (h2 : l.length ≤ 480) (hn : first + l.length ≤ d.n)
    (hkept : ∀ i < l.length, ∀ x ∈ d.members, (x.1 < first ∨ first + l.length ≤ x.1) → sameMember x.2 (l.getD i 0) = false)
    (hnew : ∀ i < l.length, ∀ k < i, sameMember (l.getD k 0) (l.getD i 0) = false) (hok : ∀ e ∈ l, entryOk s e = true)
    (hdies : ∀ x ∈ dies, x.2 ≤ 3) (hc : d.committed = false) :
    exec (.collMembers m g first l dies) s = .next (((s.begun m [.group g]).modColl fun c => { c with
      defs := AMap.set c.defs g (d.withMembers first l dies) }).answered m 0x0A01 OK) := by
  have hany : (dies.any fun x => decide (3 < x.2)) = false := List.any_eq_false.mpr fun x hx => by simpa using hdies x hx
  have hall : l.all (entryOk s) = true := List.all_eq_true.mpr hok
  have hfull : l.isEmpty = false := List.isEmpty_eq_false_iff.mpr (List.length_pos_iff.mp h1)
  have hentry : entryOk (s.begun m [.group g]) = entryOk s := funext (State.begun_entryOk s m _)
  refine done_row_answered h ?_ (by decide) (by simp) (by simp)
  simp only [State.begun_coll, hd, State.begun_mayManage, hm, entries_distinct hkept hnew, hentry, hall, hany, hfull, hc,
    CollDef.withMembers, Nat.not_lt.mpr h2, Nat.not_lt.mpr hn, Bool.not_true, Bool.false_eq_true, or_self, if_false]

/-! ## COLL_COMMIT (R227, R229) -/

theorem groupNodes_others {d : CollDef} {node : Nat} (h : (groupNodes d).all (· == node) = true) :
    (groupNodes d).filter (· != node) = [] :=
  List.filter_eq_nil_iff.mpr fun x hx => by simpa using List.all_eq_true.mp h x hx

/-- A node's installation changes the collectives alone. -/
theorem installNode_fst (s : State) (d : NodeDesc) : (installNode s d).1 = { s with coll := (installNode s d).1.coll } := by
  unfold installNode
  dsimp only
  split <;> rfl

/-- An installation does not look at the mailbox. -/
theorem installNode_modMbx (s : State) (f : MbxS → MbxS) (d : NodeDesc) :
    installNode (s.modMbx f) d = ((installNode s d).1.modMbx f, (installNode s d).2) := by
  have hfree : cellsFree (s.modMbx f) = cellsFree s := rfl
  have hbest : bestDie (s.modMbx f) = bestDie s := rfl
  have hnode : nodeOf (s.modMbx f) = nodeOf s := rfl
  unfold installNode
  simp only [hfree, hbest, hnode, State.modMbx_coll]
  split <;> rfl

/-- The state in which COLL_COMMIT of a group with nodes nowhere else has installed its node and committed it. -/
def State.committedHere (s : State) (g : Nat) (d : CollDef) : State :=
  (installNode s (nodeDesc s g d s.self)).1.draw.2.modColl fun c => { c with defs := AMap.set c.defs g { d with committed := true } }

theorem committedHere_spec (s : State) (g : Nat) (d : CollDef) :
    AMap.find (s.committedHere g d).coll.defs g = some { d with committed := true } ∧
      (s.committedHere g d).coll.nodes = (installNode s (nodeDesc s g d s.self)).1.coll.nodes ∧
      s.committedHere g d = { s with fresh := s.fresh + 1, coll := (s.committedHere g d).coll } := by
  refine ⟨AMap.find_set_same .., rfl, ?_⟩
  unfold State.committedHere
  rw [installNode_fst]
  rfl

@[simp] theorem State.begun_nodeDesc (s : State) (m : Master) (k : List Key) (g : Nat) (d : CollDef) (node : Nat) :
    nodeDesc (s.begun m k) g d node = nodeDesc s g d node := by
  simp [nodeDesc]

theorem begun_installNode (s : State) (m : Master) (k : List Key) (d : NodeDesc) :
    (installNode (s.begun m k) d).1.coll = (installNode s d).1.coll ∧ (installNode (s.begun m k) d).2 = (installNode s d).2 := by
  obtain ⟨a, h⟩ := s.begun_eq m k
  rw [h, installNode_modMbx]
  exact ⟨rfl, rfl⟩

/-- The package is on its own tray. -/
theorem State.self_div {s : State} (h : s.straps.side ≤ 1) : s.self / 16 = s.tray := by
  simp only [State.self, State.nodeNo]
  omega

theorem exec_collCommit {s : State} {m : Master} {g : Nat} {d : CollDef} (h : s.Takes m 0x0A02 [.group g])
    (hd : AMap.find s.coll.defs g = some d) (hm : mayManage s m d.part = true) (hn : d.members.length = d.n) (hc : d.committed = false)
    (hall : (groupNodes d).all (· == s.self) = true) (hside : s.straps.side ≤ 1) (hroom : (installNode s (nodeDesc s g d s.self)).2 = true) :
    exec (.collCommit m g) s = .next (((s.begun m [.group g]).committedHere g d).deferred m 0x0A02 OK) := by
  have hapex : ((groupNodes d).all fun x => x / 16 == s.tray) = true :=
    List.all_eq_true.mpr fun x hx => by
      have hself : x = s.self := by simpa using List.all_eq_true.mp hall x hx
      simpa [hself] using State.self_div hside
  obtain ⟨-, -, hspec⟩ := committedHere_spec (s.begun m [.group g]) g d
  refine done_row_deferred h ?_ (by rw [hspec]; simp) (by rw [hspec]; simp)
  obtain ⟨u, hu⟩ : ∃ u, installNode (s.begun m [.group g]) (nodeDesc s g d s.self) = (u, true) :=
    ⟨_, Prod.ext rfl ((begun_installNode s m _ _).2.trans hroom)⟩
  simp only [State.committedHere, State.begun_coll, State.begun_mayManage, State.begun_self, State.begun_tray, State.begun_nodeDesc, hd, hm, hn,
    hc, hapex, hu, groupNodes_others hall, List.foldl_nil, List.isEmpty_nil, Bool.or_true, Bool.not_true, Bool.false_and, Bool.false_eq_true,
    ne_eq, not_true_eq_false, or_self, if_false]

/-! ## COLL_DESTROY, COLL_RESET and COLL_ABORT (R255, R258) -/

section
variable {s : State} {m : Master} {g : Nat} {d : CollDef} (hd : AMap.find s.coll.defs g = some d) (hm : mayManage s m d.part = true)
include hd hm

theorem exec_collDestroy (h : s.Takes m 0x0A03 [.group g]) (hidle : (nodeOf s g).any (fun x => x.2.st == 1) = false)
    (hjoins : s.groups.any (fun g' => g'.2.joins.any fun j => j.2.group == g) = false)
    (hall : (groupNodes d).all (· == s.self) = true) :
    exec (.collDestroy m g) s = .next (((s.begun m [.group g]).modColl fun c => { c with
      nodes := c.nodes.filter fun x => x.2.group != g
      defs := AMap.erase c.defs g
      memberGen := c.memberGen.filter fun e => e.1 / 32 != g }).deferred m 0x0A03 OK) := by
  have hbit : bitAt 0 0 = false := rfl
  refine done_row_deferred h ?_ (by simp) (by simp)
  simp only [State.begun_coll, State.begun_mayManage, State.begun_nodeOf, State.begun_groups, State.begun_self, hd, hm, hidle, hjoins,
    groupNodes_others hall, List.isEmpty_nil, List.foldl_nil, Bool.not_true, Bool.false_eq_true, or_self, and_false, if_false, hbit]
  rfl

variable {slot : Nat} {n : CollNode} (hn : nodeOf s g = some (slot, n))
include hn

theorem exec_collReset (h : s.Takes m 0x0A04 [.group g]) (hst : n.st ≠ 1) :
    exec (.collReset m g) s = .next ((applyReset (s.begun m [.group g]) slot).deferred m 0x0A04 OK) := by
  have hfab := applyReset_onlyFabric (s.begun m [.group g]) slot
  refine done_row_deferred h ?_ (hfab.flt.trans (State.begun_flt ..)) ((congrArg MbxS.cur hfab.mbx).trans (State.begun_mbx_cur ..))
  simp only [State.begun_coll, State.begun_mayManage, State.begun_nodeOf, hd, hm, hn, hst, Bool.not_true, Bool.false_eq_true, if_false]

theorem exec_collAbort (h : s.Takes m 0x0A05 [.group g]) (hflt : (collAbortOp (s.begun m [.group g]) slot 5 0xFFF).flt = s.flt)
    (hcur : (collAbortOp (s.begun m [.group g]) slot 5 0xFFF).mbx.cur = s.mbx.cur) :
    exec (.collAbort m g) s = .next ((collAbortOp (s.begun m [.group g]) slot 5 0xFFF).answered m 0x0A05 OK) := by
  refine done_row_answered h ?_ (by decide) hflt hcur
  simp only [State.begun_coll, State.begun_mayManage, State.begun_nodeOf, hd, hm, hn, Bool.not_true, Bool.false_eq_true, if_false]

end

theorem collAbortOp_aborted {s : State} {slot : Nat} (reason offender : Nat) (h : (s.node slot).st = 2) :
    collAbortOp s slot reason offender = s := if_pos (.inl h)

/-- Settles O25: each command accepts the operands that the statement allows, and changes the groups and their nodes as it says. -/
theorem collectiveCommandsDefineCommitAndRemoveGroups : Obligations.CollectiveCommandsDefineCommitAndRemoveGroups := by
  unfold Obligations.CollectiveCommandsDefineCommitAndRemoveGroups
  refine ⟨exec_collCreate, ?members, ?commit, fun s m g d h hd hm => exec_collDestroy hd hm h, ?reset, ?aborted, ?abort, exec_collCellsSet⟩
  case members =>
    intro s m g first l dies d h hd hm h1 h2 hn hkept hnew hok hdies hc
    refine ⟨d.withMembers first l dies, exec_collMembers h hd hm h1 h2 hn hkept hnew hok hdies hc, fun i hi => ?_, fun k hk => ?_,
      rfl, rfl, rfl, rfl, hc⟩ <;> rw [find_withMembers]
    · rw [if_pos (by omega), Nat.add_sub_cancel_left]
    · rw [if_neg (by omega)]
  case commit =>
    intro s m g d h hd hm hn hc hall hside hroom
    obtain ⟨hdef, hnodes, hspec⟩ := committedHere_spec (s.begun m [.group g]) g d
    refine ⟨_, exec_collCommit h hd hm hn hc hall hside hroom, hdef, ?_, ?_, ?_, ?_⟩
    · simp only [hnodes, State.begun_nodeDesc, State.begun_self, (begun_installNode s m _ _).1]
    all_goals rw [hspec]; simp
  case reset =>
    intro s m g slot d n h hd hm hn hst hfree
    have hnode := applyReset_node (s.begun m [.group g]) slot
    simp only [State.begun_node, State.begun_isUnitFenced, hfree] at hnode
    exact ⟨_, exec_collReset hd hm hn h hst, rfl, congrArg CollNode.st hnode, congrArg CollNode.opgen hnode, congrArg CollNode.digest hnode,
      (applyReset_onlyFabric _ slot).mem.trans (State.begun_mem ..)⟩
  case aborted =>
    intro s m g slot d n h hd hm hn hst
    have hsame := collAbortOp_aborted (s := s.begun m [.group g]) 5 0xFFF (by rwa [State.begun_node])
    rw [exec_collAbort hd hm hn h (by simp [hsame]) (by simp [hsame]), hsame]
  case abort =>
    intro s m g slot d n h hd hm hn hst hj
    have hlive : ((s.begun m [.group g]).node slot).st ≠ 2 := by rwa [State.begun_node]
    have hunjoined (k : Nat) : joinOf (s.begun m [.group g]) k ((s.begun m [.group g]).node slot).group = none := by
      rw [State.begun_node, joinOf_congr (State.begun_groups s m _), hj k]
    have hfab := collAbortOp_unjoined (reason := 5) 0xFFF hlive (fun _ => .inl rfl) (by decide) hunjoined
    have hnode := collAbortOp_node (reason := 5) 0xFFF hlive (fun _ => .inl rfl) (by decide)
    refine ⟨_, exec_collAbort hd hm hn h (hfab.flt.trans (State.begun_flt ..)) ((congrArg MbxS.cur hfab.mbx).trans (State.begun_mbx_cur ..)),
      ?_, ?_, hfab.mem.trans (State.begun_mem ..), hfab.flt.trans (State.begun_flt ..), hfab.host.trans (State.begun_host ..)⟩ <;> rw [hnode]

end Sys2Proof.Machine
end

section
/-! SUPPORT. Nodes on their own (R228, R229, R239, R245–R247, R250, R254, R258): Confluence's pick, the verdict of a chunk, the bounds, and
the installation of a node. -/
namespace Sys2Proof.Machine

/-! ## Free numbers -/

theorem firstFree_le (n f : Nat) (used : List Nat) : firstFree n f used ≤ f + n := by
  induction n generalizing f with
  | zero => exact Nat.le_refl f
  | succ n ih =>
    unfold firstFree
    split
    · exact Nat.le_trans (ih (f + 1)) (by omega)
    · omega

/-- A number in use is found only after all of those tried before it. -/
theorem firstFree_used {n f : Nat} {used : List Nat} (h : firstFree n f used ∈ used) : ∀ i ≤ n, f + i ∈ used := by
  induction n generalizing f with
  | zero =>
    intro i hi
    obtain rfl : i = 0 := by omega
    exact h
  | succ n ih =>
    unfold firstFree at h
    split at h
    next hf =>
      intro i hi
      rcases i with _ | i
      · exact List.contains_iff_mem.mp hf
      · rw [Nat.add_comm i, ← Nat.add_assoc]
        exact ih h i (by omega)
    next hf => exact absurd (List.contains_iff_mem.mpr h) hf

/-- A list that holds every number below `n` holds at least `n` numbers. -/
theorem le_length_of_forall_lt_mem {n : Nat} {used : List Nat} (h : ∀ i < n, i ∈ used) : n ≤ used.length := by
  induction n generalizing used with
  | zero => exact Nat.zero_le _
  | succ n ih =>
    have hn : n ∈ used := h n (Nat.lt_succ_self n)
    have hrest : n ≤ (used.erase n).length := ih fun i hi => (List.mem_erase_of_ne (Nat.ne_of_lt hi)).mpr (h i (Nat.lt_succ_of_lt hi))
    rw [List.length_erase_of_mem hn] at hrest
    have hpos := List.length_pos_of_mem hn
    omega

/-- As many tries as numbers are in use find one that is not. -/
theorem firstFree_notMem (used : List Nat) : firstFree used.length 0 used ∉ used := by
  intro h
  have hall : ∀ i < used.length + 1, i ∈ used := fun i hi => by
    have hused := firstFree_used h i (Nat.lt_succ_iff.mp hi)
    rwa [Nat.zero_add] at hused
  exact Nat.not_succ_le_self _ (le_length_of_forall_lt_mem hall)

theorem has_eq_false_of_notMem {α : Type} {t : AMap α} {k : Nat} (h : k ∉ t.map (·.1)) : AMap.has t k = false := by
  induction t with
  | nil => rfl
  | cons e t ih =>
    rw [List.map_cons, List.mem_cons, not_or] at h
    simp only [AMap.has, ih h.2, beq_eq_false_iff_ne.mpr h.1, Bool.or_self]

/-! ## Confluence (R239) -/

theorem exec_confluenceCombine {s : State} {die k slot : Nat} {w : AMap Int} {u : CollUnit} (hdie : die < 4)
    (hfree : s.isUnitFenced 3 die = false) (hpick : wrrPick s die = some (k, w)) (hwait : waitingIn s die k = [slot])
    (hunit : (s.node slot).units.find? (·.stream == k) = some u) :
    exec (.confluenceCombine die) s = .next (settle (takeUnit ((s.modColl fun c => { c with
      wrr := w, rrNode := (AMap.set c.rrNode (die * 16 + k) slot) }).setNode slot { s.node slot with units := (s.node slot).units.erase u })
      slot u)) := by
  have hslot (p : Nat → Bool) : (([slot].find? p).orElse fun _ => [slot].head?).getD 0 = slot := by
    rw [List.find?_singleton]
    split <;> rfl
  have hdo : doCombine s die = takeUnit ((s.modColl fun c => { c with
      wrr := w, rrNode := (AMap.set c.rrNode (die * 16 + k) slot) }).setNode slot { s.node slot with units := (s.node slot).units.erase u })
      slot u := by
    simp only [doCombine, hfree, Nat.not_le.mpr hdie, hpick, hwait, hslot, hunit, Bool.false_eq_true, or_self, if_false]
  exact congrArg done hdo

/-! ## The verdict of a chunk (R245, R246) -/

/-- A chunk whose sub-chunks all pass their check has its verdict recorded, its speculation entry dropped and its sub-chunks acknowledged;
with the operation's last one its COLL_WAIT completes. -/
theorem exec_resultVerdict_passes {s d a b c : State} {g k chunk slot : Nat} {j : Join} {n : CollNode} {js : List (Nat × Nat × Bool)}
    (hj : AMap.find (s.grp g).joins k = some j) (hcounted : chunk < j.counted) (hnone : AMap.find j.verdicts chunk = none)
    (hread : chunkReadable s g k chunk = true) (hn : nodeOf s j.group = some (slot, n)) (hjs : js = j.subs.filter (fun x => x.1 / 4 == chunk))
    (hd : d = js.foldl (fun s x => drainRange s (subPlace j x.1).1 (subPlace j x.1).2) s)
    (hok : ∀ x ∈ js, subStoredOk d j x.1 x.2.1 x.2.2 = true)
    (ha : a = modJoin d g k (fun j => { j with verdicts := AMap.set j.verdicts chunk true }))
    (hb : b = advanceAll (a.modGrp g fun x => { x with spec := x.spec.filter fun e => e.ref != refOf j chunk }) g)
    (hc : c = js.foldl (fun s x => ackResult s slot j.member (j.opOf.resultName j.n j.member chunk (x.1 % 4))) b) :
    exec (.resultVerdict g k chunk) s = .next (settle (if AMap.has (c.grp g).joins k = true ∧ joinFinished (joinAt c g k) = true then
      collWake (clearSpec c g (joinAt c g k).group (joinAt c g k).opgen) g else c)) := by
  have hdue : ¬ ((! (decide (chunk < j.counted) && AMap.find j.verdicts chunk == none)) = true ∨ (! chunkReadable s g k chunk) = true) := by
    simp [hcounted, hnone, hread]
  have hfail : (js.filter fun x => ! subStoredOk d j x.1 x.2.1 x.2.2) = [] :=
    List.filter_eq_nil_iff.mpr fun x hx => by simp [hok x hx]
  have hpass : (js.filter fun x => subStoredOk d j x.1 x.2.1 x.2.2) = js := List.filter_eq_self.mpr hok
  refine congrArg done ?_
  simp only [memberVerdict, hj, if_neg hdue, hn, ← hjs, ← hd, hfail, hpass, List.isEmpty_nil, if_true, ← ha, ← hb, ← hc]

/-! ## Bounds (R254) -/

/-- COLL_TMO aborts the operation of an apex's node with TIMEOUT. -/
theorem exec_collTimeout {s : State} {group slot : Nat} {n : CollNode} (hn : nodeOf s group = some (slot, n)) (hapex : n.apex = true)
    (hst : n.st = 1) : exec (.collTimeout group) s = .next (settle (collAbortOp s slot 2 (missingMember s n))) := by
  have hdo : doCollTimeout s group = collAbortOp s slot 2 (missingMember s n) := by
    simp only [doCollTimeout, hn, hapex, hst, and_self, if_true]
  exact congrArg done hdo

/-- A COLL_WAIT's bound aborts the operation with WAIT, naming the member. -/
theorem exec_collWaitTimeout {s : State} {g k slot qk : Nat} {j : Join} {n : CollNode} {q : HwQueue} {r : Running} {l : CmdList}
    (hj : AMap.find (s.grp g).joins k = some j) (hq : (qk, q) ∈ (s.grp g).queues) (hlist : q.list = j.list) (hr : r ∈ q.started)
    (hop : r.opcode = 0x31) (hrun : r.st = 0) (hl : (s.grp g).list? q.list = some l) (hslot : bits (cmdAt l r.idx) 64 5 = j.slot)
    (hfin : joinFinished j = false) (hn : nodeOf s j.group = some (slot, n)) (hst : n.st = 1) :
    exec (.collWaitTimeout g k) s = .next (settle (collAbortOp s slot 6 j.member)) := by
  have hdo : doCollWaitTimeout s g k = collAbortOp s slot 6 j.member := by
    simp only [doCollWaitTimeout, hj, hn]
    refine (if_neg (not_or.mpr ⟨?waits, by rw [hfin]; exact Bool.false_ne_true⟩)).trans (if_pos (.inl hst))
    rw [Bool.not_eq_true, Bool.not_eq_false', List.any_eq_true]
    exact ⟨(qk, q), hq, Bool.and_eq_true_iff.mpr ⟨beq_iff_eq.mpr hlist, List.any_eq_true.mpr ⟨r, hr, by simp [hop, hrun, hl, hslot]⟩⟩⟩
  exact congrArg done hdo

/-! ## Installing and removing a node (R228, R229, R258) -/

/-- The slot that a new node takes. -/
def State.freeSlot (s : State) : Nat := firstFree s.coll.nodes.length 0 (s.coll.nodes.map (·.1))

theorem freeSlot_lt {s : State} (h : s.coll.nodes.length < 1024) : s.freeSlot < 1024 :=
  Nat.lt_of_le_of_lt (firstFree_le ..) (by omega)

theorem freeSlot_free (s : State) : AMap.has s.coll.nodes s.freeSlot = false := by
  have h := firstFree_notMem (s.coll.nodes.map (·.1))
  rw [List.length_map] at h
  exact has_eq_false_of_notMem h

theorem exec_collNodeInstall {s : State} {d : NodeDesc} {die : Nat} (hset : s.Settled) (hslots : s.coll.nodes.length < 1024)
    (hdie : d.die = some die) (hcells : d.window * 16 ≤ cellsFree s die) (hnew : nodeOf s d.group = none) :
    exec (.collNodeInstall d true) s = .next (clearGen (s.setNode s.freeSlot
      { group := d.group, part := d.part, apex := decide (d.apexNode = s.self), xd := die, window := d.window, n := d.n, tmo := d.tmo
        apexNode := d.apexNode, members := d.members, childNodes := d.childNodes }) d.group) := by
  have hroom : ¬ (firstFree s.coll.nodes.length 0 (s.coll.nodes.map (·.1)) ≥ 1024 ∨ cellsFree s die < d.window * 16 ∨
      (nodeOf s d.group).isSome = true) := by
    rw [hnew, not_or, not_or]
    exact ⟨Nat.not_le.mpr (freeSlot_lt hslots), Nat.not_lt.mpr hcells, Bool.false_ne_true⟩
  refine done_next_of_eq ?_ hset
  simp only [doNodeInstall, installNode, hdie, Option.getD_some, if_neg hroom, if_true]
  rfl

theorem exec_collNodeRemove {s : State} (d : NodeDesc) (hset : s.Settled) : exec (.collNodeInstall d false) s =
    .next (clearGen (s.modColl fun c => { c with nodes := c.nodes.filter fun x => x.2.group != d.group }) d.group) :=
  done_next_of_eq rfl hset

/-! ## Retained results (R247) -/

theorem exec_resultRetainExpiry {s : State} {group key slot : Nat} {n : CollNode} {h : Retained} (hn : nodeOf s group = some (slot, n))
    (hh : AMap.find n.held key = some h) :
    exec (.resultRetainExpiry group key) s =
      .next (settle (pump (s.setNode slot { n with held := AMap.set n.held key { h with released := true } }) slot)) := by
  have hdo : doRetainExpiry s group key = pump (s.setNode slot { n with held := AMap.set n.held key { h with released := true } }) slot := by
    simp only [doRetainExpiry, hn, hh]
  exact congrArg done hdo

/-- The node that a group has is one of that group. -/
theorem nodeOf_group {s : State} {group slot : Nat} {n : CollNode} (h : nodeOf s group = some (slot, n)) : n.group = group := by
  simpa using List.find?_some h

/-- Settles O47: Confluence, verdicts, bounds and installations do what the model's operations for them do; an abort that a bound brings
leaves the node ABORTED with its reason, and memory as it was where no member has joined. -/
theorem collectiveNodesCombineJudgeTimeOutAndInstall : Obligations.CollectiveNodesCombineJudgeTimeOutAndInstall := by
  unfold Obligations.CollectiveNodesCombineJudgeTimeOutAndInstall
  refine ⟨fun s die k slot w u _ => exec_confluenceCombine, fun s d a b c g k chunk slot j n js _ => exec_resultVerdict_passes, ?timeout,
    ?waitTimeout, ?install, fun s d hset => exec_collNodeRemove d hset, fun s group key slot n h _ => exec_resultRetainExpiry⟩
  case timeout =>
    intro s group slot n _ hn hslot hapex hst
    have hlive : (s.node slot).st ≠ 2 := by rw [hslot, hst]; decide
    have hactive : (s.node slot).st = 0 → 2 = 5 ∨ 2 = 6 := by rw [hslot, hst]; decide
    have hnode := collAbortOp_node (reason := 2) (missingMember s n) hlive hactive (by decide)
    refine ⟨_, exec_collTimeout hn hapex hst, ?_, ?_, fun hj => ?_⟩
    · rw [hnode]
    · rw [hnode]
    · have hgroup : (s.node slot).group = group := hslot ▸ nodeOf_group hn
      exact (collAbortOp_unjoined (missingMember s n) hlive hactive (by decide) (hgroup ▸ hj)).mem
  case waitTimeout =>
    intro s g k slot qk j n q r l _ hj hq hlist hr hop hrun hl hbits hfin hn hslot hst
    have hlive : (s.node slot).st ≠ 2 := by rw [hslot, hst]; decide
    have hnode := collAbortOp_node (reason := 6) j.member hlive (fun _ => .inr rfl) (by decide)
    exact ⟨_, exec_collWaitTimeout hj hq hlist hr hop hrun hl hbits hfin hn hst, by rw [hnode], by rw [hnode]⟩
  case install =>
    intro s d die hset hslots hdie hcells hnew
    exact ⟨s.freeSlot, freeSlot_lt hslots, freeSlot_free s, exec_collNodeInstall hset hslots hdie hcells hnew⟩

end Sys2Proof.Machine
end

section
/-! SUPPORT. A change of tables (R325, R345–R347): the messages and the holds of a change touch the packet unit alone; then each of its
steps. -/
namespace Sys2Proof.Machine

theorem State.OnlyFabric.route {s t : State} (h : s.OnlyFabric t) : t.route = s.route := (congrArg State.route h).trans rfl

/-! ## Messages and holds -/

/-- Telling other packages adds one packet for each to the routing stage, and changes nothing else. -/
theorem foldl_sendCtrl (k : Nat) (v : State → Nat) (l : List Nat) (s : State) :
    s.OnlyFabric (l.foldl (fun s n => sendCtrl s n k (v s)) s) ∧
      (l.foldl (fun s n => sendCtrl s n k (v s)) s).fab.inbuf.length = s.fab.inbuf.length + l.length := by
  induction l generalizing s with
  | nil => exact ⟨.refl s, rfl⟩
  | cons n l ih =>
    obtain ⟨hfab, hlen⟩ := ih (sendCtrl s n k (v s))
    refine ⟨.trans (rfl : s.OnlyFabric (sendCtrl s n k (v s))) hfab, hlen.trans ?_⟩
    simp only [sendCtrl, send, State.modFab_fab, List.length_append, List.length_cons, List.length_nil]
    omega

/-- Releasing held requests restarts their timers, and moves no packet. -/
theorem foldl_holdTrack (on : Bool) (l : List QPkt) (s : State) :
    s.OnlyFabric (l.foldl (fun s q => holdTrack s q.pkt on) s) ∧ (l.foldl (fun s q => holdTrack s q.pkt on) s).fab.inbuf = s.fab.inbuf := by
  induction l generalizing s with
  | nil => exact ⟨.refl s, rfl⟩
  | cons q l ih =>
    obtain ⟨hfab, hin⟩ := ih (holdTrack s q.pkt on)
    exact ⟨.trans (rfl : s.OnlyFabric (holdTrack s q.pkt on)) hfab, hin⟩

/-! ## Hold and drain (R346) -/

theorem exec_routeHoldStart {s : State} (hset : s.Settled) (hc : s.route.committed = true) (hst : s.route.st = 1)
    (hat : s.route.drainAt ≤ s.time.lfc) :
    exec .routeHoldStart s = .next (s.modRoute fun r => { r with st := 2, sentDrained := false }) :=
  done_next_of_eq (if_pos ⟨hc, hst, hat⟩) hset

/-- The state in which this package has noted that nothing affected is in transit here any more. -/
def State.drainNoted (s : State) : State :=
  s.modRoute fun r => { r with sentDrained := true, drainedBy := AMap.set r.drainedBy s.self s.time.lfc }

theorem exec_routeDrainedSend {s : State} (hset : s.Settled) (hst : s.route.st = 2) (hsent : s.route.sentDrained = false)
    (htransit : transitCount s = 0) :
    ∃ t : State, exec .routeDrainedSend s = .next t ∧ t.route.sentDrained = true ∧ AMap.get 0 t.route.drainedBy s.self = s.time.lfc ∧
      t.fab.inbuf.length = s.fab.inbuf.length + (otherPackages s).length ∧ t.mem = s.mem ∧ t.route.active = s.route.active := by
  obtain ⟨hfab, hlen⟩ := foldl_sendCtrl 3 (·.time.lfc) (otherPackages s) s.drainNoted
  have hdue : s.route.st = 2 ∧ (! s.route.sentDrained) = true ∧ transitCount s = 0 := ⟨hst, by rw [hsent]; rfl, htransit⟩
  refine ⟨_, done_next_of_eq (if_pos hdue) (hfab.flt.symm ▸ hset), congrArg RouteS.sentDrained hfab.route, ?_, hlen, hfab.mem,
    (congrArg RouteS.active hfab.route).trans rfl⟩
  exact (congrArg (fun r : RouteS => AMap.get 0 r.drainedBy s.self) hfab.route).trans (AMap.get_set_same ..)

theorem exec_drained {s : State} {node : Nat} (frame : Nat) (hset : s.Settled) (hc : s.route.committed = true) (hst : s.route.st ≤ 2)
    (hn : (otherPackages s).contains node = true) :
    exec (.drained node frame) s = .next (s.modRoute fun r => { r with drainedBy := AMap.set r.drainedBy node frame }) :=
  done_next_of_eq (if_pos ⟨hc, hst, hn⟩) hset

/-! ## Switch and retire (R346, R347) -/

/-- The state in which the staged bank is active and the holds are released. -/
def State.switched (s : State) (b : Bank) : State :=
  ((s.route.holding.foldl (fun s q => holdTrack s q.pkt false) s).modRoute fun r => { r with
    old := some r.active, active := { b with epoch := ! r.active.epoch }, staged := none, st := 3, holding := [] }).modFab fun f => { f with
      inbuf := s.route.holding ++ f.inbuf }

theorem switchBank_staged {s : State} {b : Bank} (h : s.route.staged = some b) : switchBank s = collLinksLost (s.switched b) := by
  simp only [switchBank, h]
  rfl

theorem switched_spec (s : State) (b : Bank) :
    (s.switched b).route.active = { b with epoch := ! s.route.active.epoch } ∧ (s.switched b).route.old = some s.route.active ∧
      (s.switched b).route.st = 3 ∧ (s.switched b).route.holding = [] ∧ (s.switched b).fab.inbuf = s.route.holding ++ s.fab.inbuf ∧
      (s.switched b).mem = s.mem := by
  obtain ⟨hfab, hin⟩ := foldl_holdTrack false s.route.holding s
  simp only [State.switched, State.modFab_route, State.modRoute_route, State.modFab_fab, State.modRoute_fab, State.modFab_mem,
    State.modRoute_mem, hfab.route, hfab.mem, hin, and_self]

/-- The switch takes place once every Devik has told, two frames after the last of them was drained. -/
theorem exec_routeSwitch {s : State} {b : Bank} (hst : s.route.st = 2) (hb : s.route.staged = some b) (hsent : s.route.sentDrained = true)
    (hall : (otherPackages s).all (AMap.has s.route.drainedBy) = true) (hbound : s.time.lfc ≤ s.route.drainAt + s.route.drainFrames)
    (hframe : s.time.lfc = (s.route.drainedBy.map (·.2)).foldl max 0 + 2) :
    exec .routeSwitch s = .next (settle (collLinksLost (s.switched b))) :=
  congrArg done ((if_pos ⟨hst, hsent, hall, hframe ▸ hbound, hframe⟩).trans (switchBank_staged hb))

theorem exec_routeFallbackSwitch {s : State} {b : Bank} (hst : s.route.st = 2) (hb : s.route.staged = some b)
    (hbound : s.route.drainAt + s.route.drainFrames ≤ s.time.lfc) :
    exec .routeFallbackSwitch s = .next (settle (collLinksLost (s.switched b))) :=
  congrArg done ((if_pos ⟨hst, hbound⟩).trans (switchBank_staged hb))

theorem exec_routeRetire {s : State} (hset : s.Settled) (hst : s.route.st = 3)
    (hat : s.route.drainAt + s.route.drainFrames + 16 ≤ s.time.lfc) (hold : oldPackets s = 0) :
    exec .routeRetire s = .next (s.modRoute fun r => { r with
      old := none, st := 0, committed := false, drainedBy := [], sentDrained := false }) :=
  done_next_of_eq (if_pos ⟨hst, hat, hold⟩) hset

/-! ## Reach notices (R325) -/

/-- The state in which a notice of a neighbour about a spine has been noted. -/
def State.reachNoted (s : State) (node next : Nat) (lost : Bool) : State :=
  s.modRoute fun r => { r with
    stats := bump r.stats 12
    pruned := (r.pruned.filter (· != (node, next))) ++ (if lost then [(node, next)] else []) }

/-- A leaf notes what a neighbour other than its partner tells of a spine. -/
theorem exec_reach {s : State} {port node : Nat} {e : PortEntry} (lost : Bool) (he : s.manPort port = some e) (hep : e.endPoint = false)
    (hspine : node % 16 = 8 ∨ node % 16 = 9) (hrole : s.straps.role = 0) (hpartner : e.node ≠ s.partner) :
    exec (.reach port node lost) s = .next (settle (collLinksLost (s.reachNoted node e.node lost))) := by
  have hheard : ¬ (e.endPoint = true ∨ (node % 16 ≠ 8 ∧ node % 16 ≠ 9) ∨ (s.straps.role = 1 ∧ node ≠ s.partner) ∨
      (s.straps.role = 0 ∧ e.node = s.partner)) := by
    simp only [hep, hrole, hpartner, Bool.false_eq_true, and_false, false_and, or_false, false_or, reduceCtorEq]
    omega
  have hdo : doReach s port node lost = collLinksLost (s.reachNoted node e.node lost) := by
    simp only [doReach, he]
    exact if_neg hheard
  exact congrArg done hdo

theorem mem_pruned_reachNoted (s : State) (node next : Nat) : (node, next) ∈ (s.reachNoted node next true).route.pruned :=
  List.mem_append_right _ List.mem_cons_self

theorem notMem_pruned_reachNoted (s : State) (node next : Nat) : (node, next) ∉ (s.reachNoted node next false).route.pruned := by
  simp [State.reachNoted]

/-- Settles O50: each step of a change of tables, and a REACH notice, is due under the statement's conditions, and does what it says. -/
theorem tableChangesHoldDrainSwitchAndRetire : Obligations.TableChangesHoldDrainSwitchAndRetire := by
  unfold Obligations.TableChangesHoldDrainSwitchAndRetire
  refine ⟨fun s => exec_routeHoldStart, fun s => exec_routeDrainedSend, fun s node frame => exec_drained frame,
    fun s b _ hst hb => ⟨fun hsent hall hbound hframe => ?switch, fun hbound => ?fallback⟩, fun s => exec_routeRetire, ?reach⟩
  case switch => exact ⟨s.switched b, exec_routeSwitch hst hb hsent hall hbound hframe, switched_spec s b⟩
  case fallback => exact ⟨s.switched b, exec_routeFallbackSwitch hst hb hbound, switched_spec s b⟩
  case reach =>
    intro s port node e _ he hep hspine hrole hpartner
    exact ⟨s.reachNoted node e.node true, exec_reach true he hep hspine hrole hpartner, mem_pruned_reachNoted s node e.node, rfl,
      s.reachNoted node e.node false, exec_reach false he hep hspine hrole hpartner, notMem_pruned_reachNoted s node e.node, rfl⟩

end Sys2Proof.Machine
end

section
/-! SUPPORT. A collective packet that the statement about them does not foresee (R236, R290): an end point's JOIN on the management channel,
for another partition than its group's. -/
namespace Sys2Proof.Machine

/-! ## JOIN of another partition (R236) -/

theorem serveData_coll {s : State} {p : Packet} (h : isCollOp p.opcode = true) (hc : isCplOp p.opcode = false) :
    serveData s p = collPacket s p := by
  simp [serveData, h, hc]

theorem exec_join {s : State} {p : Packet} (h : s.Delivered p) (hp : p.opcode = opJOIN) :
    exec (.join p) s = .next (doJoin (s.taking p) p).served := by
  refine (done_packetRow_data h (by simp [opIs, hp]) (by rw [hp]; decide)).trans ?_
  rw [serveData_coll (by rw [hp]; decide) (by rw [hp]; decide), collPacket, if_pos hp]

/-- A member's JOIN of another partition than its group's is discarded, whatever its channel. -/
theorem doJoin_foreign {s : State} {p : Packet} {slot who : Nat} {n : CollNode} (hp : p.opcode = opJOIN)
    (hn : nodeOf s p.group = some (slot, n)) (hr : relativeOf s n p = some who) (hw : who < 4096) (hpart : p.part ≠ n.part) :
    doJoin s p = discardColl s p.group := by
  simp [doJoin, admitColl, hn, hr, hw, hpart, hp]

/-- A group of partition 1 with an end point and an engine group of this package as its members. -/
def groupOfPartitionOne : CollNode := { group := 5, part := 1, members := [(0, 1), (1, 16)] }

/-- A JOIN of that end point for partition 2, on the management channel. -/
def joinOfPartitionTwo : Packet := { opcode := opJOIN, vc := 5, part := 2, group := 5, inPort := 0 }

/-- The package with that group's node, to which that packet has been delivered from its port 0. -/
def foreignJoin : State :=
  { mgmt := { manifest := some { ports := [(0, { endPoint := true })], endPoints := [0] } }
    coll := { nodes := [(0, groupOfPartitionOne)] }
    fab := { delivered := [joinOfPartitionTwo] } }

/-- Refutes O46: its clause on JOIN takes a packet of another partition than the group's where it comes on VC 5. The model discards an end
point's JOIN of another partition whatever its channel (R236), so the node stays IDLE where the clause has it ACTIVE. -/
theorem not_collectivePacketsDriveTheOperationOfTheirGroup : ¬ Obligations.CollectivePacketsDriveTheOperationOfTheirGroup := by
  unfold Obligations.CollectivePacketsDriveTheOperationOfTheirGroup
  intro h
  obtain ⟨-, hjoin, -⟩ := h
  have hrel : foreignJoin.Relative joinOfPartitionTwo 0 0 groupOfPartitionOne := by decide +kernel
  have ⟨hdel, hnode, _, hwho, _⟩ := hrel
  obtain ⟨t, rfl, hexec, -⟩ := hjoin foreignJoin joinOfPartitionTwo 0 0 groupOfPartitionOne hrel rfl (.inl (by decide))
  have hdiscards := exec_join hdel rfl
  rw [doJoin_foreign (s := foreignJoin.taking joinOfPartitionTwo) rfl hnode hwho (by decide) (by decide), hexec] at hdiscards
  injection hdiscards with hserved
  exact absurd (congrArg (fun s : State => (s.node 0).st) hserved) (by decide +kernel)

end Sys2Proof.Machine
end

section
/-! SUPPORT. Operations that leave the ports as they are: the end of accesses and of their trackers, and what a port that goes down does with
the packets queued for it (R276, R293, R317). -/
namespace Sys2Proof.Machine

/-! ## Accesses that end -/

theorem noteRefusal_ports (s : State) (die : Nat) (ctx : Option Nat) (a p o : Nat) : (noteRefusal s die ctx a p o).ports = s.ports := by
  unfold noteRefusal
  cases ctx <;> dsimp only <;> split <;> rfl

@[simp] theorem sendReply_ports (s : State) (r : Packet) : (sendReply s r).ports = s.ports := by
  unfold sendReply
  split
  · dsimp only
    split
    · rfl
    · exact noteRefusal_ports _ _ _ _ _ _
  · rfl

@[simp] theorem answerFor_ports (s : State) (p : Packet) (st : Nat) (d : Bytes) : (answerFor s p st d).ports = s.ports := by
  unfold answerFor
  split
  · exact sendReply_ports _ _
  · rfl

@[simp] theorem mirrorEntry_ports (s : State) (p : Nat) : (mirrorEntry s p).ports = s.ports := by
  unfold mirrorEntry
  split <;> rfl

@[simp] theorem clearBehind_ports (s : State) (p : Nat) : (clearBehind s p).ports = s.ports := by
  unfold clearBehind
  split <;> rfl

@[simp] theorem joinAccess_ports (s : State) (g k key kind : Nat) (rd : Bool) (a n st : Nat) (d : Bytes) (bad : List Nat) :
    (joinAccess s g k key kind rd a n st d bad).ports = s.ports := by
  unfold joinAccess
  dsimp only
  (repeat' split) <;> rfl

@[simp] theorem ownerDone_ports (s : State) (o : Owner) (rd : Bool) (a n st : Nat) (d : Bytes) (bad : List Nat) :
    (ownerDone s o rd a n st d bad).ports = s.ports := by
  cases o with
  | none | cmd | frontEnd | sluice | clearing => rfl
  | ring | tile | bar2 => unfold ownerDone; dsimp only; (repeat' split) <;> rfl
  | mirror p => unfold ownerDone; dsimp only; (repeat' split) <;> simp
  | reply | forwarded | coll => simp [ownerDone]

/-! ## Trackers that close -/

theorem giveTag_ports (s : State) (side tag : Nat) : (giveTag s side tag).ports = s.ports := by
  unfold giveTag
  dsimp only
  (repeat' split) <;> rfl

theorem dropTrack_ports (s : State) (i : Nat) (hold : Bool) : (dropTrack s i hold).ports = s.ports := by
  unfold dropTrack
  split
  · rfl
  · refine List.foldlRecOn _ _ (motive := fun t : State => t.ports = s.ports) ?_ fun t ht j _ => ?_
    · split
      · rfl
      · exact giveTag_ports _ _ _
    · split
      · exact ht
      · exact ht

theorem answerFences_ports (s : State) (l : List CtxFenceS) : (answerFences s l).ports = s.ports := by
  refine List.foldlRecOn _ _ (motive := fun t : State => t.ports = s.ports) rfl fun t ht f _ => ?_
  rw [ownerDone_ports, ← ht]
  split <;> rfl

theorem closeTrack_ports (s : State) (i : Nat) (hold : Bool) : (closeTrack s i hold).ports = s.ports := by
  unfold closeTrack
  split
  · rfl
  · exact (answerFences_ports _ _).trans (dropTrack_ports s i hold)

theorem noteTimeout_ports (s : State) (die dest op ctx : Nat) : (noteTimeout s die dest op ctx).ports = s.ports := by
  unfold noteTimeout notePacket
  dsimp only
  split <;> rfl

/-! ## Packets of a port that goes down -/

theorem riffleEvent_ports (s : State) (p : Packet) (out vc event : Nat) : (riffleEvent s p out vc event).ports = s.ports := by
  unfold riffleEvent
  split <;> rfl

theorem endPosted_ports (s : State) (p : Packet) : (endPosted s p).ports = s.ports := by
  unfold endPosted
  split
  · rfl
  · split
    · rfl
    · exact (noteTimeout_ports _ _ _ _ _).trans (closeTrack_ports s _ false)

theorem flushPacket_ports (s : State) (p : Packet) : (flushPacket s p).ports = s.ports := by
  unfold flushPacket
  dsimp only
  split
  · exact endPosted_ports _ _
  · (repeat' split) <;> rfl

/-- What a port that goes down does with a packet queued for it. -/
def flushQueued (p : Nat) (s : State) (x : QPkt) : State :=
  flushPacket (riffleEvent (s.modRoute fun r => { r with stats := bump r.stats 8 }) x.pkt p x.vc 2) x.pkt

theorem foldl_flushQueued_ports (p : Nat) (l : List QPkt) (s : State) : (l.foldl (flushQueued p) s).ports = s.ports :=
  List.foldlRecOn l _ (motive := fun t : State => t.ports = s.ports) rfl fun _ ht _ _ =>
    ((flushPacket_ports _ _).trans (riffleEvent_ports _ _ _ _ _)).trans ht

theorem reachNotice_ports (s : State) (node : Nat) (lost : Bool) : (reachNotice s node lost).ports = s.ports :=
  (congrArg State.ports (foldl_sendCtrl (if lost then 1 else 2) (fun _ => node) (neighbours s) _).1).trans rfl

end Sys2Proof.Machine
end

section
/-! SUPPORT. The end of a step (R439, R444, R448): taking a fault leaves a mark on the package, so that a state without any such mark is the
end of a step only where that step raised no fault. -/
namespace Sys2Proof

theorem AMap.set_ne_nil {α : Type} (t : AMap α) (k : Nat) (v : α) : AMap.set t k v ≠ [] := by
  cases t with
  | nil => exact List.cons_ne_nil _ _
  | cons e t => unfold AMap.set; (repeat' split) <;> exact List.cons_ne_nil _ _

end Sys2Proof

namespace Sys2Proof.Machine

/-- A mark of the kind that taking a fault leaves: a value drawn, a record captured or lost, a unit fenced, or what the fence of a unit
does last. Each is left by the last operations of a fence or a reaction, so that what these do on the way need not be followed; a state may
bear one for another reason. -/
inductive State.ShowsFault (s : State) : Prop
  | drew (h : s.fresh ≠ 0)
  | captured (h : s.flt.captures ≠ [])
  | lost (h : s.flt.lost ≠ 0)
  | fenced (h : s.flt.fenced ≠ [])
  | rebuilds (h : s.flt.directoryRebuild ≠ [])
  | wedged (h : s.host.wedged = true)
  | group (h : s.groups ≠ [])
  | port (h : s.ports ≠ [])
  | node (h : s.coll.nodes ≠ [])
  /-- No mirror has its home in some stack. -/
  | noMirror (n : Nat) (hn : n < 32) (h : ∀ x ∈ s.mem.mirrorDir, ¬ (inPackage x.2.home s.self = true ∧ x.2.home.stack = n))
  /-- No packet waits in the input buffers of some port die. -/
  | noInput (k : Nat) (hk : k < 8) (h : ∀ q ∈ s.fab.inbuf, q.port / 16 ≠ k)

/-- An operation has left the state as it was, or with a mark of a fault. -/
def State.SameOrShows (s t : State) : Prop := t = s ∨ t.ShowsFault

namespace State.SameOrShows

theorem refl (s : State) : s.SameOrShows s := .inl rfl

theorem shows {s t : State} (h : s.SameOrShows t) (hs : s.ShowsFault) : t.ShowsFault :=
  h.elim (fun e => e ▸ hs) id

theorem trans {s t u : State} (h : s.SameOrShows t) (h' : t.SameOrShows u) : s.SameOrShows u :=
  h'.elim (fun e => e ▸ h) .inr

theorem foldl {α : Type} {f : State → α → State} (hf : ∀ (s : State) (x : α), s.SameOrShows (f s x)) (l : List α) (s : State) :
    s.SameOrShows (l.foldl f s) :=
  List.foldlRecOn l f (motive := s.SameOrShows) (refl s) fun t ht x _ => ht.trans (hf t x)

end State.SameOrShows

theorem setNode_shows (s : State) (slot : Nat) (n : CollNode) : (s.setNode slot n).ShowsFault := .node (AMap.set_ne_nil _ _ _)

theorem modGrp_shows (s : State) (g : Nat) (f : Group → Group) : (s.modGrp g f).ShowsFault := .group (AMap.set_ne_nil _ _ _)

theorem pushEvent_shows (s : State) (code body : Nat) : (pushEvent s code body).ShowsFault := by
  obtain ⟨h, m, e⟩ := pushEvent_eq s code body
  exact e ▸ .drew (Nat.succ_ne_zero s.fresh)

/-! ## Collective operations whose node or link is lost (R229, R255) -/

theorem applyReset_shows (s : State) (slot : Nat) : (applyReset s slot).ShowsFault := by
  have hmembers (dest : Nat → Packet) (l : List (Nat × BitVec 64)) (t : State) :
      t.OnlyFabric (l.foldl (fun s m => if entKind m.2 = 1 then send s (dest (entNode m.2)) else s) t) :=
    .foldl (fun s m => by split <;> rfl) l t
  unfold applyReset
  dsimp only
  refine .node ?_
  split
  · rw [(foldl_send_onlyFabric _ _ _).coll, (hmembers (fun d => collPkt _ _ opRESET d 5) _ _).coll]
    exact AMap.set_ne_nil _ _ _
  · rw [(hmembers (fun d => collPkt _ _ opRESET d 5) _ _).coll]
    exact AMap.set_ne_nil _ _ _

/-- An abort for a lost node does nothing, or leaves the node in the state of R255. -/
theorem collAbortOp_sameOrShows (s : State) (slot offender : Nat) : s.SameOrShows (collAbortOp s slot 3 offender) := by
  unfold collAbortOp
  dsimp only
  split
  · exact .refl s
  next hlive =>
    have hcoll := applyAbort_coll 3 offender s.self fun h => hlive (.inl h)
    have hnodes : (applyAbort s slot 3 offender s.self).coll.nodes ≠ [] := by rw [hcoll]; exact AMap.set_ne_nil _ _ _
    refine .inr ?_
    split
    · exact applyReset_shows _ _
    · split <;> exact .node hnodes

theorem collLinksLost_sameOrShows (s : State) : s.SameOrShows (collLinksLost s) := by
  refine .foldl (fun s n => ?_) _ s
  split
  · exact .refl s
  · refine .foldl (fun s x => ?_) _ s
    split
    · exact collAbortOp_sameOrShows s x.1 0xFFF
    · exact .refl s

theorem confluenceFenced_sameOrShows (s : State) (die : Nat) : s.SameOrShows (confluenceFenced s die) := by
  refine .foldl (fun s x => .inr ?_) _ s
  dsimp only
  split
  · exact (collAbortOp_sameOrShows _ _ _).shows (setNode_shows _ _ _)
  · exact pushEvent_shows _ _ _

/-! ## Ports and port dies (R344, R448) -/

theorem noticeLoss_shows {s : State} (h : s.ports ≠ []) (node : Nat) {lost : Prop} [Decidable lost] :
    (collLinksLost (if lost then reachNotice s node true else s)).ShowsFault := by
  refine (collLinksLost_sameOrShows _).shows (.port ?_)
  split
  · rwa [reachNotice_ports]
  · exact h

/-- A port that goes down has its own record, whatever becomes of its queue and of the operations that its link carried. -/
theorem portDown_shows (s : State) (p : Nat) (cause : Option Nat) : (portDown s p cause).ShowsFault := by
  have hqueue (x : Port) (k : FabS → FabS) (l : List QPkt) : (l.foldl (flushQueued p) ((s.setPrt p x).modFab k)).ports ≠ [] := by
    rw [foldl_flushQueued_ports]
    exact AMap.set_ne_nil _ _ _
  unfold portDown
  dsimp only
  split
  next n _ =>
    cases cause <;> refine noticeLoss_shows ?_ n
    · exact hqueue _ _ _
    · exact hqueue _ _ _
  next => cases cause <;> exact .port (hqueue _ _ _)

theorem fencePort_shows (s : State) (p cause : Nat) : (fencePort s p cause).ShowsFault := by
  unfold fencePort
  dsimp only
  split
  · exact portDown_shows _ _ _
  · exact .port (AMap.set_ne_nil _ _ _)

theorem dropInputs_shows (s : State) {k : Nat} (hk : k < 8) : (s.modFab fun f => { f with
    inbuf := f.inbuf.filter fun q => ! (decide (k * 16 ≤ q.port) && decide (q.port < k * 16 + 16)) }).ShowsFault := by
  refine .noInput k hk fun q hq => ?_
  have hout := (List.mem_filter.mp hq).2
  simp only [Bool.not_eq_true', Bool.and_eq_false_iff, decide_eq_false_iff_not] at hout
  omega

theorem fencePortDie_shows (s : State) {k : Nat} (hk : k < 8) : (fencePortDie s k).ShowsFault := dropInputs_shows _ hk

/-! ## Groups, stacks and hub dies (R449, R450) -/

theorem fenceGroup_sameOrShows (s : State) (g : Nat) : s.SameOrShows (fenceGroup s g) := by
  unfold fenceGroup
  split
  · exact .refl s
  · exact .inr (.group (AMap.set_ne_nil _ _ _))

/-- The mirrors in a stack that is lost have no home any more. -/
theorem dropMirrorsOn_shows (s : State) {n : Nat} (hn : n < 32) : (dropMirrorsOn s n).ShowsFault := by
  refine .noMirror n hn fun x hx => ?_
  obtain ⟨e, -, rfl⟩ := List.mem_map.mp hx
  dsimp only
  by_cases hhome : (inPackage e.2.home s.self && e.2.home.stack == n) = true
  · simp only [hhome, true_or, if_true]
    exact fun h => absurd h.1 (by simp [inPackage])
  · have hkept : ¬ (inPackage e.2.home s.self = true ∧ e.2.home.stack = n) := by simpa using hhome
    split <;> exact hkept

theorem fenceStack_sameOrShows (s : State) {n : Nat} (hn : n < 32) : s.SameOrShows (fenceStack s n) := by
  unfold fenceStack
  split
  · exact .refl s
  · refine .inr ?_
    dsimp only
    split
    · exact dropMirrorsOn_shows _ hn
    · exact pushEvent_shows _ _ _

theorem fenceHub_shows (s : State) (h : Nat) : (fenceHub s h).ShowsFault :=
  .rebuilds (List.append_ne_nil_of_right_ne_nil _ (List.cons_ne_nil _ _))

theorem fenceSequencer_sameOrShows (s : State) (d : Nat) : s.SameOrShows (fenceSequencer s d) := by
  refine .foldl (fun s g => .trans (t := dropLoads s g) (.foldl (fun s r => .inr (modGrp_shows _ _ _)) _ s) ?_) _ s
  refine .foldl (fun s q => ?_) _ _
  split
  · exact .refl s
  · exact .foldl (fun s r => .inr (.group (AMap.set_ne_nil _ _ _))) _ s

/-! ## Faults -/

theorem fenceUnit_sameOrShows (s : State) (cls inst cause : Nat) : s.SameOrShows (fenceUnit s cls inst cause) := by
  have hfenced (u : Fenced) : (s.modFlt fun f => { f with fenced := f.fenced ++ [u] }).ShowsFault :=
    .fenced (List.append_ne_nil_of_right_ne_nil _ (List.cons_ne_nil _ _))
  unfold fenceUnit
  split
  · exact .refl s
  next hunit =>
    have hinst : inst < classCount cls := Nat.lt_of_not_le fun h => hunit (.inr (.inr h))
    split
    · split
      · exact .inr (fencePort_shows _ _ _)
      · exact .refl s
    · refine .inr ?_
      dsimp only
      split
      · exact fencePort_shows _ _ _
      split
      next h => subst h; exact fencePortDie_shows _ hinst
      split
      · exact (confluenceFenced_sameOrShows _ _).shows (hfenced _)
      split
      next h => subst h; exact (fenceStack_sameOrShows _ hinst).shows (hfenced _)
      split
      · exact (fenceGroup_sameOrShows _ _).shows (hfenced _)
      split
      · exact fenceHub_shows _ _
      split
      · exact (fenceSequencer_sameOrShows _ _).shows (hfenced _)
      split
      · exact hfenced _
      · exact .wedged rfl

theorem packageReaction_shows (s : State) : (packageReaction s).ShowsFault := by
  unfold packageReaction resetPackage
  dsimp only
  split
  · exact .drew (Nat.succ_ne_zero _)
  · exact pushEvent_shows _ _ _

theorem captureOrLose_shows (s : State) (full : FaultS → Bool) (errN : Bool) (c : Capture) : (s.modFlt fun f =>
    if full f then { f with lost := f.lost + 1, lostBefore := f.lostBefore + 1, errPending := f.errPending || errN }
    else { f with captures := f.captures ++ [c] }).ShowsFault := by
  cases hfull : full s.flt
  · exact .captured (by simp [hfull])
  · exact .lost (by simp [hfull])

/-- A fault is captured or its record is lost, whatever its reaction then does. -/
theorem takeFault_shows (s : State) (c : Capture) : (takeFault s c).ShowsFault := by
  unfold takeFault
  dsimp only
  split
  · exact packageReaction_shows _
  · split
    · exact (fenceUnit_sameOrShows _ _ _ _).shows (captureOrLose_shows _ _ _ _)
    · exact captureOrLose_shows _ _ _ _

theorem loseRaised_sameOrShows (s : State) : s.SameOrShows (loseRaised s) := by
  unfold loseRaised
  split
  · exact .refl s
  next l hl => exact .inr (.lost (by have := List.length_pos_iff.mpr hl; simp only [State.modFlt_flt]; omega))

theorem settleN_sameOrShows (n : Nat) (s : State) : s.SameOrShows (settleN n s) := by
  induction n generalizing s with
  | zero => exact loseRaised_sameOrShows s
  | succ n ih =>
    unfold settleN
    split
    · exact .refl s
    next l hl =>
      obtain ⟨c, cs, hcons⟩ := List.exists_cons_of_ne_nil hl
      rw [hcons, List.foldl_cons]
      have hrest := State.SameOrShows.foldl (fun s c => .inr (takeFault_shows s c)) cs
      exact .inr ((ih _).shows ((hrest _).shows (takeFault_shows _ c)))

/-- A step that ends without a mark of a fault has raised none. -/
theorem settle_sameOrShows (s : State) : s.SameOrShows (settle s) := settleN_sameOrShows 4 s

end Sys2Proof.Machine
end

section
/-! SUPPORT. A load timeout that the statement about trackers does not foresee (R310, R313): that of a read which stands in the place of a
poisoned one of a tile that is being copied. -/
namespace Sys2Proof.Machine

/-- A read of 64 bytes at the partner for tile 0 of parcel 0, one of those that localise a poisoned reply. -/
def localisedRead : Track :=
  { pkt := { opcode := opRD, addr := nodeBase 9, len := 64 }, owner := .tile 0, localised := true }

/-- The package while that read is outstanding. The record of a timeout at the partner has been entered in this frame, so that another raises
no fault; each stack holds a mirror of a parcel of the partner's, and a packet waits at each port die. -/
def localisedReadOut : State :=
  { mem := { mirrorDir := (List.range 32).map fun n => (n, { st := 1, home := { kind := 1, stack := n, holder := 8 } }) }
    fab := { tracks := [localisedRead], recordAt := [(9, 1)], inbuf := (List.range 8).map fun k => { port := k * 16 } } }

/-- The timeout of that read raises no fault. -/
theorem not_shows_localisedReadTimeout : ¬ (doLoadTimeout localisedReadOut 0).ShowsFault := by
  have hmirrors : ∀ n < 32, ∃ x ∈ (doLoadTimeout localisedReadOut 0).mem.mirrorDir,
      inPackage x.2.home (doLoadTimeout localisedReadOut 0).self = true ∧ x.2.home.stack = n := by decide +kernel
  have hinputs : ∀ k < 8, ∃ q ∈ (doLoadTimeout localisedReadOut 0).fab.inbuf, q.port / 16 = k := by decide +kernel
  intro h
  cases h with
  | drew h | captured h | lost h | fenced h | rebuilds h | wedged h | group h | port h | node h => exact absurd h (by decide +kernel)
  | noMirror n hn h =>
    obtain ⟨x, hx, hhome⟩ := hmirrors n hn
    exact h x hx hhome
  | noInput k hk h =>
    obtain ⟨q, hq, hdie⟩ := hinputs k hk
    exact h q hq hdie

/-- Refutes O48: its clause on load timeouts has the bytes of memory stay as they are. Where the read that gets no answer localises a poisoned
one of a tile that is being copied, the timeout poisons its atom of the tile (R310), and the poison value is written there. -/
theorem not_chunksLanesAndTrackersMoveOn : ¬ Obligations.ChunksLanesAndTrackersMoveOn := by
  unfold Obligations.ChunksLanesAndTrackersMoveOn
  intro h
  obtain ⟨-, -, -, htimeout, -⟩ := h
  obtain ⟨u, hexec, -, hcells⟩ := htimeout localisedReadOut 0 localisedRead rfl rfl rfl rfl (by decide +kernel)
  have hraised : (doLoadTimeout localisedReadOut 0).flt.raised = [] := by decide +kernel
  have hend : settle u = doLoadTimeout localisedReadOut 0 := by
    rw [← settle_eq _ hraised]
    exact (done_inj hexec).symm ▸ rfl
  have hu : doLoadTimeout localisedReadOut 0 = u := by
    rcases settle_sameOrShows u with hsame | hshows
    · exact hend.symm.trans hsame
    · exact absurd (hend ▸ hshows) not_shows_localisedReadTimeout
  rw [← hu] at hcells
  exact absurd hcells (by decide +kernel)

end Sys2Proof.Machine
end

section
/-! SUPPORT. Completions with data (R303): the requests whose completions have them. -/
namespace Sys2Proof.Machine

/-- A completion carries data exactly where its request asks for some. -/
theorem mkCpl_opcode_eq_data {s : State} {req : Packet} {status : Nat} {data : Bytes} (h : (mkCpl s req status data).opcode = opCPLD) :
    req.opcode = opRD ∨ req.opcode = opRDV ∨ req.opcode = opATOM := by
  refine Decidable.byContradiction fun hno => ?_
  have hop : (mkCpl s req status data).opcode = if req.opcode = opWRP then opCPLP else opCPL :=
    congrArg (ite (req.opcode = opWRP) opCPLP) (if_neg hno)
  rw [hop] at h
  split at h
  · exact absurd h (by decide)
  · exact absurd h (by decide)

/-- Settles O7: a completion has the opcode of one with data only where its request asks for data, and the poison value then stands in
for it. -/
theorem dataCompletionsWithoutOkCarryThePoisonValue : Obligations.DataCompletionsWithoutOkCarryThePoisonValue := by
  unfold Obligations.DataCompletionsWithoutOkCarryThePoisonValue
  intro s req status data hop hst
  have hdata := mkCpl_opcode_eq_data hop
  constructor
  · simp [mkCpl, hdata, hst]
  · simp [mkCpl, hdata, hst]

end Sys2Proof.Machine
end

section
/-! SUPPORT. Packets that the package routes, queues and sends (R315, R318, R320–R322, R331, R334, R340, R358, R361): what recording a
packet and taking it off its queue leave, then what each of their rows does. -/
namespace Sys2Proof.Machine

/-! ## Riffle, credits and the arbiter raise no fault -/

@[simp] theorem riffleAdd_flt (s : State) (die : Nat) (p : Packet) (out vc event filter : Nat) :
    (riffleAdd s die p out vc event filter).flt = s.flt := rfl

@[simp] theorem riffleSeen_flt (s : State) (p : Packet) (out vc : Nat) : (riffleSeen s p out vc).flt = s.flt := by
  unfold riffleSeen
  dsimp only
  (repeat' split) <;> rfl

@[simp] theorem riffleEvent_flt (s : State) (p : Packet) (out vc event : Nat) : (riffleEvent s p out vc event).flt = s.flt := by
  unfold riffleEvent
  split <;> rfl

@[simp] theorem freeCells_flt (s : State) (q : QPkt) : (freeCells s q).flt = s.flt := by
  unfold freeCells
  split <;> rfl

/-- The arbiter's choice moves its own turns and deficits alone. -/
theorem pickNext_flt (s : State) (port : Nat) : (pickNext s port).1.flt = s.flt := by
  unfold pickNext
  dsimp only
  (repeat' split) <;> rfl

/-! ## The routing stage (R315, R320–R322) -/

/-- The state in which a packet has left its input queue, and its cells are free. -/
abbrev State.dequeued (s : State) (i : Nat) (q : QPkt) : State :=
  freeCells (s.modFab fun f => { f with inbuf := f.inbuf.eraseIdx i }) q

theorem doPacketRoute_head {s : State} {port vc i : Nat} {q : QPkt} (hi : findIdx (fun q => q.port == port && q.vc == vc) s.fab.inbuf = some i)
    (hq : s.fab.inbuf[i]? = some q) : doPacketRoute s port vc = routeHead s i q := by
  simp only [doPacketRoute, hi, hq]

theorem routeHead_forHere {s : State} {q : QPkt} (i : Nat) (hdie : s.isUnitFenced 4 (pktDie s q.pkt) = false) (hhere : forHere s q.pkt = true) :
    routeHead s i q = riffleSeen ((s.dequeued i q).modFab fun f => { f with delivered := f.delivered ++ [q.pkt] }) q.pkt 0x7F q.vc := by
  simp only [routeHead, hdie, hhere, if_true, Bool.false_eq_true, if_false]

theorem bankOf_active {s : State} {p : Packet} (h : p.epoch = s.route.active.epoch) : bankOf s p = (s.route.active, false) := if_pos h

/-- A packet off a link with one port to take, and no fallback in force, takes that port. -/
theorem choosePort_single {s : State} {p : Packet} {vc out : Nat} (hin : p.inPort < 128) (hcpl : isCplOp p.opcode = false) :
    choosePort s p vc { ports := [out], adaptive := false, case := 0 } = (s, some out) := by
  have hunit : ¬ 128 ≤ p.inPort := Nat.not_le.mpr hin
  simp [choosePort, hunit, hcpl, Nat.mod_one]

section
variable {s : State} {q : QPkt} (i : Nat) (hdie : s.isUnitFenced 4 (pktDie s q.pkt) = false) (hhere : forHere s q.pkt = false)
  (hst : s.route.st ≠ 2) (hin : q.pkt.inPort < 128) (hep : fromEp s q.pkt = false) (hepoch : q.pkt.epoch = s.route.active.epoch)
include hdie hhere hst hin hep hepoch

theorem routeHead_queues {out : Nat} (hcpl : isCplOp q.pkt.opcode = false) (h3 : q.vc ≠ 3) (h6 : q.vc ≠ 6)
    (hroute : routeOf s s.route.active q.pkt q.vc = { ports := [out], adaptive := false, case := 0 })
    (hroom : queueRoom s q.pkt out q.vc = true) :
    routeHead s i q = riffleSeen ((s.dequeued i q).modFab fun f => { f with
      outq := f.outq ++ [{ port := out, vc := q.vc, pkt := { q.pkt with vc := q.vc } }] }) { q.pkt with vc := q.vc } out q.vc := by
  have hunit : ¬ 128 ≤ q.pkt.inPort := Nat.not_le.mpr hin
  simp [routeHead, hdie, hhere, hst, hunit, hep, bankOf_active hepoch, hroute, choosePort_single hin hcpl, h3, h6, hroom, earlyDrop]

theorem routeHead_noRoute (hroute : routeOf s s.route.active q.pkt q.vc = {}) : routeHead s i q = noRoute (s.dequeued i q) q.pkt := by
  have hunit : ¬ 128 ≤ q.pkt.inPort := Nat.not_le.mpr hin
  simp [routeHead, hdie, hhere, hst, hunit, hep, bankOf_active hepoch, hroute, choosePort]

end

/-! ## What leaves (R334, R358, R361) -/

theorem doOutputArb_sends {s s' : State} {port i : Nat} {q : QPkt} (hst : (s.prt port).st = 2) (hpresent : s.present port = true)
    (hlive : s.live port = true) (hpick : pickNext s port = (s', some (i, q)))
    (hroom : (s.prt port).replay.length + (packetFrames q.pkt).length ≤ 256) :
    doOutputArb s port = ((spendCredits s' port q.pkt q.vc).modFab fun f => { f with outq := f.outq.eraseIdx i }).modPrt port
      fun x => (packetFrames q.pkt).foldl (fun x d => sendFrame x d true) { x with txIdle := false } := by
  have hfits : ¬ 256 < (s.prt port).replay.length + (packetFrames q.pkt).length := Nat.not_lt.mpr hroom
  simp [doOutputArb, hst, hpresent, hlive, hpick, hfits]

theorem doOutputArb_empty {s : State} {port : Nat} (hst : (s.prt port).st = 2) (hpresent : s.present port = true)
    (hlive : s.live port = false) (hidle : (s.prt port).txIdle = false) :
    doOutputArb s port = s.modPrt port fun x => sendFrame { x with txIdle := false } (List.replicate 256 0) false := by
  simp only [doOutputArb, hst, hpresent, hlive, hidle, ne_eq, not_true, Bool.not_true, Bool.false_eq_true, or_self, false_and, if_false]

/-! ## Packets that cannot leave (R318, R331, R340) -/

theorem doEscapeMove_moves {s : State} {port vc i p : Nat} {l : List Nat} {q : QPkt}
    (hi : findIdx (fun q => q.port == port && q.vc == vc) s.fab.inbuf = some i) (hq : s.fab.inbuf[i]? = some q) (h1 : 1 ≤ vc) (h4 : vc ≤ 4)
    (hhere : forHere s q.pkt = false) (hports : (routeOf s (bankOf s q.pkt).1 q.pkt vc).ports = p :: l)
    (hcredit : (p :: l).any (creditOk s · q.pkt vc) = false) :
    doEscapeMove s port vc = riffleEvent ((s.modFab fun f => { f with
      inbuf := f.inbuf.mapIdx fun j y => if j = i then { y with vc := 6 } else y }).modRoute fun x => { x with stats := bump x.stats 5 })
        q.pkt 0x7F 6 4 := by
  have hmoves : ¬ (vc < 1 ∨ 4 < vc ∨ forHere s q.pkt = true ∨ (p :: l).isEmpty = true ∨ (p :: l).any (creditOk s · q.pkt vc) = true) := by
    rw [hhere, hcredit]
    simp only [List.isEmpty_cons, Bool.false_eq_true, or_false, not_or]
    omega
  simp only [doEscapeMove, hi, hq, hports]
  exact if_neg hmoves

theorem doRedPromotion_promotes {s : State} {port i : Nat}
    (hi : findIdx (fun q => q.port == port && q.pkt.colour == 2 && ! q.waitedRed) s.fab.outq = some i) :
    doRedPromotion s port = s.modFab fun f => { f with
      outq := f.outq.mapIdx fun j q => if j = i then { q with waitedRed := true } else q } := by
  simp only [doRedPromotion, hi]

theorem doPacketAged_queued {s : State} {port vc i : Nat} {q : QPkt}
    (hi : findIdx (fun q => q.port == port && q.vc == vc) s.fab.outq = some i) (hq : s.fab.outq[i]? = some q) :
    doPacketAged s port vc = flushPacket (riffleEvent (((s.modFab fun f => { f with outq := f.outq.eraseIdx i }).modFab
      fun f => { f with stats := bump f.stats 9 }).modRoute fun r => { r with stats := bump (bump r.stats 8) 9 }) q.pkt port vc 3) q.pkt := by
  simp only [doPacketAged, hi, hq]

/-! ## Counts of the crossbar dies (R321) -/

theorem sumBy_congr {α : Type} {f g : α → Nat} {l : List α} (h : ∀ x ∈ l, f x = g x) : sumBy f l = sumBy g l := by
  induction l with
  | nil => rfl
  | cons a l ih =>
    obtain ⟨ha, hl⟩ := List.forall_mem_cons.mp h
    rw [sumBy, sumBy, ha, ih hl]

/-- What a table reads in which the records of several keys have been entered. -/
theorem get_foldl_set {α : Type} (d : α) (e : Nat → Nat) (v : Nat → α) (he : Function.Injective e) (ks : List Nat) (t : AMap α) (k : Nat) :
    AMap.get d (ks.foldl (fun t k => AMap.set t (e k) (v k)) t) (e k) = if k ∈ ks then v k else AMap.get d t (e k) := by
  induction ks generalizing t with
  | nil => simp
  | cons a ks ih =>
    rw [List.foldl_cons, ih, AMap.get_set]
    by_cases hk : k = a
    · subst hk
      simp
    · simp [hk, he.ne hk]

/-- The key under which a die counts a packet's queue names its port and channel. -/
theorem queueKey_inj {p vc p' vc' : Nat} (h : vc < 8) (h' : vc' < 8) : p * 8 + vc = p' * 8 + vc' ↔ p = p' ∧ vc = vc' := by omega

/-- A die's count of a queue is the cells of its packets there. -/
theorem counts_doCountExchange {s : State} {die : Nat} (hdie : die < 4) (hvc : ∀ q ∈ s.fab.outq, q.vc < 8) {q : QPkt} (hq : q ∈ s.fab.outq)
    (hqdie : pktDie s q.pkt = die) :
    AMap.get 0 (doCountExchange s die).route.counts (die * 1024 + q.port * 8 + q.vc) =
      sumBy (fun y => if pktDie s y.pkt = die ∧ y.port = q.port ∧ y.vc = q.vc then pktCells y.pkt else 0) s.fab.outq := by
  have hkey : q.port * 8 + q.vc ∈ ((s.fab.outq.filter fun q => pktDie s q.pkt == die).map fun q => q.port * 8 + q.vc).eraseDups :=
    List.mem_eraseDups.mpr (List.mem_map.mpr ⟨q, List.mem_filter.mpr ⟨hq, beq_iff_eq.mpr hqdie⟩, rfl⟩)
  rw [doCountExchange, if_neg (Nat.not_le.mpr hdie), Nat.add_assoc]
  refine (get_foldl_set 0 (die * 1024 + ·) _ (fun _ _ => Nat.add_left_cancel) _ _ _).trans ((if_pos hkey).trans ?_)
  exact sumBy_congr fun y hy => by simp only [queueKey_inj (hvc y hy) (hvc q hq)]

theorem doCountExchange_eq (s : State) (die : Nat) : doCountExchange s die = { s with route := (doCountExchange s die).route } := by
  unfold doCountExchange
  split <;> rfl

/-- Settles O49: each row's operation comes to the statement's branch of it, and recording, freeing cells and the arbiter's choice raise no
fault; the counts exchanged are read back by the key of their queue. -/
theorem packetsAreRoutedQueuedAndLeave : Obligations.PacketsAreRoutedQueuedAndLeave := by
  unfold Obligations.PacketsAreRoutedQueuedAndLeave
  refine ⟨?here, ?queues, ?noRoute, ?sends, ?empty, ?escape, ?red, ?aged, ?counts⟩
  case here =>
    intro s port vc i q hset hi hq hdie hhere
    exact done_next_of_eq ((doPacketRoute_head hi hq).trans (routeHead_forHere i hdie hhere)) (by simpa using hset)
  case queues =>
    intro s port vc i out q hset hi hq hdie hhere hst hin hep hepoch hcpl h3 h6 hroute hroom
    exact done_next_of_eq ((doPacketRoute_head hi hq).trans
      (routeHead_queues i hdie hhere hst hin hep hepoch hcpl h3 h6 hroute hroom)) (by simpa using hset)
  case noRoute =>
    intro s port vc i q _ hi hq hdie hhere hst hin hep hepoch hroute
    exact congrArg done ((doPacketRoute_head hi hq).trans (routeHead_noRoute i hdie hhere hst hin hep hepoch hroute))
  case sends =>
    intro s s' port i q hset hst hpresent hlive hpick hroom
    have hflt : s'.flt = s.flt := by rw [← pickNext_flt s port, hpick]
    exact done_next_of_eq (doOutputArb_sends hst hpresent hlive hpick hroom) ((congrArg FaultS.raised hflt).trans hset)
  case empty =>
    intro s port hset hst hpresent hlive hidle
    exact done_next_of_eq (doOutputArb_empty hst hpresent hlive hidle) hset
  case escape =>
    intro s port vc i p l q hset hi hq h1 h4 hhere hports hcredit
    exact done_next_of_eq (doEscapeMove_moves hi hq h1 h4 hhere hports hcredit) (by simpa using hset)
  case red =>
    intro s port i hset hi
    exact done_next_of_eq (doRedPromotion_promotes hi) hset
  case aged =>
    intro s port vc i q _ hi hq
    exact congrArg done (doPacketAged_queued hi hq)
  case counts =>
    intro s die hset hdie hqueues
    have heq := doCountExchange_eq s die
    exact ⟨doCountExchange s die, done_next_of_eq rfl ((congrArg (·.flt.raised) heq).trans hset), heq, fun q hq hqdie =>
      counts_doCountExchange hdie (fun y hy => (hqueues y hy).2) hq hqdie⟩

end Sys2Proof.Machine
end

section
/-! SUPPORT. Fields of a word of which a wider one is zero (R3), and the records of the ports (R375): what reading one gives after one was
replaced, and what replacing several leaves. -/
namespace Sys2Proof

/-- The second of two records of a number stands. -/
theorem AMap.set_set {α : Type} (t : AMap α) (k : Nat) (v w : α) : AMap.set (AMap.set t k v) k w = AMap.set t k w := by
  induction t with
  | nil => simp [AMap.set]
  | cons e t ih =>
    rcases Nat.lt_trichotomy k e.1 with h | h | h
    · simp [AMap.set, h, Nat.ne_of_lt h]
    · simp [AMap.set, h]
    · simp [AMap.set, Nat.ne_of_gt h, Nat.lt_asymm h, ih]

end Sys2Proof

namespace Sys2Proof.Machine

/-! ## Fields of a word -/

/-- Every field within a field of zeros is zero. -/
theorem bits_eq_zero_within {x lo w lo' w' : Nat} (h : bits x lo w = 0) (hlo : lo ≤ lo') (hw : lo' + w' ≤ lo + w) : bits x lo' w' = 0 := by
  refine Nat.eq_of_testBit_eq fun i => ?_
  have hbit : (bits x lo w).testBit (lo' - lo + i) = false := by rw [h, Nat.zero_testBit]
  rw [bits, Nat.testBit_mod_two_pow, Nat.testBit_shiftRight] at hbit ⊢
  by_cases hi : i < w'
  · have hin : lo' - lo + i < w := by omega
    have hpos : lo + (lo' - lo + i) = lo' + i := by omega
    rw [hpos, decide_eq_true hin, Bool.true_and] at hbit
    rw [hbit, Bool.and_false, Nat.zero_testBit]
  · rw [decide_eq_false hi, Bool.false_and, Nat.zero_testBit]

/-! ## Records of ports -/

theorem State.prt_of_ports {s t : State} (h : t.ports = s.ports) (k : Nat) : t.prt k = s.prt k := congrArg (AMap.get ({} : Port) · k) h

section
variable (s : State) (p : Nat) (x : Port)

@[simp] theorem State.prt_setPrt_same : (s.setPrt p x).prt p = x := AMap.get_set_same ..

theorem State.prt_setPrt_other {k : Nat} (h : k ≠ p) : (s.setPrt p x).prt k = s.prt k := AMap.get_set_other _ _ _ h

@[simp] theorem State.setPrt_setPrt (y : Port) : (s.setPrt p x).setPrt p y = s.setPrt p y :=
  congrArg (fun t => { s with ports := t }) (AMap.set_set s.ports p x y)

end

/-- Changing the records of several ports, each once, leaves the others and everything beside the ports. -/
theorem foldl_modPrt (f : Port → Port) {l : List Nat} (hl : l.Nodup) (s : State) :
    ∃ ps : AMap Port, l.foldl (fun s p => s.modPrt p f) s = { s with ports := ps } ∧
      ∀ k, AMap.get {} ps k = if k ∈ l then f (s.prt k) else s.prt k := by
  induction l generalizing s with
  | nil => exact ⟨s.ports, rfl, fun k => rfl⟩
  | cons p l ih =>
    obtain ⟨hp, hl⟩ := List.nodup_cons.mp hl
    obtain ⟨ps, heq, hget⟩ := ih hl (s.modPrt p f)
    refine ⟨ps, heq, fun k => ?_⟩
    rw [hget k]
    by_cases hk : k = p
    · subst hk
      rw [if_neg hp, if_pos List.mem_cons_self]
      exact s.prt_setPrt_same k _
    · simp only [List.mem_cons, hk, false_or]
      rw [show (s.modPrt p f).prt k = s.prt k from s.prt_setPrt_other p _ hk]

end Sys2Proof.Machine
end

section
/-! SUPPORT. Training of a port (R344, R367–R370, R372, R373): what each training block, timeout and restart does in the state that it is
for. -/
namespace Sys2Proof.Machine

/-! ## Discovery's flag (R459) -/

@[simp] theorem latchDisc_raised (s : State) : (latchDisc s).flt.raised = s.flt.raised := by
  unfold latchDisc
  split <;> rfl

@[simp] theorem latchDisc_ports (s : State) : (latchDisc s).ports = s.ports := by
  unfold latchDisc
  split <;> rfl

/-! ## Training blocks (R367–R370, R373) -/

/-- A port in service without replay steps to the next rate, where both ends permit it. -/
theorem beginStep_eq {x : Port} (hst : x.st = 2) (hrate : x.rate < 3) (hmax : x.rate < x.maxRate)
    (hpeer : x.peerRates.testBit (x.rate + 1) = true) (hcap : x.rateCapped = false) (hreplay : x.replayCount = 0) :
    beginStep x = { leaveSets x with
      st := 3, prevRate := x.rate, target := x.rate + 1, stepBlocks := 0, rxDone := 0, readys := 0, trainStep := 3, stepDue := false } := by
  have hnext : nextRate x = some (x.rate + 1) := if_pos ⟨hrate, hmax, hpeer, by rw [hcap]; rfl⟩
  rw [beginStep, hnext]
  exact if_pos ⟨hst, hreplay⟩

/-- A port whose rate step ends is in service again, and rejoins its sets at the next frame. -/
theorem portActive_stepped {s : State} {p : Nat} {x : Port} (hst : x.st = 3) (hdue : x.stepDue = false) : portActive s p x = s.setPrt p { x with
    st := 2, txFrom := x.tx.length, joinAt := if x.accepted then some (s.time.lfc + 1) else none } := by
  have htraining : x.st ≠ 1 := by omega
  have hretraining : x.st ≠ 4 := by omega
  refine (if_neg htraining).trans (congrArg (s.setPrt p) ?_)
  simp only [hretraining, if_false, hdue, Bool.false_eq_true]

section
variable {s : State} {p lane : Nat} {body : BitVec 56}

theorem trainBlock_eq {msg : Nat} {f : Port → Nat → State} (hp : s.present p = true) (hl : lane < 4) (hb : blockOk body msg = true) :
    trainBlock s p lane body msg f = f (s.prt p) body.toNat :=
  if_pos ⟨hp, hl, hb⟩

variable (hp : s.present p = true) (hl : lane < 4)
include hp hl

theorem exec_retrain (hb : blockOk body 8 = true) : exec (.retrain p lane body) s = .next (settle (startRetrain s p)) :=
  congrArg done (trainBlock_eq hp hl hb)

variable (hset : s.Settled)
include hset

theorem exec_detect (hb : blockOk body 0 = true) (hst : (s.prt p).st = 1) (hstep : (s.prt p).trainStep = 1)
    (hlane : bits body.toNat 4 2 = lane) :
    exec (.detect p lane body) s = .next (s.modPrt p fun x => { x with
      detected := x.detected ||| 2 ^ lane, peerPort := bits body.toNat 6 7, peerNode := bits body.toNat 13 9
      peerRates := bits body.toNat 22 4, trainStep := if x.detected ||| 2 ^ lane = 15 then 2 else 1 }) := by
  refine done_next_of_eq ((trainBlock_eq hp hl hb).trans (if_neg ?_)) hset
  simp only [hst, hstep, hlane, ne_eq, not_true_eq_false, or_self, not_false_eq_true]

theorem exec_lock (hb : blockOk body 1 = true) (hst : (s.prt p).st = 1 ∨ (s.prt p).st = 4) (hstep : (s.prt p).trainStep = 2) :
    exec (.lock p lane body) s = .next (s.modPrt p fun x => { x with
      laneLock := x.laneLock ||| 2 ^ lane, trainStep := if x.laneLock ||| 2 ^ lane = 15 then 3 else 2 }) := by
  refine done_next_of_eq ((trainBlock_eq hp hl hb).trans (if_neg ?_)) hset
  omega

/-- The peer asks for nothing more: a lane's taps stand, and its receiver is done. -/
theorem exec_eq_done (hb : blockOk body 2 = true) (hst : (s.prt p).st = 1) (hstep : (s.prt p).trainStep = 3)
    (hreq : bits body.toNat 28 10 = 0) (hdone : bitAt body.toNat 43 = true) :
    exec (.eq p lane body) s = .next (s.modPrt p fun x => { x with
      taps := AMap.set x.taps lane (AMap.get {} x.taps lane), eqSt := AMap.set x.eqSt lane 0, rxDone := x.rxDone ||| 2 ^ lane
      trainStep := if x.rxDone ||| 2 ^ lane = 15 then 4 else 3 }) := by
  have hpre : bits body.toNat 28 2 = 0 := bits_eq_zero_within hreq (by decide) (by decide)
  have hmain : bits body.toNat 30 2 = 0 := bits_eq_zero_within hreq (by decide) (by decide)
  have hpost : bits body.toNat 32 2 = 0 := bits_eq_zero_within hreq (by decide) (by decide)
  have hpreset : bits body.toNat 34 3 = 0 := bits_eq_zero_within hreq (by decide) (by decide)
  have hstill : (s.prt p).st ≠ 3 := by omega
  refine done_next_of_eq ((trainBlock_eq hp hl hb).trans ((if_neg ?_).trans ?_)) hset
  · simp [hst, hstep, hpre, hmain, hpost, hpreset]
  · simp only [hstill, hstep, hpre, hmain, hpost, hpreset, hdone, tapStatus, false_and, if_false, if_true, ne_eq,
      not_true_eq_false]
    rfl

/-- The next rate that both ends permit is stepped to. -/
theorem exec_rate_steps (hb : blockOk body 3 = true) (hst : (s.prt p).st = 2) (hrate : (s.prt p).rate < 3)
    (hmax : (s.prt p).rate < (s.prt p).maxRate) (hpeer : (bits body.toNat 22 4).testBit ((s.prt p).rate + 1) = true)
    (hcap : (s.prt p).rateCapped = false) (hreplay : (s.prt p).replayCount = 0) :
    exec (.rate p lane body) s = .next (s.modPrt p fun x => { leaveSets x with
      peerRates := bits body.toNat 22 4, st := 3, prevRate := x.rate, target := x.rate + 1, stepBlocks := 0, rxDone := 0, readys := 0
      trainStep := 3, stepDue := false }) := by
  have hbegin := beginStep_eq (x := { s.prt p with peerRates := bits body.toNat 22 4 }) hst hrate hmax hpeer hcap hreplay
  exact done_next_of_eq ((trainBlock_eq hp hl hb).trans ((if_pos hst).trans (congrArg (s.setPrt p) hbegin))) hset

/-- The following side of a step counts the blocks on lane 0, and switches at the 64th. -/
theorem exec_step_counts (hb : blockOk body 4 = true) (hst : (s.prt p).st = 3) (htarget : bits body.toNat 26 2 = (s.prt p).target)
    (hlane : lane = 0) :
    exec (.step p lane body) s = .next (s.modPrt p fun x => { x with
      stepBlocks := x.stepBlocks + 1, rate := if 64 ≤ x.stepBlocks + 1 then x.target else x.rate }) := by
  have hother : (s.prt p).st ≠ 2 := by omega
  refine done_next_of_eq ((trainBlock_eq hp hl hb).trans ?_) hset
  subst hlane
  simp only [hother, if_false]
  exact if_neg (by simp only [hst, htarget, ne_eq, not_true_eq_false, or_self, not_false_eq_true])

/-- The sixteenth READY ends a rate step. -/
theorem exec_ready_ends_step (hb : blockOk body 5 = true) (hlane : lane = 0) (hstep : (s.prt p).trainStep = 4) (hst : (s.prt p).st = 3)
    (hcount : 15 ≤ (s.prt p).readys) (hdue : (s.prt p).stepDue = false) :
    exec (.ready p lane body) s = .next (latchDisc (s.modPrt p fun x => { x with
      readys := 0, st := 2, txFrom := x.tx.length, joinAt := if x.accepted then some (s.time.lfc + 1) else none })) := by
  have hends : ¬ (s.prt p).readys + 1 < 16 := by omega
  refine done_next_of_eq (congrArg latchDisc ((trainBlock_eq hp hl hb).trans ((if_neg ?_).trans ((if_neg hends).trans ?_))))
    ((latchDisc_raised _).trans hset)
  · omega
  · exact portActive_stepped hst hdue

/-- After sixteen IDLE blocks the peer's transmitter is idle. -/
theorem exec_idle_enters (hb : blockOk body 6 = true) (hlane : lane = 0) (hst : (s.prt p).st = 2) (hcount : 15 ≤ (s.prt p).idleBlocks) :
    exec (.idle p lane body) s = .next (s.modPrt p fun x => { x with idleBlocks := 0, rxIdle := true, wakeBlocks := 0 }) := by
  have hlast : 16 ≤ (s.prt p).idleBlocks + 1 := by omega
  refine done_next_of_eq ((trainBlock_eq hp hl hb).trans ((if_neg (by omega)).trans ?_)) hset
  simp only [hlast, if_true, decide_true, Bool.or_true]
  rfl

/-- After 64 WAKE blocks frames resume. -/
theorem exec_wake_resumes (hb : blockOk body 7 = true) (hlane : lane = 0) (hst : (s.prt p).st = 2) (hcount : 63 ≤ (s.prt p).wakeBlocks) :
    exec (.wake p lane body) s = .next (s.modPrt p fun x => { x with idleBlocks := 0, wakeBlocks := 0, rxIdle := false }) := by
  have hlast : 64 ≤ (s.prt p).wakeBlocks + 1 := by omega
  refine done_next_of_eq ((trainBlock_eq hp hl hb).trans ((if_neg (by omega)).trans ?_)) hset
  simp only [hlast, if_true, Nat.not_lt.mpr hlast, decide_false, Bool.and_false]
  rfl

end

/-! ## Retraining (R344, R370) -/

/-- The record of a port in service whose first retraining has begun in a frame. -/
def retrainingPort (frame : Nat) (x : Port) : Port := { leaveSets x with
  st := 4, trainStep := 2, laneLock := 0, rxDone := 0, readys := 0, retrains := satAdd 8 x.retrains 1, retrainAt := [frame]
  rateCapped := false, stepBlocks := 0, txIdle := false, rxIdle := false, replayCount := 0 }

/-- The state in which it has begun. -/
def State.retraining (s : State) (p : Nat) : State := s.setPrt p (retrainingPort s.time.lfc (s.prt p))

section
variable {s : State} {p : Nat}

/-- The first retraining within a second begins. -/
theorem startRetrain_first (hst : (s.prt p).st = 2) (hfirst : (s.prt p).retrainAt = []) : startRetrain s p = s.retraining p := by
  have hcount : ¬ 4 ≤ ((s.prt p).retrainAt.filter fun f => s.time.lfc < f + 15259).length := by simp [hfirst]
  refine (if_neg fun h => h.1 hst).trans ((if_neg hcount).trans ?_)
  simp only [State.modPrt, hst, hfirst]
  rfl

theorem exec_linkRetrain (hset : s.Settled) (hst : (s.prt p).st = 2) (hfirst : (s.prt p).retrainAt = []) (hp : s.present p = true) :
    exec (.linkRetrain p) s = .next (s.retraining p) :=
  done_next_of_eq ((if_pos hp).trans (startRetrain_first hst hfirst)) hset

theorem exec_signalLoss {lane : Nat} (hset : s.Settled) (hst : (s.prt p).st = 2) (hfirst : (s.prt p).retrainAt = []) (hl : lane < 4) :
    exec (.signalLoss p lane) s = .next (s.retraining p) :=
  done_next_of_eq ((if_pos hl).trans (startRetrain_first hst hfirst)) hset

/-- A port that retrains is out of its sets; nothing but its record has changed. -/
theorem retraining_spec (s : State) (p : Nat) :
    ((s.retraining p).prt p).st = 4 ∧ ((s.retraining p).prt p).trainStep = 2 ∧ ((s.retraining p).prt p).inSets = false ∧
      ((s.retraining p).prt p).retrains = satAdd 8 (s.prt p).retrains 1 ∧ s.retraining p = { s with ports := (s.retraining p).ports } ∧
      ∀ k, k ≠ p → (s.retraining p).prt k = s.prt k := by
  rw [State.retraining, State.prt_setPrt_same]
  exact ⟨rfl, rfl, rfl, rfl, rfl, fun k hk => s.prt_setPrt_other p _ hk⟩

/-! ## Timeouts, restarts and idle entry (R367, R368, R370, R372, R373) -/

theorem exec_trainingTimeout_again (hset : s.Settled) (hst : (s.prt p).st = 1) (htries : (s.prt p).tries < 3) :
    exec (.trainingTimeout p) s = .next (latchDisc (s.setPrt p { startTraining (s.prt p) with tries := (s.prt p).tries + 1 })) :=
  done_next_of_eq (congrArg latchDisc ((if_neg (not_not_intro hst)).trans (if_pos htries))) ((latchDisc_raised _).trans hset)

theorem exec_trainingTimeout_down (hst : (s.prt p).st = 1) (htries : 3 ≤ (s.prt p).tries) :
    exec (.trainingTimeout p) s = .next (settle (latchDisc (portDown s p (some 1)))) :=
  congrArg (fun t => done (latchDisc t)) ((if_neg (not_not_intro hst)).trans (if_neg (Nat.not_lt.mpr htries)))

theorem exec_rateStepTimeout (hset : s.Settled) (hst : (s.prt p).st = 3) :
    exec (.rateStepTimeout p) s = .next (s.modPrt p fun x => { x with
      st := 2, txFrom := x.tx.length, rate := x.prevRate, rateCapped := true
      joinAt := if x.accepted then some (s.time.lfc + 1) else none }) :=
  done_next_of_eq (if_neg (not_not_intro hst)) hset

theorem exec_retrainTimeout (hst : (s.prt p).st = 4) : exec (.retrainTimeout p) s = .next (settle (portDown s p (some 1))) :=
  congrArg done (if_pos hst)

theorem exec_trainingRestart (hset : s.Settled) (hmay : mayTrain s p = true) (hst : (s.prt p).st = 5 ∨ (s.prt p).st = 0) :
    exec (.trainingRestart p) s = .next (s.modPrt p fun x => { startTraining x with tries := 0 }) :=
  done_next_of_eq (if_pos ⟨hmay, hst⟩) hset

theorem exec_idleEntry (hset : s.Settled) (hst : (s.prt p).st = 2) (hen : (s.prt p).idleEn = true) (htx : (s.prt p).txIdle = false)
    (hreplay : (s.prt p).replay = []) (hreturns : (s.prt p).returns = []) (hout : s.fab.outq = []) :
    exec (.idleEntry p) s = .next (s.setPrt p { s.prt p with txIdle := true }) := by
  refine done_next_of_eq (if_pos ?_) hset
  simp [hst, hen, htx, hreplay, hreturns, hout]

end

/-- Settles O51: each block, timeout and restart finds the port in the state that it is for, and does what the statement says of it. -/
theorem trainingBlocksMoveAPort : Obligations.TrainingBlocksMoveAPort := by
  unfold Obligations.TrainingBlocksMoveAPort
  refine ⟨fun s p lane body hset hp hl => ⟨exec_detect hp hl hset, exec_lock hp hl hset, exec_eq_done hp hl hset, exec_rate_steps hp hl hset,
      exec_step_counts hp hl hset, exec_ready_ends_step hp hl hset, exec_idle_enters hp hl hset, exec_wake_resumes hp hl hset,
      exec_retrain hp hl⟩, ?retraining, fun s p => exec_trainingTimeout_again, fun s p _ => exec_trainingTimeout_down,
    fun s p => exec_rateStepTimeout, fun s p _ => exec_retrainTimeout, fun s p => exec_trainingRestart, fun s p => exec_idleEntry⟩
  case retraining =>
    intro s p hset hst hfirst
    exact ⟨s.retraining p, ⟨exec_linkRetrain hset hst hfirst, fun lane => exec_signalLoss hset hst hfirst⟩, retraining_spec s p⟩

end Sys2Proof.Machine
end

section
/-! SUPPORT. The routing commands and LINK_SET (R319, R336, R345, R348, R350, R352–R354, R376), each with operands it accepts, and LINK_SET
with a port that is not listed. -/
namespace Sys2Proof.Machine

/-! ## What a command that has begun reads -/

@[simp] theorem State.begun_present (s : State) (m : Master) (k : List Key) (p : Nat) : (s.begun m k).present p = s.present p := by
  simp [State.present]

@[simp] theorem State.begun_servedBy (s : State) (m : Master) (k : List Key) (i : Nat) : servedBy (s.begun m k) i = servedBy s i := by
  simp [servedBy]

/-! ## Route tables (R319, R345, R354) -/

section
variable {s : State} {m : Master}

theorem exec_routeStage {v first : Nat} {es : List (BitVec 1024)} (h : s.Takes m 0x0B00 [.route]) (hst : s.route.st < 2)
    (hstaged : s.route.staged = none) (h1 : 1 ≤ es.length) (h30 : es.length ≤ 30) (h48 : first + es.length ≤ 48) (hv : v < 65536)
    (hres : ∀ e ∈ es, bits e.toNat 517 507 = 0)
    (hports : ∀ e ∈ es, ∀ p ∈ maskPorts (bits e.toNat 0 128 ||| bits e.toNat 128 128), (portMask (s.man.ports.map (·.1))).testBit p = true) :
    exec (.routeStage m v first es) s = .next (((s.begun m [.route]).modRoute fun r => { r with st := 1, committed := false, staged := (some
      { s.route.active with version := v
                            entries := (es.zipIdx first).foldl (fun t x => AMap.set t x.2 (routeEntryOf x.1)) s.route.active.entries }) }).answered m 0x0B00 OK) := by
  have hidle : ¬ (s.route.st = 2 ∨ s.route.st = 3) := by omega
  have hgood : (es.any fun e => bits e.toNat 517 507 != 0 ||
      (maskPorts (bits e.toNat 0 128 ||| bits e.toNat 128 128)).any (! (portMask (s.man.ports.map (·.1))).testBit ·)) = false := by
    refine List.any_eq_false.mpr fun e he => ?_
    simp only [hres e he, bne_self_eq_false, Bool.false_or, Bool.not_eq_true, List.any_eq_false, Bool.not_eq_true']
    exact fun p hp => by simp [hports e he p hp]
  refine done_row_answered h ?_ (by decide) (by simp) (by simp)
  simp only [State.begun_route, State.begun_man, hidle, hgood, hstaged, Nat.not_lt.mpr h1, Nat.not_lt.mpr h30, Nat.not_lt.mpr h48,
    Nat.not_le.mpr hv, Bool.false_eq_true, or_self, if_false]

theorem exec_routeCommit {v drain frames root : Nat} {affected : BitVec 512} {b : Bank} (h : s.Takes m 0x0B01 [.route])
    (hst : s.route.st < 2) (hstaged : s.route.staged = some b) (hv : b.version = v) (hdrain : s.time.lfc + 2 ≤ drain) (hframes : frames ≤ 255)
    (haffected : ∀ i < 48, entryPart (AMap.get {} b.entries i) ≠ entryPart (AMap.get {} s.route.active.entries i) →
      ∀ n ∈ servedBy s i, affected.toNat.testBit n = true)
    (hroot : root = 0x1FF ∨ ∃ p ∈ s.man.packages, p.node = root) :
    exec (.routeCommit m v drain frames affected root) s = .next (((s.begun m [.route]).modRoute fun r => { r with
      staged := some (withEscapes (s.begun m [.route]) b root), committed := true, drainAt := drain, drainFrames := if frames = 0 then 40 else frames
      affected := affected.toNat, root := root, drainedBy := [], sentDrained := false }).answered m 0x0B01 OK) := by
  have hidle : ¬ (s.route.st = 2 ∨ s.route.st = 3) := by omega
  have hinside : ((List.range 48).any fun i => entryPart (AMap.get {} b.entries i) != entryPart (AMap.get {} s.route.active.entries i) &&
      (servedBy s i).any fun n => ! affected.toNat.testBit n) = false := by
    refine List.any_eq_false.mpr fun i hi => ?_
    simp only [Bool.and_eq_true, bne_iff_ne, List.any_eq_true, not_and, not_exists, Bool.not_eq_true']
    exact fun hne n hn => by simp [haffected i (List.mem_range.mp hi) hne n hn]
  have hlisted : ¬ (root ≠ 0x1FF ∧ (! s.man.packages.any (·.node == root)) = true) := by
    rintro ⟨hne, hnone⟩
    obtain ⟨p, hp, hnode⟩ := hroot.resolve_left hne
    simp only [Bool.not_eq_true', List.any_eq_false, beq_iff_eq] at hnone
    exact hnone p hp hnode
  refine done_row_answered h ?_ (by decide) (by simp) (by simp)
  simp only [State.begun_route, State.begun_man, State.begun_time, State.begun_servedBy, hidle, hstaged, hinside, hlisted, hv,
    Nat.not_lt.mpr hdrain, Nat.not_lt.mpr hframes, ne_eq, not_true_eq_false, Bool.false_eq_true, or_self, if_false]

/-! ## Shares, meters, drops and Riffle (R336, R348, R350, R352, R353) -/

theorem exec_shareSet {l : List Nat} (h : s.Takes m 0x0B03 [.shares]) (h64 : l.length = 64) (hbyte : ∀ x ∈ l, x ≤ 255)
    (hsum : sumBy (max 1) l ≤ 256) :
    exec (.shareSet m l) s = .next (((s.begun m [.shares]).modRoute fun r => { r with
      sharesNext := some ((List.range 64).map fun i => (i, l.getD i 4)) }).answered m 0x0B03 OK) := by
  have hbytes : l.any (255 < ·) = false := List.any_eq_false.mpr fun x hx => by simp [hbyte x hx]
  refine done_row_answered h ?_ (by decide) (by simp) (by simp)
  simp only [h64, hbytes, Nat.not_lt.mpr hsum, ne_eq, not_true_eq_false, Bool.false_eq_true, or_self, if_false]

theorem exec_meterSet {p : Nat} {w : BitVec 128} (h : s.Takes m 0x0B05 [.meter p]) (hp : p < 64) (hres : bits w.toNat 65 63 = 0)
    (hrates : bits w.toNat 0 16 ≤ bits w.toNat 32 16) :
    exec (.meterSet m p w) s = .next (((s.begun m [.meter p]).modRoute fun r => { r with metersNext := (AMap.set r.metersNext p
      { cir := bits w.toNat 0 16, cbs := bits w.toNat 16 16, pir := bits w.toNat 32 16, pbs := bits w.toNat 48 16, en := bitAt w.toNat 64
        tc := bits w.toNat 16 16 * 1024, tp := bits w.toNat 48 16 * 1024 }) }).answered m 0x0B05 OK) := by
  refine done_row_answered h ?_ (by decide) (by simp) (by simp)
  simp only [Nat.not_le.mpr hp, hres, Nat.not_lt.mpr hrates, ne_eq, not_true_eq_false, or_self, if_false]

theorem exec_dropSet {y r : BitVec 64} (h : s.Takes m 0x0B06 [.drops]) (hy : bits y.toNat 0 16 < bits y.toNat 16 16)
    (hr : bits r.toNat 0 16 < bits r.toNat 16 16) (hyres : bits y.toNat 41 23 = 0) (hrres : bits r.toNat 41 23 = 0) :
    exec (.dropSet m y r) s = .next (((s.begun m [.drops]).modRoute fun x => { x with dropsNext := some (
      ({ min := bits y.toNat 0 16, max := bits y.toNat 16 16, pmax := bits y.toNat 32 8, en := bitAt y.toNat 40 } : Drop),
      ({ min := bits r.toNat 0 16, max := bits r.toNat 16 16, pmax := bits r.toNat 32 8, en := bitAt r.toNat 40 } : Drop)) }).answered m 0x0B06 OK) := by
  refine done_row_answered h ?_ (by decide) (by simp) (by simp)
  simp only [dropOf, Nat.not_le.mpr hy, Nat.not_le.mpr hr, hyres, hrres, decide_false, bne_self_eq_false, Bool.or_self, Bool.false_eq_true,
    or_self, if_false]

theorem exec_riffleSet {die i : Nat} {f : BitVec 64} {e w : Bool} (h : s.Takes m 0x0B07 [.riffle die]) (hdie : die < 4) (hi : i < 8)
    (hres : bits f.toNat 60 4 = 0) :
    exec (.riffleSet m die i f e w) s = .next (((s.begun m [.riffle die]).modRoute fun x => { x with riffle := (AMap.set x.riffle die
      { (AMap.get {} s.route.riffle die : Riffle) with
          filters := AMap.set (AMap.get {} s.route.riffle die : Riffle).filters i f
          sampled := AMap.set (AMap.get {} s.route.riffle die : Riffle).sampled i 0
          events := e, wrap := w }) }).answered m 0x0B07 OK) := by
  refine done_row_answered h ?_ (by decide) (by simp) (by simp)
  simp only [State.begun_route, Nat.not_le.mpr hdie, Nat.not_le.mpr hi, hres, ne_eq, not_true_eq_false, or_self, if_false]

/-! ## LINK_SET (R376) -/

/-- The keys of LINK_SET: the ports of its mask (R391). -/
abbrev linkSetKeys (ports : BitVec 128) : List Key := ((List.range 128).filter ports.toNat.testBit).map .port

theorem mem_maskPorts {n p : Nat} : p ∈ maskPorts n ↔ p < 128 ∧ n.testBit p = true := by
  rw [maskPorts, List.mem_filter, List.mem_range]

theorem maskPorts_nodup (n : Nat) : (maskPorts n).Nodup := List.nodup_range.filter _

/-- What LINK_SET without DOWN and RETRAIN writes to the record of a port. -/
def linkSettings (v : Nat) (x : Port) : Port := { x with maxRate := bits v 0 2, idleEn := bitAt v 2, idleUs := bits v 3 8, down := false }

theorem exec_linkSet {ports : BitVec 128} {v : BitVec 32} (h : s.Takes m 0x0390 (linkSetKeys ports)) (hflags : bits v.toNat 11 21 = 0)
    (hus : bits v.toNat 3 8 ≠ 0) (hpresent : ∀ p < 128, ports.toNat.testBit p = true → s.present p = true) :
    ∃ ps : AMap Port, exec (.linkSet m ports v) s =
        .next (State.answered { s.begun m (linkSetKeys ports) with ports := ps } m 0x0390 OK) ∧
      ∀ p, AMap.get {} ps p = if p < 128 ∧ ports.toNat.testBit p = true then linkSettings v.toNat (s.prt p) else s.prt p := by
  obtain ⟨ps, hfold, hget⟩ := foldl_modPrt (linkSettings v.toNat) (maskPorts_nodup ports.toNat) (s.begun m (linkSetKeys ports))
  have hres : bits v.toNat 13 19 = 0 := bits_eq_zero_within hflags (by decide) (by decide)
  have hretrain : bitAt v.toNat 11 = false := by rw [bitAt, bits_eq_zero_within hflags (by decide) (by decide)]; rfl
  have hdown : bitAt v.toNat 12 = false := by rw [bitAt, bits_eq_zero_within hflags (by decide) (by decide)]; rfl
  have hall : ((maskPorts ports.toNat).any fun p => ! s.present p) = false := by
    refine List.any_eq_false.mpr fun p hp => ?_
    obtain ⟨hlt, hbit⟩ := mem_maskPorts.mp hp
    simp [hpresent p hlt hbit]
  refine ⟨ps, done_row_answered h ?_ (by decide) (by simp) (by simp), fun p => ?_⟩
  · rw [← hfold]
    simp only [State.begun_present, hres, hus, hall, hretrain, hdown, ne_eq, not_true_eq_false, Bool.false_eq_true, false_and, or_self,
      if_false]
    rfl
  · simp only [hget p, mem_maskPorts, State.prt, State.begun_ports]

theorem exec_linkSet_absent {ports : BitVec 128} {p : Nat} (v : BitVec 32) (h : s.Takes m 0x0390 (linkSetKeys ports)) (hp : p < 128)
    (hbit : ports.toNat.testBit p = true) (habsent : s.present p = false) :
    exec (.linkSet m ports v) s = .next ((s.begun m (linkSetKeys ports)).answered m 0x0390 REFUSED) := by
  have hany : ((maskPorts ports.toNat).any fun p => ! s.present p) = true :=
    List.any_eq_true.mpr ⟨p, mem_maskPorts.mpr ⟨hp, hbit⟩, by rw [habsent]; rfl⟩
  refine done_row_answered h ?_ (by decide) (by simp) (by simp)
  simp only [State.begun_present, hany, or_true, if_true]

end

/-- Settles O18: each command accepts the operands that the statement allows, sets what it names and answers. -/
theorem routingAndLinkCommandsSetWhatTheyName : Obligations.RoutingAndLinkCommandsSetWhatTheyName := by
  unfold Obligations.RoutingAndLinkCommandsSetWhatTheyName
  exact ⟨fun s m v first es => exec_routeStage, fun s m v drain frames root affected b => exec_routeCommit, fun s m l => exec_shareSet,
    fun s m p w => exec_meterSet, fun s m y r => exec_dropSet, fun s m die i f e w => exec_riffleSet, fun s m ports v => exec_linkSet,
    fun s m ports v p => exec_linkSet_absent v⟩

end Sys2Proof.Machine
end

section
/-! SUPPORT. Frames, replays and neighbours of a port (R344, R358, R361–R365, R372, R459–R461): what a received frame does, case by case, what
a replay and a port that goes down leave, and what discovery notes of a port. -/
namespace Sys2Proof

theorem AMap.has_of_find {α : Type} {t : AMap α} {k : Nat} {v : α} (h : AMap.find t k = some v) : AMap.has t k = true := by
  induction t with
  | nil => simp [AMap.find] at h
  | cons e t ih =>
    by_cases hk : k = e.1
    · simp [AMap.has, hk]
    · simp only [AMap.find, hk, if_false] at h
      simp only [AMap.has, ih h, Bool.or_true]

end Sys2Proof

namespace Sys2Proof.Machine

/-! ## The zeros of an empty frame (R358) -/

theorem leNat_replicate_zero (n : Nat) : leNat (List.replicate n 0) = 0 := by
  induction n with
  | zero => rfl
  | succ n ih => rw [List.replicate_succ, leNat, ih]; rfl

/-- Filler alone holds no packet. -/
theorem nextPacket_zeros (port : Nat) {n k : Nat} (h : k ≤ n) : nextPacket port n (List.replicate (8 * k) 0) = (none, []) := by
  induction n generalizing k with
  | zero => rw [Nat.le_zero.mp h]; rfl
  | succ n ih =>
    cases k with
    | zero => rfl
    | succ k =>
      have hlong : ¬ 8 * (k + 1) < 8 := by omega
      simp only [nextPacket, List.length_replicate, hlong, if_false, List.take_replicate, leNat_replicate_zero, if_true, List.drop_replicate]
      exact ih (Nat.le_of_succ_le_succ h)

/-- A stream without a whole packet at its front keeps what is not filler. One step of the definition shows it; its equation lemmas are
costly to generate. -/
theorem takePackets_none {s : State} {port : Nat} {d : Bytes} (n : Nat) (h : nextPacket port 64 (s.prt port).rx = (none, d)) :
    takePackets s port (n + 1) = s.modPrt port fun x => { x with rx := d } := by
  conv => lhs; whnf
  rw [h]

/-- A stream of filler is taken whole. -/
theorem takePackets_zeros {s : State} {port n k : Nat} (hn : n ≠ 0) (hk : k ≤ 64) (hrx : (s.prt port).rx = List.replicate (8 * k) 0) :
    takePackets s port n = s.modPrt port fun x => { x with rx := [] } := by
  obtain ⟨n, rfl⟩ := Nat.exists_eq_succ_of_ne_zero hn
  exact takePackets_none n (by rw [hrx, nextPacket_zeros port hk])

/-! ## Frames in (R361–R365) -/

theorem carriesFrames_active {x : Port} (h : x.st = 2) : carriesFrames x = true := by
  rw [carriesFrames, h]; rfl

/-- A credit return adds its cells to the pool's, and notes what is still owed. -/
theorem applyReturn_eq (x : Port) (f : Frame) : ∃ c o, applyReturn x f = { x with credits := c, owed := o } ∧
    (f.pool ≤ 6 → f.count ≠ 0 → AMap.get 0 c f.pool = AMap.get 0 x.credits f.pool + f.count) := by
  unfold applyReturn
  split
  next hnone => exact ⟨x.credits, x.owed, rfl, fun hpool hcount => by omega⟩
  next => exact ⟨_, _, rfl, fun _ _ => AMap.get_modify_same ..⟩

/-- A port's answer to a frame: an empty frame of its own, by which it leaves idle. -/
def answeringFrame (x : Port) : Port := sendFrame { x with txIdle := false } (List.replicate 256 0) false

section
variable {s : State} {p : Nat} {f : Frame}

/-- At the two lower rates no FEC finds an error (R355). -/
theorem doLinkFrame_lowRate (h : (s.prt p).rate < 2) : doLinkFrame s p f = doLinkFrame s p { f with fecBad := false } := by
  have hlow : decide (2 ≤ (s.prt p).rate) = false := decide_eq_false (Nat.not_le.mpr h)
  simp only [doLinkFrame, hlow, Bool.and_false]
  rfl

variable (hp : s.present p = true) (hst : (s.prt p).st = 2) (hlen : f.payload.length = 256)
include hp hst hlen

/-- A port in service takes a whole frame. -/
theorem takesFrame : ¬ ((! s.present p) = true ∨ (! carriesFrames (s.prt p)) = true ∨ f.payload.length ≠ 256) := by
  simp only [hp, carriesFrames_active hst, hlen, Bool.not_true, Bool.false_eq_true, ne_eq, not_true_eq_false, or_self, not_false_eq_true]

theorem doLinkFrame_corrupt (hcrc : f.crc ≠ frameCrc f) : doLinkFrame s p f = s.setPrt p (answeringFrame { s.prt p with
    crcErr := satAdd 16 (s.prt p).crcErr 1, nakDue := ! (s.prt p).nakSent
    fecUncorr := satAdd 15 (s.prt p).fecUncorr (b2n (f.fecBad && decide (2 ≤ (s.prt p).rate))) }) := by
  refine (if_neg (takesFrame hp hst hlen)).trans ?_
  simp only [bne_iff_ne.mpr hcrc, Bool.or_true, if_true, State.prt_setPrt_same, State.setPrt_setPrt]
  exact if_pos (carriesFrames_active hst)

variable (hfec : f.fecBad = false) (hcrc : f.crc = frameCrc f)
include hfec hcrc

theorem doLinkFrame_unexpected (hseq : f.seq ≠ (s.prt p).expected) (hlast : (f.seq + 1) % 1024 ≠ (s.prt p).expected) :
    doLinkFrame s p f = s.setPrt p (answeringFrame { s.prt p with nakDue := ! (s.prt p).nakSent }) := by
  have hclean : (f.crc != frameCrc f) = false := bne_eq_false_iff_eq.mpr hcrc
  refine (if_neg (takesFrame hp hst hlen)).trans ?_
  simp only [hclean, hfec, Bool.false_and, Bool.or_self, Bool.false_eq_true, if_false, hseq, hlast, State.prt_setPrt_same, State.setPrt_setPrt]
  exact if_pos (carriesFrames_active hst)

/-- The expected frame, with a credit return beside filler. -/
theorem doLinkFrame_expected (hseq : f.seq = (s.prt p).expected) (hside : f.side = true) (hpay : f.payload = List.replicate 256 0)
    (hrx : (s.prt p).rx = []) :
    ∃ c o, doLinkFrame s p f = s.setPrt p (answeringFrame { s.prt p with
        expected := ((s.prt p).expected + 1) % 1024, nakSent := false, nakDue := false, rx := [], credits := c, owed := o }) ∧
      (f.pool ≤ 6 → f.count ≠ 0 → AMap.get 0 c f.pool = AMap.get 0 (s.prt p).credits f.pool + f.count) := by
  have hclean : (f.crc != frameCrc f) = false := bne_eq_false_iff_eq.mpr hcrc
  obtain ⟨c, o, hret, hcredits⟩ := applyReturn_eq { s.prt p with
    expected := ((s.prt p).expected + 1) % 1024, nakSent := false, nakDue := false, rx := (s.prt p).rx ++ f.payload } f
  have hfiller : (s.prt p).rx ++ f.payload = List.replicate (8 * 32) 0 := by rw [hrx, hpay]; rfl
  refine ⟨c, o, (if_neg (takesFrame hp hst hlen)).trans ?_, hcredits⟩
  simp only [hclean, hfec, Bool.false_and, Bool.or_self, Bool.false_eq_true, if_false, hseq, hside, if_true, hret]
  rw [takePackets_zeros (by decide) (show 32 ≤ 64 by decide) (by rw [State.prt_setPrt_same]; exact hfiller)]
  simp only [State.modPrt, State.prt_setPrt_same, State.setPrt_setPrt]
  exact if_pos (carriesFrames_active hst)

end

/-! ## Replay (R363, R364) -/

theorem exec_replayTimeout {s : State} {p : Nat} (hset : s.Settled) (hst : (s.prt p).st = 2) (hunacked : (s.prt p).replay ≠ [])
    (hcount : (s.prt p).replayCount < 7) :
    exec (.replayTimeout p) s = .next (s.modPrt p fun x => { x with
      tx := x.tx ++ x.replay, replays := satAdd 16 x.replays 1, replayCount := x.replayCount + 1 }) := by
  have hfew : ¬ 8 ≤ (s.prt p).replayCount + 1 := by omega
  refine done_next_of_eq ((if_pos (carriesFrames_active hst)).trans ((if_neg ?_).trans (if_neg hfew))) hset
  rwa [List.isEmpty_iff]

/-! ## Ports going down (R344, R372) -/

theorem present_of_manPort {s : State} {p : Nat} {e : PortEntry} (h : s.manPort p = some e) : s.present p = true := AMap.has_of_find h

theorem isEpPort_iff {s : State} {p : Nat} : isEpPort s p = true ↔ ∃ e, s.manPort p = some e ∧ e.endPoint = true := by
  unfold isEpPort epOf
  cases s.manPort p with
  | none => simp
  | some e => cases h : e.endPoint <;> simp [h]

/-- The record of a port that has gone down. -/
def downPort (x : Port) : Port := { leaveSets x with
  st := 5, rate := 0, downs := satAdd 8 x.downs 1, accepted := false, credits := [], owed := [], returns := [], replay := []
  rx := [], replayCount := 0, nakDue := false, nakSent := false, laneLock := 0, rateCapped := false, txIdle := false, rxIdle := false
  stepDue := false, identSent := false }

/-- An end point's port for which nothing is queued goes down by command: no neighbour is to be told. -/
theorem portDown_endPoint {s : State} {p : Nat} {e : PortEntry} (he : s.manPort p = some e) (hep : e.endPoint = true)
    (hout : s.fab.outq = []) :
    portDown s p none = (s.modPrt p downPort).modFab fun f => { f with outq := f.outq.filter (·.port != p) } := by
  simp only [portDown, he, hep, hout, if_true, List.filter_nil, List.foldl_nil]
  rfl

/-- The state in which an end point's port has gone down by command. -/
def State.commandedDown (s : State) (p : Nat) : State :=
  (s.setPrt p (downPort { s.prt p with down := true })).modFab fun f => { f with outq := f.outq.filter (·.port != p) }

theorem commandedDown_prt_same (s : State) (p : Nat) : (s.commandedDown p).prt p = downPort { s.prt p with down := true } :=
  s.prt_setPrt_same p _

theorem commandedDown_prt_other (s : State) (p : Nat) {k : Nat} (h : k ≠ p) : (s.commandedDown p).prt k = s.prt k :=
  s.prt_setPrt_other p _ h

theorem exec_linkDown_endPoint {s : State} {p : Nat} (hset : s.Settled) (hup : (s.prt p).st ≠ 5) (hout : s.fab.outq = [])
    (hport : isEpPort s p = true) : exec (.linkDown p) s = .next (s.commandedDown p) := by
  obtain ⟨e, he, hep⟩ := isEpPort_iff.mp hport
  have hlisted : ¬ (! s.present p) = true := by simp [present_of_manPort he]
  have hst : ((s.modPrt p fun x => { x with down := true }).prt p).st ≠ 5 := by simpa [State.modPrt] using hup
  have hgoes := portDown_endPoint (s := s.modPrt p fun x => { x with down := true }) he hep hout
  refine done_next_of_eq ((if_neg hlisted).trans ((if_neg hst).trans (hgoes.trans ?_))) hset
  simp only [State.commandedDown, State.modPrt, State.prt_setPrt_same, State.setPrt_setPrt]

/-! ## Discovery (R459–R461) -/

/-- An event is noted without a fault and without a change of a port, and so is the end of discovery. -/
theorem latchDisc_pushEvent (s : State) (code body : Nat) :
    (latchDisc (pushEvent s code body)).flt.raised = s.flt.raised ∧ (latchDisc (pushEvent s code body)).ports = s.ports := by
  obtain ⟨h, m, heq⟩ := pushEvent_eq s code body
  rw [latchDisc_raised, latchDisc_ports, heq]
  exact ⟨rfl, rfl⟩

/-- The state in which a port is recorded missing. -/
def State.missed (s : State) (p : Nat) (e : PortEntry) : State :=
  raise (s.modPrt p fun x => leaveSets { x with missing := true }) { die := dieOf 1 p, cls := 1, inst := p, cause := 4, node := e.node % 512 }

theorem exec_portMissing {s : State} {p : Nat} {e : PortEntry} (he : s.manPort p = some e) (hp : p < 128) (haccepted : (s.prt p).accepted = false)
    (hquar : (s.prt p).quarantined = false) (hmissing : (s.prt p).missing = false) (hheld : (s.prt p).heldDown = false)
    (hdown : (s.prt p).down = false) (hepo : (s.prt p).heldEpo = false) (h2 : 2 ≤ s.flt.phase) (h8 : s.flt.phase ≠ 8) :
    ∃ body, exec (.portMissing p) s = .next (settle (latchDisc (pushEvent (s.missed p e) 0x0302 body))) := by
  have hdue : doPortMissing s p = latchDisc (pushEvent (s.missed p e) 0x0302 (pack [(7, p), (9, e.node), (7, e.port),
      (8, min (livePorts (s.missed p e)).length 255)])) := by
    simp only [doPortMissing, he]
    refine if_neg ?_
    simp only [haccepted, hquar, hmissing, hheld, hdown, hepo, Bool.false_eq_true, false_or]
    omega
  exact ⟨_, congrArg done hdue⟩

theorem exec_identityBlock {s : State} {p : Nat} {e : PortEntry} (c node peer version : Nat) (o : Bytes) (he : s.manPort p = some e)
    (hp : p < 128) (hep : e.endPoint = false) (hst : (s.prt p).st = 2) (haccepted : (s.prt p).accepted = false)
    (hquar : (s.prt p).quarantined = false) (h2 : 2 ≤ s.flt.phase) (h8 : s.flt.phase ≠ 8) :
    exec (.identityBlock p c node peer version o) s = .next (settle (latchDisc (if objectOk 3 o (fun k => Config.identityPair k.1 k.2) &&
      node == e.node && peer == e.port && version == s.man.version then acceptPort s p else quarantinePort s p node peer))) := by
  refine congrArg done ?_
  simp only [doIdentity, he]
  refine if_neg ?_
  simp only [hep, haccepted, hquar, Bool.false_eq_true, false_or]
  omega

/-- Settles O52: a frame, a replay, a port going down and discovery's findings each do what the statement says. -/
theorem framesReplaysAndNeighboursOfAPort : Obligations.FramesReplaysAndNeighboursOfAPort := by
  unfold Obligations.FramesReplaysAndNeighboursOfAPort
  refine ⟨fun s p f hset hp hst hlen => ⟨fun hcrc => ?corrupt, fun hrate => congrArg done (doLinkFrame_lowRate hrate),
      fun hfec hcrc hseq hlast => ?unexpected, fun hfec hcrc hseq hside hpay hrx => ?expected⟩,
    fun s p => exec_replayTimeout, ?down, ?missing,
    fun s p c node peer version o e _ he hp hep => exec_identityBlock c node peer version o he hp hep⟩
  case corrupt => exact done_next_of_eq (doLinkFrame_corrupt hp hst hlen hcrc) hset
  case unexpected => exact done_next_of_eq (doLinkFrame_unexpected hp hst hlen hfec hcrc hseq hlast) hset
  case expected =>
    obtain ⟨c, o, heq, hcredits⟩ := doLinkFrame_expected hp hst hlen hfec hcrc hseq hside hpay hrx
    refine ⟨_, done_next_of_eq heq hset, ?_⟩
    rw [State.prt_setPrt_same]
    exact ⟨rfl, rfl, hcredits, rfl, fun k hk => s.prt_setPrt_other p _ hk⟩
  case down =>
    intro s p hset hup hout hport
    refine ⟨s.commandedDown p, exec_linkDown_endPoint hset hup hout hport, ?_⟩
    rw [commandedDown_prt_same]
    exact ⟨rfl, rfl, rfl, rfl, rfl, rfl, rfl, rfl, rfl, fun k hk => commandedDown_prt_other s p hk⟩
  case missing =>
    intro s p e hset he hp haccepted hquar hmissing hheld hdown hepo h2 h8
    obtain ⟨body, hexec⟩ := exec_portMissing he hp haccepted hquar hmissing hheld hdown hepo h2 h8
    obtain ⟨hraised, hports⟩ := latchDisc_pushEvent (s.missed p e) 0x0302 body
    have hprt : ∀ k, (latchDisc (pushEvent (s.missed p e) 0x0302 body)).prt k = (s.missed p e).prt k :=
      State.prt_of_ports hports
    have hown : (s.missed p e).prt p = leaveSets { s.prt p with missing := true } := s.prt_setPrt_same p _
    refine ⟨_, hexec, ?_, ?_, ?_, fun k hk => (hprt k).trans (s.prt_setPrt_other p _ hk)⟩
    · rw [hprt, hown]
      rfl
    · rw [hprt, hown]
      rfl
    · exact hraised.trans (congrArg (· ++ _) hset)

end Sys2Proof.Machine
end

section
/-! SUPPORT. The block as a whole and the mailbox's rows (R389, R390, R392, R393, R433, R439, R444, R457, R490, R491): every row ends with
its faults taken, and a row of the mailbox is held back, barred or served before its own operation is asked. -/
namespace Sys2Proof.Machine

/-! ## Every row -/

/-- Whatever a command does, it ends in a next state whose faults have been taken. -/
theorem exec_settles (c : Instr) (s : State) : ∃ u, exec c s = .next (settle u) := by
  cases c <;> exact ⟨_, rfl⟩

theorem exec_next_settled (c : Instr) (s : State) : ∃ t : State, exec c s = .next t ∧ t.Settled := by
  obtain ⟨u, hu⟩ := exec_settles c s
  exact ⟨settle u, hu, settle_raised u⟩

theorem step_nil {s : State} (h : s.pending = []) : step s = .next s := by simp only [step, h]

theorem step_cons {s : State} {c : Instr} {cs : List Instr} (h : s.pending = c :: cs) : step s = exec c { s with pending := cs } := by
  simp only [step, h]

/-- Settles O1: the two cases of the queue. -/
theorem aStepRunsTheCommandAtTheFrontOfTheQueue : Obligations.AStepRunsTheCommandAtTheFrontOfTheQueue :=
  ⟨fun _ _ => step_cons rfl, fun _ h => step_nil h⟩

/-- Settles O2: an empty queue leaves the state, and every command ends by taking its faults. -/
theorem everyStepAnswersAndTakesItsFaults : Obligations.EveryStepAnswersAndTakesItsFaults := by
  unfold Obligations.EveryStepAnswersAndTakesItsFaults
  have hstep : ∀ s : State, ∃ t : State, step s = .next t ∧ (s.Settled → t.Settled) := by
    intro s
    match hp : s.pending with
    | [] => exact ⟨s, step_nil hp, id⟩
    | c :: cs =>
      obtain ⟨t, ht, hset⟩ := exec_next_settled c { s with pending := cs }
      exact ⟨t, (step_cons hp).trans ht, fun _ => hset⟩
  refine ⟨fun s t hset ht => ?_, fun s => ?_, exec_next_settled⟩
  · obtain ⟨u, hu, hkeep⟩ := hstep s
    obtain rfl : u = t := by injection hu.symm.trans ht
    exact hkeep hset
  · obtain ⟨t, ht, _⟩ := hstep s
    exact ⟨t, ht⟩

/-! ## Rows of the mailbox -/

/-- A row of the mailbox asks first whether a command is in service, then whether its master and code are served. -/
theorem exec_mailboxRow {c : Instr} {m : Master} {code : Nat} (h : mailboxCode c = some (m, code)) :
    ∃ keys f, ∀ s, exec c s = done (direct s m code keys fun s => serve s m code f) := by
  cases c <;> cases h <;> exact ⟨_, _, fun _ => rfl⟩

/-- What only the management network may order: credentials, updates and the commands that say so of themselves (R382, R432, R433, R438,
R469, R509). -/
def mgmtOnly (code : Nat) : Prop :=
  code / 256 = 7 ∨ (0x0800 ≤ code ∧ code ≤ 0x0805) ∨ [0x0201, 0x0304, 0x0503, 0x0504, 0x0505].contains code = true

/-- To the host such a row answers DENIED once it is served. -/
theorem exec_mgmtRow {c : Instr} {code : Nat} (h : mailboxCode c = some (.host, code)) (hc : mgmtOnly code) :
    ∃ keys, ∀ s, exec c s = done (direct s .host code keys fun s => serve s .host code fun s => respond s .host code DENIED) := by
  -- the codes that are not the management network's alone contradict `hc`
  cases c <;> cases h <;> simp [mgmtOnly] at hc
  all_goals exact ⟨_, fun _ => rfl⟩

/-- Where no request waits, a command that begins marks none. -/
theorem begun_of_arrivals_nil {s : State} (h : s.mbx.arrivals = []) (m : Master) (keys : List Key) : s.begun m keys = s := by
  cases m with
  | host => rfl
  | mgmt =>
    change outrankWaiting s keys = s
    unfold outrankWaiting
    split
    · rfl
    · simp only [State.modMbx, h, List.map_nil]
      rw [← h]

/-- Where no request of the management network waits, none outranks the host. -/
theorem starts_of_mgmtSlots_nil {s : State} (hc : s.mbx.cur = none) (h : s.mbx.mgmtSlots = []) (m : Master) (keys : List Key) :
    s.Starts m keys := ⟨hc, .inr (by simp [outranks, h])⟩

/-- A row whose command is the first to come asks only whether it is served. -/
theorem exec_mailboxRow_first {c : Instr} {m : Master} {code : Nat} {s : State} (h : mailboxCode c = some (m, code)) (hc : s.mbx.cur = none)
    (ha : s.mbx.arrivals = []) (hm : s.mbx.mgmtSlots = []) : ∃ f, exec c s = done (serve s m code f) := by
  obtain ⟨keys, f, hrow⟩ := exec_mailboxRow h
  refine ⟨f, (hrow s).trans ?_⟩
  rw [direct_eq _ _ _ _ _ (starts_of_mgmtSlots_nil hc hm m keys), begun_of_arrivals_nil ha]

/-- Settles O4: the row waits for the command in service, and then for a mailbox to be reached. -/
theorem mailboxRowsAreHeldBackWhileOneIsServed : Obligations.MailboxRowsAreHeldBackWhileOneIsServed := by
  unfold Obligations.MailboxRowsAreHeldBackWhileOneIsServed
  refine ⟨fun c m code s h hset hcur => ?_, fun c m code s h hset hcur ha hm hg => ?_⟩
  · obtain ⟨keys, f, hrow⟩ := exec_mailboxRow h
    rw [hrow, direct_busy _ _ _ _ _ hcur, done_eq _ hset]
  · obtain ⟨f, hrow⟩ := exec_mailboxRow_first h hcur ha hm
    rw [hrow, serve, hg, done_eq _ hset]

theorem exec_powerSet_outranked {s : State} (f : Nat) (w : BitVec 64) (hset : s.Settled) (hc : s.mbx.cur = none)
    (ho : outranks s [.power] = true) (hs : s.Serves .host 0x0500) :
    exec (.powerSet .host f w) s = .next (respond s .host 0x0500 SUPERSEDED) := by
  have hrow : exec (.powerSet .host f w) s = done (respond s .host 0x0500 SUPERSEDED) := by
    change done (direct s .host 0x0500 [.power] _) = _
    simp only [direct, hc, ho, Option.isSome_none, Bool.false_eq_true, if_false, if_true]
    rw [serve_eq _ _ _ _ hs]
  rw [hrow, done_eq]
  rw [respond_eq _ _ _ _ _ hc]
  exact hset

/-- Settles O5: what bars a command answers for it, and it does nothing else. -/
theorem barredCommandsCompleteWithTheirStatusAndNoEffect : Obligations.BarredCommandsCompleteWithTheirStatusAndNoEffect := by
  unfold Obligations.BarredCommandsCompleteWithTheirStatusAndNoEffect
  refine ⟨fun c m code st s h hset hcur ha hm hg => ?gated, fun s f w hset hcur ho hs => ?outranked,
    fun c code s h hc hset hcur hm hs => ?denied⟩
  case gated =>
    obtain ⟨f, hrow⟩ := exec_mailboxRow_first h hcur ha hm
    rw [hrow, serve_gated _ _ _ _ _ hg, respond_eq _ _ _ _ _ hcur]
    exact ⟨_, done_eq _ hset, rfl, rfl, rfl, rfl⟩
  case outranked =>
    rw [exec_powerSet_outranked f w hset hcur ho hs, respond_eq _ _ _ _ _ hcur]
    exact ⟨_, rfl, rfl, rfl⟩
  case denied =>
    obtain ⟨keys, hrow⟩ := exec_mgmtRow h hc
    rw [hrow, row_eq _ _ _ _ _ ⟨hset, starts_of_mgmtSlots_nil hcur hm .host keys, hs⟩]
    exact done_respond hset hcur (by decide)

end Sys2Proof.Machine
end

section
/-! SUPPORT. The queries and statistics of the mailbox (R44, R105, R224, R258, R316, R354, R376, R393, R420, R424, R438, R443, R473, R480,
R481, R509): such a row answers from the state it finds, since no key of its own marks anything. -/
namespace Sys2Proof.Machine

/-! ## Rows without a key -/

/-- A row without a key that is served answers on the state as its operation leaves it. -/
theorem done_keyless {s t : State} {m : Master} {code st : Nat} {d : List (Nat × Nat)} {f : State → State} (h : s.Takes m code [])
    (hf : f s = respond t m code st d) (hst : st ≠ SUPERSEDED) (hflt : t.flt = s.flt) (hcur : t.mbx.cur = s.mbx.cur) :
    done (direct s m code [] fun s => serve s m code f) = .next (t.answered m code st d) :=
  done_row_answered h (by rw [s.begun_nil m, hf]) hst hflt hcur

/-- A query answers OK and leaves the state as it is. -/
theorem done_query {s : State} {m : Master} {code : Nat} {d : List (Nat × Nat)} {f : State → State} (h : s.Takes m code [])
    (hf : f s = respond s m code OK d) : done (direct s m code [] fun s => serve s m code f) = .next (s.answered m code OK d) :=
  done_keyless h hf (by decide) rfl rfl

/-- A command of groups 0x07 and 0x08 is the management network's to order. -/
theorem done_mgmtQuery {s : State} {code : Nat} {d : List (Nat × Nat)} {f : State → State} (h : s.Takes .mgmt code [])
    (hf : f s = respond s .mgmt code OK d) :
    done (direct s .mgmt code [] fun s => serveMgmt s .mgmt code f) = .next (s.answered .mgmt code OK d) :=
  done_query h hf

section
variable {s : State} {m : Master}

/-! ## Queries of the package (R44, R105, R376, R393, R420, R424, R438, R443, R473, R481) -/

theorem exec_ctxGet {c : Nat} (h : s.Takes m 0x0216 []) (hc : c < 4096) (hm : mayManage s m (s.ctx c).part = true) :
    exec (.ctxGet m c) s = .next (s.answered m 0x0216 OK ((8, regCtx (s.ctx c)) ::
      ((List.range 8).flatMap fun i => [(8, regSeg (AMap.get {} (s.ctx c).segs i) % 2 ^ 64), (8, regSeg (AMap.get {} (s.ctx c).segs i) / 2 ^ 64)]) ++
      [(8, (s.ctx c).refusals)])) := by
  refine done_query h ?_
  simp only [Nat.not_le.mpr hc, hm, Bool.not_true, Bool.false_eq_true, if_false]

theorem exec_discoveryGet {first count : Nat} (h : s.Takes m 0x0301 []) (h1 : 1 ≤ count) (h100 : count ≤ 100) (hlast : first + count ≤ 128) :
    exec (.discoveryGet m first count) s = .next (s.answered m 0x0301 OK ((4, count) :: (range' first count).flatMap fun p =>
      [(1, portState s p), (2, (s.prt p).peerNode), (1, (s.prt p).peerPort)])) :=
  done_query h (if_neg (by omega))

/-- The witnesses heard within the last 16 frames are those whose acknowledgement was noted then. -/
theorem exec_pairGet (h : s.Takes m 0x0303 []) :
    ∃ heard : List Nat, (∀ w, w ∈ heard ↔ w ∈ s.man.witnesses ∧ ∃ f, AMap.find s.flt.witnessAcks w = some f ∧ s.time.lfc < f + 16) ∧
      exec (.pairGet m) s = .next (s.answered m 0x0303 OK ([(1, pairReads s), (8, s.flt.heardPartner.getD 0), (4, heard.length)] ++
        (heard.map fun w => (2, w)) ++ [(1, b2n (leaseHeld s))])) :=
  ⟨_, fun w => by simp [List.mem_filter, Option.any_eq_true], done_query h rfl⟩

theorem exec_linkGet {first count : Nat} (h : s.Takes m 0x0391 []) (h1 : 1 ≤ count) (h100 : count ≤ 100) (hlast : first + count ≤ 128)
    (hpresent : ∀ p, first ≤ p → p < first + count → s.present p = true) :
    exec (.linkGet m first count) s = .next (s.answered m 0x0391 OK ((4, count) :: (range' first count).flatMap fun p =>
      [(4, regLinkStatus s p), (8, regLinkEq s p), (8, regLinkErr s p)])) := by
  have hall : (range' first count).any (! s.present ·) = false := List.any_eq_false.mpr fun p hp => by
    obtain ⟨hlo, hhi⟩ := (mem_range' first count p).mp hp
    simp [hpresent p hlo hhi]
  refine done_query h (if_neg ?_)
  simp only [hall, Bool.false_eq_true, or_false]
  omega

theorem exec_policyGet {p : Nat} (h : s.Takes m 0x0401 []) (hp : p < 64) (hm : mayManage s m p = true) :
    exec (.policyGet m p) s = .next (s.answered m 0x0401 OK [(16, policyBits (s.pol p))]) := by
  refine done_query h ?_
  simp only [hm, Bool.not_true, Bool.false_eq_true, if_false, Nat.not_lt.mpr (Nat.le_of_lt_succ hp)]

theorem exec_parcelGet {p : Nat} (h : s.Takes m 0x0404 []) (hp : p < poolParcels s)
    (hm : (s.ent p).st = 0 ∨ mayManage s m (s.ent p).owner = true) (hst : (s.ent p).st ≠ 2) :
    exec (.parcelGet m p) s = .next (s.answered m 0x0404 OK [(32, regDir (s.ent p))]) := by
  have hmay : ¬ ((s.ent p).st ≠ 0 ∧ (! mayManage s m (s.ent p).owner) = true) := by
    rcases hm with hm | hm <;> simp [hm]
  refine done_query h ?_
  simp only [Nat.not_le.mpr hp, hmay, hst, if_false]

theorem exec_powerPlanGet (h : s.Takes m 0x0502 []) :
    exec (.powerPlanGet m) s = .next (s.answered m 0x0502 OK
      [(32, segWord s.power.planNow), (32, (s.power.planNext.map segWord).getD 0)]) := by
  refine done_query h ?_
  cases s.power.planNext <;> rfl

theorem exec_faultGet {first : Nat} (h : s.Takes m 0x0600 []) (hf : first < 65536) :
    ∃ l : List Nat, (∀ h, h ∈ l ↔ h ∈ s.flt.history ∧ (bits h 0 16 + 65536 - first) % 65536 < 32768) ∧
      exec (.faultGet m first) s = .next (s.answered m 0x0600 OK
        ((4, l.length) :: (l.map fun h => (64, h)) ++ [(2, s.flt.seq), (2, min s.flt.lost 65535)])) :=
  ⟨_, fun x => by rw [List.mem_filter, decide_eq_true_eq], done_query h (if_neg (by omega))⟩

theorem mem_logFrom {first count r : Nat} (h : r ∈ logFrom s first count) : r ∈ s.mgmt.log ∧ first ≤ bits r 0 32 := by
  obtain ⟨hmem, hfirst⟩ := List.mem_filter.mp (List.mem_of_mem_take h)
  exact ⟨hmem, of_decide_eq_true hfirst⟩

theorem exec_logRead {first count : Nat} (h : s.Takes m 0x0111 []) (h1 : 1 ≤ count) (h31 : count ≤ 31) (hf : first < 2 ^ 32) :
    ∃ l : List Nat, l.length ≤ count ∧ (∀ r ∈ l, r ∈ s.mgmt.log ∧ first ≤ bits r 0 32) ∧ ∃ oldest newest : Nat,
      exec (.logRead m first count) s = .next (s.answered m 0x0111 OK
        ((4, l.length) :: (l.map fun r => (128, r)) ++ [(4, oldest), (4, newest)])) :=
  ⟨logFrom s first count, List.length_take_le _ _, fun _ hr => mem_logFrom hr, _, _, done_query h (if_neg (by omega))⟩

end

/-- Settles O11: each row is its command's own data, which answering does not disturb. -/
theorem packageQueriesAnswerAndChangeNothingElse : Obligations.PackageQueriesAnswerAndChangeNothingElse := by
  unfold Obligations.PackageQueriesAnswerAndChangeNothingElse
  exact ⟨fun s m h => done_query h rfl, fun s m c h hc hm => exec_ctxGet h hc hm,
    fun s m first count h h1 h100 hlast => exec_discoveryGet h h1 h100 hlast, fun s m h => exec_pairGet h,
    fun s m first count h h1 h100 hlast hp => exec_linkGet h h1 h100 hlast hp, fun s m h => done_query h rfl,
    fun s m p h hp hm => exec_policyGet h hp hm, fun s m p h hp hm hst => exec_parcelGet h hp hm hst, fun s m h => done_query h rfl,
    fun s m h => exec_powerPlanGet h, fun s m first h hf => exec_faultGet h hf,
    fun s m first count h h1 h31 hf => exec_logRead h h1 h31 hf⟩

section
variable {s : State} {m : Master}

/-! ## Queries of the services (R224, R258, R354, R480, R509) -/

/-- The components have 52 instances in all (R499). -/
theorem length_instances {α : Type} (f : Nat → Nat → α) :
    ((range' 1 7).flatMap fun c => (List.range (compInstances c)).map (f c)).length = 52 := by
  simp [range', compInstances]

theorem exec_updateStatus (h : s.Takes .mgmt 0x0705 []) :
    ∃ runs committed : List (Nat × Nat), runs.length = 52 ∧ committed.length = 7 ∧
      exec (.updateStatus .mgmt) s = .next (s.answered .mgmt 0x0705 OK
        ([(1, if s.mgmt.update.writing.isSome then 3 else if s.mgmt.update.verified.isSome ∧ s.mgmt.update.opened then 2
             else if s.mgmt.update.opened then 1 else 0), (1, b2n s.mgmt.update.flashInvalid), (4, 52)] ++ runs ++
         [(4, 7)] ++ committed ++ [(4, s.mgmt.update.skipped.length)] ++ s.mgmt.update.skipped.map fun k => (2, k))) := by
  have hruns := length_instances fun c i => (48, runDigest s c i)
  refine ⟨_, (range' 1 7).map fun c => (48, (s.mgmt.update.flash.bind fun i => i.digest c).getD 0), hruns, rfl, done_mgmtQuery h ?_⟩
  dsimp only
  rw [hruns]
  rfl

theorem exec_seqGet {c first : Nat} {x : SeqCtx} (h : s.Takes m 0x0901 []) (hx : s.seqCtx c = some x)
    (hm : mayManage s m (dPart x.desc.toNat) = true) (hf : first < dLayers x.desc.toNat) :
    exec (.seqGet m c first) s = .next (s.answered m 0x0901 OK
      ([(64, seqDescRead s c x), (4, ((List.range (dLayers x.desc.toNat)).map (seqLen x)).foldl min (2 ^ 32 - 1)),
        (4, ((List.range (dLayers x.desc.toNat)).map (seqLen x)).foldl max 0)] ++
      (4, min 480 (dLayers x.desc.toNat - first)) ::
      ((range' first (min 480 (dLayers x.desc.toNat - first))).flatMap fun l => [(4, seqLen x l), (4, seqRes x l)]) ++
      [(4, seqUnmirrored s x.desc.toNat)])) := by
  refine done_query h ?_
  simp only [hx, hm, Bool.not_true, Bool.false_eq_true, if_false, Nat.not_le.mpr hf]
  rfl

theorem exec_collGet {g slot : Nat} {n : CollNode} (h : s.Takes m 0x0A06 []) (hn : nodeOf s g = some (slot, n))
    (hm : mayManage s m n.part = true) :
    exec (.collGet m g) s = .next (s.answered m 0x0A06 OK [(64, regNodeSlot s slot), (2, n.apexNode), (2, n.n)]) := by
  refine done_query h ?_
  simp only [hn, hm, Bool.not_true, Bool.false_eq_true, if_false]

theorem exec_routeGet {bank first count : Nat} {b : Bank} (h : s.Takes m 0x0B02 []) (h1 : 1 ≤ count) (h30 : count ≤ 30)
    (hlast : first + count ≤ 48)
    (hb : (if bank = 0 then some s.route.active else if bank = 1 then s.route.staged else none) = some b) :
    exec (.routeGet m bank first count) s = .next (s.answered m 0x0B02 OK
      ((4, count) :: (range' first count).map fun i => (128, regEntry (AMap.get {} b.entries i)))) := by
  refine done_query h ?_
  simp only [hb]
  exact if_neg (by omega)

theorem exec_riffleRead {die seq : Nat} (h : s.Takes m 0x0B08 []) (hd : die < 4) :
    ∃ (l : List Nat) (oldest newest : Nat), l.length ≤ 60 ∧ (∀ x ∈ l, x ∈ (AMap.get {} s.route.riffle die).recs) ∧
      exec (.riffleRead m die seq) s = .next (s.answered m 0x0B08 OK ((4, l.length) :: (l.map fun x => (64, x)) ++
        [(4, oldest), (4, newest), (4, (AMap.get {} s.route.riffle die).lost)])) :=
  ⟨_, _, _, List.length_take_le 60 _, fun _ hx => List.mem_of_mem_drop (List.mem_of_mem_take hx),
    done_query h (if_neg (Nat.not_le.mpr hd))⟩

theorem readSensors_sampled {i v : Nat} (hv : AMap.find s.mgmt.sensors i = some v) : readSensors s i 1 = (s, [v]) := by
  simp only [readSensors, hv]

theorem readSensors_unsampled {i : Nat} (hv : AMap.find s.mgmt.sensors i = none) :
    readSensors s i 1 = ({ s with fresh := s.fresh + 1 }, [Config.free s.fresh % 65536]) := by
  simp only [readSensors, hv, State.draw]

/-- One sensor in range is answered as `readSensors` reads it. -/
theorem exec_sensorGet_one {t : State} {i v : Nat} (h : s.Takes m 0x0110 []) (hi : i < 176) (hr : readSensors s i 1 = (t, [v]))
    (hflt : t.flt = s.flt) (hcur : t.mbx.cur = s.mbx.cur) :
    exec (.sensorGet m i 1) s = .next (t.answered m 0x0110 OK [(4, 1), (2, v)]) := by
  refine done_keyless h ?_ (by decide) hflt hcur
  rw [if_neg (by omega), hr]
  rfl

end

/-- Settles O12: as the queries of the package; a sensor that nothing samples draws its value first. -/
theorem serviceQueriesAnswerAndChangeNothingElse : Obligations.ServiceQueriesAnswerAndChangeNothingElse := by
  unfold Obligations.ServiceQueriesAnswerAndChangeNothingElse
  exact ⟨fun s h => exec_updateStatus h, fun s h => done_mgmtQuery h rfl, fun s m c first x h hx hm hf => exec_seqGet h hx hm hf,
    fun s m g slot n h hn hm => exec_collGet h hn hm,
    fun s m first count h h1 h30 hlast => ⟨exec_routeGet h h1 h30 hlast rfl, fun b hb => exec_routeGet h h1 h30 hlast hb⟩,
    fun s m h => done_query h rfl, fun s m die seq h hd => exec_riffleRead h hd,
    fun s m i v h hi hv => exec_sensorGet_one h hi (readSensors_sampled hv) rfl rfl,
    fun s m i h hi hv => exec_sensorGet_one h hi (readSensors_unsampled hv) rfl rfl⟩

/-! ## Statistics (R105, R224, R258, R316, R354, R393) -/

/-- A statistics command answers on the state with its counts cleared (`t`), where it is told to clear them. -/
theorem done_stats {s t : State} {m : Master} {code : Nat} {d : List (Nat × Nat)} {f : State → State} {c : Bool} (h : s.Takes m code [])
    (hf : f s = respond (if c then t else s) m code OK d) (hflt : t.flt = s.flt) (hcur : t.mbx.cur = s.mbx.cur) :
    done (direct s m code [] fun s => serve s m code f) = .next ((if c then t else s).answered m code OK d) := by
  cases c with
  | false => exact done_query h hf
  | true => exact done_keyless h hf (by decide) hflt hcur

/-- Settles O13: what is cleared is no fault and no command in service. -/
theorem statisticsAnswerTheirCountsAndClear : Obligations.StatisticsAnswerTheirCountsAndClear := by
  unfold Obligations.StatisticsAnswerTheirCountsAndClear
  exact ⟨fun s m h => done_query h rfl, fun s m h => done_keyless h rfl (by decide) rfl rfl, fun s m c h => done_stats h rfl rfl rfl,
    fun s m c h => done_stats h rfl rfl rfl, fun s m c h => done_stats h rfl rfl rfl, fun s m c h => done_stats h rfl rfl rfl,
    fun s m c h => done_stats h rfl rfl rfl⟩

end Sys2Proof.Machine
end

section
/-! SUPPORT. The shared queues (R394–R400): what arming checks, then each of the host's accesses to a queue. -/
namespace Sys2Proof.Machine

theorem wedged_of_hostUp {s : State} (h : hostUp s = true) : s.host.wedged = false := by
  simp only [hostUp, Bool.and_eq_true, Bool.not_eq_true'] at h
  exact h.1.1

/-! ## Records of the queues -/

section
variable (s : State) (q : Nat) (x : SQueue)

@[simp] theorem State.squeue_setSqueue_same : (s.setSqueue q x).squeue q = x := AMap.get_set_same ..

theorem State.squeue_setSqueue_other {k : Nat} (h : k ≠ q) : (s.setSqueue q x).squeue k = s.squeue k := AMap.get_set_other _ _ _ h

@[simp] theorem State.qcfg_setSqueue (k : Nat) : (s.setSqueue q x).qcfg k = s.qcfg k := rfl

theorem State.setSqueue_setSqueue (y : SQueue) : (s.setSqueue q x).setSqueue q y = s.setSqueue q y := by
  simp only [State.setSqueue, State.modHost, AMap.set_set]

/-- An interrupt sent leaves the queues. -/
theorem State.squeue_irqs (v k : Nat) : (s.modHost fun h => { h with irqs := h.irqs ++ [v] }).squeue k = s.squeue k := rfl

end

/-! ## Interrupts of a queue (R385, R400) -/

/-- A vector that neither its own mask nor the function's holds back is sent. -/
theorem sendVector_unmasked {s : State} {v : Nat} (hm : (AMap.get ({} : Msix) s.host.msix v).masked = false)
    (hf : s.host.functionMask = false) : sendVector s v = s.modHost fun h => { h with irqs := h.irqs ++ [v] } := by
  simp [sendVector, hm, hf]

/-- A queue without interrupts, or whose condition does not hold, sends none. -/
theorem checkIrq_quiet {s : State} {q : Nat} (h : (s.qcfg q).irqEn = false ∨ irqDue (s.qcfg q) (s.squeue q) = false) : checkIrq s q = s := by
  rcases h with h | h <;> simp [checkIrq, h]

theorem checkIrq_due {s : State} {q : Nat} (hen : (s.qcfg q).irqEn = true) (harmed : (s.squeue q).armed = true)
    (hdue : irqDue (s.qcfg q) (s.squeue q) = true) :
    checkIrq s q = sendVector (s.setSqueue q { s.squeue q with armed := false }) (s.qcfg q).vec := by
  simp [checkIrq, hen, harmed, hdue]

/-- Whether a queue is armed is no part of its condition. -/
theorem irqDue_armed (c : QCfg) (x : SQueue) (b : Bool) : irqDue c { x with armed := b } = irqDue c x := rfl

section
variable {s : State} {q : Nat} (hset : s.Settled) (hu : hostUp s = true) (hq : q < 512)
include hset hu hq

/-! ## Pops (R398) -/

theorem exec_popRead_head {e : Nat} {es : List Nat} (hstuck : (s.squeue q).stuck = false) (he : (s.squeue q).entries = e :: es) :
    exec (.popRead q true false) s = .next (hostAnswer (s.setSqueue q { s.squeue q with
      entries := es, lastPop := e, heldItr := (s.squeue q).heldItr && ! es.isEmpty }) (.data (leBytes 64 e))) := by
  refine done_next_of_eq (u := doPop s q true false) ?_ hset
  simp [doPop, wedged_of_hostUp hu, hu, Nat.not_le.mpr hq, hstuck, he]

theorem exec_popRead_empty (he : (s.squeue q).entries = []) : exec (.popRead q true false) s =
    .next (hostAnswer (s.setSqueue q { s.squeue q with underrun := true }) (.data (leBytes 64 (s.squeue q).lastPop))) := by
  refine done_next_of_eq (u := doPop s q true false) ?_ hset
  simp [doPop, wedged_of_hostUp hu, hu, Nat.not_le.mpr hq, he]

theorem exec_popRead_partial : exec (.popRead q false false) s = .next (hostAnswer s (.data (List.replicate 64 0))) := by
  refine done_next_of_eq (u := doPop s q false false) ?_ hset
  simp [doPop, wedged_of_hostUp hu, hu, Nat.not_le.mpr hq]

/-! ## Settings, arming and clearing (R395, R396, R400) -/

/-- The setting that a write of QCFG takes: the type of a queue that is or will be enabled stays. -/
def writtenQcfg (old : QCfg) (v : Nat) : QCfg :=
  { en := bitAt v 0, ty := if old.en || bitAt v 0 then old.ty else bits v 1 2, quota := bits v 3 16, vec := bits v 19 11
    irqEn := bitAt v 30, thresh := bits v 31 16, itr := bits v 47 10 }

/-- What a write of QCFG makes of the queue: disabling empties it, enabling forgets the last entry popped. -/
def requeued (old : QCfg) (v : Nat) (x : SQueue) : SQueue :=
  if old.en = true ∧ (! bitAt v 0) = true then { x with entries := [], waiting := false, heldItr := false }
  else if bitAt v 0 = true ∧ (! old.en) = true then { x with lastPop := 0 } else x

omit hset hu hq in
theorem setQcfg_eq {v : Nat} (hres : bits v 57 7 = 0) (hty : bits v 1 2 ≠ 3) (hth : bits v 31 16 ≠ 0)
    (hirq : bitAt v 30 = false ∨ (s.qcfg q).irqEn = true) :
    setQcfg s q v = (s.modHost fun h => { h with qcfg := AMap.set h.qcfg q (writtenQcfg (s.qcfg q) v) }).setSqueue q
      (requeued (s.qcfg q) v (s.squeue q)) := by
  have hno : ¬ (bitAt v 30 = true ∧ (! (s.qcfg q).irqEn) = true) := by rcases hirq with h | h <;> simp [h]
  simp only [setQcfg, hres, hty, hth, hno, ne_eq, not_true_eq_false, or_self, if_false]
  rfl

omit hset hu hq in
theorem requeued_entries {old : QCfg} {v : Nat} (x : SQueue) (hen : old.en = true) (hdis : bitAt v 0 = false) :
    (requeued old v x).entries = [] := by
  simp [requeued, hen, hdis]

theorem exec_qcfgWrite (v : BitVec 64) (hres : bits v.toNat 57 7 = 0) (hty : bits v.toNat 1 2 ≠ 3) (hth : bits v.toNat 31 16 ≠ 0)
    (hirq : bitAt v.toNat 30 = false ∨ (s.qcfg q).irqEn = true) :
    ∃ t : State, exec (.qcfgWrite q v) s = .next t ∧ t.qcfg q = writtenQcfg (s.qcfg q) v.toNat ∧
      ((s.qcfg q).en = true → bitAt v.toNat 0 = false → (t.squeue q).entries = []) ∧ t = { s with host := t.host } ∧
      (∀ k, k ≠ q → t.qcfg k = s.qcfg k ∧ t.squeue k = s.squeue k) := by
  have hdo : doQcfg s q v.toNat = setQcfg s q v.toNat := if_neg (by simp [hu, Nat.not_le.mpr hq])
  refine ⟨_, done_next_of_eq (hdo.trans (setQcfg_eq hres hty hth hirq)) hset, AMap.get_set_same .., fun hen hdis => ?_, rfl,
    fun k hk => ⟨AMap.get_set_other _ _ _ hk, State.squeue_setSqueue_other _ _ _ hk⟩⟩
  rw [State.squeue_setSqueue_same]
  exact requeued_entries _ hen hdis

omit hset in
theorem doArm_eq : doArm s q = checkIrq (s.setSqueue q { s.squeue q with armed := true }) q := if_neg (by simp [hu, Nat.not_le.mpr hq])

theorem exec_queueArm_due (hen : (s.qcfg q).irqEn = true) (hdue : irqDue (s.qcfg q) (s.squeue q) = true)
    (hm : (AMap.get ({} : Msix) s.host.msix (s.qcfg q).vec).masked = false) (hf : s.host.functionMask = false) :
    ∃ t : State, exec (.queueArm q) s = .next t ∧ t.host.irqs = s.host.irqs ++ [(s.qcfg q).vec] ∧ (t.squeue q).armed = false ∧
      (t.squeue q).entries = (s.squeue q).entries := by
  have hcheck := checkIrq_due (s := s.setSqueue q { s.squeue q with armed := true }) (q := q) hen (by simp) (by simpa [irqDue_armed] using hdue)
  rw [State.squeue_setSqueue_same, State.setSqueue_setSqueue] at hcheck
  have hsend := (doArm_eq hu hq).trans (hcheck.trans (sendVector_unmasked hm hf))
  refine ⟨_, done_next_of_eq hsend hset, rfl, ?_, ?_⟩
  · rw [State.squeue_irqs, State.squeue_setSqueue_same]
  · rw [State.squeue_irqs, State.squeue_setSqueue_same]

theorem exec_queueArm_notDue (hdue : irqDue (s.qcfg q) (s.squeue q) = false) :
    exec (.queueArm q) s = .next (s.setSqueue q { s.squeue q with armed := true }) := by
  refine done_next_of_eq ((doArm_eq hu hq).trans (checkIrq_quiet (.inr ?_))) hset
  simpa [irqDue_armed] using hdue

theorem exec_qreset : exec (.qreset q) s =
    .next (s.setSqueue q { s.squeue q with entries := [], lostCells := 0, waiting := false, heldItr := false }) :=
  done_next_of_eq (u := doQreset s q) (if_neg (by simp [hu, Nat.not_le.mpr hq])) hset

theorem exec_qstatusFlagClear (u o b : Bool) :
    ∃ x : SQueue, exec (.qstatusFlagClear q u o b) s = .next (s.setSqueue q x) ∧ x.underrun = ((s.squeue q).underrun && ! u) ∧
      x.overflow = ((s.squeue q).overflow && ! o) ∧ x.broken = ((s.squeue q).broken && ! b) ∧ x.entries = (s.squeue q).entries :=
  ⟨_, done_next_of_eq (u := doFlags s q u o b) (if_neg (by simp [hu, Nat.not_le.mpr hq])) hset, rfl, rfl, rfl, rfl⟩

end

/-- A delay that expires marks what is held; a queue without interrupts sends none for it. -/
theorem exec_interruptModerationExpiry {s : State} {q : Nat} (hset : s.Settled) (hw : s.host.wedged = false)
    (hwait : (s.squeue q).waiting = true) (hen : (s.qcfg q).irqEn = false) :
    exec (.interruptModerationExpiry q) s = .next (s.setSqueue q { s.squeue q with
      waiting := false, heldItr := (s.squeue q).heldItr || ! (s.squeue q).entries.isEmpty }) := by
  have hdo : doModeration s q = checkIrq (s.setSqueue q { s.squeue q with
      waiting := false, heldItr := (s.squeue q).heldItr || ! (s.squeue q).entries.isEmpty }) q := if_neg (by simp [hw, hwait])
  exact done_next_of_eq (hdo.trans (checkIrq_quiet (.inl hen))) hset

/-- Settles O38: each access is one change of its queue's record, and arming checks its condition. -/
theorem sharedQueuesPopArmAndReset : Obligations.SharedQueuesPopArmAndReset := by
  unfold Obligations.SharedQueuesPopArmAndReset
  exact ⟨fun s q e es hset hu hq hstuck he => exec_popRead_head hset hu hq hstuck he,
    fun s q hset hu hq he => exec_popRead_empty hset hu hq he, fun s q hset hu hq => exec_popRead_partial hset hu hq,
    fun s q v hset hu hq hres hty hth hirq => exec_qcfgWrite hset hu hq v hres hty hth hirq,
    fun s q hset hu hq hen hdue hm hf => exec_queueArm_due hset hu hq hen hdue hm hf,
    fun s q hset hu hq hdue => exec_queueArm_notDue hset hu hq hdue, fun s q hset hu hq => exec_qreset hset hu hq,
    fun s q u o b hset hu hq => exec_qstatusFlagClear hset hu hq u o b,
    fun s q hset hw hwait hen => exec_interruptModerationExpiry hset hw hwait hen⟩

end Sys2Proof.Machine
end

section
/-! SUPPORT. Sluice (R404–R407): its doorbell and its ring, then a descriptor that is refused, denied or served. -/
namespace Sys2Proof.Machine

theorem exec_sluiceDb {s : State} {v : BitVec 64} (hset : s.Settled) (hu : hostUp s = true) (hv : v.toNat < 2 ^ s.host.sluice.sizeLog2) :
    exec (.sluiceDb v) s = .next (modSluice s fun x => { x with tail := v.toNat }) :=
  done_next_of_eq (u := doSluiceDb s v.toNat) (if_neg (by simp [hu, hv])) hset

/-- A new ring takes the place of the old one's head and tail within it. -/
theorem exec_sluiceRingWrite {s : State} {v : BitVec 64} (hset : s.Settled) (hu : hostUp s = true)
    (hidle : s.host.sluice.head = s.host.sluice.tail) (h6 : 6 ≤ bits v.toNat 0 4) (h12 : bits v.toNat 0 4 ≤ 12)
    (hres : bits v.toNat 4 8 = 0) :
    ∃ x : Sluice, exec (.sluiceRingWrite v) s = .next (modSluice s fun _ => x) ∧ x.sizeLog2 = bits v.toNat 0 4 ∧
      x.base = v.toNat / 2 ^ 12 ∧ x.head = x.tail ∧ x.head < 2 ^ x.sizeLog2 ∧ x.st = s.host.sluice.st ∧ x.gen = s.host.sluice.gen := by
  have hdo : doSluiceRing s v.toNat = modSluice s fun x => { x with
      sizeLog2 := bits v.toNat 0 4, base := v.toNat / 2 ^ 12, head := x.head % 2 ^ bits v.toNat 0 4, tail := x.tail % 2 ^ bits v.toNat 0 4 } :=
    if_neg (by simp [hu, sluiceBusy, hidle, Nat.not_lt.mpr h6, Nat.not_lt.mpr h12, hres])
  exact ⟨_, done_next_of_eq hdo hset, rfl, rfl, congrArg (· % _) hidle, Nat.mod_lt _ (Nat.two_pow_pos _), rfl, rfl⟩

/-- A completion goes to a queue of the host's and frees the ring's head (R407). -/
theorem sluiceEnd_flt (s : State) (d : SluiceDesc) (first gen : Nat) (r : Nat × Nat) : (sluiceEnd s d first gen r).flt = s.flt := by
  unfold sluiceEnd
  dsimp only
  obtain ⟨h, e⟩ := pushQueue_eq s d.cq 0
    (pack [(8, r.1), (8, 0xFF), (16, d.cookie), (12, s.host.sluice.head), (20, 0), (9, r.2), (23, 0), (64, first), (32, gen)])
  rw [e]
  rfl

/-- The next descriptor of the ring can be taken: the function answers, the ring is not empty, and nothing is in flight. -/
abbrev State.SluiceIdle (s : State) : Prop :=
  s.host.wedged = false ∧ s.host.sluice.head ≠ s.host.sluice.tail ∧ s.host.sluice.flight = none ∧ s.host.sluice.outstanding = 0

/-- The counter that a completion names first (R407). -/
def firstCtr (s : State) (d : SluiceDesc) : Nat := if d.dir then AMap.get 0 s.host.sluice.nextD2h s.host.sluice.gen else d.ctr

section
variable {s : State} {w : BitVec 512} {l : List (Bytes × Nat)} (hidle : s.SluiceIdle) {d : SluiceDesc} (hd : sluiceDesc w.toNat = d)
include hidle hd

omit hd in
theorem sluiceIdle_taken (hst : s.host.sluice.st ≠ 0) :
    ¬ (s.host.wedged = true ∨ s.host.sluice.st = 0 ∨ (! sluiceBusy s.host.sluice) = true ∨
      (s.host.sluice.flight.isSome = true ∧ s.host.sluice.flight ≠ some w) ∨ s.host.sluice.outstanding ≠ 0) := by
  obtain ⟨hw, hbusy, hflight, hout⟩ := hidle
  simp [hw, hst, sluiceBusy, hbusy, hflight, hout]

omit hd in
/-- With no descriptor in flight, the next is served under the session's own key generation. -/
theorem sluiceGen_idle : sluiceGen s.host.sluice = s.host.sluice.gen := by
  obtain ⟨_, _, hflight, _⟩ := hidle
  simp [sluiceGen, hflight]

/-- While the session is closed, a descriptor is denied (R406). -/
theorem doSluice_closed (hst : s.host.sluice.st = 2) : doSluice s w l = sluiceEnd s d (firstCtr s d) s.host.sluice.gen (DENIED, 0) := by
  have htaken := sluiceIdle_taken (w := w) hidle (by rw [hst]; decide)
  unfold doSluice
  extract_lets x d' ss g next
  have hd' : d' = d := hd
  clear_value d'
  rw [if_neg htaken, if_pos hst, hd', firstCtr, ← sluiceGen_idle hidle]

theorem doSluice_illFormed (hst : s.host.sluice.st = 1) (hok : sluiceOk s d = false) : doSluice s w l =
    sluiceEnd s d (firstCtr s d) s.host.sluice.gen (REFUSED, 0) := by
  have htaken := sluiceIdle_taken (w := w) hidle (by rw [hst]; decide)
  have hopen : ¬ s.host.sluice.st = 2 := by rw [hst]; decide
  unfold doSluice
  extract_lets x d' ss g next
  have hd' : d' = d := hd
  clear_value d'
  rw [if_neg htaken, if_neg hopen, hd', if_pos (by rw [hok]; rfl), firstCtr, ← sluiceGen_idle hidle]

variable (hst : s.host.sluice.st = 1) (hok : sluiceOk s d = true) (hheld : sluiceHeld s d = false)
include hst hok hheld

/-- A transfer out of the pool seals its segments in turn. -/
theorem doSluice_out (haway : sluiceAway s d = []) (hdir : d.dir = true) (hgood : s.host.sluice.failed = false) : doSluice s w l =
    sluiceEnd (sluiceOut s d (sluiceSegs d.len)).1 d (AMap.get 0 s.host.sluice.nextD2h s.host.sluice.gen) s.host.sluice.gen
      (sluiceOut s d (sluiceSegs d.len)).2 := by
  have htaken := sluiceIdle_taken (w := w) hidle (by rw [hst]; decide)
  have hopen : ¬ s.host.sluice.st = 2 := by rw [hst]; decide
  unfold doSluice
  extract_lets x d' ss g next
  have hss : ss = sluiceSegs d'.len := rfl
  have hd' : d' = d := hd
  clear_value ss d'
  subst hd' hss
  generalize sluiceOut s d' (sluiceSegs d'.len) = y
  obtain ⟨t, r⟩ := y
  rw [← sluiceGen_idle hidle]
  rw [if_neg htaken, if_neg hopen, if_neg (by simp [hok]), if_neg (by simp [hheld]), if_neg (by simp [haway]), if_pos hdir,
    if_neg (by simp [x, hgood])]

/-- A transfer into the pool opens its segments in turn, once every one has come with its length. -/
theorem doSluice_in (hdir : d.dir = false) (hlen : l.length = (sluiceSegs d.len).length)
    (hsegs : ∀ y ∈ (sluiceSegs d.len).zip l, y.2.1.length = y.1.2.2) {u : State}
    (hu : u = modSluice s fun x => { x with lastH2d := some (d.ctr + (sluiceSegs d.len).length - 1) }) : doSluice s w l =
    sluiceEnd (sluiceIn u d (sluiceSegs d.len) l).1 d d.ctr s.host.sluice.gen (sluiceIn u d (sluiceSegs d.len) l).2 := by
  have htaken := sluiceIdle_taken (w := w) hidle (by rw [hst]; decide)
  have hopen : ¬ s.host.sluice.st = 2 := by rw [hst]; decide
  have haway : sluiceAway s d = [] := by simp [sluiceAway, hdir]
  have hall : ((sluiceSegs d.len).zip l).any (fun y => y.2.1.length != y.1.2.2) = false :=
    List.any_eq_false.mpr fun y hy => by simp [hsegs y hy]
  unfold doSluice
  extract_lets x d' ss g next away sAway sIn
  have hss : ss = sluiceSegs d'.len := rfl
  have hIn : sIn = u := hu ▸ hd ▸ rfl
  have hd' : d' = d := hd
  clear_value sIn sAway away ss d'
  subst hd' hss hIn
  generalize sluiceIn sIn d' (sluiceSegs d'.len) l = y
  obtain ⟨t, r⟩ := y
  rw [← sluiceGen_idle hidle]
  rw [if_neg htaken, if_neg hopen, if_neg (by simp [hok]), if_neg (by simp [hheld]), if_neg (by simp [haway]), if_neg (by simp [hdir]),
    if_neg (by simp [hlen, hall])]

end

/-- Settles O40: the cases of a descriptor are those in which the ring's head completes. -/
theorem sluiceTakesItsRingAndCompletesDescriptors : Obligations.SluiceTakesItsRingAndCompletesDescriptors := by
  unfold Obligations.SluiceTakesItsRingAndCompletesDescriptors
  refine ⟨fun s v hset hu hv => exec_sluiceDb hset hu hv,
    fun s v hset hu hidle h6 h12 hres => exec_sluiceRingWrite hset hu hidle h6 h12 hres,
    fun s w l hset hw hst hbusy hflight hout => ?closed, fun s w l hset hw hst hbusy hflight hout hok => ?illFormed,
    fun s w l d _ hw hst hbusy hflight hout hd hok hheld haway hdir hgood => ?out,
    fun s u w l d _ hw hst hbusy hflight hout hd hok hheld hdir hlen hsegs hu => ?into⟩
  case closed => exact done_next_of_eq (doSluice_closed ⟨hw, hbusy, hflight, hout⟩ rfl hst) ((congrArg _ (sluiceEnd_flt ..)).trans hset)
  case illFormed => exact done_next_of_eq (doSluice_illFormed ⟨hw, hbusy, hflight, hout⟩ rfl hst hok) ((congrArg _ (sluiceEnd_flt ..)).trans hset)
  case out => exact congrArg done (doSluice_out ⟨hw, hbusy, hflight, hout⟩ hd hst hok hheld haway hdir hgood)
  case into => exact congrArg done (doSluice_in ⟨hw, hbusy, hflight, hout⟩ hd hst hok hheld hdir hlen hsegs hu)

end Sys2Proof.Machine
end

section
/-! SUPPORT. A wait on hardware that the statement about requests does not foresee (R104, R389, R495): that of a PARCEL_SET whose parcel is
still being cleared at a home elsewhere. -/
namespace Sys2Proof.Machine

/-- Such a wait goes on: its end answers nothing (R104). -/
theorem exec_waitEnd_clearing {s : State} {i : Nat} {w : HwWait} (hset : s.Settled) (hw : s.mbx.hwWait[i]? = some w)
    (hcode : w.resp.code = 0x0403) (hclear : clearingOut s = true) : exec (.serialiserHardwareWaitEnd i) s = .next s := by
  have hfinish : finishWait s w = (s, none) := by simp [finishWait, hcode, hclear]
  refine done_next_of_eq (u := doWaitEnd s i) ?_ hset
  simp only [doWaitEnd, hw, hfinish]

/-- A package that clears parcel 0 at a home elsewhere, for a PARCEL_SET of the management network. -/
def clearingElsewhere : State :=
  { mbx := { hwWait := [{ resp := { master := .mgmt, code := 0x0403, status := OK } }] }
    fab := { tracks := [{ owner := .clearing 0 false }] } }

/-- Refutes O33: its last clause excludes five codes whose wait does more than end, and not PARCEL_SET's, whose wait goes on while zeros
are still under way. -/
theorem not_requestsReachTheMailboxAndAreServedInOrder : ¬ Obligations.RequestsReachTheMailboxAndAreServedInOrder := by
  unfold Obligations.RequestsReachTheMailboxAndAreServedInOrder
  intro h
  obtain ⟨-, -, -, -, -, -, -, -, -, hend⟩ := h
  have hset : clearingElsewhere.Settled := rfl
  have hanswered := hend clearingElsewhere 0 _ hset rfl rfl rfl (by decide)
  rw [exec_waitEnd_clearing hset rfl rfl rfl] at hanswered
  injection hanswered with hstate
  have hserved := congrArg (fun s : State => s.mbx.served) hstate
  exact absurd hserved (by decide)

end Sys2Proof.Machine
end

section
/-! SUPPORT. The security commands (R402, R403, R488, R491, R509), each with operands it accepts. -/
namespace Sys2Proof.Machine

/-! ## Rows of the management network's own -/

theorem done_mgmtRow_answered {s t : State} {code : Nat} {d : List (Nat × Nat)} {keys : List Key} {f : State → State}
    (h : s.Takes .mgmt code keys) (hf : f (s.begun .mgmt keys) = respond t .mgmt code OK d) (hflt : t.flt = s.flt)
    (hcur : t.mbx.cur = s.mbx.cur) :
    done (direct s .mgmt code keys fun s => serveMgmt s .mgmt code f) = .next (t.answered .mgmt code OK d) :=
  done_row_answered h hf (by decide) hflt hcur

theorem done_mgmtRow_deferred {s t : State} {code st : Nat} {d : List (Nat × Nat)} {keys : List Key} {f : State → State}
    (h : s.Takes .mgmt code keys) (hf : f (s.begun .mgmt keys) = defer t .mgmt code st d) (hflt : t.flt = s.flt)
    (hcur : t.mbx.cur = s.mbx.cur) :
    done (direct s .mgmt code keys fun s => serveMgmt s .mgmt code f) = .next (t.deferred .mgmt code st d) :=
  done_row_deferred h hf hflt hcur

/-! ## Log records (R482) -/

/-- A record waits in the buffer, or is counted as dropped where that is full. -/
theorem logAdd_eq (s : State) (ty body : Nat) :
    ∃ b n, logAdd s ty body = s.modMgmt fun m => { m with logBuf := b, logDropped := n } := by
  by_cases hfull : 4096 ≤ s.mgmt.logBuf.length
  · exact ⟨s.mgmt.logBuf, s.mgmt.logDropped + 1, by simp [logAdd, State.modMgmt, hfull]⟩
  · exact ⟨s.mgmt.logBuf ++ [(ty, s.time.lfc, body)], s.mgmt.logDropped, by simp [logAdd, State.modMgmt, hfull]⟩


@[simp] theorem logAdd_revoked (s : State) (ty body : Nat) : (logAdd s ty body).mgmt.revoked = s.mgmt.revoked := by
  obtain ⟨b, n, e⟩ := logAdd_eq s ty body; rw [e]; rfl

@[simp] theorem logAdd_oagalLevel (s : State) (ty body : Nat) : (logAdd s ty body).mgmt.oagalLevel = s.mgmt.oagalLevel := by
  obtain ⟨b, n, e⟩ := logAdd_eq s ty body; rw [e]; rfl

@[simp] theorem logAdd_jtag (s : State) (ty body : Nat) : (logAdd s ty body).mgmt.jtag = s.mgmt.jtag := by
  obtain ⟨b, n, e⟩ := logAdd_eq s ty body; rw [e]; rfl

@[simp] theorem logAdd_update (s : State) (ty body : Nat) : (logAdd s ty body).mgmt.update = s.mgmt.update := by
  obtain ⟨b, n, e⟩ := logAdd_eq s ty body; rw [e]; rfl

/-! ## Credentials (R488, R491, R509) -/

@[simp] theorem State.begun_authOk (s : State) (m : Master) (k : List Key) (a : CredAuth) : authOk (s.begun m k) a = authOk s a := by
  have htrust : ownerTrust (s.begun m k) = ownerTrust s := by funext x; simp [ownerTrust]
  cases a <;> simp [authOk, htrust]

section
variable {s : State}

theorem exec_ownerSet {a : CredAuth} {rsa slh : Bytes} (h : s.Takes .mgmt 0x0800 [.security]) (ha : authOk s a = true) :
    exec (.ownerSet .mgmt a rsa slh) s = .next ((logSecurity ((s.begun .mgmt [.security]).modMgmt fun g => { g with
      ownerKeys := some (Config.keyId rsa, Config.keyId slh) }) 1).deferred .mgmt 0x0800 OK) := by
  refine done_mgmtRow_deferred h (if_neg ?_) (s.begun_flt ..) (s.begun_mbx_cur ..)
  simp [ha]

theorem exec_ownerSet_denied {a : CredAuth} {rsa slh : Bytes} (h : s.Takes .mgmt 0x0800 [.security]) (ha : authOk s a = false) :
    exec (.ownerSet .mgmt a rsa slh) s = .next ((s.begun .mgmt [.security]).deferred .mgmt 0x0800 DENIED) := by
  refine done_mgmtRow_deferred h (if_pos ?_) (s.begun_flt ..) (s.begun_mbx_cur ..)
  simp [ha]

theorem exec_credSet {a : CredAuth} {l : List Bytes} (h : s.Takes .mgmt 0x0801 [.security]) (h1 : 1 ≤ l.length) (h4 : l.length ≤ 4)
    (ha : authOk s a = true) :
    exec (.credSet .mgmt a l) s = .next ((logSecurity ((s.begun .mgmt [.security]).modMgmt fun g => { g with
      anchors := l }) 2).deferred .mgmt 0x0801 OK) := by
  have hl : ¬ (l.isEmpty = true ∨ 4 < l.length) := by
    rw [List.isEmpty_iff_length_eq_zero]
    omega
  refine done_mgmtRow_deferred h ?_ (s.begun_flt ..) (s.begun_mbx_cur ..)
  simp only [hl, State.begun_authOk, ha, Bool.not_true, Bool.false_eq_true, if_false]

theorem exec_svnRaise (h : s.Takes .mgmt 0x0803 [.security]) :
    exec (.svnRaise .mgmt) s = .next ((logSecurity ((s.begun .mgmt [.security]).modMgmt fun g => { g with
      minSvn := max s.mgmt.minSvn s.mgmt.update.running.svn }) 3).deferred .mgmt 0x0803 OK [(1, max s.mgmt.minSvn s.mgmt.update.running.svn)]) := by
  refine done_mgmtRow_deferred h ?_ (s.begun_flt ..) (s.begun_mbx_cur ..)
  simp only [State.begun_mgmt]

/-- A key pair joins the revoked ones, unless it is among them already. -/
theorem mem_revoke {l : List Nat} {k j : Nat} : (j ∈ if l.contains k then l else l ++ [k]) ↔ j ∈ l ∨ j = k := by
  split
  case isTrue hk =>
    have hk : k ∈ l := List.contains_iff_mem.mp hk
    exact ⟨.inl, fun hj => hj.elim id (· ▸ hk)⟩
  case isFalse => simp

theorem exec_keyRevoke {k : Nat} (h : s.Takes .mgmt 0x0804 [.security]) (hk : k ≤ 3) (hrun : s.mgmt.update.running.keyPair ≠ k) :
    exec (.keyRevoke .mgmt k) s = .next ((logSecurity ((s.begun .mgmt [.security]).modMgmt fun g => { g with
      revoked := if g.revoked.contains k then g.revoked else g.revoked ++ [k] }) 4).deferred .mgmt 0x0804 OK) := by
  refine done_mgmtRow_deferred h (if_neg ?_) (s.begun_flt ..) (s.begun_mbx_cur ..)
  simp only [State.begun_mgmt, hrun, or_false]
  exact Nat.not_lt.mpr hk

/-- What returning Oagal to level 0 leaves and what it changes (R508). -/
theorem oagalLock0_spec (s : State) : (oagalLock0 s).mgmt.oagalLevel = 0 ∧ (0 < s.mgmt.oagalLevel → (oagalLock0 s).mgmt.jtag = false) ∧
    oagalLock0 s = { s with mgmt := (oagalLock0 s).mgmt } := by
  unfold oagalLock0
  split
  case isTrue h0 => exact ⟨h0, fun hpos => absurd h0 (Nat.ne_of_gt hpos), rfl⟩
  case isFalse => exact ⟨by simp, fun _ => by simp, rfl⟩

theorem exec_oagalLock (h : s.Takes .mgmt 0x0805 [.security]) :
    exec (.oagalLock .mgmt) s = .next ((oagalLock0 (s.begun .mgmt [.security])).answered .mgmt 0x0805 OK) := by
  obtain ⟨_, _, hsame⟩ := oagalLock0_spec (s.begun .mgmt [.security])
  refine done_mgmtRow_answered h rfl ?_ ?_
  · rw [hsame]; exact s.begun_flt ..
  · rw [hsame]; exact s.begun_mbx_cur ..

/-! ## Sluice's sessions (R402, R403) -/

theorem exec_sluiceStart {n : Nat} (h : s.Takes .host 0x0820 [.security]) (hn : (n, spdmHost) ∈ s.mgmt.sessions)
    (hfresh : ¬ (s.host.sluice.st = 2 ∧ s.host.sluice.session = n)) (hidle : s.host.sluice.head = s.host.sluice.tail)
    (hlend : AMap.has s.mem.lends 15 = false) :
    exec (.sluiceStart .host n) s = .next ((s.modHost fun h => { h with
      conf := true
      sluice := { st := 1, session := n, sizeLog2 := h.sluice.sizeLog2, base := h.sluice.base, head := h.sluice.head
                  tail := h.sluice.tail } }).answered .host 0x0820 OK) := by
  refine done_row_answered h ?_ (by decide) rfl rfl
  have hmay : ¬ (Master.host ≠ .host ∨ (! s.mgmt.sessions.contains (n, spdmHost)) = true ∨
      (s.host.sluice.st = 2 ∧ s.host.sluice.session = n)) := by simp [hn, hfresh]
  have hfree : ¬ (sluiceBusy s.host.sluice = true ∨ AMap.has s.mem.lends 15 = true) := by simp [sluiceBusy, hidle, hlend]
  exact (if_neg hmay).trans (if_neg hfree)

/-- The answer goes out before the generation moves on. -/
theorem exec_sluiceRekey (h : s.Takes .host 0x0821 [.security]) (hst : s.host.sluice.st = 1) :
    exec (.sluiceRekey .host) s = .next ((s.answered .host 0x0821 OK [(4, (s.host.sluice.gen + 1) % 2 ^ 32)]).modHost fun h => { h with
      sluice := { h.sluice with gen := (h.sluice.gen + 1) % 2 ^ 32, lastH2d := none } }) := by
  have hrow := row_eq s .host 0x0821 [.security]
    (fun s => if Master.host ≠ .host ∨ s.host.sluice.st ≠ 1 then respond s .host 0x0821 DENIED
      else modSluice (respond s .host 0x0821 OK [(4, (s.host.sluice.gen + 1) % 2 ^ 32)]) fun x => { x with
        gen := (x.gen + 1) % 2 ^ 32, lastH2d := none }) h
  refine done_next_of_eq (hrow.trans ?_) h.raised
  rw [if_neg (by simp [State.begun, hst]), respond_answered _ _ _ _ _ ((s.begun_mbx_cur ..).trans h.cur) (by decide)]
  rfl

end

/-- Settles O23: each command changes its own part of the trust and of Sluice. -/
theorem securityCommandsChangeTrustAsAuthorised : Obligations.SecurityCommandsChangeTrustAsAuthorised := by
  unfold Obligations.SecurityCommandsChangeTrustAsAuthorised
  refine ⟨fun s a rsa slh h ha => exec_ownerSet h ha, fun s a rsa slh h ha => exec_ownerSet_denied h ha,
    fun s a l h h1 h4 ha => exec_credSet h h1 h4 ha, fun s h => exec_svnRaise h, fun s k h hk hrun => ?revoke, fun s h => ?lock,
    fun s n h hn hfresh hidle hlend => exec_sluiceStart h hn hfresh hidle hlend, fun s h hst => exec_sluiceRekey h hst⟩
  case revoke =>
    refine ⟨_, exec_keyRevoke h hk hrun, fun j => ?_, congrArg (· ++ _) (s.begun_mbx_hwWait ..), s.begun_mem .., s.begun_flt .., s.begun_host ..⟩
    have hrevoked : (((logSecurity ((s.begun .mgmt [.security]).modMgmt fun g => { g with
        revoked := if g.revoked.contains k then g.revoked else g.revoked ++ [k] }) 4).deferred .mgmt 0x0804 OK).mgmt.revoked) =
        if s.mgmt.revoked.contains k then s.mgmt.revoked else s.mgmt.revoked ++ [k] := by
      simp [State.deferred, logSecurity]
    rw [hrevoked]
    exact mem_revoke
  case lock =>
    obtain ⟨hlevel, hjtag, hsame⟩ := oagalLock0_spec (s.begun .mgmt [.security])
    rw [State.begun_mgmt] at hjtag
    refine ⟨_, exec_oagalLock h, hlevel, hjtag, rfl, ?_, ?_, ?_⟩
    · rw [hsame]; exact s.begun_mem ..
    · rw [hsame]; exact s.begun_flt ..
    · rw [hsame]; exact s.begun_host ..

end Sys2Proof.Machine
end

section
/-! SUPPORT. An activation of the SerDes firmware, whose first round a statement of the update commands does not foresee (R502). -/
namespace Sys2Proof.Machine

/-! ## UPDATE_ACTIVATE of component 4 -/

/-- An activation of the port dies begins with the ports of round 0, each die's own (R502). -/
theorem exec_updateActivate_ports {s : State} {mask d : Nat} {f : Bool} {n : Nat} {l : List Nat} (h : s.Takes .mgmt 0x0704 [.update])
    (hd : (s.mgmt.update.flash.bind fun i => i.digest 4) = some d) (hmask : mask < 2 ^ compInstances 4)
    (hidle : s.mgmt.update.activation = none)
    (hl : ((List.range (compInstances 4)).filter fun i => mask.testBit i && runDigest s 4 i != d) = n :: l) :
    exec (.updateActivate .mgmt 4 mask f) s = .next (((s.begun .mgmt [.update]).modUpd fun u => { u with
      activation := some { comp := 4, left := n :: l, force := f, ports := roundPorts (n :: l) 0 }
      skipped := [], handover := false }).deferred .mgmt 0x0704 OK) := by
  have hrun : runDigest (s.begun .mgmt [.update]) 4 = runDigest s 4 := by funext i; simp [runDigest]
  have hcomp : ¬ (compInstances 4 = 0 ∨ 2 ^ compInstances 4 ≤ mask) := by simp [compInstances] at hmask ⊢; omega
  refine done_mgmtRow_deferred h ?_ (s.begun_flt ..) (s.begun_mbx_cur ..)
  simp only [State.begun_mgmt, hd, hidle, hrun, hl, hcomp]
  rfl

/-- A package in phase 6 with a committed image that holds the SerDes firmware alone, which none of its ports runs. -/
def serdesStaged : State :=
  { flt := { phase := 6 }, mgmt := { ownerKeys := some (1, 1), update := { flash := some { comps := [{ id := 4, digest := 1 }] } } } }

/-- Refutes O22: its clause on UPDATE_ACTIVATE gives the activation no ports, also for component 4, where R502 has the port dies enter
round 0 at once: of the package above the activation of die 0 holds port 0. -/
theorem not_updateCommandsStageVerifyCommitAndActivate : ¬ Obligations.UpdateCommandsStageVerifyCommitAndActivate := by
  unfold Obligations.UpdateCommandsStageVerifyCommitAndActivate
  intro h
  obtain ⟨-, -, -, -, hactivate, -⟩ := h
  have htakes : serdesStaged.Takes .mgmt 0x0704 [.update] := by decide +kernel
  have htold := hactivate serdesStaged 4 1 1 false htakes (.inr (.inr rfl)) rfl (by decide) rfl ⟨0, by decide, rfl, by decide⟩
    (fun h => absurd h (by decide))
  have hports := exec_updateActivate_ports (s := serdesStaged) (mask := 1) (d := 1) (f := false) (n := 0) (l := []) htakes rfl
    (by decide) rfl (by decide)
  rw [htold] at hports
  injection hports with hstate
  have hround := congrArg (fun t : State => t.mgmt.update.activation.map (·.ports)) hstate
  exact absurd hround (by decide +kernel)

end Sys2Proof.Machine
end

section
/-! SUPPORT. The power commands (R421, R430, R432, R433, R434, R438, R440). -/
namespace Sys2Proof.Machine

/-! ## What POWER_SET asks (R421) -/

/-- The settings that POWER_SET gives, which leave the caps as they are. -/
def cfgOf (c : PowerCfg) (w : Nat) : PowerCfg :=
  { c with slewUp := bits w 12 6, slewDown := bits w 18 9, floorEn := bitAt w 27, safeCap := bits w 28 12, standbyEn := bitAt w 40
           gateEn := bitAt w 41, gateUs := bits w 42 10 }

/-- A cap and settings that the master may give. -/
def capAsked (m : Master) (w cap : Nat) : Prop :=
  800 ≤ cap ∧ cap ≤ 3000 ∧ match m with
    | .host => bits w 52 12 = cap ∧ bits w 0 52 = 0
    | .mgmt => bits w 0 12 = cap ∧ bits w 52 12 = 0 ∧ 1 ≤ bits w 12 6 ∧ bits w 12 6 ≤ 40 ∧ 40 ≤ bits w 18 9 ∧ bits w 18 9 ≤ 400 ∧
        800 ≤ bits w 28 12 ∧ bits w 28 12 ≤ 3000 ∧ 1 ≤ bits w 42 10

/-- The effective cap that a cap asked for would give. -/
def capWould (s : State) (m : Master) (cap : Nat) : Nat :=
  match m with
  | .host => min (if s.power.safe then s.power.cfg.safeCap else s.power.cfg.cap) cap
  | .mgmt => min cap s.power.cfg.hostCap

/-- The frame from which a cap asked for counts. -/
def capFrom (s : State) (f : Nat) : Nat := if f ≤ s.time.lfc then s.time.lfc + 1 else f

/-- A cap and settings held until their frame. -/
def heldCap (s : State) (m : Master) (f w cap : Nat) : State :=
  match m with
  | .host => s.modPower fun p => { p with pendHost := some (cap, capFrom s f) }
  | .mgmt => s.modPower fun p => { p with cfg := cfgOf s.power.cfg w, safe := false, pendMgmt := some (cap, capFrom s f) }

/-- The cap alone, at the place where the host gives it, is a word of its own. -/
theorem capAsked_host {cap : Nat} (h800 : 800 ≤ cap) (h3000 : cap ≤ 3000) : capAsked .host (BitVec.ofNat 64 (cap * 2 ^ 52)).toNat cap := by
  have hword : (BitVec.ofNat 64 (cap * 2 ^ 52)).toNat = cap * 2 ^ 52 := by
    rw [BitVec.toNat_ofNat]; omega
  refine ⟨h800, h3000, ?_, ?_⟩ <;> rw [hword] <;> unfold bits <;> omega

section
variable {s : State} {m : Master} {f cap : Nat} {w : BitVec 64}

/-- POWER_SET with what its master may give is SUPERSEDED by an action that it would undo, and otherwise plans with what it asks. -/
theorem exec_powerSet (h : s.Takes m 0x0500 [.power]) (hask : capAsked m w.toNat cap) (hf : f ≤ s.time.lfc + 65536) :
    exec (.powerSet m f w) s = done (
      if actionOn s = true ∧ s.power.actionPower < capWould s m cap ∧ capEff s < capWould s m cap then
        respond (s.begun m [.power]) m 0x0500 SUPERSEDED
      else respond (newPlan (heldCap (s.begun m [.power]) m f w.toNat cap)) m 0x0500 OK
        [(8, capFrom s f), (1, if f ≤ s.time.lfc then 1 else 0)]) := by
  refine (congrArg done (row_eq s m 0x0500 [.power] _ h)).trans (congrArg done ?_)
  have hlate : ∀ P : Prop, [Decidable P] → b2n (decide P) = if P then 1 else 0 := fun P _ => by by_cases hP : P <;> simp [hP, b2n]
  have hframe : ¬ s.time.lfc + 65536 < f := Nat.not_lt.mpr hf
  cases m with
  | host =>
    obtain ⟨h800, h3000, hcap, hrest⟩ := hask
    rw [show s.begun .host [.power] = s from rfl]
    simp [hcap, hrest, Nat.not_lt.mpr h800, Nat.not_lt.mpr h3000, hframe, hlate, capWould, heldCap, capFrom, actionOn, capEff]
  | mgmt =>
    obtain ⟨h800, h3000, hcap, hshape⟩ := hask
    simp [hcap, hshape, Nat.not_lt.mpr h800, Nat.not_lt.mpr h3000, hframe, hlate, capWould, heldCap, capFrom, actionOn, capEff, cfgOf]

/-! ## Outranked by an action (R434) -/

/-- A row that is SUPERSEDED as it begins changes the mailbox alone. -/
theorem done_superseded {code : Nat} {keys : List Key} (h : s.Takes m code keys) :
    ∃ t : State, done (respond (s.begun m keys) m code SUPERSEDED) = .next t ∧ t = { s with mbx := t.mbx } ∧
      t.mbx.resp = { master := m, code := code, status := SUPERSEDED, data := [] } := by
  obtain ⟨a, ha⟩ := s.begun_eq m keys
  rw [respond_eq (s.begun m keys) m code SUPERSEDED [] ((s.begun_mbx_cur ..).trans h.cur), ha]
  exact ⟨_, done_eq _ h.raised, rfl, rfl⟩

theorem exec_powerSet_superseded (h : s.Takes m 0x0500 [.power]) (hask : capAsked m w.toNat cap) (hf : f ≤ s.time.lfc + 65536)
    (hact : actionOn s = true) (hpower : s.power.actionPower < capWould s m cap) (hcap : capEff s < capWould s m cap) :
    ∃ t : State, exec (.powerSet m f w) s = .next t ∧ t = { s with mbx := t.mbx } ∧
      t.mbx.resp = { master := m, code := 0x0500, status := SUPERSEDED, data := [] } := by
  rw [exec_powerSet h hask hf, if_pos ⟨hact, hpower, hcap⟩]
  exact done_superseded h

theorem exec_powerResume_superseded (h : s.Takes .mgmt 0x0504 [.power]) (hepo : s.power.epo = true) (hact : actionOn s = true) :
    exec (.powerResume .mgmt) s = done (respond (s.begun .mgmt [.power]) .mgmt 0x0504 SUPERSEDED) := by
  refine congrArg done ((row_eq s .mgmt 0x0504 [.power] _ h).trans ?_)
  have hact : actionOn (s.begun .mgmt [.power]) = true := by simpa [actionOn] using hact
  simp [hepo, hact]

end

/-- Settles O8: both commands answer before they plan anything. -/
theorem actionsOutrankARiseOfTheCap : Obligations.ActionsOutrankARiseOfTheCap := by
  unfold Obligations.ActionsOutrankARiseOfTheCap
  refine ⟨fun s f cap h hact h800 h3000 hf hpower hcap => exec_powerSet_superseded h (capAsked_host h800 h3000) hf hact hpower hcap,
    fun s f w h hact hhost h800 h3000 hup1 hup40 hdown40 hdown400 hsafe800 hsafe3000 hgate hf hpower hcap => ?mgmt,
    fun s h hepo hact => ?resume⟩
  case mgmt =>
    exact exec_powerSet_superseded h ⟨h800, h3000, rfl, hhost, hup1, hup40, hdown40, hdown400, hsafe800, hsafe3000, hgate⟩ hf hact hpower hcap
  case resume =>
    rw [exec_powerResume_superseded h hepo hact]
    exact done_superseded h

section
variable {s : State} {m : Master} {f cap : Nat} {w : BitVec 64}

/-! ## Taken and planned (R421, R430, R432, R438) -/

theorem exec_powerSet_planned (h : s.Takes m 0x0500 [.power]) (hask : capAsked m w.toNat cap) (hf : f ≤ s.time.lfc + 65536)
    (hact : actionOn s = false) :
    exec (.powerSet m f w) s = .next ((newPlan (heldCap (s.begun m [.power]) m f w.toNat cap)).answered m 0x0500 OK
      [(8, capFrom s f), (1, if f ≤ s.time.lfc then 1 else 0)]) := by
  obtain ⟨a, ha⟩ := s.begun_eq m [.power]
  have hmbx : (newPlan (heldCap (s.begun m [.power]) m f w.toNat cap)).mbx = (s.begun m [.power]).mbx := by
    obtain ⟨_, _, _, _, hplan⟩ := newPlan_eq (heldCap (s.begun m [.power]) m f w.toNat cap)
    rw [hplan]; cases m <;> rfl
  have hflt : (newPlan (heldCap (s.begun m [.power]) m f w.toNat cap)).flt = (s.begun m [.power]).flt := by
    obtain ⟨_, _, _, _, hplan⟩ := newPlan_eq (heldCap (s.begun m [.power]) m f w.toNat cap)
    rw [hplan]; cases m <;> rfl
  rw [exec_powerSet h hask hf, if_neg (by simp [hact])]
  refine done_respond ?_ ?_ (by decide)
  · rw [hflt, State.begun_flt]; exact h.raised
  · rw [hmbx, State.begun_mbx_cur]; exact h.cur

theorem exec_powerHeartbeat (h : s.Takes .mgmt 0x0503 []) :
    exec (.powerHeartbeat .mgmt) s = .next ((s.modPower fun p => { p with hbAt := some s.time.lfc }).answered .mgmt 0x0503 OK) :=
  done_keyless h rfl (by decide) rfl rfl

theorem exec_powerResume_begins (h : s.Takes .mgmt 0x0504 [.power]) (hepo : s.power.epo = true) (hact : actionOn s = false)
    (hwait : s.power.epoOff + 1526 ≤ s.time.lfc) (hidle : s.power.resuming = false) :
    exec (.powerResume .mgmt) s = .next (((s.begun .mgmt [.power]).modPower fun p => { p with resuming := true }).deferred .mgmt 0x0504 OK) := by
  refine done_row_deferred h ?_ (s.begun_flt ..) (s.begun_mbx_cur ..)
  have hact : actionOn (s.begun .mgmt [.power]) = false := by simpa [actionOn] using hact
  simp [hepo, hact, hidle, Nat.not_lt.mpr hwait]

/-- A reported loss that ends is no fault. -/
theorem flowRecord_ended (s : State) : flowRecord s (s.modPower fun p => { p with flowReported := false }) =
    s.modPower fun p => { p with flowReported := false } := by
  refine if_neg ?_
  cases hself : s.power.flowSelf <;> simp [flowLoss, hself]

/-- A reported loss is a fault, where there was none before. -/
theorem flowRecord_begun (s : State) : flowRecord s (s.modPower fun p => { p with flowReported := true }) =
    if flowLoss s then s.modPower fun p => { p with flowReported := true } else
      raise (s.modPower fun p => { p with flowReported := true }) { die := 18, cls := 0x0C, cause := 2 } := by
  have hloss : flowLoss (s.modPower fun p => { p with flowReported := true }) = true := by simp [flowLoss]
  cases hbefore : flowLoss s <;> simp [flowRecord, hbefore, hloss]

theorem exec_flowReport_ended (h : s.Takes .mgmt 0x0505 []) :
    exec (.flowReport .mgmt false) s = .next ((s.modPower fun p => { p with flowReported := false }).answered .mgmt 0x0505 OK) :=
  done_keyless h (congrArg (respond · .mgmt 0x0505 OK) (flowRecord_ended s)) (by decide) rfl rfl

theorem exec_flowReport_begun (h : s.Takes .mgmt 0x0505 []) :
    exec (.flowReport .mgmt true) s = .next (settle ((if flowLoss s then s.modPower fun p => { p with flowReported := true } else
      raise (s.modPower fun p => { p with flowReported := true }) { die := 18, cls := 0x0C, cause := 2 }).answered .mgmt 0x0505 OK)) := by
  refine (congrArg done (row_eq s .mgmt 0x0505 [] _ h)).trans ?_
  have hcur : (if flowLoss s then s.modPower fun p => { p with flowReported := true } else
      raise (s.modPower fun p => { p with flowReported := true }) { die := 18, cls := 0x0C, cause := 2 }).mbx.cur = none := by
    split <;> exact h.cur
  rw [s.begun_nil .mgmt, if_neg (by decide), flowRecord_begun, respond_answered _ _ _ _ _ hcur (by decide)]
  rfl

end

/-- Settles O19: a new plan is drawn for a cap, and nothing else of the package moves. -/
theorem powerCommandsSetWhatTheyName : Obligations.PowerCommandsSetWhatTheyName := by
  unfold Obligations.PowerCommandsSetWhatTheyName
  refine ⟨fun s f w h hact hhost h800 h3000 hup1 hup40 hdown40 hdown400 hsafe800 hsafe3000 hgate hf => ?mgmt,
    fun s f cap h hact h800 h3000 hf => ?host, fun s h => exec_powerHeartbeat h,
    fun s h hepo hact hwait hidle => exec_powerResume_begins h hepo hact hwait hidle, fun s h => exec_flowReport_ended h,
    fun s h => exec_flowReport_begun h⟩
  case mgmt =>
    refine ⟨_, exec_powerSet_planned h ⟨h800, h3000, rfl, hhost, hup1, hup40, hdown40, hdown400, hsafe800, hsafe3000, hgate⟩ hf hact, ?_⟩
    obtain ⟨_, _, _, _, hplan⟩ := newPlan_eq (heldCap (s.begun .mgmt [.power]) .mgmt f w.toNat (bits w.toNat 0 12))
    rw [hplan]
    have hpower : (s.begun .mgmt [.power]).power = s.power := s.begun_power ..
    have htime : (s.begun .mgmt [.power]).time = s.time := s.begun_time ..
    exact ⟨by rw [← hpower]; rfl, rfl, by rw [← hpower]; rfl, by rw [← htime]; rfl, rfl, s.begun_mem .., s.begun_groups .., s.begun_fab ..,
      s.begun_flt ..⟩
  case host =>
    refine ⟨_, exec_powerSet_planned h (capAsked_host h800 h3000) hf hact, ?_⟩
    obtain ⟨_, _, _, _, hplan⟩ := newPlan_eq (heldCap (s.begun .host [.power]) .host f (BitVec.ofNat 64 (cap * 2 ^ 52)).toNat cap)
    rw [hplan]
    exact ⟨rfl, rfl, rfl, rfl, rfl, rfl, rfl, rfl⟩

end Sys2Proof.Machine
end

section
/-! SUPPORT. Taking faults, and the commands and events of faults (R439–R441, R443–R446, R450, R451, R472, R482, R500, R507). -/
namespace Sys2Proof.Machine

/-! ## Taking one fault (R439, R444) -/

/-- A capture as its register holds it: with the reaction in force and the tick. -/
def captureNow (s : State) (c : Capture) : Capture :=
  { c with reaction := s.reactionOf c.cls c.inst c.cause, tick := Config.free s.fresh % 10240 }

/-- The state with a fault captured, or lost where its die's register is occupied. -/
def captureOrLose (s : State) (c : Capture) : State :=
  State.modFlt { s with fresh := s.fresh + 1 } fun f =>
    if f.captures.any fun x => x.die == c.die then
      { f with lost := f.lost + 1, lostBefore := f.lostBefore + 1
               errPending := f.errPending || bitAt (s.reactionOf c.cls c.inst c.cause) 2 }
    else { f with captures := f.captures ++ [captureNow s c] }

/-- Faults already being taken are no part of what the next one finds. -/
def State.unraised (s : State) : State := s.modFlt fun f => { f with raised := [] }

theorem takeFault_plain (s : State) (c : Capture) (h5 : bitAt (s.reactionOf c.cls c.inst c.cause) 5 = false)
    (h4 : bitAt (s.reactionOf c.cls c.inst c.cause) 4 = false) : takeFault s c = captureOrLose s c := by
  simp only [takeFault, h5, h4, Bool.false_eq_true, if_false]
  rfl

theorem takeFault_package (s : State) (c : Capture) (h5 : bitAt (s.reactionOf c.cls c.inst c.cause) 5 = false)
    (h4 : bitAt (s.reactionOf c.cls c.inst c.cause) 4 = true) : takeFault s c = packageReaction (captureOrLose s c) := by
  simp only [takeFault, h5, h4, Bool.false_eq_true, if_false, if_true]
  rfl

/-- One fault whose taking raises no other. -/
theorem settle_one {s t : State} {c : Capture} (h : s.flt.raised = [c]) (ht : takeFault s.unraised c = t) (hr : t.flt.raised = []) :
    settle s = t := by
  subst ht
  simp only [settle, settleN, h]
  change settleN 3 (takeFault s.unraised c) = _
  generalize takeFault s.unraised c = u at hr ⊢
  simp only [settleN, hr]

theorem captureOrLose_raised (s : State) (c : Capture) : (captureOrLose s c).flt.raised = s.flt.raised := by
  unfold captureOrLose State.modFlt
  dsimp only
  split <;> rfl

theorem captureOrLose_free {s : State} {c : Capture} (h : ∀ x ∈ s.flt.captures, x.die ≠ c.die) : captureOrLose s c =
    State.modFlt { s with fresh := s.fresh + 1 } fun f => { f with captures := f.captures ++ [captureNow s c] } := by
  have hany : (s.flt.captures.any fun x => x.die == c.die) = false := by simpa using h
  simp only [captureOrLose, State.modFlt, hany, Bool.false_eq_true, if_false]

theorem captureOrLose_occupied {s : State} {c : Capture} (h : ∃ x ∈ s.flt.captures, x.die = c.die) : captureOrLose s c =
    State.modFlt { s with fresh := s.fresh + 1 } fun f => { f with
      lost := f.lost + 1, lostBefore := f.lostBefore + 1
      errPending := f.errPending || bitAt (s.reactionOf c.cls c.inst c.cause) 2 } := by
  have hany : (s.flt.captures.any fun x => x.die == c.die) = true := by simpa using h
  simp only [captureOrLose, State.modFlt, hany, if_true]

/-- Settles O6: the one fault is taken, and nothing is left to take. -/
theorem faultsAreCapturedOrCountedAsLost : Obligations.FaultsAreCapturedOrCountedAsLost := by
  unfold Obligations.FaultsAreCapturedOrCountedAsLost
  intro s c hraised h5 h4
  have htake : settle s = captureOrLose s.unraised c :=
    settle_one hraised (takeFault_plain s.unraised c h5 h4) (captureOrLose_raised ..)
  refine ⟨fun hfree => ?_, fun hocc => ?_⟩
  · rw [htake, captureOrLose_free (s := s.unraised) hfree]
    rfl
  · rw [htake, captureOrLose_occupied (s := s.unraised) hocc]
    rfl

/-! ## A row that may raise faults -/

/-- A row that answers on a state with faults to be taken takes them after the answer. -/
theorem done_row_settled {s t : State} {m : Master} {code st : Nat} {d : List (Nat × Nat)} {keys : List Key} {f : State → State}
    (h : s.Takes m code keys) (hf : f (s.begun m keys) = respond t m code st d) (hst : st ≠ SUPERSEDED) (hcur : t.mbx.cur = s.mbx.cur) :
    done (direct s m code keys fun s => serve s m code f) = .next (settle (t.answered m code st d)) := by
  rw [row_eq s m code keys f h, hf, respond_answered _ _ _ _ _ (hcur.trans h.cur) hst]
  rfl

theorem done_row_deferred_settled {s t : State} {m : Master} {code st : Nat} {d : List (Nat × Nat)} {keys : List Key} {f : State → State}
    (h : s.Takes m code keys) (hf : f (s.begun m keys) = defer t m code st d) (hcur : t.mbx.cur = s.mbx.cur) :
    done (direct s m code keys fun s => serve s m code f) = .next (settle (t.deferred m code st d)) := by
  rw [row_eq s m code keys f h, hf, defer_deferred _ _ _ _ _ (hcur.trans h.cur)]
  rfl

/-- A row that changes what is kept of faults, and raises none. -/
theorem done_row_unraised {s t : State} {m : Master} {code st : Nat} {d : List (Nat × Nat)} {keys : List Key} {f : State → State}
    (h : s.Takes m code keys) (hf : f (s.begun m keys) = respond t m code st d) (hst : st ≠ SUPERSEDED)
    (hr : t.flt.raised = s.flt.raised) (hcur : t.mbx.cur = s.mbx.cur) :
    done (direct s m code keys fun s => serve s m code f) = .next (t.answered m code st d) :=
  (done_row_settled h hf hst hcur).trans (congrArg _ (settle_eq _ (hr.trans h.raised)))

theorem done_row_deferred_unraised {s t : State} {m : Master} {code st : Nat} {d : List (Nat × Nat)} {keys : List Key} {f : State → State}
    (h : s.Takes m code keys) (hf : f (s.begun m keys) = defer t m code st d) (hr : t.flt.raised = s.flt.raised)
    (hcur : t.mbx.cur = s.mbx.cur) :
    done (direct s m code keys fun s => serve s m code f) = .next (t.deferred m code st d) :=
  (done_row_deferred_settled h hf hcur).trans (congrArg _ (settle_eq _ (hr.trans h.raised)))

theorem State.begun_raised (s : State) (m : Master) (k : List Key) : (s.begun m k).flt.raised = s.flt.raised :=
  congrArg FaultS.raised (s.begun_flt m k)

/-! ## A unit that returns (R451) -/

@[simp] theorem State.begun_mayReturn (s : State) (m : Master) (k : List Key) (cls inst : Nat) :
    mayReturn (s.begun m k) cls inst = mayReturn s cls inst := by
  simp [mayReturn]

theorem freshStacks_flt (l : List Nat) (s : State) : (l.foldl freshStack s).flt = s.flt := by
  induction l generalizing s with
  | nil => rfl
  | cons n l ih => exact (ih (freshStack s n)).trans rfl

theorem freshStacks_mbx (l : List Nat) (s : State) : (l.foldl freshStack s).mbx = s.mbx := by
  induction l generalizing s with
  | nil => rfl
  | cons n l ih => exact (ih (freshStack s n)).trans rfl

/-- The units that leave the fenced ones with a unit that returns. -/
def returning (cls inst : Nat) (u : Fenced) : Bool :=
  (u.cls == cls && u.inst == inst) || (cls == 5 && u.cls == 6 && u.inst == inst) ||
    (cls == 7 && (u.cls == 5 || u.cls == 6) && u.inst / 8 == inst)

/-- A unit's return is noted with the faults, and answers no command. -/
theorem returnUnit_keeps (s : State) (cls inst : Nat) : (returnUnit s cls inst).mbx = s.mbx ∧
    (returnUnit s cls inst).flt = { s.flt with
      fenced := s.flt.fenced.filter fun u => ! returning cls inst u
      returnedAt := AMap.set s.flt.returnedAt (cls * 65536 + inst) (s.time.lfc + 1) } := by
  unfold returnUnit
  extract_lets u v
  have hmbx : u.mbx = s.mbx := rfl
  have hflt : u.flt = { s.flt with
    fenced := s.flt.fenced.filter fun u => ! returning cls inst u
    returnedAt := AMap.set s.flt.returnedAt (cls * 65536 + inst) (s.time.lfc + 1) } := rfl
  rw [← hflt, ← hmbx]
  clear_value u
  split_ifs
  · exact ⟨rfl, rfl⟩
  · exact ⟨rfl, rfl⟩
  · exact ⟨rfl, rfl⟩
  · exact ⟨rfl, rfl⟩
  · exact ⟨freshStacks_mbx _ _, freshStacks_flt _ _⟩
  · exact ⟨rfl, rfl⟩

section
variable {s : State} {m : Master} {cls inst : Nat}

/-! ## The fault commands (R440, R441, R443, R451, R472, R507) -/

/-- A reaction that the class allows, for one unit, other than the default. -/
theorem exec_faultSet {r : Nat} (h : s.Takes m 0x0601 [.fault cls inst]) (hsource : sourceOk' cls inst = true) (hinst : inst ≠ 0xFFFF)
    (hr : r < 64) (hfence : bitAt r 5 = true → cls ≤ 9) (hblock : bitAt r 3 = true → cls ≠ 4 ∧ cls ≠ 9 ∧ cls ≠ 0x0A)
    (hfixed : (r &&& classFixed cls) = classFixed cls) (hdefault : isDefault cls r = false) :
    exec (.faultSet m cls inst r) s = .next (((s.begun m [.fault cls inst]).modFlt fun f => { f with
      reactions := AMap.set (AMap.erase f.reactions (cls * 65536 + inst)) (cls * 65536 + inst) r
      toFlash := AMap.set f.toFlash (cls * 65536 + inst) (some r) }).answered m 0x0601 OK) := by
  have hlegal : ¬ ((! decide (inst = 0xFFFF ∧ 1 ≤ cls ∧ cls ≤ 18 ∨ sourceOk' cls inst = true)) = true ∨ 63 < r ∨
      (bitAt r 5 = true ∧ 9 < cls) ∨ (bitAt r 3 = true ∧ (cls = 4 ∨ cls = 9 ∨ cls = 0x0A)) ∨ (r &&& classFixed cls) ≠ classFixed cls) := by
    rintro (hbad | hbad | ⟨h5, hbad⟩ | ⟨h3, hbad⟩ | hbad)
    · simp [hsource] at hbad
    · omega
    · exact absurd (hfence h5) (Nat.not_le.mpr hbad)
    · obtain ⟨h4, h9, hA⟩ := hblock h3
      exact hbad.elim h4 (·.elim h9 hA)
    · exact hbad hfixed
  refine done_row_unraised h ((if_neg hlegal).trans ?_) (by decide) (s.begun_raised ..) (s.begun_mbx_cur ..)
  simp only [hdefault, hinst]
  rfl

theorem exec_faultAck {n : Nat} (h : s.Takes m 0x0602 []) (hn : n < 65536) :
    exec (.faultAck m n) s = .next ((s.modFlt fun f => { f with acked := n, errPending := false }).answered m 0x0602 OK) :=
  done_row_unraised h (by rw [s.begun_nil m]; exact if_neg (by omega)) (by decide) rfl rfl

theorem exec_unitFence (h : s.Takes m 0x0603 [.fault cls inst]) (h1 : 1 ≤ cls) (h9 : cls ≤ 9) (hinst : inst < classCount cls)
    (hpresent : cls = 1 → s.present inst = true) :
    exec (.unitFence m cls inst) s = .next (settle ((raise (s.begun m [.fault cls inst])
      { die := dieOf cls inst, cls := cls, inst := inst, cause := 0 }).deferred m 0x0603 OK)) := by
  refine done_row_deferred_settled h (if_neg ?_) (s.begun_mbx_cur ..)
  rintro (hbad | hbad | hbad | ⟨hport, hbad⟩)
  · omega
  · omega
  · omega
  · simp [hpresent hport] at hbad

theorem exec_unitReturn (h : s.Takes m 0x0604 [.fault cls inst]) (hmay : mayReturn s cls inst = true)
    (hact : cls = 5 → (s.stk inst).activating = false) (selfTest : Bool) :
    exec (.unitReturn m cls inst selfTest) s = .next (State.deferred
      (if selfTest then returnUnit (s.begun m [.fault cls inst]) cls inst else s.begun m [.fault cls inst]) m 0x0604
      (if selfTest then OK else REFUSED)) := by
  obtain ⟨hmbx, hflt⟩ := returnUnit_keeps (s.begun m [.fault cls inst]) cls inst
  have hidle : ¬ (cls = 5 ∧ ((s.begun m [.fault cls inst]).stk inst).activating = true) := fun ⟨h5, hbad⟩ => by
    simp [hact h5] at hbad
  refine done_row_deferred_unraised h ((if_neg hidle).trans (if_neg ?_)) ?_ ?_
  · simp [hmay]
  · cases selfTest with
    | false => exact s.begun_raised ..
    | true => exact (congrArg FaultS.raised hflt).trans (s.begun_raised ..)
  · cases selfTest with
    | false => exact s.begun_mbx_cur ..
    | true => exact (congrArg MbxS.cur hmbx).trans (s.begun_mbx_cur ..)

theorem injectN_mbx (s : State) (c : Capture) (n : Nat) : (injectN s c n).mbx = s.mbx := by
  induction n generalizing s with
  | zero => rfl
  | succ n ih => exact (ih (raise s c)).trans rfl

/-- A source and a cause that exist, and a count that may be injected. -/
theorem injectable {cause n : Nat} (hsource : sourceOk' cls inst = true) (h1 : 1 ≤ cause) (hcause : cause ≤ causeCount cls) (hn : 1 ≤ n)
    (h255 : n ≤ 255) : ¬ ((! sourceOk' cls inst) = true ∨ cause = 0 ∨ causeCount cls < cause ∨ n < 1 ∨ 255 < n) := by
  simp only [hsource, Bool.not_true, Bool.false_eq_true, false_or]
  omega

theorem exec_faultInject {cause n : Nat} (h : s.Takes m 0x0606 [.fault cls inst]) (hsource : sourceOk' cls inst = true) (h1 : 1 ≤ cause)
    (hcause : cause ≤ causeCount cls) (hn : 1 ≤ n) (h255 : n ≤ 255) (hlevel : 2 ≤ s.mgmt.oagalLevel) :
    exec (.faultInject m cls inst cause n) s = .next (settle ((injectN (s.begun m [.fault cls inst])
      { die := raiseDie cls inst, cls := cls, inst := inst, cause := cause } n).answered m 0x0606 OK)) := by
  have hopen : ¬ (s.begun m [.fault cls inst]).mgmt.oagalLevel < 2 := by rw [s.begun_mgmt]; omega
  exact done_row_settled h ((if_neg (injectable hsource h1 hcause hn h255)).trans (if_neg hopen)) (by decide)
    ((congrArg MbxS.cur (injectN_mbx ..)).trans (s.begun_mbx_cur ..))

end

/-- Settles O20: each command with operands it accepts; faults are taken after the answer. -/
theorem faultCommandsReactAcknowledgeFenceAndReturn : Obligations.FaultCommandsReactAcknowledgeFenceAndReturn := by
  unfold Obligations.FaultCommandsReactAcknowledgeFenceAndReturn
  exact ⟨fun s m cls inst r h hsource hinst hr hfence hblock hfixed hdefault => exec_faultSet h hsource hinst hr hfence hblock hfixed hdefault,
    fun s m n h hn => exec_faultAck h hn, fun s m cls inst h h1 h9 hinst hpresent => exec_unitFence h h1 h9 hinst hpresent,
    fun s m cls inst h hmay hact => ⟨exec_unitReturn h hmay hact true, exec_unitReturn h hmay hact false⟩,
    fun s m cls inst cause n h hsource h1 hcause hn h255 hlevel => exec_faultInject h hsource h1 hcause hn h255 hlevel⟩

end Sys2Proof.Machine
end

section
/-! SUPPORT. The events of faults (R439–R441, R444–R446, R450, R451, R482, R500). -/
namespace Sys2Proof.Machine

/-! ## A fault that resets the package (R439, R452) -/

theorem setPhase_flt (s : State) (p : Nat) : (setPhase s p).flt = { s.flt with phase := p } := by
  obtain ⟨_, _, hevent⟩ := pushEvent_eq (s.modFlt fun f => { f with phase := p }) 0x0305 p
  exact (congrArg State.flt hevent).trans rfl

/-- Telling the partner and the witnesses touches no capture. -/
theorem sendFailing_keeps (s : State) : (sendFailing s).flt.captures = s.flt.captures ∧
    (sendFailing s).flt.savedCaptures = s.flt.savedCaptures := by
  unfold sendFailing
  split
  · exact ⟨rfl, rfl⟩
  · have honly : ∀ (l : List Nat) (u : State), u.OnlyFabric (l.foldl (fun s n => sendCtrl s n 4 s.self) u) :=
      State.OnlyFabric.foldl fun _ _ => rfl
    have h := honly (s.partner :: s.man.witnesses) (s.modFlt fun f => { f with sentFailing := true, selfFenced := true })
    exact ⟨(congrArg FaultS.captures h.flt).trans rfl, (congrArg FaultS.savedCaptures h.flt).trans rfl⟩

/-- The reaction begins a boot, and saves what the registers hold. -/
theorem packageReaction_saves {s : State} (h : s.power.trip = false) : (packageReaction s).flt.phase = 1 ∧
    (packageReaction s).flt.savedCaptures = s.flt.savedCaptures ++ s.flt.captures ∧ (packageReaction s).flt.raised = [] := by
  obtain ⟨hcaptures, hsaved⟩ := sendFailing_keeps { s with fresh := s.fresh + 1 }
  unfold packageReaction State.draw resetPackage
  dsimp only
  rw [if_neg (by simp [h]), setPhase_flt]
  exact ⟨rfl, congrArg₂ (· ++ ·) hsaved hcaptures, rfl⟩

section
variable {s : State}

/-- A fault of MD resets the package, which saves its capture for the boot. -/
theorem settle_mdFault {cause : Nat} (hset : s.Settled) (hcaptures : s.flt.captures = []) (hreactions : s.flt.reactions = [])
    (htrip : s.power.trip = false) (hcause : cause ≠ 0) :
    (settle (raise s { die := 18, cls := 0x0A, cause := cause })).flt.phase = 1 ∧
      (settle (raise s { die := 18, cls := 0x0A, cause := cause })).flt.savedCaptures = s.flt.savedCaptures ++
        [{ die := 18, cls := 0x0A, cause := cause, reaction := 0b010100, frame := s.time.lfc, tick := Config.free s.fresh % 10240 }] := by
  have hraised : (raise s { die := 18, cls := 0x0A, cause := cause }).flt.raised =
      [{ die := 18, cls := 0x0A, cause := cause, frame := s.time.lfc }] := congrArg (· ++ _) hset
  set u := (raise s { die := 18, cls := 0x0A, cause := cause }).unraised with hu
  set c : Capture := { die := 18, cls := 0x0A, cause := cause, frame := s.time.lfc } with hc
  have hreaction : u.reactionOf 0x0A 0 cause = 0b010100 := by
    have : u.flt.reactions = [] := hreactions
    simp only [State.reactionOf, this]
    rw [if_neg fun h => hcause h.1]
    rfl
  have hfree : captureOrLose u c = State.modFlt { u with fresh := u.fresh + 1 } fun f => { f with captures := f.captures ++ [captureNow u c] } :=
    captureOrLose_free fun x hx => by
      rw [show u.flt.captures = [] from hcaptures] at hx
      exact absurd hx List.not_mem_nil
  obtain ⟨hphase, hsaved, hnone⟩ := packageReaction_saves (s := captureOrLose u c) (by rw [hfree]; exact htrip)
  rw [settle_one hraised (takeFault_package u c (by rw [hreaction]; rfl) (by rw [hreaction]; rfl)) hnone]
  refine ⟨hphase, hsaved.trans ?_⟩
  rw [hfree]
  change s.flt.savedCaptures ++ (s.flt.captures ++ [captureNow u c]) = _
  rw [hcaptures, captureNow, hreaction]
  rfl

/-! ## The history and the log (R444–R446, R482) -/

/-- An entry takes the next number and ends the list of what was lost; its events and its log record touch neither. -/
theorem writeEntry_spec (s : State) (c : Capture) : ∃ n h m, writeEntry s c =
    { s with fresh := n, host := h, mgmt := m, flt := { s.flt with
      seq := (s.flt.seq + 1) % 65536
      history := (s.flt.history ++ [entryWord c ((s.flt.seq + 1) % 65536) s.flt.lostBefore]).drop (s.flt.history.length + 1 - 32)
      lostBefore := 0 } } := by
  unfold writeEntry
  extract_lets f seq w s1 s2 s3
  have h2 : ∃ n h m, s2 = { s1 with fresh := n, host := h, mgmt := m } := by
    by_cases hlost : f.lostBefore = 0
    · exact ⟨s1.fresh, s1.host, s1.mgmt, if_pos hlost⟩
    · obtain ⟨h, m, hevent⟩ := pushEvent_eq s1 0x0602 (pack [(16, min f.lost 65535), (8, min f.lostBefore 255)])
      exact ⟨_, h, m, (if_neg hlost).trans hevent⟩
  obtain ⟨n, h, m, h2⟩ := h2
  have h3 : ∃ n h m, s3 = { s1 with fresh := n, host := h, mgmt := m } := by
    by_cases hevents : bitAt c.reaction 0 = true
    · obtain ⟨h', m', hevent⟩ := pushEvent_eq s2 0x0601 (pack [(16, seq), (176, bits w 80 176)])
      refine ⟨s2.fresh + 1, h', m', (if_pos hevents).trans (hevent.trans ?_)⟩
      rw [h2]
    · exact ⟨n, h, m, (if_neg hevents).trans h2⟩
  obtain ⟨n, h, m, h3⟩ := h3
  refine ⟨n, h, (logAdd s3 1 w).mgmt, ?_⟩
  have hlog : logAdd s3 1 w = { s3 with mgmt := (logAdd s3 1 w).mgmt } := rfl
  rw [hlog, h3]
  rfl

/-- The one capture is entered, where Ibfen is at work (R444). -/
theorem exec_historyEntryWrite {c : Capture} (hset : s.Settled) (hc : s.flt.captures = [c]) (hphase : s.flt.phase = 6)
    (hrun : s.mgmt.halted = false) (hroom : s.flt.history.length < 32) :
    ∃ t : State, exec .historyEntryWrite s = .next t ∧ t.flt.captures = [] ∧ t.flt.seq = (s.flt.seq + 1) % 65536 ∧
      t.flt.history = s.flt.history ++ [entryWord c ((s.flt.seq + 1) % 65536) s.flt.lostBefore] ∧ t.flt.lostBefore = 0 ∧ t.mem = s.mem ∧
      t.groups = s.groups := by
  have hwrite : doEntryWrite s = writeEntry (s.modFlt fun f => { f with captures := [] }) c := by
    have hchosen : ((s.flt.captures.find? fun c => bitAt c.reaction 1).orElse fun _ => s.flt.captures.head?) = some c := by
      rw [hc]
      cases hnmi : bitAt c.reaction 1 <;> simp [hnmi]
    have hrest : s.flt.captures.erase c = [] := by rw [hc, List.erase_cons_head]
    have hready : ¬ (s.flt.phase < 2 ∨ s.flt.phase = 7 ∨ s.flt.phase = 8 ∨ s.mgmt.halted = true) := by simp [hphase, hrun]
    unfold doEntryWrite
    rw [if_neg hready, hchosen]
    simp only [State.modFlt, hrest]
  obtain ⟨n, h, m, hentry⟩ := writeEntry_spec (s.modFlt fun f => { f with captures := [] }) c
  have hkept : s.flt.history.length + 1 - 32 = 0 := by omega
  refine ⟨_, done_next_of_eq (hwrite.trans hentry) hset, rfl, rfl, ?_, rfl, rfl, rfl⟩
  exact (congrArg (fun k => List.drop k _) hkept).trans (List.drop_zero ..)

/-- The oldest record of the buffer goes to flash (R482). -/
theorem exec_logWrite {ty f body : Nat} {l : List (Nat × Nat × Nat)} (hset : s.Settled) (hbuf : s.mgmt.logBuf = (ty, f, body) :: l)
    (hfree : s.mgmt.update.writing = none) (hphase : 2 ≤ s.flt.phase) (hroom : s.mgmt.log.length < 524288) :
    exec .logWrite s = .next (s.modMgmt fun m => { m with
      logBuf := l, lseq := (m.lseq + 1) % 2 ^ 32
      log := m.log ++ [pack [(32, m.lseq), (8, ty), (8, 0), (48, f), (32, m.boot), (896, body)]] }) := by
  refine done_next_of_eq ?_ hset
  have hbusy : ¬ (s.mgmt.update.writing.isSome = true ∨ s.flt.phase < 2) := by simp [hfree]; omega
  simp only [doLogWrite, hbuf, hbusy, if_false, logStore, State.modMgmt, Nat.not_le.mpr hroom]

/-- The reaction that waits longest goes to the boot configuration (R441). -/
theorem exec_faultRecordFlash {k r : Nat} {l : AMap (Option Nat)} (hset : s.Settled) (hwait : s.flt.toFlash = (k, some r) :: l)
    (hfree : s.mgmt.update.writing = none) (hone : k % 65536 ≠ 0xFFFF) :
    exec .faultRecordFlash s = .next ((s.modMgmt fun m => { m with
      flashReactions := AMap.set (AMap.erase m.flashReactions k) k r }).modFlt fun f => { f with toFlash := l }) := by
  refine done_next_of_eq ?_ hset
  simp only [doRecordFlash, hwait, hfree, hone, Option.isSome_none, Bool.false_eq_true, if_false]

/-! ## Returns after 10 ms (R450, R451) -/

theorem doBlockReturn_eq {cls inst : Nat} {u : Fenced} (hfenced : s.flt.fenced = [u]) (hcls : u.cls = cls) (hinst : u.inst = inst)
    (hblock : u.block = true) (hdue : u.at' + 152 ≤ s.time.lfc) (hphase : 2 ≤ s.flt.phase) (hmay : mayReturn s cls inst = true)
    (selfTest : Bool) : doBlockReturn s cls inst selfTest =
      if selfTest then returnUnit (s.modFlt fun f => { f with fenced := [{ u with block := false }] }) cls inst
      else s.modFlt fun f => { f with fenced := [{ u with block := false }] } := by
  have hlate : ¬ ((! u.block) = true ∨ s.time.lfc < u.at' + 152 ∨ s.flt.phase < 2 ∨ (! mayReturn s cls inst) = true) := by
    simp [hblock, hmay]
    omega
  have hfind : (s.flt.fenced.find? fun u => u.cls == cls && u.inst == inst) = some u := by simp [hfenced, hcls, hinst]
  have hmark : (s.flt.fenced.map fun v => if v = u then { v with block := false } else v) = [{ u with block := false }] := by simp [hfenced]
  unfold doBlockReturn
  rw [hfind]
  simp only [hlate, if_false, State.modFlt, hmark]

/-- A group that returns is fenced no more, with its counters at their default. -/
theorem returnUnit_group (s : State) (g : Nat) : ((returnUnit s 6 g).grp g).fenced = false ∧ ((returnUnit s 6 g).grp g).ctrs = [] := by
  have hgroup : (returnUnit s 6 g).grp g = { fmtAll := s.flt.calibrated, clock := if s.flt.calibrated then 2 else 1 } :=
    AMap.get_set_same ..
  rw [hgroup]
  exact ⟨rfl, rfl⟩

/-! ## The handover of Ibfen (R500) -/

/-- The new Ibfen takes over, and logs that it did. -/
theorem exec_handoverSwitch (hset : s.Settled) (hon : s.mgmt.update.handover = true) (hcur : s.mbx.cur = none) (hepo : s.power.epo = false) :
    ∃ t : State, exec .handoverSwitch s = .next t ∧ t.mgmt.update.handover = false ∧ t.mem = s.mem ∧ t.groups = s.groups ∧ t.mbx = s.mbx := by
  have hgo : ¬ ((! s.mgmt.update.handover) = true ∨ s.mbx.cur.isSome = true ∨ s.power.epo = true) := by simp [hon, hcur, hepo]
  exact ⟨_, done_next_of_eq (if_neg hgo) hset, rfl, rfl, rfl, rfl⟩

end

/-- Settles O60: each event on a state that it applies to. -/
theorem faultEventsAreTakenEnteredAndCleared : Obligations.FaultEventsAreTakenEnteredAndCleared := by
  unfold Obligations.FaultEventsAreTakenEnteredAndCleared
  refine ⟨fun s cls inst cause status addr ctx part node hset hsource h1 hcause hphase htrip hport => ?reported,
    fun s g e q hset hg he hq hruns hready => ?noProgress, fun s hset hphase hcaptures hreactions htrip => ?md,
    fun s c hset hc hphase hrun hroom => exec_historyEntryWrite hset hc hphase hrun hroom,
    fun s ty f body l hset hbuf hfree hphase hroom => exec_logWrite hset hbuf hfree hphase hroom,
    fun s k r l hset hwait hfree hone => exec_faultRecordFlash hset hwait hfree hone,
    fun s cls inst u hset hfenced hcls hinst hblock hdue hphase hmay => ?blockReturn, fun s h hset => done_next_of_eq rfl hset,
    fun s hset hon hcur hepo => exec_handoverSwitch hset hon hcur hepo⟩
  case reported =>
    refine congrArg done (if_neg ?_)
    rintro (hbad | hbad | hbad | hbad | ⟨hC, h4⟩ | ⟨hone, hbad⟩)
    · simp [hsource] at hbad
    · omega
    · omega
    · omega
    · exact htrip hC h4
    · simp [hport hone] at hbad
  case noProgress =>
    refine congrArg done (if_neg ?_)
    have hany : (List.range 16).any (queueReady (s.grp g) e) = true := List.any_eq_true.mpr ⟨q, List.mem_range.mpr hq, hready⟩
    simp only [hruns, hany, Bool.not_true, Bool.false_eq_true, or_false]
    omega
  case md =>
    have hraise : ∀ cause : Nat, (cause = 1 → s.mgmt.update.handover = false) →
        doMdFault s cause = raise s { die := 18, cls := 0x0A, cause := cause } := fun cause hone => by
      refine if_neg ?_
      rintro (hbad | ⟨h1, hbad⟩)
      · omega
      · simp [hone h1] at hbad
    refine ⟨⟨_, congrArg done (hraise 2 fun h => absurd h (by decide)), settle_mdFault hset hcaptures hreactions htrip (by decide)⟩,
      fun hoff => ⟨_, congrArg done (hraise 1 fun _ => hoff), settle_mdFault hset hcaptures hreactions htrip (by decide)⟩,
      fun hon => done_next_of_eq (if_pos (.inr ⟨rfl, hon⟩)) hset⟩
  case blockReturn =>
    have hreturn := doBlockReturn_eq hfenced hcls hinst hblock hdue hphase hmay
    refine ⟨done_next_of_eq (hreturn false) hset, fun hsix => ?_⟩
    subst hsix
    obtain ⟨-, hflt⟩ := returnUnit_keeps (s.modFlt fun f => { f with fenced := [{ u with block := false }] }) 6 inst
    have hgone : (List.filter (fun u => ! returning 6 inst u) [{ u with block := false }]) = [] := by simp [returning, hcls, hinst]
    exact ⟨_, done_next_of_eq (hreturn true) ((congrArg FaultS.raised hflt).trans hset), (congrArg FaultS.fenced hflt).trans hgone,
      returnUnit_group ..⟩

end Sys2Proof.Machine
end

section
/-! SUPPORT. Caps, supply and temperature (R421, R422, R426, R427, R429, R430, R432, R434, R440). -/
namespace Sys2Proof.Machine

section
variable {s : State}

/-! ## The frame's limit and the plan (R421–R424, R432) -/

/-- The limit of the frame and CAP_LAG, with the event of a change. -/
theorem setLimit_eq (s : State) : ∃ n h m, setLimit s = { s with fresh := n, host := h, mgmt := m, power := { s.power with
    limit := weirLimit s.power.cfg (capEff s) s.power.power
    capLag := decide (capEff s < weirLimit s.power.cfg (capEff s) s.power.power) } } := by
  unfold setLimit
  extract_lets cap l lag s'
  by_cases hsame : lag = s.power.capLag
  · exact ⟨s.fresh, s.host, s.mgmt, if_pos hsame⟩
  · obtain ⟨h, m, hevent⟩ := pushEvent_eq s' 0x0501 (pack [(1, b2n lag), (12, cap)])
    exact ⟨s.fresh + 1, h, m, (if_neg hsame).trans hevent⟩

/-- A change of the power alone, and what a new limit and a new plan make of it. -/
theorem replan_eq (s : State) : ∃ n h m a b, newPlan (setLimit s) = { s with fresh := n, host := h, mgmt := m, power := { s.power with
    limit := weirLimit s.power.cfg (capEff s) s.power.power
    capLag := decide (capEff s < weirLimit s.power.cfg (capEff s) s.power.power), planNow := a, planNext := b } } := by
  obtain ⟨n, h, m, hlimit⟩ := setLimit_eq s
  obtain ⟨h', m', a, b, hplan⟩ := newPlan_eq (setLimit s)
  refine ⟨n + 1, h', m', a, b, hplan.trans ?_⟩
  rw [hlimit]

/-- The package's cap takes effect in its frame. -/
theorem exec_capStep {c f : Nat} (hmgmt : s.power.pendMgmt = some (c, f)) (hhost : s.power.pendHost = none)
    (hdue : f ≤ s.time.lfc) :
    exec .capStep s = done (newPlan (setLimit (s.modPower fun p => { p with cfg := { p.cfg with cap := c }, pendMgmt := none }))) := by
  refine congrArg done ?_
  simp only [doCapStep, hmgmt, hhost, hdue, if_true, State.modPower]
  rfl

theorem exec_safeSet {f : Nat} (hbeat : s.power.hbAt = some f) (hsafe : s.power.safe = false)
    (hsilent : f + 76294 ≤ s.time.lfc) :
    exec .safeSet s = done (newPlan (setLimit (pushEvent (s.modPower fun p => { p with safe := true, pendMgmt := none, pendHost := none })
      0x0503 (capEff (s.modPower fun p => { p with safe := true, pendMgmt := none, pendHost := none }))))) := by
  refine congrArg done ?_
  have hgo : ¬ (s.power.safe = true ∨ s.time.lfc < f + 76294) := by simp [hsafe]; omega
  simp only [doSafeSet, hbeat]
  exact if_neg hgo

/-! ## Supply and regulators (R426, R427, R440) -/

theorem beginAction_again (h : actionOn s = true) : beginAction s = s := if_pos h

theorem beginAction_first (h : actionOn s = false) : beginAction s = s.modPower fun p => { p with actionPower := p.power } :=
  if_neg (by simp [h])

/-- A dip within the range of the warning: the first one of its frame is a fault. -/
theorem exec_supplyWarning {mv : Nat} (hlow : 640 ≤ mv) (hhigh : mv < 690) : exec (.supplyWarning mv) s = done (
    if s.power.dipInFrame = 0 then
      raise ((beginAction s).modPower fun p => { p with
        supply := true, dips := p.dips + 1, dipInFrame := p.dipInFrame + 1, dipMin := mv }) { die := 18, cls := 0x0C, cause := 3 }
    else (beginAction s).modPower fun p => { p with
      supply := true, dips := p.dips + 1, dipInFrame := p.dipInFrame + 1, dipMin := min p.dipMin mv }) := by
  refine congrArg done ((if_neg (by omega)).trans ?_)
  by_cases hfirst : s.power.dipInFrame = 0 <;> simp [hfirst]

/-- What a listed regulator answers, while faults are enabled. -/
theorem doRegulator_listed {i : Nat} (hi : i < 16) (hlisted : i < s.man.regulators.length) (hphase : 2 ≤ s.flt.phase) :
    ¬ (16 ≤ i ∨ s.man.regulators.length ≤ i ∨ s.flt.phase < 2) := by
  omega

/-- The first poll without an answer is noted. -/
theorem exec_regulatorPoll_first {i : Nat} (hset : s.Settled) (hi : i < 16) (hlisted : i < s.man.regulators.length)
    (hphase : 2 ≤ s.flt.phase) (hfirst : AMap.find s.power.regSilent i = none) :
    exec (.regulatorPoll i none) s = .next (s.modPower fun p => { p with regSilent := AMap.set p.regSilent i s.time.lfc }) := by
  refine done_next_of_eq ((if_neg (doRegulator_listed hi hlisted hphase)).trans ?_) hset
  simp only [hfirst]

/-- A second one, 16 frames later, is a fault. -/
theorem exec_regulatorPoll_silent {i f : Nat} (hi : i < 16) (hlisted : i < s.man.regulators.length) (hphase : 2 ≤ s.flt.phase)
    (hnoted : AMap.find s.power.regSilent i = some f) (hlate : f + 16 ≤ s.time.lfc) (hgood : AMap.get false s.power.regFault i = false) :
    exec (.regulatorPoll i none) s = .next (settle (raise (s.modPower fun p => { p with
      regFault := AMap.set p.regFault i true }) { die := 18, cls := 0x0B, inst := i, cause := 2 })) := by
  have hsilent : ¬ (s.time.lfc < f + 16 ∨ AMap.get false s.power.regFault i = true) := by simp [hgood]; omega
  refine congrArg done ((if_neg (doRegulator_listed hi hlisted hphase)).trans ?_)
  simp only [hnoted]
  exact if_neg hsilent

theorem exec_pmbAlert {i : Nat} (hi : i < 16) (hlisted : i < s.man.regulators.length) (hphase : 2 ≤ s.flt.phase) (fault : Bool) :
    exec (.pmbAlert i fault) s = done (
      if fault = true ∧ (! AMap.get false s.power.regFault i) = true then
        raise (s.modPower fun p => { p with regFault := AMap.set p.regFault i fault, regSilent := AMap.erase p.regSilent i })
          { die := 18, cls := 0x0B, inst := i, cause := 1 }
      else s.modPower fun p => { p with regFault := AMap.set p.regFault i fault, regSilent := AMap.erase p.regSilent i }) :=
  congrArg done (if_neg (doRegulator_listed hi hlisted hphase))

/-! ## The throttle ladder (R429, R430) -/

/-- Without plate readings a loss of flow is not sensed. -/
theorem flowSense_nil (h : s.power.flowSelf = false) : ∃ l, flowSense s [] = s.modPower fun p => { p with plateLog := l } := by
  have hnone : ∀ l : List (Nat × List Nat × Nat), (l.find? fun e =>
      (([] : List Nat).zip e.2.1).any (fun y => decide (y.2 + 4 ≤ y.1)) &&
      decide ((if e.2.2 < s.power.power then s.power.power - e.2.2 else e.2.2 - s.power.power) * 10 < e.2.2)) = none :=
    fun l => List.find?_eq_none.mpr fun e _ => by simp
  refine ⟨(s.power.plateLog.filter fun e => decide (s.time.lfc < e.1 + 16)) ++ [(s.time.lfc, [], s.power.power)], ?_⟩
  simp only [flowSense, hnone, State.modPower, h, Bool.not_false, if_true]

/-- A sample of Tj alone moves the ladder, with what is sensed of the flow as it was. -/
theorem doThermal_bare (tj : Nat) (h : s.power.flowSelf = false) :
    ∃ l, doThermal s tj [] [] = ladderMove (s.modPower fun p => { p with tj := tj, plateLog := l }) := by
  obtain ⟨l, hsense⟩ := flowSense_nil (s := s.modPower fun p => { p with tj := tj }) h
  refine ⟨l, ?_⟩
  have hrecord : flowRecord (s.modPower fun p => { p with tj := tj }) (s.modPower fun p => { p with tj := tj, plateLog := l }) =
      s.modPower fun p => { p with tj := tj, plateLog := l } := if_neg (by cases hloss : flowLoss s <;> simp_all [flowLoss])
  change ladderMove (flowRecord (s.modPower fun p => { p with tj := tj }) (flowSense (s.modPower fun p => { p with tj := tj }) [])) = _
  rw [hsense]
  exact congrArg ladderMove hrecord

/-- The frames since which each step has been cool, at a sample. -/
def coolNow (s : State) : AMap Nat :=
  [1, 2, 3, 4].foldl (fun t k =>
    if s.power.tj < exitTemp k ∧ ! (k = 3 ∧ flowLoss s) then (if AMap.has t k then t else AMap.set t k s.time.lfc) else AMap.erase t k) s.power.cool

/-- THERM_N follows the ladder and the trip. -/
def noteThermN (s : State) : State := s.modPower fun p => { p with thermN := decide (3 ≤ p.ladder) || p.trip }

/-- An action that begins may note the power of its frame, and changes nothing else. -/
theorem beginAction_eq (s : State) : ∃ n, beginAction s = s.modPower fun p => { p with actionPower := n } := by
  cases h : actionOn s with
  | true => exact ⟨s.power.actionPower, beginAction_again h⟩
  | false => exact ⟨s.power.power, beginAction_first h⟩

/-- The ladder rises straight to the step that fits, with its fault. -/
theorem ladderMove_rise (h : s.power.ladder < stepFor s.power.tj (flowLoss s)) : (ladderMove s).power.tj = s.power.tj ∧
    (ladderMove s).power.ladder = stepFor s.power.tj (flowLoss s) ∧ (ladderMove s).mem = s.mem ∧ (ladderMove s).groups = s.groups ∧
    (ladderMove s).flt.raised = s.flt.raised ++ [{ die := 18, cls := 0x0C, cause := 1, frame := s.time.lfc }] := by
  obtain ⟨n, hbegin⟩ := beginAction_eq (s.modPower fun p => { p with cool := coolNow s })
  have hmove : ladderMove s = noteThermN (raise ((beginAction (s.modPower fun p => { p with cool := coolNow s })).modPower fun p => { p with
      ladder := stepFor s.power.tj (flowLoss s) }) { die := 18, cls := 0x0C, cause := 1 }) := congrArg noteThermN (if_pos h)
  rw [hmove, hbegin]
  clear hmove hbegin
  generalize coolNow s = c
  generalize stepFor s.power.tj (flowLoss s) = k
  exact ⟨rfl, rfl, rfl, rfl, rfl⟩

/-- The ladder falls by one step that has been cool for 16 frames. -/
theorem ladderMove_fall {f : Nat} (h : ¬ s.power.ladder < stepFor s.power.tj (flowLoss s)) (hon : s.power.ladder ≠ 0)
    (hcool : AMap.find (coolNow s) s.power.ladder = some f) (hlate : f + 16 ≤ s.time.lfc) : (ladderMove s).power.tj = s.power.tj ∧
    (ladderMove s).power.ladder = s.power.ladder - 1 ∧ (ladderMove s).mem = s.mem ∧ (ladderMove s).groups = s.groups ∧
    (ladderMove s).flt = s.flt := by
  have hdue : (AMap.find (coolNow s) s.power.ladder).any (fun f => decide (f + 16 ≤ s.time.lfc)) = true := by simp [hcool, hlate]
  have hmove : ladderMove s = noteThermN ((s.modPower fun p => { p with cool := coolNow s }).modPower fun p => { p with
      ladder := s.power.ladder - 1 }) := congrArg noteThermN ((if_neg h).trans (if_pos ⟨hon, hdue⟩))
  rw [hmove]
  exact ⟨rfl, rfl, rfl, rfl, rfl⟩

end

theorem AMap.find_erase_other {α : Type} (t : AMap α) {k j : Nat} (h : j ≠ k) : AMap.find (AMap.erase t k) j = AMap.find t j := by
  induction t with
  | nil => rfl
  | cons e t ih =>
    unfold AMap.erase at *
    by_cases he : e.1 = k
    · have : ¬ j = e.1 := by omega
      simp [he, AMap.find, ih, h]
    · simp [he, AMap.find, ih]

/-- What every step of a fold keeps, the fold keeps. -/
theorem foldl_kept {α β : Type} {P : β → Prop} {f : β → α → β} (hf : ∀ t x, P t → P (f t x)) (l : List α) (t : β) (h : P t) :
    P (l.foldl f t) := by
  induction l generalizing t with
  | nil => exact h
  | cons x l ih => exact ih _ (hf t x h)

/-- A step that is still cool keeps the frame since which it has been. -/
theorem coolNow_kept {s : State} {k f : Nat} (h : AMap.find s.power.cool k = some f) (hcool : s.power.tj < exitTemp k)
    (hflow : flowLoss s = false) : AMap.find (coolNow s) k = some f := by
  refine foldl_kept (P := fun t => AMap.find t k = some f) (fun t j ht => ?_) [1, 2, 3, 4] _ h
  by_cases hj : j = k
  · subst hj
    simp [hcool, hflow, AMap.has_of_find ht, ht]
  · have hother : k ≠ j := fun e => hj e.symm
    split_ifs
    · exact ht
    · rw [AMap.find_set_other _ _ hother]; exact ht
    · rw [AMap.find_erase_other _ hother]; exact ht

/-- A step that Tj lets go fits no temperature below its entry. -/
theorem stepFor_of_exit {tj k : Nat} (h : tj < exitTemp k) (h1 : 1 ≤ k) (h4 : k ≤ 4) : stepFor tj false < k := by
  unfold exitTemp at h
  unfold stepFor
  simp only [Bool.false_eq_true, or_false]
  split_ifs at h ⊢ <;> omega

/-- Settles O57: caps, supply, regulators and the ladder in turn. -/
theorem capsSupplyAndTemperatureAct : Obligations.CapsSupplyAndTemperatureAct := by
  unfold Obligations.CapsSupplyAndTemperatureAct
  refine ⟨fun s c f hset hmgmt hhost hdue => ?cap, fun s f hset hbeat hsafe hsilent => ?safe,
    fun s mv hset hlow hhigh hagain hact => ?dip, fun s mv hset hlow hhigh hfirst hact => ?firstDip,
    fun s hset => done_next_of_eq rfl hset, fun s i hset hi hlisted hphase => ?regulator, fun s tj hset hself => ?thermal⟩
  case cap =>
    obtain ⟨_, _, _, _, _, hplan⟩ := replan_eq (s.modPower fun p => { p with cfg := { p.cfg with cap := c }, pendMgmt := none })
    exact ⟨_, (exec_capStep hmgmt hhost hdue).trans (done_next_of_eq hplan hset), rfl, rfl, rfl, rfl, rfl, rfl, rfl, rfl⟩
  case safe =>
    obtain ⟨_, _, hevent⟩ := pushEvent_eq (s.modPower fun p => { p with safe := true, pendMgmt := none, pendHost := none })
      0x0503 (capEff (s.modPower fun p => { p with safe := true, pendMgmt := none, pendHost := none }))
    obtain ⟨_, _, _, _, _, hplan⟩ := replan_eq (pushEvent (s.modPower fun p => { p with safe := true, pendMgmt := none, pendHost := none })
      0x0503 (capEff (s.modPower fun p => { p with safe := true, pendMgmt := none, pendHost := none })))
    rw [exec_safeSet hbeat hsafe hsilent, hplan, hevent]
    exact ⟨_, done_eq _ hset, rfl, rfl, rfl, rfl, rfl, rfl, rfl⟩
  case dip =>
    rw [exec_supplyWarning hlow hhigh, if_neg hagain, beginAction_again hact]
    exact done_eq _ hset
  case firstDip =>
    rw [exec_supplyWarning hlow hhigh, if_pos hfirst, beginAction_first hact]
    simp only [State.modPower, hfirst]
    rfl
  case regulator =>
    refine ⟨fun hfirst => exec_regulatorPoll_first hset hi hlisted hphase hfirst,
      fun f hnoted hlate hgood => exec_regulatorPoll_silent hi hlisted hphase hnoted hlate hgood, fun hgood => ?_, ?_⟩
    · rw [exec_pmbAlert hi hlisted hphase, if_pos ⟨rfl, by rw [hgood]; rfl⟩]
      rfl
    · rw [exec_pmbAlert hi hlisted hphase, if_neg fun hbad => absurd hbad.1 Bool.false_ne_true]
      exact done_eq _ hset
  case thermal =>
    obtain ⟨l, hmove⟩ := doThermal_bare tj hself
    set u := s.modPower fun p => { p with tj := tj, plateLog := l } with hu
    have hexec : exec (.thermalSample tj [] []) s = done (notePlates (ladderMove u) []) := congrArg (fun t => done (notePlates t [])) hmove
    have htj : u.power.tj = tj := rfl
    have hflow : flowLoss u = s.power.flowReported := by simp [u, flowLoss, hself]
    refine ⟨fun hrise => ?_, fun k f hk h1 h4 hreported hcool hlate hexit => ?_⟩
    · obtain ⟨htjKept, hladder, hmem, hgroups, hraised⟩ := ladderMove_rise (s := u) (by rw [hflow]; exact hrise)
      rw [hflow] at hladder
      exact ⟨_, hexec, htjKept, hladder, hmem, hgroups, hraised.trans (congrArg (· ++ _) hset)⟩
    · subst hk
      have hrest : ¬ u.power.ladder < stepFor tj s.power.flowReported := by
        have := stepFor_of_exit hexit h1 h4
        rw [hreported]
        exact Nat.not_lt.mpr (Nat.le_of_lt this)
      have hkept := coolNow_kept (s := u) hcool hexit (hflow.trans hreported)
      obtain ⟨htjKept, hladder, hmem, hgroups, hflt⟩ := ladderMove_fall (s := u) (by rw [hflow]; exact hrest) (Nat.ne_of_gt h1) hkept hlate
      exact ⟨_, hexec.trans (done_eq _ ((congrArg FaultS.raised hflt).trans hset)), htjKept, hladder, hmem, hgroups, hflt⟩

end Sys2Proof.Machine
end

section
/-! SUPPORT. Power states (R431, R433, R435, R454). -/
namespace Sys2Proof.Machine

section
variable {s : State}

/-! ## Power leaves (R431, R433) -/

/-- Records that a change of each makes what it should be. -/
theorem AMap.mem_mapVals {α β : Type} {f : Nat → α → β} {t : AMap α} {x : Nat × β} (h : x ∈ AMap.mapVals f t) :
    ∃ v, x.2 = f x.1 v := by
  obtain ⟨e, -, rfl⟩ := List.mem_map.mp h
  exact ⟨e.2, rfl⟩

/-- No mirror of the package is current. -/
def mirrorsStale (s : State) : Prop := ∀ x ∈ s.mem.mirrorDir, inPackage x.2.home s.self = true → x.2.unmirrored = true

/-- Every stack keeps its contents in self-refresh. -/
def stacksAsleep (s : State) : Prop := ∀ k ∈ s.mem.stks, k.2.selfRefresh = true

theorem staleMirrors_stale (s : State) : mirrorsStale (staleMirrors s) := by
  intro x hx hhome
  simp only [staleMirrors, State.modMem_mem] at hx hhome
  obtain ⟨e, he⟩ := AMap.mem_mapVals hx
  rw [he] at hhome ⊢
  split
  · rfl
  case isFalse hnot =>
    rw [if_neg hnot] at hhome
    exact absurd (.inl hhome) hnot

theorem asleep_of_mapVals (s : State) (far : List FarLine) : stacksAsleep (s.modMem fun m => { m with
    stks := AMap.mapVals (fun _ x => { x with selfRefresh := true }) m.stks, far := far }) := by
  intro k hk
  simp only [State.modMem_mem] at hk
  obtain ⟨e, he⟩ := AMap.mem_mapVals hk
  rw [he]

/-- Announcing a phase reaches the event queue, the management network and the log alone. -/
theorem setPhase_keeps (s : State) (p : Nat) : (setPhase s p).power = s.power ∧ (setPhase s p).mem = s.mem ∧ (setPhase s p).self = s.self := by
  obtain ⟨_, _, hevent⟩ := pushEvent_eq (s.modFlt fun f => { f with phase := p }) 0x0305 p
  rw [setPhase, hevent]
  exact ⟨rfl, rfl, rfl⟩

/-- Where power has not left yet, it leaves: the stacks sleep, and the mirrors here are current no more. -/
theorem removePower_spec (h : s.power.epo = false) : (removePower s).power.epo = true ∧ (removePower s).power.resuming = false ∧
    mirrorsStale (removePower s) ∧ stacksAsleep (removePower s) := by
  unfold removePower
  rw [if_neg (by simp [h])]
  extract_lets s1 s2 s3 s4 s5 s6 s7 s8
  clear_value s4
  have hstale : mirrorsStale s8 := staleMirrors_stale s5
  have hasleep : stacksAsleep s8 := asleep_of_mapVals s4 s4.mem.far
  have hepo : s8.power.epo = true := rfl
  have hdone : s8.power.resuming = false := rfl
  clear_value s8
  split
  · obtain ⟨hpower, hmem, hself⟩ := setPhase_keeps (s8.modFlt fun f => { f with prevPhase := if f.phase = 7 then 6 else f.phase }) 9
    refine ⟨by rw [hpower]; exact hepo, by rw [hpower]; exact hdone, ?_, ?_⟩
    · unfold mirrorsStale
      rw [hmem, hself]
      exact hstale
    · unfold stacksAsleep
      rw [hmem]
      exact hasleep
  · exact ⟨hepo, hdone, hstale, hasleep⟩

/-! ## Low power (R435, R454) -/

theorem exec_groupGate {g : Nat} (hset : s.Settled) (hg : g < 32) (hen : s.power.cfg.gateEn = true) (hlists : (s.grp g).lists = [])
    (hjoins : (s.grp g).joins = []) (hfence : (s.grp g).fenced = false) (hopen : s.power.gated.contains g = false) :
    exec (.groupGate g) s = .next (dropCopies (s.modPower fun p => { p with gated := p.gated ++ [g] }) [g, 32 + g]) := by
  refine done_next_of_eq (if_neg ?_) hset
  simp only [hen, hlists, hjoins, hfence, hopen, List.isEmpty_nil, Bool.not_true, Bool.false_eq_true, or_false]
  omega

/-- Standby is entered where nothing is under way. -/
theorem enterStandby_spec (h : standbyOk s = true) : (enterStandby s).power = { s.power with standby := true, gated := List.range 32 } ∧
    (enterStandby s).xlat.atc = [] ∧ (enterStandby s).xlat.copies = [] ∧ (enterStandby s).mem.far = [] ∧ stacksAsleep (enterStandby s) ∧
    (enterStandby s).mem.cells = s.mem.cells ∧ (enterStandby s).groups = s.groups ∧ (enterStandby s).flt = s.flt := by
  unfold enterStandby
  rw [if_neg (by simp [h])]
  exact ⟨rfl, rfl, rfl, rfl, asleep_of_mapVals _ [], rfl, rfl, rfl⟩

theorem exec_d3hot (h : hostUp s = true) : exec .d3hot s = done (enterStandby (s.modPower fun p => { p with d3hot := true })) :=
  congrArg done (if_pos h)

/-- Leaving standby wakes every stack that has not been evacuated. -/
theorem exec_d0 (hset : s.Settled) (h : hostUp s = true) (hstandby : s.power.standby = true) :
    ∃ t : State, exec .d0 s = .next t ∧ t.power = { s.power with d3hot := false, standby := false } ∧ t.mem.cells = s.mem.cells ∧
      ∀ k ∈ t.mem.stks, k.2.evacuated = false → k.2.selfRefresh = false := by
  refine ⟨_, done_next_of_eq ((if_pos h).trans (if_pos hstandby)) hset, rfl, rfl, fun k hk hhere => ?_⟩
  simp only [State.modMem_mem] at hk
  obtain ⟨e, he⟩ := AMap.mem_mapVals hk
  rw [he] at hhere ⊢
  change e.evacuated = false at hhere
  simp [hhere]

end

/-- Settles O58: power leaves with what the stacks hold, and standby is entered and left. -/
theorem powerLeavesAndReturns : Obligations.PowerLeavesAndReturns := by
  unfold Obligations.PowerLeavesAndReturns
  refine ⟨fun s hset hepo => ?epo, fun s hset htrip hepo => ?trip, fun s hset hpin => done_next_of_eq (if_pos hpin) hset,
    fun s g hset hg hen hlists hjoins hfence hopen => exec_groupGate hset hg hen hlists hjoins hfence hopen, fun s hset hup hoff => ?d3hotOff,
    fun s hset hup hok => ?d3hot, fun s hset hok => ?reentry, fun s hset hup hstandby => exec_d0 hset hup hstandby⟩
  case epo => exact ⟨_, rfl, removePower_spec hepo⟩
  case trip =>
    have hbegin : (beginAction s).power.epo = false := by
      obtain ⟨n, hbegin⟩ := beginAction_eq s
      rw [hbegin]
      exact hepo
    obtain ⟨hoff, -⟩ := removePower_spec hbegin
    exact ⟨_, congrArg done (if_neg (by simp [htrip])), hoff, rfl, rfl, rfl⟩
  case d3hotOff =>
    rw [exec_d3hot hup]
    refine done_next_of_eq (if_pos ?_) hset
    simp [standbyOk, hoff]
  case d3hot =>
    obtain ⟨hpower, hatc, hcopies, hfar, hasleep, hcells, hgroups, hflt⟩ := enterStandby_spec hok
    exact ⟨_, (exec_d3hot hup).trans (done_eq _ ((congrArg FaultS.raised hflt).trans hset)), hpower, hatc, hcopies, hfar, hasleep, hcells,
      hgroups⟩
  case reentry =>
    obtain ⟨hpower, hatc, hcopies, hfar, -, hcells, -, hflt⟩ := enterStandby_spec hok
    exact ⟨_, done_eq _ ((congrArg FaultS.raised hflt).trans hset), hpower, hatc, hcopies, hfar, hcells⟩

end Sys2Proof.Machine
end

section
/-! SUPPORT. The partner's heartbeats, and leases (R463, R464, R469). -/
namespace Sys2Proof.Machine

theorem State.OnlyFabric.time {s t : State} (h : s.OnlyFabric t) : t.time = s.time := (congrArg State.time h).trans rfl

/-! ## Telling the partner takes no package for dead (R100, R101, R203) -/

theorem mirrorEntry_dead (s : State) (p : Nat) : (mirrorEntry s p).fab.dead = s.fab.dead := by
  unfold mirrorEntry
  split <;> rfl

theorem mirrorSeq_dead (s : State) (c : Nat) : (mirrorSeq s c).fab.dead = s.fab.dead := by
  unfold mirrorSeq
  split <;> split <;> rfl

theorem mirrorLen_dead (s : State) (c l : Nat) : (mirrorLen s c l).fab.dead = s.fab.dead := by
  unfold mirrorLen
  split
  · split <;> rfl
  · rfl

theorem mirrorSeqAll_dead (s : State) (c : Nat) : (mirrorSeqAll s c).fab.dead = s.fab.dead := by
  unfold mirrorSeqAll
  split
  · exact foldl_kept (P := fun t => t.fab.dead = s.fab.dead) (fun t l h => (mirrorLen_dead t c l).trans h) _ _ (mirrorSeq_dead s c)
  · rfl

theorem mirrorEntries_dead (s : State) (l : List Nat) : (mirrorEntries s l).fab.dead = s.fab.dead :=
  foldl_kept (P := fun t => t.fab.dead = s.fab.dead) (fun t p h => (mirrorEntry_dead t p).trans h) l s rfl

theorem mirrorSeqs_dead (s : State) (l : List Nat) : (l.foldl mirrorSeqAll s).fab.dead = s.fab.dead :=
  foldl_kept (P := fun t => t.fab.dead = s.fab.dead) (fun t c h => (mirrorSeqAll_dead t c).trans h) l s rfl

/-- With the partner back, the mirrors are told of everything again. -/
theorem partnerBack_spec (s : State) :
    (s.modMem fun m => { m with partnerDown := false, mirrorLost := false }).OnlyFabric (partnerBack s) ∧
      (partnerBack s).fab.dead = s.fab.dead := by
  unfold partnerBack
  extract_lets u v
  have hdead : u.fab.dead = s.fab.dead := rfl
  change u.OnlyFabric _ ∧ _
  have hentries : u.OnlyFabric v := .foldl mirrorEntry_onlyFabric _ u
  have hentriesDead : v.fab.dead = u.fab.dead := mirrorEntries_dead u _
  clear_value u v
  exact ⟨hentries.trans (.foldl mirrorSeqAll_onlyFabric _ v), (mirrorSeqs_dead v _).trans (hentriesDead.trans hdead)⟩

section
variable {s : State} {heard mirror : Nat}

/-! ## Heartbeats (R463, R464, R469) -/

theorem regainLease_held (h : s.flt.selfFenced = false) : regainLease s = s := if_neg (by simp [h])

/-- The state in which a heartbeat of the partner has been noted. -/
def beatNoted (s : State) (heard mirror : Nat) : State :=
  s.modFlt fun f => { f with
    heardPartner := some s.time.lfc
    partnerHeardUs := if s.time.lfc < heard + 16 then some s.time.lfc else f.partnerHeardUs
    partnerMirror := mirror }

/-- The state in which the partner counts as alive, with PAIR normal. -/
def partnerAlive (s : State) : State :=
  (s.modFlt fun f => { f with pair := 0 }).modFab fun f => { f with dead := f.dead.filter (· != s.partner) }

theorem doHeartbeat_partner (hruns : pairRuns s = true) (hpartner : s.partner < 512) (hmirror : mirror ≤ 15248) :
    doHeartbeat s s.partner heard mirror = partnerBeat s heard mirror := by
  have hknown : ¬ ((! pairRuns s) = true ∨ 512 ≤ s.partner ∨ s.partner = s.self ∨ 15248 < mirror) := by
    rintro (hbad | hbad | hbad | hbad)
    · simp [hruns] at hbad
    · omega
    · exact s.self_ne_partner hbad.symm
    · omega
  exact (if_neg hknown).trans (if_pos rfl)

/-- The first heartbeat since reset brings the mirrors current, and announces PAIR. -/
theorem partnerBeat_first (hfirst : s.flt.heardPartner = none) (hheld : s.flt.selfFenced = false) :
    partnerBeat s heard mirror = pushEvent (partnerBack (partnerAlive (beatNoted s heard mirror))) 0x0303
      (pack [(3, 6), (3, 0), (48, s.time.lfc)]) := by
  have hbeat : partnerBeat s heard mirror = regainLease (pushEvent (partnerBack (partnerAlive (beatNoted s heard mirror))) 0x0303
      (pack [(3, 6), (3, 0), (48, s.time.lfc)])) := congrArg regainLease (if_pos (by simp [hfirst]))
  obtain ⟨hfab, -⟩ := partnerBack_spec (partnerAlive (beatNoted s heard mirror))
  rw [hbeat]
  refine regainLease_held ?_
  obtain ⟨_, _, hevent⟩ := pushEvent_eq (partnerBack (partnerAlive (beatNoted s heard mirror))) 0x0303
    (pack [(3, 6), (3, 0), (48, s.time.lfc)])
  rw [hevent]
  exact (congrArg FaultS.selfFenced hfab.flt).trans hheld

/-- A later one, with no suspicion, is noted alone. -/
theorem partnerBeat_later (hlater : s.flt.heardPartner ≠ none) (hpair : s.flt.pair ≠ 1) (hheld : s.flt.selfFenced = false) :
    partnerBeat s heard mirror = beatNoted s heard mirror := by
  have hagain : ¬ s.flt.heardPartner.isNone = true := by simp [hlater]
  exact (congrArg regainLease ((if_neg hagain).trans (if_neg hpair))).trans (regainLease_held hheld)

/-- A witness notes the sender, and answers with what it heard of the sender's partner. -/
theorem exec_heartbeat_witness {node : Nat} (hset : s.Settled) (hruns : pairRuns s = true) (hnode : node < 512) (hself : node ≠ s.self)
    (hother : node ≠ s.partner) (hmirror : mirror ≤ 15248) (hwitness : witnessOf s node = true) :
    exec (.heartbeat node heard mirror) s = .next (sendCtrl (s.modFlt fun f => { f with
      heardNode := AMap.set f.heardNode node s.time.lfc }) node 6 (AMap.get 0 (AMap.set s.flt.heardNode node s.time.lfc) (partnerOf node))) := by
  have hknown : ¬ ((! pairRuns s) = true ∨ 512 ≤ node ∨ node = s.self ∨ 15248 < mirror) := by
    simp only [hruns, hself, Bool.not_true, Bool.false_eq_true, false_or]
    omega
  exact done_next_of_eq ((if_neg hknown).trans ((if_neg hother).trans (if_pos hwitness))) hset

/-- An acknowledgement is noted; without a suspicion it says nothing of the partner. -/
theorem exec_witnessAck {node : Nat} (hset : s.Settled) (hruns : pairRuns s = true) (hwitness : s.man.witnesses.contains node = true)
    (hpair : s.flt.pair ≠ 1) (hheld : s.flt.selfFenced = false) :
    exec (.witnessAck node heard) s = .next (s.modFlt fun f => { f with
      witnessAcks := AMap.set f.witnessAcks node s.time.lfc, ackHeard := AMap.set f.ackHeard node heard }) := by
  have hknown : ¬ ((! pairRuns s) = true ∨ (! s.man.witnesses.contains node) = true) := by rw [hruns, hwitness]; decide
  refine done_next_of_eq ((if_neg hknown).trans ?_) hset
  exact (congrArg regainLease (if_neg fun hbad => hpair hbad.1)).trans (regainLease_held hheld)

/-- The partner and each witness are sent a heartbeat. -/
theorem exec_heartbeatSend (hset : s.Settled) (hruns : pairRuns s = true) :
    ∃ t : State, exec .heartbeatSend s = .next t ∧ t.fab.inbuf.length = s.fab.inbuf.length + 1 + s.man.witnesses.length ∧
      t.flt = s.flt ∧ t.mem = s.mem ∧ t.groups = s.groups := by
  have hsend : doHeartbeatSend s = (s.partner :: s.man.witnesses).foldl (fun t n => sendCtrl t n 5
      (pack [(1, b2n s.flt.heardPartner.isSome), (48, s.flt.heardPartner.getD 0), (16, s.mem.mirrorPerStack)])) s :=
    if_neg (by simp [hruns])
  obtain ⟨hfab, hlen⟩ := foldl_sendCtrl 5
    (fun _ => pack [(1, b2n s.flt.heardPartner.isSome), (48, s.flt.heardPartner.getD 0), (16, s.mem.mirrorPerStack)])
    (s.partner :: s.man.witnesses) s
  refine ⟨_, done_next_of_eq hsend ((congrArg FaultS.raised hfab.flt).trans hset), hlen.trans ?_, hfab.flt, hfab.mem, hfab.groups⟩
  rw [List.length_cons]
  omega

/-! ## Leases and suspicion (R463, R464) -/

/-- PAIR changes or is as it should be already, and nothing else but its event. -/
theorem setPair_keeps (s : State) (n : Nat) : (setPair s n).flt = { s.flt with pair := n } ∧ (setPair s n).mem = s.mem ∧
    (setPair s n).groups = s.groups ∧ (setPair s n).fab = s.fab ∧ (setPair s n).time = s.time ∧ (setPair s n).straps = s.straps := by
  by_cases h : s.flt.pair = n
  · rw [setPair, if_pos h]
    subst h
    exact ⟨rfl, rfl, rfl, rfl, rfl, rfl⟩
  · obtain ⟨_, _, hchange⟩ := setPair_eq h
    rw [hchange]
    exact ⟨rfl, rfl, rfl, rfl, rfl, rfl⟩

/-- A fault of the pair on a state whose PAIR has changed. -/
theorem raise_setPair (t : State) (n cause : Nat) (ht : t.Settled) :
    (raise (setPair t n) { die := 18, cls := 0x11, cause := cause, node := t.partner % 512 }).flt.raised =
      [{ die := 18, cls := 0x11, cause := cause, node := t.partner % 512, frame := t.time.lfc }] := by
  obtain ⟨hflt, -, -, -, htime, -⟩ := setPair_keeps t n
  have hraised : (setPair t n).flt.raised = [] := (congrArg FaultS.raised hflt).trans ht
  have hframe : (setPair t n).time.lfc = t.time.lfc := congrArg TimeS.lfc htime
  change (setPair t n).flt.raised ++ [_] = _
  rw [hraised, hframe]
  rfl

/-- The state in which the partner counts among the dead packages, of which 64 are kept. -/
def suspected (s : State) : State :=
  s.modFab fun f => { f with dead := if f.dead.contains s.partner ∨ 64 ≤ f.dead.length then f.dead else f.dead ++ [s.partner] }

theorem mem_suspected (h : s.fab.dead.length < 64) : s.partner ∈ (suspected s).fab.dead := by
  change s.partner ∈ if s.fab.dead.contains s.partner = true ∨ 64 ≤ s.fab.dead.length then s.fab.dead else s.fab.dead ++ [s.partner]
  split
  case isTrue hkept => exact List.contains_iff_mem.mp (hkept.resolve_right (by omega))
  case isFalse => exact List.mem_append_right _ (List.mem_singleton_self _)

end

/-- Settles O53: each event on a state that it applies to. -/
theorem heartbeatsAndLeasesWatchThePartner : Obligations.HeartbeatsAndLeasesWatchThePartner := by
  unfold Obligations.HeartbeatsAndLeasesWatchThePartner
  refine ⟨fun s heard mirror hset hruns hpartner hmirror hfirst hheld => ?first,
    fun s heard mirror hset hruns hpartner hmirror hlater hpair hheld => ?later,
    fun s node heard mirror hset hruns hnode hself hother hmirror hwitness => ⟨_, exec_heartbeat_witness hset hruns hnode hself hother hmirror hwitness,
      AMap.find_set_same .., rfl⟩,
    fun s node heard hset hruns hwitness hpair hheld => exec_witnessAck hset hruns hwitness hpair hheld,
    fun s hset hruns => exec_heartbeatSend hset hruns, fun s hset hlapsed hheld hphase => ?lapse,
    fun s h hset hheard hpair hsilent hruns hroom => ?suspect⟩
  case first =>
    obtain ⟨hfab, hdead⟩ := partnerBack_spec (partnerAlive (beatNoted s heard mirror))
    obtain ⟨_, _, hevent⟩ := pushEvent_eq (partnerBack (partnerAlive (beatNoted s heard mirror))) 0x0303
      (pack [(3, 6), (3, 0), (48, s.time.lfc)])
    have hbeat := (doHeartbeat_partner hruns hpartner hmirror).trans ((partnerBeat_first (heard := heard) (mirror := mirror) hfirst hheld).trans hevent)
    have hflt : (partnerBack (partnerAlive (beatNoted s heard mirror))).flt = (partnerAlive (beatNoted s heard mirror)).flt := hfab.flt
    have hmem : (partnerBack (partnerAlive (beatNoted s heard mirror))).mem = { s.mem with partnerDown := false, mirrorLost := false } := hfab.mem
    have hgroups : (partnerBack (partnerAlive (beatNoted s heard mirror))).groups = s.groups := by
      rw [hfab.groups]; simp [partnerAlive, beatNoted]
    have htime : (partnerBack (partnerAlive (beatNoted s heard mirror))).time = s.time := by
      rw [hfab.time]; simp [partnerAlive, beatNoted]
    have halive : s.partner ∉ (partnerBack (partnerAlive (beatNoted s heard mirror))).fab.dead := by
      rw [hdead]
      simp [partnerAlive, State.partner, State.tray, beatNoted]
    clear hfab hdead
    generalize partnerBack (partnerAlive (beatNoted s heard mirror)) = u at *
    exact ⟨_, done_next_of_eq hbeat ((congrArg FaultS.raised hflt).trans hset), congrArg FaultS.pair hflt, congrArg FaultS.heardPartner hflt,
      congrArg FaultS.partnerMirror hflt, hmem, halive, hgroups, htime⟩
  case later =>
    exact done_next_of_eq ((doHeartbeat_partner hruns hpartner hmirror).trans (partnerBeat_later hlater hpair hheld)) hset
  case lapse =>
    have hdue : ¬ (leaseHeld s = true ∨ s.flt.selfFenced = true ∨ s.flt.phase < 3) := by
      simp only [hlapsed, hheld, Bool.false_eq_true, false_or]
      omega
    obtain ⟨hflt, hmem, hgroups, -⟩ := setPair_keeps (s.modFlt fun f => { f with selfFenced := true }) 4
    exact ⟨_, congrArg done (if_neg hdue), congrArg FaultS.selfFenced hflt, congrArg FaultS.pair hflt, hmem, hgroups,
      raise_setPair (s.modFlt fun f => { f with selfFenced := true }) 4 3 hset⟩
  case suspect =>
    have hdue : ¬ (s.flt.pair ≠ 0 ∨ s.time.lfc < h + 3 ∨ (! pairRuns s) = true) := by
      simp only [hpair, hruns, Bool.not_true, Bool.false_eq_true, or_false]
      omega
    have hop : doPairSuspect s = raise (setPair (suspected s) 1) { die := 18, cls := 0x11, cause := 1, node := s.partner % 512 } := by
      unfold doPairSuspect
      rw [hheard]
      exact if_neg hdue
    obtain ⟨hflt, hmem, hgroups, hfab, -⟩ := setPair_keeps (suspected s) 1
    refine ⟨_, congrArg done hop, congrArg FaultS.pair hflt, ?_, hmem, hgroups, raise_setPair (suspected s) 1 1 hset⟩
    change s.partner ∈ (setPair (suspected s) 1).fab.dead
    rw [hfab]
    exact mem_suspected hroom

end Sys2Proof.Machine
end

section
/-! SUPPORT. Rack time (R409–R415, R417, R420): what each step of it changes of the time alone, and the frame with its ports. -/
namespace Sys2Proof.Machine

/-! ## The frame (R344, R413, R422) -/

/-- Nothing but the packet unit, the routes and the ports differs. -/
def State.OnlyLinks (s t : State) : Prop := t = { s with fab := t.fab, route := t.route, ports := t.ports }

theorem State.OnlyLinks.trans {s t u : State} (h : s.OnlyLinks t) (h' : t.OnlyLinks u) : s.OnlyLinks u := by
  unfold State.OnlyLinks at *
  rw [h'.trans (by rw [h] : { t with fab := u.fab, route := u.route, ports := u.ports } =
    { s with fab := u.fab, route := u.route, ports := u.ports })]

theorem State.OnlyFabric.links {s t : State} (h : s.OnlyFabric t) : s.OnlyLinks t := by
  unfold State.OnlyLinks
  rw [h]

theorem reachNotice_onlyLinks (s : State) (node : Nat) (lost : Bool) : s.OnlyLinks (reachNotice s node lost) := by
  unfold reachNotice
  extract_lets tgt
  have hfab := State.OnlyFabric.foldl (f := fun s d => sendCtrl s d (if lost then 1 else 2) node) (fun _ _ => rfl) tgt
    (s.modRoute fun r => { r with
      reachSent := r.reachSent.filter (· != node) ++ (if lost then [node] else []), stats := bump r.stats 11 tgt.length })
  exact .trans (rfl : s.OnlyLinks (s.modRoute _)) hfab.links

theorem reachRegained_onlyLinks (s : State) : s.OnlyLinks (reachRegained s) :=
  foldl_kept (P := s.OnlyLinks) (fun t n h => h.trans (reachNotice_onlyLinks t n false)) _ s rfl

theorem joinPorts_onlyLinks (s : State) : s.OnlyLinks (joinPorts s) :=
  .trans (rfl : s.OnlyLinks { s with ports := _ }) (reachRegained_onlyLinks _)

/-- The dips of the frame that ends are announced, and counted anew. -/
def dipsReported (s : State) : State :=
  if s.power.dipInFrame = 0 then s
  else (pushEvent s 0x0504 (pack [(16, s.power.dipInFrame), (12, s.power.dipMin)])).modPower fun p => { p with dipInFrame := 0, dipMin := 0 }

theorem dipsReported_spec (s : State) : ∃ n h m p, dipsReported s = { s with fresh := n, host := h, mgmt := m, power := p } ∧
    p.power = s.power.power ∧ p.cfg = s.power.cfg ∧ p.safe = s.power.safe := by
  unfold dipsReported
  split
  · exact ⟨s.fresh, s.host, s.mgmt, s.power, rfl, rfl, rfl, rfl⟩
  · obtain ⟨h, m, hevent⟩ := pushEvent_eq s 0x0504 (pack [(16, s.power.dipInFrame), (12, s.power.dipMin)])
    rw [hevent]
    exact ⟨_, h, m, _, rfl, rfl, rfl, rfl⟩

/-- The state with the power of the frame that ends, and the filler as drawn. -/
def powerMeasured (s : State) (w : Nat) : State :=
  State.modPower { s with fresh := s.fresh + 1 } fun p => { p with power := w, filler := p.cfg.floorEn && bitAt (Config.free s.fresh) 0 }

/-- The power part of a frame sets its limit by the power measured. -/
theorem powerFrame_spec (s : State) (w : Nat) : ∃ n h m p, powerFrame s w = { s with fresh := n, host := h, mgmt := m, power := p } ∧
    p.power = w ∧ p.limit = weirLimit s.power.cfg (capEff s) w := by
  have hframe : powerFrame s w = setLimit (dipsReported (powerMeasured s w)) := rfl
  obtain ⟨_, _, _, q, hdips, hpower, hcfg, hsafe⟩ := dipsReported_spec (powerMeasured s w)
  obtain ⟨n, h, m, hlimit⟩ := setLimit_eq (dipsReported (powerMeasured s w))
  have hcap : capEff (dipsReported (powerMeasured s w)) = capEff s := by
    rw [hdips]
    simp only [capEff, hcfg, hsafe]
    rfl
  rw [hframe, hlimit, hcap, hdips]
  refine ⟨n, h, m, _, rfl, hpower, ?_⟩
  simp only [hpower, hcfg]
  rfl

/-! ## What touches the time alone (R412, R413, R415) -/

/-- Nothing but the time differs, and the frame count not at all. -/
structure State.SameCount (s t : State) : Prop where
  only : t = { s with time := t.time }
  lfc : t.time.lfc = s.time.lfc
  begun : t.time.begun = s.time.begun

theorem State.SameCount.refl (s : State) : s.SameCount s := ⟨rfl, rfl, rfl⟩

theorem State.SameCount.trans {s t u : State} (h : s.SameCount t) (h' : t.SameCount u) : s.SameCount u := by
  refine ⟨?_, h'.lfc.trans h.lfc, h'.begun.trans h.begun⟩
  exact h'.only.trans (by rw [h.only] : { t with time := u.time } = { s with time := u.time })

theorem State.SameCount.flt {s t : State} (h : s.SameCount t) : t.flt = s.flt := (congrArg State.flt h.only).trans rfl

/-- The source selected, and the HOPS sent, are all that a selection sets. -/
theorem reselect_eq (s : State) : ∃ h p, reselect s = s.modTime fun t => { t with hops := h, srcPort := p } := by
  unfold reselect
  split
  · exact ⟨_, _, rfl⟩
  · split <;> exact ⟨_, _, rfl⟩

/-- What sends HOPS 0 has no source. -/
theorem reselect_keeper {s : State} (h : isKeeper s.time = true) : reselect s = s.modTime fun t => { t with hops := 0, srcPort := 0x7F } :=
  if_pos h

theorem reselect_sameCount (s : State) : s.SameCount (reselect s) := by
  obtain ⟨_, _, hsel⟩ := reselect_eq s
  rw [hsel]
  exact ⟨rfl, rfl, rfl⟩

theorem holdover_sameCount (s : State) : s.SameCount (holdover s) := by
  unfold holdover State.modTime
  dsimp only
  split_ifs <;> exact ⟨rfl, rfl, rfl⟩

/-- Without a TIME_ACCEPT that waits, invalid pins are the time's own. -/
theorem pinsLost_eq {s : State} (h : s.time.rebase = none) : pinsLost s = holdover (s.modTime fun t => { t with pinsOk := false, goodFrames := 0 }) := by
  have hnone : (holdover (s.modTime fun t => { t with pinsOk := false, goodFrames := 0 })).time.rebase = none := by
    unfold holdover State.modTime
    dsimp only
    split_ifs <;> exact h
  unfold pinsLost
  extract_lets u
  simp only [u, hnone]

theorem pinsLost_sameCount {s : State} (h : s.time.rebase = none) : s.SameCount (pinsLost s) := by
  rw [pinsLost_eq h]
  exact .trans (⟨rfl, rfl, rfl⟩ : s.SameCount (s.modTime _)) (holdover_sameCount _)

/-- A locked package whose pins become invalid holds over. -/
theorem pinsLost_locked {s : State} (h : s.time.rebase = none) (hst : s.time.st = .locked) : pinsLost s =
    s.modTime fun t => { t with pinsOk := false, goodFrames := 0, st := .holdover, holdSince := t.lfc, frameLen := 10240 } := by
  rw [pinsLost_eq h]
  simp only [holdover, State.modTime, hst, if_true]

/-- The part of a frame in which the offset is worked off. -/
def offsetWorked (s : State) : State :=
  if s.time.st = .steering then
    (if s.time.offset = 0 then lock s
     else s.modTime fun t => { t with
       frameLen := steerLen s.time.offset, offset := t.offset + (Int.ofNat (steerLen s.time.offset) - 10240) })
  else s

theorem offsetWorked_sameCount (s : State) : s.SameCount (offsetWorked s) := by
  unfold offsetWorked
  split_ifs <;> exact ⟨rfl, rfl, rfl⟩

/-- The count as a frame starts. -/
def counted (s : State) : State :=
  s.modTime fun t => { t with
    lfc := if t.begun then t.lfc else (t.lfc + 1) % frameMod, begun := false, sinceEdge := t.sinceEdge + t.frameLen, edgeSeen := false }

/-- The count as a frame starts, with the pins invalid where an edge that should have come is missing. -/
def edgesChecked (s : State) : State :=
  if s.time.pinsOk ∧ ((s.time.st = .locked ∧ ! s.time.edgeSeen) ∨ (s.time.st ≠ .locked ∧ 20480 ≤ (counted s).time.sinceEdge)) then
    pinsLost (counted s)
  else counted s

theorem edgesChecked_sameCount {s : State} (h : s.time.rebase = none) : (counted s).SameCount (edgesChecked s) := by
  unfold edgesChecked
  split
  · exact pinsLost_sameCount (s := counted s) h
  · exact .refl _

/-- How long the package has been without rack time, and what its ports send of it. -/
def timeSent (s : State) : State :=
  let s := s.modTime fun t => { t with
    holdS := if t.st = .locked ∨ t.st = .init then 0 else min 4095 ((t.lfc - t.holdSince) * 65536 / 1000000000) }
  { s with ports := AMap.mapVals (fun _ x => if x.st = 2 ∨ x.st = 3 then { x with timeTx := timeBlockOf s.time } else x) s.ports }

theorem timeFrame_eq (s : State) : timeFrame s = timeSent (reselect (offsetWorked (edgesChecked s))) := rfl

/-- The count advances with the frame, unless an edge has begun it. -/
theorem timeFrame_spec {s : State} (h : s.time.rebase = none) : ∃ tm ports, timeFrame s = { s with time := tm, ports := ports } ∧
    tm.lfc = (if s.time.begun then s.time.lfc else (s.time.lfc + 1) % 2 ^ 48) ∧ tm.begun = false ∧
    (s.time.st = .steering → s.time.pinsOk = false → s.time.offset ≠ 0 → tm.frameLen = steerLen s.time.offset ∧
      tm.offset = s.time.offset + (Int.ofNat (steerLen s.time.offset) - 10240)) := by
  have hcount : (counted s).SameCount (reselect (offsetWorked (edgesChecked s))) :=
    (edgesChecked_sameCount h).trans ((offsetWorked_sameCount _).trans (reselect_sameCount _))
  refine ⟨(timeSent (reselect (offsetWorked (edgesChecked s)))).time, (timeSent (reselect (offsetWorked (edgesChecked s)))).ports, ?_,
    hcount.lfc, hcount.begun, fun hst hpins hoff => ?_⟩
  · rw [timeFrame_eq]
    generalize reselect (offsetWorked (edgesChecked s)) = u at hcount
    have hu := hcount.only
    unfold timeSent
    dsimp only
    rw [hu]
    rfl
  · have hchecked : edgesChecked s = counted s := if_neg (by simp [hpins])
    have hworked : offsetWorked (counted s) = (counted s).modTime fun t => { t with
        frameLen := steerLen s.time.offset, offset := t.offset + (Int.ofNat (steerLen s.time.offset) - 10240) } :=
      (if_pos hst).trans (if_neg hoff)
    rw [hchecked, hworked]
    obtain ⟨_, _, hsel⟩ := reselect_eq ((counted s).modTime fun t => { t with
        frameLen := steerLen s.time.offset, offset := t.offset + (Int.ofNat (steerLen s.time.offset) - 10240) })
    rw [hsel]
    exact ⟨rfl, rfl⟩

/-- A frame starts: the count advances, and the limit follows the power measured. -/
theorem exec_frameStart {s : State} {w : Nat} (hset : s.Settled) (hphase : s.flt.phase ≠ 0) (hrebase : s.time.rebase = none) :
    ∃ t : State, exec (.frameStart w) s = .next t ∧ t.time.lfc = (if s.time.begun then s.time.lfc else (s.time.lfc + 1) % 2 ^ 48) ∧
      t.time.begun = false ∧ t.power.power = w ∧ t.power.limit = weirLimit s.power.cfg (capEff s) w ∧ t.mem = s.mem ∧ t.groups = s.groups ∧
      t.seqs = s.seqs ∧ t.coll = s.coll ∧ t.xlat = s.xlat ∧
      (s.time.st = .steering → s.time.pinsOk = false → s.time.offset ≠ 0 → t.time.frameLen = steerLen s.time.offset ∧
        t.time.offset = s.time.offset + (Int.ofNat (steerLen s.time.offset) - 10240)) := by
  obtain ⟨tm, ports, htime, hlfc, hbegun, hsteer⟩ := timeFrame_spec hrebase
  obtain ⟨n, h, m, p, hpower, hw, hlimit⟩ := powerFrame_spec (timeFrame s) w
  have hlinks := joinPorts_onlyLinks (powerFrame (timeFrame s) w)
  have hcap : weirLimit (timeFrame s).power.cfg (capEff (timeFrame s)) w = weirLimit s.power.cfg (capEff s) w := by
    rw [htime]
    rfl
  rw [hpower, htime] at hlinks
  have hop : doFrameStart s w = routeFrame (joinPorts (powerFrame (timeFrame s) w)) := if_neg hphase
  rw [hpower, htime] at hop
  generalize joinPorts _ = u at hop hlinks
  have hflt : u.flt = s.flt := (congrArg State.flt hlinks).trans rfl
  have htm : u.time = tm := (congrArg State.time hlinks).trans rfl
  have hp : u.power = p := (congrArg State.power hlinks).trans rfl
  have hmem : u.mem = s.mem := (congrArg State.mem hlinks).trans rfl
  have hgroups : u.groups = s.groups := (congrArg State.groups hlinks).trans rfl
  have hseqs : u.seqs = s.seqs := (congrArg State.seqs hlinks).trans rfl
  have hcoll : u.coll = s.coll := (congrArg State.coll hlinks).trans rfl
  have hxlat : u.xlat = s.xlat := (congrArg State.xlat hlinks).trans rfl
  refine ⟨routeFrame u, done_next_of_eq hop ((congrArg FaultS.raised hflt).trans hset), ?_⟩
  change u.time.lfc = _ ∧ u.time.begun = false ∧ u.power.power = w ∧ u.power.limit = _ ∧ u.mem = s.mem ∧ u.groups = s.groups ∧
    u.seqs = s.seqs ∧ u.coll = s.coll ∧ u.xlat = s.xlat ∧ (_ → _ → _ → u.time.frameLen = _ ∧ u.time.offset = _)
  rw [htm, hp]
  exact ⟨hlfc, hbegun, hw, hlimit.trans hcap, hmem, hgroups, hseqs, hcoll, hxlat, hsteer⟩

end Sys2Proof.Machine
end

section
/-! SUPPORT. RACKSYNC, the number sources and the time commands (R409–R413, R417, R420). -/
namespace Sys2Proof.Machine

/-! ## Answers leave the time -/

theorem pushQueue_time (s : State) (q ty e : Nat) : (pushQueue s q ty e).time = s.time := by
  obtain ⟨h, hq⟩ := pushQueue_eq s q ty e
  rw [hq]

theorem deliver_time (s : State) (ref : SlotRef) (r : Response) : (deliver s ref r).time = s.time := by
  unfold deliver
  extract_lets plain hdr ctr
  -- sealing counts the response with the session's others
  split
  case h_1 body gtag u hseal =>
    have hu : u.time = s.time := by
      split at hseal <;> obtain ⟨-, -, rfl⟩ := hseal <;> rfl
    extract_lets
    split
    · split
      · exact hu
      · exact (pushQueue_time ..).trans hu
    · split <;> exact hu

theorem respond_time (s : State) (m : Master) (code st : Nat) (d : List (Nat × Nat)) : (respond s m code st d).time = s.time := by
  unfold respond
  extract_lets r s1
  split
  · rfl
  · exact deliver_time ..

/-! ## RACKSYNC edges (R409, R410, R413) -/

theorem steer_pinsOk (s : State) (off : Int) : (steer s off).time.pinsOk = s.time.pinsOk := by
  unfold steer
  split <;> rfl

/-- What an edge does to the state leaves the pins valid. -/
theorem edgeState_pinsOk (s : State) : (edgeState s).time.pinsOk = s.time.pinsOk := by
  unfold edgeState
  extract_lets t u
  split
  · split
    · rw [respond_time]; rfl
    · rfl
  · split_ifs
    · rfl
    · rfl
    · rfl
    · rfl
    · rfl
    · rfl
    · split
      · rfl
      · exact steer_pinsOk ..
      · rfl

/-- An edge, as it is counted. -/
def edgeCounted (s : State) : State := s.modTime fun t => { t with edges := t.edges + 1, sinceEdge := 0, edgeSeen := true }

/-- A good edge: the sixteenth in a row makes the pins valid. -/
def edgeGood (s : State) : State :=
  (edgeCounted s).modTime fun t => { t with
    goodFrames := min 16 (t.goodFrames + 1), pinsOk := t.pinsOk || decide (16 ≤ t.goodFrames + 1) }

theorem doEdge_bad (s : State) : doEdge s false = pinsLost (edgeCounted s) := rfl

theorem doEdge_valid {s : State} (h : (edgeGood s).time.pinsOk = true) : doEdge s true = edgeState (edgeGood s) := if_pos h

theorem doEdge_invalid {s : State} (h : (edgeGood s).time.pinsOk = false) : doEdge s true = edgeGood s :=
  if_neg fun hbad => Bool.false_ne_true (h.symm.trans hbad)

section
variable {s : State}

theorem exec_racksyncEdge_early (hset : s.Settled) (hpins : s.time.pinsOk = false) (hgood : s.time.goodFrames < 15) :
    exec (.racksyncEdge true) s = .next (s.modTime fun t => { t with
      edges := t.edges + 1, sinceEdge := 0, edgeSeen := true, goodFrames := t.goodFrames + 1 }) := by
  have hmin : min 16 (s.time.goodFrames + 1) = s.time.goodFrames + 1 := by omega
  have hfew : decide (16 ≤ s.time.goodFrames + 1) = false := decide_eq_false (by omega)
  have hstill : (edgeGood s).time.pinsOk = false := by
    change (s.time.pinsOk || decide (16 ≤ s.time.goodFrames + 1)) = false
    rw [hpins, hfew]
    rfl
  have hcounted : edgeGood s = (edgeCounted s).modTime fun t => { t with
      goodFrames := min 16 (t.goodFrames + 1), pinsOk := (edgeGood s).time.pinsOk } := rfl
  refine done_next_of_eq ((doEdge_invalid hstill).trans (hcounted.trans ?_)) hset
  rw [hstill, ← hpins]
  simp only [edgeCounted, State.modTime, hmin]

/-- With the pins valid the edge gives the package its number, in INIT (R413). -/
theorem doEdge_init {n : Nat} (hpins : s.time.pinsOk = true) (hn : edgeState (edgeGood s) = takeNumber (edgeGood s) n) :
    doEdge s true = takeNumber (edgeGood s) n := by
  refine (doEdge_valid ?_).trans hn
  change (s.time.pinsOk || decide (16 ≤ s.time.goodFrames + 1)) = true
  rw [hpins]
  rfl

/-- The timekeeper begins at its base. -/
theorem edgeState_base (hrebase : s.time.rebase = none) (hst : s.time.st = .init) (hkeeper : isKeeper s.time = true)
    (hnone : s.time.numbered = false) (hwait : s.time.roleSince + 16 ≤ s.time.lfc) : edgeState s = takeNumber s s.time.base := by
  simp only [edgeState, hrebase, hst, hkeeper, hnone, hwait, Option.isSome_none, Bool.false_eq_true, if_false, if_true]

/-- Another takes the number of its source. -/
theorem edgeState_source (hrebase : s.time.rebase = none) (hst : s.time.st = .init) (hkeeper : isKeeper s.time = false)
    (hport : s.time.srcPort ≠ 0x7F) (hnum : s.time.numbered = true) : edgeState s = takeNumber s (rackNumber s.time) := by
  simp only [edgeState, hrebase, hst, hkeeper, hport, hnum, Option.isSome_none, Bool.false_eq_true, if_false, Bool.not_true, or_self]

/-! ## Sources and alternates (R412, R413) -/

theorem exec_numberSourceLoss (hset : s.Settled) (hkeeper : isKeeper s.time = false) (hst : s.time.st = .locked)
    (hsilent : ∀ x ∈ s.time.sources, x.2.heardAt + 64 ≤ s.time.lfc) :
    exec .numberSourceLoss s = .next (s.modTime fun t => { t with st := .holdover, holdSince := t.lfc, frameLen := 10240 }) := by
  have hnone : (s.time.sources.any fun x => decide (s.time.lfc < x.2.heardAt + 64)) = false :=
    List.any_eq_false.mpr fun x hx => by simpa using hsilent x hx
  have hlost : ¬ (isKeeper s.time = true ∨ (s.time.st ≠ .locked ∧ s.time.st ≠ .steering) ∨
      (s.time.sources.any fun x => decide (s.time.lfc < x.2.heardAt + 64)) = true) := by
    simp [hkeeper, hst, hnone]
  refine done_next_of_eq ((if_neg hlost).trans ?_) hset
  simp only [holdover, State.modTime, hst, if_true]

/-- The alternate sends HOPS 0 itself. -/
def alternateActs (s : State) : State :=
  s.modTime fun t => { t with altActive := true, altClearRun := 0, altClearAt := none, hops := 0, srcPort := 0x7F }

theorem doTakeover_eq (hrole : s.time.role = 2) (hidle : s.time.altActive = false) (hsilent : s.time.lastHoldClear + 16 ≤ s.time.lfc) :
    doTakeover s = if s.time.pinsOk then lock (alternateActs s) else
      (alternateActs s).modTime fun t => if t.st = .init then t else { t with st := .holdover, frameLen := 10240 } := by
  have hdue : ¬ (s.time.role ≠ 2 ∨ s.time.altActive = true ∨ s.time.lfc < s.time.lastHoldClear + 16) := by
    simp [hrole, hidle]
    omega
  have hkeeper : isKeeper (s.modTime fun t => { t with altActive := true, altClearRun := 0, altClearAt := none }).time = true := by
    simp [isKeeper, hrole]
  refine (if_neg hdue).trans ?_
  rw [reselect_keeper hkeeper]
  rfl

theorem exec_alternateStop (hset : s.Settled) (hon : s.time.altActive = true) (hclear : 16 ≤ s.time.altClearRun) :
    ∃ t : State, exec .alternateStop s = .next t ∧ t.time.altActive = false ∧ t.time.lastHoldClear = s.time.lfc ∧
      t.time.lfc = s.time.lfc ∧ t = { s with time := t.time } := by
  have hdue : ¬ ((! s.time.altActive) = true ∨ s.time.altClearRun < 16) := by
    simp [hon]
    omega
  obtain ⟨_, _, hsel⟩ := reselect_eq (s.modTime fun t => { t with altActive := false, lastHoldClear := t.lfc })
  exact ⟨_, done_next_of_eq ((if_neg hdue).trans hsel) hset, rfl, rfl, rfl, rfl⟩

/-! ## Time blocks (R411, R413) -/

/-- The time alone differs, and of it neither the count nor what was heard of the sources. -/
structure State.SameHeard (s t : State) : Prop where
  count : s.SameCount t
  sources : t.time.sources = s.time.sources

theorem State.SameHeard.trans {s t u : State} (h : s.SameHeard t) (h' : t.SameHeard u) : s.SameHeard u :=
  ⟨h.count.trans h'.count, h'.sources.trans h.sources⟩

theorem reselect_sameHeard (s : State) : s.SameHeard (reselect s) := by
  refine ⟨reselect_sameCount s, ?_⟩
  obtain ⟨_, _, hsel⟩ := reselect_eq s
  rw [hsel]
  rfl

theorem checkNumber_sameHeard (s : State) (n : Nat) : s.SameHeard (checkNumber s n) := by
  unfold checkNumber steer
  dsimp only
  split_ifs <;> exact ⟨⟨rfl, rfl, rfl⟩, rfl⟩

/-- What a pair of blocks says of its source. -/
def sourceHeard (s : State) (a : BitVec 56) (late : Bool) : NumSource :=
  { number := (bits a.toNat 0 48 + b2n late) % 2 ^ 48, hops := bits a.toNat 48 4, hold := bitAt a.toNat 52, alt := bitAt a.toNat 53
    heardAt := s.time.lfc }

/-- The state in which a pair of blocks has been noted. -/
def blockNoted (s : State) (p : Nat) (a : BitVec 56) (late : Bool) : State :=
  s.modTime fun t => { t with
    sources := AMap.set t.sources p (sourceHeard s a late)
    lastHoldClear := if bitAt a.toNat 52 then t.lastHoldClear else t.lfc
    altClearRun := if bitAt a.toNat 53 then 0 else if t.altClearAt = some t.lfc then t.altClearRun
      else if t.altClearAt.any (fun a => t.lfc ≤ a + 1) then t.altClearRun + 1 else 1
    altClearAt := if bitAt a.toNat 53 then none else some t.lfc }

/-- A valid pair is noted; what follows for the package's own number leaves the count. -/
theorem doTimeBlock_heard {p : Nat} {a : BitVec 56} (late : Bool) (hzero : bits a.toNat 54 2 = 0) (hst : (s.prt p).st = 2)
    (hacc : (s.prt p).accepted = true) (hquar : (s.prt p).quarantined = false) (hep : s.isEndPointPort p = false) :
    (blockNoted s p a late).SameHeard (doTimeBlock s p a a late) := by
  have hvalid : ¬ (a ≠ a ∨ bits a.toNat 54 2 ≠ 0 ∨ ((s.prt p).st ≠ 2 ∧ (s.prt p).st ≠ 3) ∨ (! (s.prt p).accepted) = true ∨
      (s.prt p).quarantined = true ∨ s.isEndPointPort p = true) := by
    simp [hzero, hst, hacc, hquar, hep]
  have hsel := reselect_sameHeard (blockNoted s p a late)
  unfold doTimeBlock
  rw [if_neg hvalid]
  extract_lets n hold alt src again s1 u v
  have hu : (blockNoted s p a late).SameHeard u := hsel
  have hv : u.SameHeard v := ⟨⟨rfl, rfl, rfl⟩, rfl⟩
  clear_value u v
  split_ifs
  · exact hu
  · exact hu.trans hv
  · exact hu.trans (hv.trans (checkNumber_sameHeard v n))
  · exact hu

/-! ## The time commands (R417, R420) -/

theorem exec_timeSet {m : Master} {role base limit : Nat} (h : s.Takes m 0x03A0 []) (hrole : role ≤ 2) (hbase : base < frameMod)
    (h1 : 1 ≤ limit) (h4096 : limit ≤ 4096) :
    ∃ tm : TimeS, exec (.timeSet m role base limit) s = .next (State.answered { s with time := tm } m 0x03A0 OK) ∧
      tm.role = role ∧ tm.base = base ∧ tm.steerLimit = limit ∧ tm.lfc = s.time.lfc ∧ tm.st = s.time.st ∧ tm.offset = s.time.offset := by
  obtain ⟨hops, port, hsel⟩ := reselect_eq (s.modTime fun t => { t with
    role := role, base := base, steerLimit := limit, altActive := t.altActive && role == 2
    roleSince := if role = t.role then t.roleSince else t.lfc })
  have hlegal : ¬ (2 < role ∨ frameMod ≤ base ∨ limit = 0 ∨ 4096 < limit) := by
    rintro (hbad | hbad | hbad | hbad)
    · omega
    · exact absurd hbase (Nat.not_lt.mpr hbad)
    · omega
    · omega
  refine ⟨_, done_keyless h ((if_neg hlegal).trans (congrArg (respond · m 0x03A0 OK) hsel)) (by decide) rfl rfl, rfl, rfl, rfl, rfl, rfl, rfl⟩

/-- A jump that is accepted waits for the next edge. -/
theorem exec_timeAccept_waits {m : Master} (h : s.Takes m 0x03A2 []) (hidle : s.time.rebase = none) (hst : s.time.st = .jumped)
    (hpins : s.time.pinsOk = true) : exec (.timeAccept m) s = .next (s.modTime fun t => { t with rebase := some m }) := by
  refine done_next_of_eq ((row_eq s m 0x03A2 [] _ h).trans ?_) h.raised
  rw [s.begun_nil m]
  exact (if_neg (by simp [hidle])).trans (if_neg (by simp [hst, hpins]))

theorem exec_timeAccept_refused {m : Master} (h : s.Takes m 0x03A2 []) (hidle : s.time.rebase = none)
    (hno : s.time.st ≠ .jumped ∨ s.time.pinsOk = false) : exec (.timeAccept m) s = .next (s.answered m 0x03A2 REFUSED) := by
  have hno : s.time.st ≠ .jumped ∨ (! s.time.pinsOk) = true := hno.imp id fun hpins => by rw [hpins]; rfl
  exact done_keyless h ((if_neg (by simp [hidle])).trans (if_pos hno)) (by decide) rfl rfl

end

/-- Settles O55: frames, edges, sources, blocks and commands in turn. -/
theorem timeAdvancesAndObeysItsCommands : Obligations.TimeAdvancesAndObeysItsCommands := by
  unfold Obligations.TimeAdvancesAndObeysItsCommands
  refine ⟨fun s w hset hphase => done_next_of_eq (if_pos hphase) hset, fun s w hset hphase hrebase => exec_frameStart hset hphase hrebase,
    fun s hset hrebase hst => ?lost, fun s hset hpins => ?qualify, fun s hset hpins hrebase hst => ?number,
    fun s hset hkeeper hst hsilent => exec_numberSourceLoss hset hkeeper hst hsilent, fun s hset hrole hidle hsilent => ?takeover,
    fun s hset hon hclear => exec_alternateStop hset hon hclear, fun s p a b late hset hab => done_next_of_eq (if_pos (.inl hab)) hset,
    fun s p a late hset hzero hst hacc hquar hep => ?block,
    fun s m role base limit h hrole hbase h1 h4096 => exec_timeSet h hrole hbase h1 h4096,
    fun s m h hidle hst hpins => exec_timeAccept_waits h hidle hst hpins, fun s m h hidle hno => exec_timeAccept_refused h hidle hno⟩
  case lost =>
    exact ⟨done_next_of_eq ((doEdge_bad s).trans (pinsLost_locked (s := edgeCounted s) hrebase hst)) hset,
      done_next_of_eq (pinsLost_locked hrebase hst) hset⟩
  case qualify =>
    refine ⟨fun hgood => exec_racksyncEdge_early hset hpins hgood, fun hgood => ?_⟩
    have hvalid : (edgeGood s).time.pinsOk = true := by
      change (s.time.pinsOk || decide (16 ≤ s.time.goodFrames + 1)) = true
      rw [decide_eq_true (by omega), Bool.or_true]
    exact ⟨_, congrArg done (doEdge_valid hvalid), (edgeState_pinsOk _).trans hvalid⟩
  case number =>
    refine ⟨fun hkeeper hnone hwait => ?_, fun hkeeper hport hnum => ?_⟩
    · exact ⟨_, done_next_of_eq (doEdge_init hpins (edgeState_base (s := edgeGood s) hrebase hst hkeeper hnone hwait)) hset, rfl, rfl, rfl⟩
    · exact ⟨_, done_next_of_eq (doEdge_init hpins (edgeState_source (s := edgeGood s) hrebase hst hkeeper hport hnum)) hset, Nat.mod_mod .., rfl, rfl,
        rfl⟩
  case takeover =>
    have hop := doTakeover_eq hrole hidle hsilent
    cases hpins : s.time.pinsOk with
    | true =>
      rw [hpins, if_pos rfl] at hop
      exact ⟨_, done_next_of_eq hop hset, rfl, rfl, rfl, fun _ => rfl, fun hbad => absurd hbad (by decide), rfl⟩
    | false =>
      rw [hpins, if_neg (by decide)] at hop
      have hacts : ∃ t : State, doTakeover s = t ∧ t.time.altActive = true ∧ t.time.hops = 0 ∧ t.time.lfc = s.time.lfc ∧
          (s.time.st ≠ .init → t.time.st = .holdover) ∧ t = { s with time := t.time } := by
        by_cases hinit : s.time.st = .init
        · exact ⟨alternateActs s, hop.trans (congrArg (fun tm => ({ alternateActs s with time := tm } : State)) (if_pos hinit)), rfl, rfl, rfl,
            fun hbad => absurd hinit hbad, rfl⟩
        · exact ⟨(alternateActs s).modTime fun t => { t with st := .holdover, frameLen := 10240 },
            hop.trans (congrArg (fun tm => ({ alternateActs s with time := tm } : State)) (if_neg hinit)), rfl, rfl, rfl, fun _ => rfl, rfl⟩
      obtain ⟨t, ht, hact, hhops, hlfc, hheld, honly⟩ := hacts
      exact ⟨t, done_next_of_eq ht (by rw [honly]; exact hset), hact, hhops, hlfc, fun hbad => absurd hbad (by decide), fun _ => hheld, honly⟩
  case block =>
    have hheard := doTimeBlock_heard (s := s) (p := p) (a := a) late hzero hst hacc hquar hep
    refine ⟨_, done_eq _ ((congrArg FaultS.raised hheard.count.flt).trans hset), hheard.count.only, hheard.count.lfc, ?_⟩
    rw [hheard.sources]
    exact AMap.find_set_same ..

end Sys2Proof.Machine
end

section
/-! SUPPORT. Attestation (R440, R492–R494). -/
namespace Sys2Proof.Machine

section
variable {s : State} {t : Nat}

theorem spdmUp_serves (h : spdmUp s t = true) : ¬ (! spdmUp s t) = true := by simp [h]

/-- A key exchange opens a session while its transport has fewer than four. -/
theorem exec_keyExchange (hset : s.Settled) (hup : spdmUp s t = true)
    (hroom : s.mgmt.sessions.countP (fun e => sessionSide e.2 == sessionSide t) < 4) :
    exec (.spdmRequest t .keyExchange) s = .next (spdmAnswer (s.modMgmt fun m => { m with
      sessions := m.sessions ++ [(m.nextSession, t)], nextSession := m.nextSession + 1 }) t 0x64) :=
  done_next_of_eq ((if_neg (spdmUp_serves hup)).trans (if_neg (Nat.not_le.mpr hroom))) hset

/-- The session that a transport ends is among its own no more. -/
theorem exec_endSession {n : Nat} (hset : s.Settled) (hup : spdmUp s t = true) (hopen : hasSession s t n = true) :
    ∃ u : State, exec (.spdmRequest t (.endSession n)) s = .next u ∧ hasSession u t n = false ∧ u.mem = s.mem ∧ u.flt = s.flt ∧
      u.host = s.host ∧ u.mgmt.spdmOut = s.mgmt.spdmOut ++ [(t, 0x6C)] := by
  refine ⟨_, done_next_of_eq ((if_neg (spdmUp_serves hup)).trans (if_pos hopen)) hset, ?_, rfl, rfl, rfl, rfl⟩
  refine List.any_eq_false.mpr fun e he => ?_
  obtain ⟨-, hkept⟩ := List.mem_filter.mp he
  intro hmatch
  rw [hmatch] at hkept
  exact absurd hkept (by decide)

theorem exec_getMeasurements {i : Nat} {b : Bytes} (hset : s.Settled) (hup : spdmUp s t = true) (h1 : 1 ≤ i) (h13 : i ≤ 13) :
    exec (.getMeasurements t i b) s = .next (spdmAnswer (s.modMgmt fun m => { m with evidence := leBytes 48 (measurement s i) }) t 0x60) :=
  done_next_of_eq ((if_neg (spdmUp_serves hup)).trans (if_pos ⟨h1, h13⟩)) hset

theorem exec_getEvidence {b : Bytes} (hset : s.Settled) (hup : spdmUp s t = true) (hb : b.length = 32) :
    exec (.getMeasurements t 0xEF b) s = .next (spdmAnswer (s.modMgmt fun m => { m with evidence := evidenceOf s b }) t 0x60) :=
  done_next_of_eq ((if_neg (spdmUp_serves hup)).trans ((if_neg (by decide)).trans (if_pos ⟨rfl, hb⟩))) hset

end

/-- Settles O34: each request by its kind. -/
theorem attestationAnswersAndEndsSessions : Obligations.AttestationAnswersAndEndsSessions := by
  unfold Obligations.AttestationAnswersAndEndsSessions
  refine ⟨fun s t hset hup => ?plain,
    fun s t hset hup hroom => exec_keyExchange hset hup hroom, fun s t n hset hup hopen => exec_endSession hset hup hopen,
    fun s t i b hset hup h1 h13 => exec_getMeasurements hset hup h1 h13, fun s t b hset hup hb => exec_getEvidence hset hup hb,
    fun s n hset hopen => congrArg done (if_neg (by simp [hopen]))⟩
  case plain =>
    have hup := spdmUp_serves hup
    exact ⟨done_next_of_eq (if_neg hup) hset, done_next_of_eq (if_neg hup) hset, done_next_of_eq (if_neg hup) hset,
      done_next_of_eq (if_neg hup) hset, done_next_of_eq (if_neg hup) hset, done_next_of_eq (if_neg hup) hset⟩

end Sys2Proof.Machine
end

section
/-! SUPPORT. The commands of bring-up (R460, R462, R469, R470, R473). -/
namespace Sys2Proof.Machine

section
variable {s : State} {m : Master}

/-! ## Partitions (R462, R473) -/

@[simp] theorem State.begun_partCheck (s : State) (m : Master) (k : List Key) : partCheck (s.begun m k) = partCheck s := by
  obtain ⟨a, ha⟩ := s.begun_eq m k
  rw [ha]
  rfl

@[simp] theorem State.begun_partInUse (s : State) (m : Master) (k : List Key) (p : Nat) : partInUse (s.begun m k) p = partInUse s p := by
  obtain ⟨a, ha⟩ := s.begun_eq m k
  rw [ha]
  rfl

theorem exec_partStart {p : Nat} (h : s.Takes m 0x0202 [.part p]) (hp : p < 64) (hm : mayManage s m p = true) (hok : partCheck s = OK) :
    exec (.partStart m p) s = .next ((if s.flt.parts.contains p then s.begun m [.part p] else
      (s.begun m [.part p]).modFlt fun f => { f with parts := f.parts ++ [p] }).answered m 0x0202 OK) := by
  have hbody : (if s.flt.parts.contains p then s.begun m [.part p] else
      (s.begun m [.part p]).modFlt fun f => { f with parts := f.parts ++ [p] }).mbx.cur = s.mbx.cur := by
    split <;> exact s.begun_mbx_cur ..
  refine done_row_unraised h ((if_neg (Nat.not_lt.mpr (Nat.le_of_lt_succ hp))).trans ((if_neg (by simp [hm])).trans ?_)) (by decide) ?_ hbody
  · have hmatch : OK ≠ MISMATCH := by decide
    have hready : OK ≠ REFUSED := by decide
    simp only [State.begun_partCheck, hok, hmatch, hready, false_and, true_and, if_false, State.begun_flt]
    cases s.flt.parts.contains p <;> rfl
  · split <;> exact s.begun_raised ..

theorem exec_partStop {p : Nat} (h : s.Takes m 0x0203 [.part p]) (hp : p < 64) (hm : mayManage s m p = true) (hfree : partInUse s p = false) :
    exec (.partStop m p) s = .next (((s.begun m [.part p]).modFlt fun f => { f with parts := f.parts.filter (· != p) }).answered m 0x0203 OK) :=
  done_row_unraised h ((if_neg (Nat.not_lt.mpr (Nat.le_of_lt_succ hp))).trans ((if_neg (by simp [hm])).trans (if_neg (by simp [hfree]))))
    (by decide) (s.begun_raised ..) (s.begun_mbx_cur ..)

/-! ## The manifest (R473) -/

theorem manifestLoad_first {n : Nat} {b : Bytes} (howner : s.mgmt.ownerKeys ≠ none) (hn : 1 ≤ n) (hb : b.length ≤ 4032) :
    ¬ (s.mgmt.ownerKeys.isNone = true ∨ n = 0 ∨ n ≤ 0 ∨ 4032 < b.length ∨ ([] : List Bytes).length ≠ 0) := by
  simp [howner]
  omega

theorem exec_manifestLoad_fragment {n : Nat} {b : Bytes} (h : s.Takes m 0x0300 []) (howner : s.mgmt.ownerKeys ≠ none) (hn : 1 < n)
    (hb : b.length ≤ 4032) :
    exec (.manifestLoad m 0 n b) s = .next ((s.modMgmt fun g => { g with manifestFrags := [b] }).answered m 0x0300 OK) := by
  refine done_keyless h ?_ (by decide) rfl rfl
  exact (if_neg (manifestLoad_first howner (Nat.le_of_lt hn) hb)).trans (if_pos hn)

theorem exec_manifestLoad_whole {b : Bytes} (h : s.Takes m 0x0300 []) (howner : s.mgmt.ownerKeys ≠ none) (hb : b.length ≤ 4032) :
    exec (.manifestLoad m 0 1 b) s = .next (settle (if objectOk 2 b (ownerTrust s) then defer (useManifest s b) m 0x0300 OK
      else defer (s.modMgmt fun g => { g with manifestFrags := [] }) m 0x0300 REFUSED)) := by
  have hwhole : ([] ++ [b] : List Bytes).flatMap id = b := by simp
  refine congrArg done ((row_eq s m 0x0300 [] _ h).trans ?_)
  rw [s.begun_nil m]
  refine (if_neg (manifestLoad_first howner (Nat.le_refl 1) hb)).trans ((if_neg (by decide)).trans ?_)
  simp only [if_true, hwhole]

/-! ## Ports (R460) -/

/-- A port that is discovered again is neither in quarantine nor accepted, and no other port is touched. -/
theorem rediscover_spec (s : State) (p : Nat) : ((rediscover s p).prt p).quarantined = false ∧ ((rediscover s p).prt p).accepted = false ∧
    (∀ q, q ≠ p → (rediscover s p).prt q = s.prt q) ∧ (rediscover s p).mem = s.mem ∧ (rediscover s p).mbx = s.mbx ∧
    (rediscover s p).flt.raised = s.flt.raised := by
  unfold rediscover
  extract_lets u v
  have hq : (v.prt p).quarantined = false := by simp [v, State.modPrt, leaveSets]
  have ha : (v.prt p).accepted = false := by simp [v, State.modPrt, leaveSets]
  have hother : ∀ q, q ≠ p → v.prt q = s.prt q := fun q hne => State.prt_setPrt_other _ _ _ hne
  have hmem : v.mem = s.mem := rfl
  have hmbx : v.mbx = s.mbx := rfl
  have hraised : v.flt.raised = s.flt.raised := rfl
  clear_value v
  split
  · refine ⟨(congrArg Port.quarantined (State.prt_setPrt_same ..)).trans hq, congrArg Port.accepted (State.prt_setPrt_same ..),
      fun q hne => ?_, hmem, hmbx, hraised⟩
    exact (State.prt_setPrt_other _ _ _ hne).trans (hother q hne)
  · refine ⟨by simp [State.modPrt, hq], by simp [State.modPrt, ha], fun q hne => ?_, hmem, hmbx, hraised⟩
    exact (State.prt_setPrt_other _ _ _ hne).trans (hother q hne)

theorem latchDisc_keeps (s : State) : (latchDisc s).mem = s.mem ∧ (latchDisc s).mbx = s.mbx := by
  unfold latchDisc
  split <;> exact ⟨rfl, rfl⟩

/-- A port in quarantine is discovered again. -/
theorem exec_quarantineClear {p : Nat} (h : s.Takes m 0x0302 [.port p]) (hp : p < 128) (hpresent : s.present p = true)
    (hquar : (s.prt p).quarantined = true) :
    exec (.quarantineClear m p) s = .next ((latchDisc (rediscover (s.begun m [.port p]) p)).answered m 0x0302 OK) := by
  obtain ⟨-, -, -, -, hmbx, hraised⟩ := rediscover_spec (s.begun m [.port p]) p
  obtain ⟨-, hlatch⟩ := latchDisc_keeps (rediscover (s.begun m [.port p]) p)
  have hthere : (s.begun m [.port p]).present p = true := by simpa [State.present] using hpresent
  have hheld : ((s.begun m [.port p]).prt p).quarantined = true := by simpa [State.prt] using hquar
  refine done_row_unraised h ((if_neg ?_).trans (congrArg (respond · m 0x0302 OK) (if_pos hheld))) (by decide) ?_ ?_
  · simp only [hthere, Bool.not_true, Bool.false_eq_true, or_false]
    omega
  · rw [latchDisc_raised, hraised]
    exact s.begun_raised ..
  · rw [hlatch, hmbx]
    exact s.begun_mbx_cur ..

/-! ## The pair (R469, R470) -/

theorem setPair_mbx (s : State) (n : Nat) : (setPair s n).mbx = s.mbx := by
  by_cases h : s.flt.pair = n
  · rw [setPair, if_pos h]
  · obtain ⟨_, _, hchange⟩ := setPair_eq h
    rw [hchange]

/-- The state in which PAIR_FAILOVER has taken its SOLO. -/
def soloTaken (s : State) (solo : Bool) : State :=
  s.modFlt fun f => { f with solo := f.solo || solo, selfFenced := f.selfFenced && ! solo }

/-- The promotion waits for the hardware. -/
theorem exec_pairFailover {solo : Bool} (h : s.Takes .mgmt 0x0304 []) (hheard : s.flt.heardPartner ≠ none)
    (hserving : s.flt.servingPartner = false) :
    exec (.pairFailover .mgmt solo) s = .next ((setPair (soloTaken s solo) 2).deferred .mgmt 0x0304 OK) := by
  obtain ⟨hflt, -⟩ := setPair_keeps (soloTaken s solo) 2
  have hgo : ¬ (s.flt.heardPartner.isNone = true ∨ s.flt.servingPartner = true) := by simp [hheard, hserving]
  refine done_row_deferred_unraised h ?_ ((congrArg FaultS.raised hflt).trans rfl)
    ((congrArg MbxS.cur (setPair_mbx (soloTaken s solo) 2)).trans rfl)
  rw [s.begun_nil .mgmt]
  exact (if_neg (by decide)).trans (if_neg hgo)

theorem exec_pairRestore {f : Nat} (h : s.Takes m 0x0305 []) (hpair : s.flt.pair = 3) (hf : s.time.lfc + 2 ≤ f) :
    exec (.pairRestore m f) s = .next ((s.modFlt fun x => { x with handbackAt := some f, solo := false }).answered m 0x0305 OK) := by
  refine done_row_unraised h ?_ (by decide) rfl rfl
  rw [s.begun_nil m]
  refine if_neg ?_
  simp only [hpair, ne_eq, not_true_eq_false, false_or]
  omega

end

/-- Settles O21: each command on a state in which it may begin. -/
theorem bringUpCommandsStartDiscoverAndPair : Obligations.BringUpCommandsStartDiscoverAndPair := by
  unfold Obligations.BringUpCommandsStartDiscoverAndPair
  refine ⟨fun s m p h hp hm hok => exec_partStart h hp hm hok, fun s m p h hp hm hfree => exec_partStop h hp hm hfree,
    fun s m n b h howner hn hb => exec_manifestLoad_fragment h howner hn hb, fun s m b h howner hb => exec_manifestLoad_whole h howner hb,
    fun s m p h hp hpresent hquar => ?clear, fun s solo h hheard hserving => ?failover,
    fun s m f h hpair hf => exec_pairRestore h hpair hf⟩
  case clear =>
    obtain ⟨hq, ha, hother, hmem, -, -⟩ := rediscover_spec (s.begun m [.port p]) p
    obtain ⟨hlatchMem, -⟩ := latchDisc_keeps (rediscover (s.begun m [.port p]) p)
    have hprt : ∀ q, (latchDisc (rediscover (s.begun m [.port p]) p)).prt q = (rediscover (s.begun m [.port p]) p).prt q :=
      State.prt_of_ports (latchDisc_ports _)
    refine ⟨_, exec_quarantineClear h hp hpresent hquar, (congrArg Port.quarantined (hprt p)).trans hq,
      (congrArg Port.accepted (hprt p)).trans ha, fun q hne => ?_, hlatchMem.trans (hmem.trans (s.begun_mem ..)), rfl⟩
    exact (hprt q).trans ((hother q hne).trans (by simp [State.prt]))
  case failover =>
    obtain ⟨hflt, hmem, -⟩ := setPair_keeps (soloTaken s solo) 2
    exact ⟨_, exec_pairFailover h hheard hserving, congrArg FaultS.pair hflt, congrArg FaultS.solo hflt, congrArg FaultS.selfFenced hflt, hmem,
      congrArg (fun x : MbxS => x.hwWait ++ _) (setPair_mbx (soloTaken s solo) 2)⟩

end Sys2Proof.Machine
end

section
/-! SUPPORT. Oagal, the serial console (R490, R506–R508). -/
namespace Sys2Proof.Machine

section
variable {s : State}

/-! ## Levels (R506) -/

/-- A command of a level that is in force acts. -/
theorem oagalAt_reached {n : Nat} (f : State → State) (hup : oagalUp s = true) (hphase : s.flt.phase ≠ 8) (hlevel : n ≤ s.mgmt.oagalLevel) :
    oagalAt s n f = f s := by
  refine if_neg ?_
  simp only [hup, hphase, Bool.not_true, Bool.false_eq_true, false_or]
  exact Nat.not_lt.mpr hlevel

/-- Below its level a command changes nothing. -/
theorem oagalAt_below {n : Nat} (f : State → State) (hlevel : s.mgmt.oagalLevel < n) : oagalAt s n f = s := if_pos (.inr (.inr hlevel))

/-- A command of a level that is in force, where it raises no fault. -/
theorem done_oagalAt {n : Nat} {f : State → State} {t : State} (hset : s.Settled) (hup : oagalUp s = true) (hphase : s.flt.phase ≠ 8)
    (hlevel : n ≤ s.mgmt.oagalLevel) (hf : f s = t) (hflt : t.flt = s.flt) : done (oagalAt s n f) = .next t :=
  done_next_of_eq ((oagalAt_reached f hup hphase hlevel).trans hf) (hflt ▸ hset)

theorem done_oagalAt_below {n : Nat} (f : State → State) (hset : s.Settled) (hlevel : s.mgmt.oagalLevel < n) :
    done (oagalAt s n f) = .next s :=
  done_next_of_eq (oagalAt_below f hlevel) hset

/-! ## Nonces and tokens (R508) -/

theorem exec_oagalStatus (hset : s.Settled) (hup : oagalUp s = true) :
    ∃ l, exec .oagalStatus s = .next (oagalPrint s l) ∧ l.head? = some (1, s.flt.phase) :=
  ⟨_, done_next_of_eq (if_neg (by simp [hup])) hset, rfl⟩

theorem exec_oagalChallenge (hset : s.Settled) (hup : oagalUp s = true) :
    exec .oagalChallenge s = .next (oagalPrint (State.modMgmt { s with fresh := s.fresh + 1 } fun m => { m with
      nonce := some (Config.free s.fresh % 2 ^ 128), nonceAt := s.time.lfc }) [(16, Config.free s.fresh % 2 ^ 128)]) :=
  done_next_of_eq (if_neg (by simp [hup])) hset

theorem exec_oagalNonceExpiry (hset : s.Settled) (hnonce : s.mgmt.nonce ≠ none) (hlate : s.mgmt.nonceAt + secFrames 600 ≤ s.time.lfc) :
    exec .oagalNonceExpiry s = .next (s.modMgmt fun m => { m with nonce := none }) := by
  have hlapsed : ¬ (s.mgmt.nonce.isNone = true ∨ s.time.lfc < s.mgmt.nonceAt + secFrames 600) := by
    rw [Option.isNone_iff_eq_none]
    exact fun hbad => hbad.elim hnonce (Nat.not_lt.mpr hlate)
  exact done_next_of_eq (if_neg hlapsed) hset

/-- A token that is not accepted changes nothing; one that is raises the level and uses up the nonce. -/
theorem exec_oagalUnlock (b : Bytes) (hset : s.Settled) (hup : oagalUp s = true) (hphase : s.flt.phase ≠ 8) :
    ∃ t : State, exec (.oagalUnlock b) s = .next t ∧ (tokenOk s b = none → t = s) ∧
      (∀ n d, tokenOk s b = some (n, d) → t.mgmt.oagalLevel = n ∧ t.mgmt.nonce = none ∧ t.mgmt.oagalUntil = s.time.lfc + secFrames d) ∧
      t.mem = s.mem ∧ t.flt = s.flt ∧ t.host = s.host := by
  cases htoken : tokenOk s b with
  | none =>
    have hop : doOagalUnlock s b = s := (oagalAt_reached _ hup hphase (Nat.zero_le _)).trans (by simp only [htoken])
    exact ⟨s, done_next_of_eq hop hset, fun _ => rfl, fun n d hbad => absurd hbad (Option.some_ne_none _).symm, rfl, rfl, rfl⟩
  | some token =>
    obtain ⟨level, dur⟩ := token
    have hop : doOagalUnlock s b = logSession (s.modMgmt fun m => { m with
        nonce := none, oagalLevel := level, oagalUntil := s.time.lfc + secFrames dur }) level :=
      (oagalAt_reached _ hup hphase (Nat.zero_le _)).trans (by simp only [htoken])
    obtain ⟨buf, dropped, hlog⟩ := logAdd_eq (s.modMgmt fun m => { m with
      nonce := none, oagalLevel := level, oagalUntil := s.time.lfc + secFrames dur }) 5 level
    refine ⟨_, done_next_of_eq (hop.trans hlog) hset, fun hbad => absurd hbad (Option.some_ne_none _), fun n d hsame => ?_, rfl, rfl, rfl⟩
    cases hsame
    exact ⟨rfl, rfl, rfl⟩

theorem exec_oagalUnlockExpiry (hset : s.Settled) (hlevel : s.mgmt.oagalLevel ≠ 0) (hlate : s.mgmt.oagalUntil ≤ s.time.lfc) :
    ∃ t : State, exec .oagalUnlockExpiry s = .next t ∧ t.mgmt.oagalLevel = 0 ∧ t.mgmt.jtag = false ∧ t.mem = s.mem ∧ t.flt = s.flt := by
  obtain ⟨hzero, hjtag, hsame⟩ := oagalLock0_spec s
  have hover : ¬ (s.mgmt.oagalLevel = 0 ∨ s.time.lfc < s.mgmt.oagalUntil) := fun hbad => hbad.elim hlevel (Nat.not_lt.mpr hlate)
  have hflt : (oagalLock0 s).flt = s.flt := by rw [hsame]
  have hmem : (oagalLock0 s).mem = s.mem := by rw [hsame]
  exact ⟨_, done_next_of_eq (if_neg hover) ((congrArg FaultS.raised hflt).trans hset), hzero, hjtag (Nat.pos_of_ne_zero hlevel), hmem, hflt⟩

theorem exec_oagalSerialLock (hset : s.Settled) (hup : oagalUp s = true) (hphase : s.flt.phase ≠ 8) :
    ∃ t : State, exec .oagalSerialLock s = .next t ∧ t.mgmt.oagalLevel = 0 ∧ t.mem = s.mem ∧ t.flt = s.flt := by
  obtain ⟨hzero, -, hsame⟩ := oagalLock0_spec s
  have hflt : (oagalLock0 s).flt = s.flt := by rw [hsame]
  have hmem : (oagalLock0 s).mem = s.mem := by rw [hsame]
  exact ⟨_, done_oagalAt hset hup hphase (Nat.zero_le _) rfl hflt, hzero, hmem, hflt⟩

/-! ## Printing (R507) -/

theorem readSensors_flt (i n : Nat) (s : State) : (readSensors s i n).1.flt = s.flt := by
  induction n generalizing i s with
  | zero => rfl
  | succ n ih =>
    cases hv : AMap.find s.mgmt.sensors i with
    | some v => simp only [readSensors, hv, ih]
    | none => simp only [readSensors, hv, ih, State.draw]

theorem exec_oagalRd {a : Nat} (hset : s.Settled) (hup : oagalUp s = true) (hphase : s.flt.phase ≠ 8) (hlevel : 1 ≤ s.mgmt.oagalLevel)
    (ha : a % 8 = 0) (hbar : a < 0x200000) : exec (.oagalRd a) s = .next (oagalPrint s [(8, bar0Word s a)]) :=
  done_oagalAt hset hup hphase hlevel ((if_neg (not_not_intro ha)).trans (if_pos hbar)) rfl

theorem exec_oagalSensors (hset : s.Settled) (hup : oagalUp s = true) (hphase : s.flt.phase ≠ 8) (hlevel : 1 ≤ s.mgmt.oagalLevel) :
    exec .oagalSensors s = .next (oagalPrint (readSensors s 0 176).1 ((readSensors s 0 176).2.map fun v => (2, v))) := by
  have hflt := readSensors_flt 0 176 s
  have hop : doOagalSensors s = oagalPrint (readSensors s 0 176).1 ((readSensors s 0 176).2.map fun v => (2, v)) := by
    rw [doOagalSensors, oagalAt_reached _ hup hphase hlevel]
  generalize readSensors s 0 176 = x at hflt hop ⊢
  exact done_next_of_eq hop ((congrArg FaultS.raised hflt).trans hset)

/-! ## Requests over the console (R507) -/

/-- A request of the console's frame, where the level lets it be served. -/
theorem oagalMbx_serves {f : Bytes} (hlen : f.length = 4096) (hcur : s.mbx.cur = none) (hrun : s.mgmt.halted = false) :
    ¬ (f.length ≠ 4096 ∨ s.mbx.cur.isSome = true ∨ s.mgmt.halted = true) := by
  simp [hlen, hcur, hrun]

/-- The state in which a request has been answered from its frame, or has run. -/
def mbxAnswered (s : State) (r : Request) : State :=
  match r.answer with
  | .inl st => respond s .mgmt r.code st
  | .inr (c, v) => c.run s .mgmt v

/-- What the console prints of an answer. -/
def answerPrinted (x : Response) : List (Nat × Nat) := if x.code = 0 then [] else [(2, x.code), (1, x.status)] ++ x.data

/-- A request without a conflict key outranks none that wait, and is answered. -/
theorem doOagalMbx_keyless {f : Bytes} {r : Request} (hup : oagalUp s = true) (hphase : s.flt.phase ≠ 8) (hlevel : 1 ≤ s.mgmt.oagalLevel)
    (hlen : f.length = 4096) (hcur : s.mbx.cur = none) (hrun : s.mgmt.halted = false) (hr : requestOf s .mgmt 0 f = r) (hkeys : r.keys = []) :
    doOagalMbx s f = oagalPrint (mbxAnswered (s.modMbx fun m => { m with resp := {} }) r)
      (answerPrinted (mbxAnswered (s.modMbx fun m => { m with resp := {} }) r).mbx.resp) := by
  refine (oagalAt_reached _ hup hphase hlevel).trans ((if_neg (oagalMbx_serves hlen hcur hrun)).trans ?_)
  rw [hr]
  refine (if_neg (by simp [hkeys])).trans ?_
  have hnone : outrankWaiting (s.modMbx fun m => { m with resp := {} }) r.keys = s.modMbx fun m => { m with resp := {} } := by
    rw [hkeys]
    rfl
  rw [hnone]
  rfl

/-- A request that names no command, or holds no body of its command, is REFUSED. -/
theorem exec_oagalMbx_refused {f : Bytes} {r : Request} (hset : s.Settled) (hup : oagalUp s = true) (hphase : s.flt.phase ≠ 8)
    (hlevel : 1 ≤ s.mgmt.oagalLevel) (hlen : f.length = 4096) (hcur : s.mbx.cur = none) (hrun : s.mgmt.halted = false)
    (hr : requestOf s .mgmt 0 f = r) (hanswer : r.answer = .inl REFUSED) (hcode : r.code ≠ 0) :
    ∃ t : State, exec (.oagalMbx f) s = .next t ∧ t.mgmt.oagalOut = [(2, r.code), (1, REFUSED)] ∧ t.mem = s.mem ∧ t.flt = s.flt := by
  have hkeys : r.keys = [] := by simp only [Request.keys, hanswer]
  have hanswered : mbxAnswered (s.modMbx fun m => { m with resp := {} }) r =
      (s.modMbx fun m => { m with resp := {} }).answered .mgmt r.code REFUSED := by
    simp only [mbxAnswered, hanswer]
    exact respond_answered _ _ _ _ _ hcur (by decide)
  have hop := doOagalMbx_keyless hup hphase hlevel hlen hcur hrun hr hkeys
  rw [hanswered] at hop
  exact ⟨_, done_next_of_eq hop hset, if_neg hcode, rfl, rfl⟩

/-- A request without a conflict key runs as its command. -/
theorem exec_oagalMbx_runs {f : Bytes} {r : Request} {c : Cmd} {v : List Val} (hup : oagalUp s = true)
    (hphase : s.flt.phase ≠ 8) (hlevel : 2 ≤ s.mgmt.oagalLevel) (hlen : f.length = 4096) (hcur : s.mbx.cur = none)
    (hrun : s.mgmt.halted = false) (hr : requestOf s .mgmt 0 f = r) (hanswer : r.answer = .inr (c, v)) (hkeys : r.keys = []) :
    ∃ l, exec (.oagalMbx f) s = .next (settle (oagalPrint (c.run (s.modMbx fun m => { m with resp := {} }) .mgmt v) l)) := by
  have hran : mbxAnswered (s.modMbx fun m => { m with resp := {} }) r = c.run (s.modMbx fun m => { m with resp := {} }) .mgmt v := by
    simp only [mbxAnswered, hanswer]
  have hop := doOagalMbx_keyless hup hphase (Nat.le_of_succ_le hlevel) hlen hcur hrun hr hkeys
  rw [hran] at hop
  exact ⟨_, congrArg done hop⟩

/-! ## Writes and hardware (R507) -/

theorem exec_oagalWr_register {a : Nat} {v : BitVec 64} (hup : oagalUp s = true) (hphase : s.flt.phase ≠ 8) (hlevel : 2 ≤ s.mgmt.oagalLevel)
    (ha : a % 8 = 0) (hbar : a < 0x200000) (hreg : (readBar0 s a 8).isSome = true) :
    exec (.oagalWr a v) s = .next (settle (bar0Store s a 8 v.toNat)) :=
  congrArg done ((oagalAt_reached _ hup hphase hlevel).trans ((if_neg (not_not_intro ha)).trans ((if_pos hbar).trans (if_pos (.inl hreg)))))

theorem exec_oagalWr_window {a : Nat} {v : BitVec 64} (hup : oagalUp s = true) (hphase : s.flt.phase ≠ 8) (hlevel : 2 ≤ s.mgmt.oagalLevel)
    (ha : a % 8 = 0) (hbar : 0x200000 ≤ a) (hbase : s.base ≤ a) (hctl : isCtlOff (a - s.base) = true) :
    exec (.oagalWr a v) s =
      .next (settle (writeCtl s (a - s.base) (ctlPart s (a - s.base)) opWR (leBytes 8 v.toNat) none).1) :=
  congrArg done ((oagalAt_reached _ hup hphase hlevel).trans
    ((if_neg (not_not_intro ha)).trans ((if_neg (Nat.not_lt.mpr hbar)).trans (if_pos ⟨hbase, hctl⟩))))

theorem exec_oagalInject {cls inst cause n : Nat} (hup : oagalUp s = true) (hphase : s.flt.phase ≠ 8) (hlevel : 2 ≤ s.mgmt.oagalLevel)
    (hsource : sourceOk' cls inst = true) (h1 : 1 ≤ cause) (hcause : cause ≤ causeCount cls) (hn : 1 ≤ n) (h255 : n ≤ 255) :
    exec (.oagalInject cls inst cause n) s =
      .next (settle (injectN s { die := raiseDie cls inst, cls := cls, inst := inst, cause := cause } n)) :=
  congrArg done ((oagalAt_reached _ hup hphase hlevel).trans (if_neg (injectable hsource h1 hcause hn h255)))

/-! ## Recovery (R490, R497) -/

theorem pushEvent_update (s : State) (code body : Nat) : (pushEvent s code body).mgmt.update = s.mgmt.update := by
  have hnet : ∀ (u : State) (ev : Nat), (eventToMgmt u ev).mgmt.update = u.mgmt.update := fun u ev => by
    unfold eventToMgmt State.modMgmt
    dsimp only
    split <;> rfl
  unfold pushEvent State.drawTick
  dsimp only
  rw [logAdd_update, hnet]
  obtain ⟨h, hq⟩ := pushQueue_eq { s with fresh := s.fresh + 1 } s.host.evq 1
    (pack [(16, code), (48, s.time.lfc), (14, Config.free s.fresh % 10240), (2, 0), (432, body)])
  rw [hq]

theorem setPhase_update (s : State) (p : Nat) : (setPhase s p).mgmt.update = s.mgmt.update := pushEvent_update ..

/-- The staging area as recovery fills it. -/
def recoveryStaged (s : State) (b : Bytes) : State :=
  s.modUpd fun u => { u with opened := true, size := b.length, data := Mem.writeBytes [] 0 b, verified := none, committed := false }

/-- An image written in recovery is committed, and Headwater starts again. -/
theorem commitDone_recovery {i : Image} (hwriting : s.mgmt.update.writing = some true) (hi : s.mgmt.update.verified = some i)
    (hphase : s.flt.phase = 8) : (commitDone s).1.flt.phase = 1 ∧ (commitDone s).1.mgmt.update.flash = some i ∧
      (commitDone s).1.mgmt.update.committed = true ∧ (commitDone s).1.mgmt.update.flashInvalid = false ∧ (commitDone s).1.mem = s.mem ∧
      (commitDone s).1.flt.raised = s.flt.raised := by
  have himage : writtenImage s = some i := by simp only [writtenImage, hi]
  have hdone : (commitDone s).1 = setPhase (logAdd (s.modUpd fun u => { u with
      writing := none, flash := some i, flashInvalid := false, opened := false, committed := true, data := [] }) 3 2) 1 := by
    unfold commitDone
    rw [hwriting, ← himage]
    exact if_pos hphase
  have hupdate := setPhase_update (logAdd (s.modUpd fun u => { u with
      writing := none, flash := some i, flashInvalid := false, opened := false, committed := true, data := [] }) 3 2) 1
  rw [logAdd_update] at hupdate
  have hflt := setPhase_flt (logAdd (s.modUpd fun u => { u with
      writing := none, flash := some i, flashInvalid := false, opened := false, committed := true, data := [] }) 3 2) 1
  obtain ⟨-, hmem, -⟩ := setPhase_keeps (logAdd (s.modUpd fun u => { u with
      writing := none, flash := some i, flashInvalid := false, opened := false, committed := true, data := [] }) 3 2) 1
  rw [hdone, hupdate, hflt, hmem]
  exact ⟨rfl, rfl, rfl, rfl, rfl, rfl⟩

theorem doOagalRecover_eq {b : Bytes} (hphase : s.flt.phase = 8) (hlen : b.length ≤ 48 * 2 ^ 20) (hfree : s.mgmt.update.writing = none) :
    doOagalRecover s b true = match parseImage s b with
      | none => recoveryStaged s b
      | some i => (commitDone (logAdd ((recoveryStaged s b).modUpd fun u => { u with
          verified := some i, writing := some true, flash := none }) 3 1)).1 := by
  have hgo : ¬ (s.flt.phase ≠ 8 ∨ 48 * 2 ^ 20 < b.length ∨ s.mgmt.update.writing.isSome = true) := by
    simp only [hphase, hfree, ne_eq, not_true_eq_false, Option.isSome_none, Bool.false_eq_true, false_or, or_false]
    exact Nat.not_lt.mpr hlen
  unfold doOagalRecover
  rw [if_neg hgo]
  rfl

/-- In recovery an image that passes is committed and Headwater starts again; another leaves the package in recovery. -/
theorem exec_oagalRecover {b : Bytes} (hset : s.Settled) (hphase : s.flt.phase = 8) (hlen : b.length ≤ 48 * 2 ^ 20)
    (hfree : s.mgmt.update.writing = none) :
    ∃ t : State, exec (.oagalRecover b true) s = .next t ∧ t.mem = s.mem ∧ (parseImage s b = none → t.flt.phase = 8) ∧
      ∀ i, parseImage s b = some i → t.flt.phase = 1 ∧ t.mgmt.update.flash = some i ∧ t.mgmt.update.committed = true ∧
        t.mgmt.update.flashInvalid = false := by
  have hop := doOagalRecover_eq hphase hlen hfree
  cases hparse : parseImage s b with
  | none =>
    rw [hparse] at hop
    exact ⟨_, done_next_of_eq hop hset, rfl, fun _ => hphase, fun i hbad => absurd hbad (Option.some_ne_none i).symm⟩
  | some i =>
    rw [hparse] at hop
    obtain ⟨hone, hflash, hcommitted, hvalid, hmem, hraised⟩ := commitDone_recovery (i := i) (s := logAdd ((recoveryStaged s b).modUpd fun u => { u with
      verified := some i, writing := some true, flash := none }) 3 1) (by rw [logAdd_update]; rfl) (by rw [logAdd_update]; rfl) hphase
    refine ⟨_, done_next_of_eq hop (hraised.trans hset), hmem, fun hbad => absurd hbad (Option.some_ne_none i), fun j hsame => ?_⟩
    cases hsame
    exact ⟨hone, hflash, hcommitted, hvalid⟩

end

/-- Settles O35: each command at its level and below it. -/
theorem theConsoleActsAtItsLevel : Obligations.TheConsoleActsAtItsLevel := by
  unfold Obligations.TheConsoleActsAtItsLevel
  refine ⟨fun s hset hup => ⟨exec_oagalStatus hset hup, exec_oagalChallenge hset hup⟩,
    fun s hset hnonce hlate => exec_oagalNonceExpiry hset hnonce hlate, fun s b hset hup hphase => exec_oagalUnlock b hset hup hphase,
    fun s hset hlevel hlate => exec_oagalUnlockExpiry hset hlevel hlate, fun s hset hup hphase => exec_oagalSerialLock hset hup hphase,
    fun s hset hup hphase hlevel => ?print,
    fun s f r hset hup hphase hlevel hlen hcur hrun hr hanswer hcode =>
      exec_oagalMbx_refused hset hup hphase hlevel hlen hcur hrun hr hanswer hcode,
    fun s f r c v hset hup hphase hlevel hlen hcur hrun hr hanswer hkeys => exec_oagalMbx_runs hup hphase hlevel hlen hcur hrun hr hanswer hkeys,
    fun s hset hup hphase hlevel => ?write, fun s hset hup hphase hlevel => ?hardware,
    fun s b hset hphase hlen hfree => exec_oagalRecover hset hphase hlen hfree, fun s hset hlevel => ?below⟩
  case print =>
    exact ⟨fun a ha hbar => exec_oagalRd hset hup hphase hlevel ha hbar, exec_oagalSensors hset hup hphase hlevel,
      done_oagalAt hset hup hphase hlevel rfl rfl, done_oagalAt hset hup hphase hlevel rfl rfl⟩
  case write =>
    exact ⟨fun a v ha hbar hreg => exec_oagalWr_register hup hphase hlevel ha hbar hreg,
      fun a v ha hbar hbase hctl => exec_oagalWr_window hup hphase hlevel ha hbar hbase hctl,
      fun sg b => done_oagalAt hset hup hphase hlevel rfl rfl,
      fun cls inst cause n hsource h1 hcause hn h255 => exec_oagalInject hup hphase hlevel hsource h1 hcause hn h255⟩
  case hardware =>
    exact ⟨done_oagalAt hset hup hphase hlevel rfl rfl, done_oagalAt hset hup hphase hlevel rfl rfl,
      fun hhalted => done_oagalAt hset hup hphase hlevel (if_pos hhalted) rfl⟩
  case below =>
    have h1 : s.mgmt.oagalLevel < 1 := by omega
    have h2 : s.mgmt.oagalLevel < 2 := by omega
    have h3 : s.mgmt.oagalLevel < 3 := by omega
    exact ⟨fun a => done_oagalAt_below _ hset h1, fun a v => done_oagalAt_below _ hset h2, fun f => done_oagalAt_below _ hset h1,
      fun g b => done_oagalAt_below _ hset h2, fun a b c d => done_oagalAt_below _ hset h2, done_oagalAt_below _ hset h1,
      done_oagalAt_below _ hset h1, done_oagalAt_below _ hset h1, done_oagalAt_below _ hset h3, done_oagalAt_below _ hset h3,
      done_oagalAt_below _ hset h3⟩

end Sys2Proof.Machine
end
